-- ==== Sys2Proof/Word.lean ====
section
/-! DEFINITION. The word of the device: registers and Wheel data are 32 bits wide (R9, R63). -/

namespace Sys2Proof

/-- A 32-bit word. -/
abbrev Word := BitVec 32

end Sys2Proof
end

