-- ==== Sys2Proof/Syntax.lean ====
section
/-! DEFINITION. The commands the device takes: one constructor for each row of the opcode table. -/

namespace Sys2Proof

/-- The guard of a Wheel operation: predicate and inversion (R48, R50). -/
structure Guard where
  psel : Fin 8
  pinv : Bool
  deriving DecidableEq, Repr

/-- Who makes a register access (R399, R503): the host port, the Cone, the debug port. -/
inductive Requester where
  | hspi | cone | debug
  deriving DecidableEq, Repr

/-- A position sensor with write-1-to-clear flags (R158). -/
inductive PosUnit where
  | res (x : Fin 2) | enc (e : Fin 2) | hall (h : Fin 2) | sent (j : Fin 4)
  deriving DecidableEq, Repr

/-- The instants of a monitoring cycle of the Cone (R269): the even inputs CAIN0, 2, 4, 6 at t0, the odd inputs 0.5 µs later, the paired Wheel results at t0 + 2 µs (R274), and the evaluation by t0 + 50 µs. -/
inductive ConePhase where
  | start (c0 c2 c4 c6 : Fin 4096) | odd (c1 c3 c5 c7 : Fin 4096) | cross | evaluate
  deriving DecidableEq, Repr

/-- An error of a CAN frame (R389 LEC): bit 1 is recessive sent and dominant seen, bit 0 the reverse. -/
inductive CanErr where
  | stuff | form | ack | bit1 | bit0 | crc
  deriving DecidableEq, Repr

/-- The LEC code of an error (R389). -/
def CanErr.code : CanErr → Nat
  | .stuff => 1
  | .form => 2
  | .ack => 3
  | .bit1 => 4
  | .bit0 => 5
  | .crc => 6

/-- The instants of an attempt (R379): its SOF; that SOF seen back on CANx_RX (R376); the transmitter delay measured at its data phase in CANCLK cycles (R369); and its end: arbitration lost, sent, or an error, detected in arbitration or after it. -/
inductive CanPhase where
  | sof | seen | delay (cycles : Nat) | lost | sent | error (e : CanErr) (arb : Bool)
  deriving DecidableEq, Repr

/-- A manual MDIO access (R402): its start, read or write, PHY address, register and write data; its end with the data read. -/
inductive MdioPhase where
  | start (rd : Bool) (phyad reg : Fin 32) (data : BitVec 16) | done (data : BitVec 16)
  deriving DecidableEq, Repr

/-- A page of the NAND that is read (R409, R422, R424): LUN, block, page, and the bit errors by codeword that a first read of it shows, a second one, and so on. -/
structure PageRead where
  lun : Fin 4
  block : Nat
  page : Nat
  tries : List (List Nat)
  deriving DecidableEq, Repr

/-- A format of the NAND (R420, R421): its start, and its end with the LUNs whose block 0 failed. -/
inductive FormatPhase where
  | start | done (bad : BitVec 4)
  deriving DecidableEq, Repr

/-- One command of the device: a Wheel slot operation, a register access with a row of its own, or an event of a pin, a bus, a converter or a timer. -/
inductive Instr where
  /-- NOP (R508). A slot issues a no-operation syllable and nothing changes. -/
  | nop
  /-- FADD (R508). F slot adds two FP32 registers into D. -/
  | fadd (gd : Guard) (d a b : Fin 128)
  /-- FSUB (R508). F slot subtracts two FP32 registers into D. -/
  | fsub (gd : Guard) (d a b : Fin 128)
  /-- FMUL (R508). F slot multiplies two FP32 registers into D. -/
  | fmul (gd : Guard) (d a b : Fin 128)
  /-- FMA (R508). F slot computes D + A x B with one rounding into D. -/
  | fma (gd : Guard) (d a b : Fin 128)
  /-- FMS (R508). F slot computes D - A x B with one rounding into D. -/
  | fms (gd : Guard) (d a b : Fin 128)
  /-- FNMS (R508). F slot computes A x B - D with one rounding into D. -/
  | fnms (gd : Guard) (d a b : Fin 128)
  /-- FMIN (R508). F slot writes the smaller FP32 operand to D under the NaN rules of R56. -/
  | fmin (gd : Guard) (d a b : Fin 128)
  /-- FMAX (R508). F slot writes the larger FP32 operand to D under the NaN rules of R56. -/
  | fmax (gd : Guard) (d a b : Fin 128)
  /-- FABS (R508). F slot writes A with its sign cleared to D. -/
  | fabs (gd : Guard) (d a : Fin 128)
  /-- FNEG (R508). F slot writes A with its sign inverted to D. -/
  | fneg (gd : Guard) (d a : Fin 128)
  /-- ADD (R508). F slot adds two integers modulo 2^32. -/
  | add (gd : Guard) (d a b : Fin 128)
  /-- SUB (R508). F slot subtracts two integers modulo 2^32. -/
  | sub (gd : Guard) (d a b : Fin 128)
  /-- MUL (R508). F slot writes the low 32 bits of an integer product. -/
  | mul (gd : Guard) (d a b : Fin 128)
  /-- AND (R508). F slot writes the bitwise AND of A and B. -/
  | and (gd : Guard) (d a b : Fin 128)
  /-- OR (R508). F slot writes the bitwise OR of A and B. -/
  | or (gd : Guard) (d a b : Fin 128)
  /-- XOR (R508). F slot writes the bitwise XOR of A and B. -/
  | xor (gd : Guard) (d a b : Fin 128)
  /-- SHL (R508). F slot shifts A left by a register amount. -/
  | shl (gd : Guard) (d a b : Fin 128)
  /-- SHR (R508). F slot shifts A right logically by a register amount. -/
  | shr (gd : Guard) (d a b : Fin 128)
  /-- SRA (R508). F slot shifts A right arithmetically by a register amount. -/
  | sra (gd : Guard) (d a b : Fin 128)
  /-- SHLI (R508). F slot shifts A left by an immediate amount. -/
  | shli (gd : Guard) (d a : Fin 128) (amt : Fin 32)
  /-- SHRI (R508). F slot shifts A right logically by an immediate amount. -/
  | shri (gd : Guard) (d a : Fin 128) (amt : Fin 32)
  /-- SRAI (R508). F slot shifts A right arithmetically by an immediate amount. -/
  | srai (gd : Guard) (d a : Fin 128) (amt : Fin 32)
  /-- MIN (R508). F slot writes the signed minimum of A and B. -/
  | min (gd : Guard) (d a b : Fin 128)
  /-- MAX (R508). F slot writes the signed maximum of A and B. -/
  | max (gd : Guard) (d a b : Fin 128)
  /-- QADD (R508). F slot adds with signed saturation, setting SAT on saturation. -/
  | qadd (gd : Guard) (d a b : Fin 128)
  /-- QSUB (R508). F slot subtracts with signed saturation. -/
  | qsub (gd : Guard) (d a b : Fin 128)
  /-- QMUL (R508). F slot multiplies Q1.31 values with rounding and saturation. -/
  | qmul (gd : Guard) (d a b : Fin 128)
  /-- QSHL (R508). F slot scales A by 2^n with saturation. -/
  | qshl (gd : Guard) (d a b : Fin 128)
  /-- FCVT_S32 (R508). F slot converts FP32 to a signed integer, saturating and flagging CVT. -/
  | fcvtS32 (gd : Guard) (d a : Fin 128)
  /-- FCVT_U32 (R508). F slot converts FP32 to an unsigned integer, saturating and flagging CVT. -/
  | fcvtU32 (gd : Guard) (d a : Fin 128)
  /-- ICVT_S32 (R508). F slot converts a signed integer to FP32. -/
  | icvtS32 (gd : Guard) (d a : Fin 128)
  /-- ICVT_U32 (R508). F slot converts an unsigned integer to FP32. -/
  | icvtU32 (gd : Guard) (d a : Fin 128)
  /-- FCMP_EQ (R508). F slot writes FP32 equality to a predicate. -/
  | fcmpEq (gd : Guard) (pd : Fin 8) (a b : Fin 128)
  /-- FCMP_NE (R508). F slot writes FP32 inequality to a predicate. -/
  | fcmpNe (gd : Guard) (pd : Fin 8) (a b : Fin 128)
  /-- FCMP_LT (R508). F slot writes FP32 less-than to a predicate. -/
  | fcmpLt (gd : Guard) (pd : Fin 8) (a b : Fin 128)
  /-- FCMP_LE (R508). F slot writes FP32 less-or-equal to a predicate. -/
  | fcmpLe (gd : Guard) (pd : Fin 8) (a b : Fin 128)
  /-- FCMP_GT (R508). F slot writes FP32 greater-than to a predicate. -/
  | fcmpGt (gd : Guard) (pd : Fin 8) (a b : Fin 128)
  /-- FCMP_GE (R508). F slot writes FP32 greater-or-equal to a predicate. -/
  | fcmpGe (gd : Guard) (pd : Fin 8) (a b : Fin 128)
  /-- ICMP_EQ (R508). F slot writes integer equality to a predicate. -/
  | icmpEq (gd : Guard) (pd : Fin 8) (a b : Fin 128)
  /-- ICMP_NE (R508). F slot writes integer inequality to a predicate. -/
  | icmpNe (gd : Guard) (pd : Fin 8) (a b : Fin 128)
  /-- ICMP_LT (R508). F slot writes signed less-than to a predicate. -/
  | icmpLt (gd : Guard) (pd : Fin 8) (a b : Fin 128)
  /-- ICMP_LE (R508). F slot writes signed less-or-equal to a predicate. -/
  | icmpLe (gd : Guard) (pd : Fin 8) (a b : Fin 128)
  /-- ICMP_GT (R508). F slot writes signed greater-than to a predicate. -/
  | icmpGt (gd : Guard) (pd : Fin 8) (a b : Fin 128)
  /-- ICMP_GE (R508). F slot writes signed greater-or-equal to a predicate. -/
  | icmpGe (gd : Guard) (pd : Fin 8) (a b : Fin 128)
  /-- ICMP_LTU (R508). F slot writes unsigned less-than to a predicate. -/
  | icmpLtu (gd : Guard) (pd : Fin 8) (a b : Fin 128)
  /-- ICMP_LEU (R508). F slot writes unsigned less-or-equal to a predicate. -/
  | icmpLeu (gd : Guard) (pd : Fin 8) (a b : Fin 128)
  /-- ICMP_GTU (R508). F slot writes unsigned greater-than to a predicate. -/
  | icmpGtu (gd : Guard) (pd : Fin 8) (a b : Fin 128)
  /-- ICMP_GEU (R508). F slot writes unsigned greater-or-equal to a predicate. -/
  | icmpGeu (gd : Guard) (pd : Fin 8) (a b : Fin 128)
  /-- PAND (R508). F slot writes the AND of two predicates. -/
  | pand (gd : Guard) (pd pa pb : Fin 8)
  /-- POR (R508). F slot writes the OR of two predicates. -/
  | por (gd : Guard) (pd pa pb : Fin 8)
  /-- PXOR (R508). F slot writes the XOR of two predicates. -/
  | pxor (gd : Guard) (pd pa pb : Fin 8)
  /-- PNOT (R508). F slot writes the inverse of a predicate. -/
  | pnot (gd : Guard) (pd pa : Fin 8)
  /-- MOV (R508). F slot copies register A to D. -/
  | mov (gd : Guard) (d a : Fin 128)
  /-- MOVI (R508). F slot writes sign-extended IMM15 to D. -/
  | movi (gd : Guard) (d : Fin 128) (imm : BitVec 15)
  /-- SIN (R509). T slot writes the sine of an angle in revolutions. -/
  | sin (gd : Guard) (d a : Fin 128)
  /-- COS (R509). T slot writes the cosine of an angle in revolutions. -/
  | cos (gd : Guard) (d a : Fin 128)
  /-- SINCOS (R509). T slot writes sine to D and cosine to D+1. -/
  | sincos (gd : Guard) (d a : Fin 128)
  /-- ATAN2 (R509). T slot writes the angle of point (B, A) in revolutions. -/
  | atan2 (gd : Guard) (d a b : Fin 128)
  /-- SQRT (R509). T slot writes the square root of A. -/
  | sqrt (gd : Guard) (d a : Fin 128)
  /-- RCP (R509). T slot writes the reciprocal of A. -/
  | rcp (gd : Guard) (d a : Fin 128)
  /-- RSQRT (R509). T slot writes the reciprocal square root of A. -/
  | rsqrt (gd : Guard) (d a : Fin 128)
  /-- LD (R510). M slot loads a data-memory word through ARk with post-increment. -/
  | ld (gd : Guard) (g : Fin 128) (k : Fin 16) (inc : Fin 4)
  /-- ST (R510). M slot stores a register to data memory through ARk. -/
  | st (gd : Guard) (g : Fin 128) (k : Fin 16) (inc : Fin 4)
  /-- LDC (R510). M slot loads a coefficient word through CPj. -/
  | ldc (gd : Guard) (g : Fin 128) (j : Fin 4) (inc : Fin 4)
  /-- SETAR (R510). M slot sets address register ARk from a register. -/
  | setar (gd : Guard) (k : Fin 16) (g : Fin 128)
  /-- SETCP (R510). M slot sets coefficient pointer CPj from a register. -/
  | setcp (gd : Guard) (j : Fin 4) (g : Fin 128)
  /-- LDC_LD (R510). M slot loads a coefficient and a data word in one cycle. -/
  | ldcLd (gd : Guard) (g g2 : Fin 128) (j : Fin 4) (incC : Fin 4) (k : Fin 16) (incA : Fin 4)
  /-- LDC_ST (R510). M slot loads a coefficient and stores a data word in one cycle. -/
  | ldcSt (gd : Guard) (g g2 : Fin 128) (j : Fin 4) (incC : Fin 4) (k : Fin 16) (incA : Fin 4)
  /-- LD2 (R510). M slot loads two data words from two banks. -/
  | ld2 (gd : Guard) (g g2 : Fin 128) (j k : Fin 16) (inc1 inc2 : Fin 4)
  /-- ST2 (R510). M slot stores two data words to two banks. -/
  | st2 (gd : Guard) (g g2 : Fin 128) (j k : Fin 16) (inc1 inc2 : Fin 4)
  /-- LDST (R510). M slot loads one data word and stores another in two banks. -/
  | ldst (gd : Guard) (g g2 : Fin 128) (j k : Fin 16) (inc1 inc2 : Fin 4)
  /-- ADC_TRIG (R68). X slot triggers a Wheel sample group whose acquisition starts 1-3 cycles later. -/
  | adcTrig (gd : Guard) (grp : Fin 8)
  /-- ADC_RD (R68). X slot reads a converter's corrected FP32 result and validity. -/
  | adcRd (gd : Guard) (g : Fin 128) (conv : Fin 16) (pv : Fin 8)
  /-- SD_RD (R68). X slot reads the latest decimated sigma-delta output and validity. -/
  | sdRd (gd : Guard) (g : Fin 128) (ch : Fin 6) (pv : Fin 8)
  /-- POS_RD (R138). X slot reads a position source value and validity. -/
  | posRd (gd : Guard) (g : Fin 128) (src : Fin 20) (pv : Fin 8)
  /-- PWM_WR (R71). X slot writes a CMPA or CMPB shadow of a generator. -/
  | pwmWr (gd : Guard) (gen : Fin 8) (isB : Bool) (g : Fin 128)
  /-- PWM_WR_FORCE (R211). X slot writes the force stage of an inverter whose FSRC is the Wheel. -/
  | pwmWrForce (gd : Guard) (gen : Fin 8) (g : Fin 128)
  /-- PWM_GRPA (R71). X slot writes the CMPA shadows of legs A1-A3 atomically. -/
  | pwmGrpa (gd : Guard) (g1 g2 g3 : Fin 128)
  /-- PWM_GRPB (R71). X slot writes the CMPA shadows of legs B1-B3 atomically. -/
  | pwmGrpb (gd : Guard) (g1 g2 g3 : Fin 128)
  /-- COMM (R212). X slot raises a commutation event applying staged force codes. -/
  | comm (gd : Guard) (mask : Fin 4)
  /-- RAMP_TGT (R176). X slot stores a clamped ramp target. -/
  | rampTgt (gd : Guard) (u : Fin 8) (g : Fin 128)
  /-- RAMP_RD (R179). X slot reads the present ramp output. -/
  | rampRd (gd : Guard) (g : Fin 128) (u : Fin 8)
  /-- LOOP_CMD_CLOSE (R163). LOOP.CMD CLOSE moves an OPEN loop to CLOSING or is refused with a code. -/
  | loopCmdClose (gd : Guard) (l : Fin 8)
  /-- LOOP_CMD_OPEN (R164). LOOP.CMD OPEN moves a CLOSING or CLOSED loop to commanded OPENING. -/
  | loopCmdOpen (gd : Guard) (l : Fin 8)
  /-- LOOP_CMD_FBLOSS (R164). LOOP.CMD FBLOSS declares feedback loss of a closing or closed loop. -/
  | loopCmdFbloss (gd : Guard) (l : Fin 8)
  /-- LOOP_MEAS (R165). X slot stores a measured value in LOOP.MEASV. -/
  | loopMeas (gd : Guard) (l : Fin 8) (g : Fin 128)
  /-- LOOP_RD (R166). X slot reads the loop state word. -/
  | loopRd (gd : Guard) (g : Fin 128) (l : Fin 8)
  /-- RCU_RD (R181). X slot reads interpolated compensation and records the learning angle. -/
  | rcuRd (gd : Guard) (g : Fin 128) (ch : Fin 8) (ga : Fin 128)
  /-- RCU_LRN (R182). X slot updates the RCU bin at the learning angle or is discarded as frozen. -/
  | rcuLrn (gd : Guard) (ch : Fin 8) (g : Fin 128)
  /-- Q_PUSH (R73). X slot stages a 64-bit word into a Wheel-fed queue. -/
  | qPush (gd : Guard) (q : Fin 32) (gl gh : Fin 128)
  /-- Q_PUSHE (R73). X slot stages a 64-bit word and ends the packet. -/
  | qPushe (gd : Guard) (q : Fin 32) (gl gh : Fin 128)
  /-- XW_RD (R74). X slot reads a word of an exchange window at an immediate offset. -/
  | xwRd (gd : Guard) (g : Fin 128) (w : Fin 8) (off : Fin 1024)
  /-- XW_RDX (R74). X slot reads a word of an exchange window at a register offset. -/
  | xwRdx (gd : Guard) (g : Fin 128) (w : Fin 8) (go : Fin 128)
  /-- XW_WR (R75). X slot writes an OUT window word at an immediate offset. -/
  | xwWr (gd : Guard) (g : Fin 128) (w : Fin 8) (off : Fin 1024)
  /-- XW_WRX (R75). X slot writes an OUT window word at a register offset. -/
  | xwWrx (gd : Guard) (g : Fin 128) (w : Fin 8) (go : Fin 128)
  /-- TS_RD (R68). X slot reads a half of the turn stamp. -/
  | tsRd (gd : Guard) (g : Fin 128) (half : Bool)
  /-- TC_RD (R68). X slot reads the turn counter. -/
  | tcRd (gd : Guard) (g : Fin 128)
  /-- HB (R76). X slot delivers the turn heartbeat with checksum to the Saggar. -/
  | hb (g : Fin 128)
  /-- HLOOP (R59). X slot starts a hardware loop over the following bundles. -/
  | hloop (inner : Bool) (count : Fin 4096) (len : Fin 512)
  /-- TEND (R76). X slot ends the turn and advances the turn counter. -/
  | tend
  /-- TURN_MATCH (R81). The turn-source counter equals TSCMP in the selected direction and the swap decisions are taken. -/
  | turnMatch
  /-- TURN_START (R82). Four cycles after a turn match the turn begins, windows swap and the loop block acts. -/
  | turnStart
  /-- TMWIN_EXPIRY (R107). No TEND within TMWIN ticks of TURN_START signals a missing turn. -/
  | tmwinExpiry
  /-- TSWIN_EXPIRY (R107). No taken turn match within TSWIN ticks signals a missing turn. -/
  | tswinExpiry
  /-- RUN_REQUEST (R39). A write of SYS.RUNCTL.RUN enters RUN or is refused with a code. -/
  | runRequest (req : Requester) (stop : Bool)
  /-- STOP_REQUEST (R41). A write of SYS.RUNCTL.STOP commands every loop not OPEN to OPENING. -/
  | stopRequest (req : Requester) (run : Bool)
  /-- STOP_FORCED (R41). A stop not complete within 1 ms applies safe states and enters READY. -/
  | stopForced
  /-- DEBUG_HALT (R79). Setting WHEEL.DBG.HALT halts the Wheel at the next TEND. -/
  | debugHalt (req : Requester)
  /-- DEBUG_STEP (R79). Setting WHEEL.DBG.STEP runs one turn and halts again. -/
  | debugStep (req : Requester)
  /-- DEBUG_RESUME (R79). Clearing WHEEL.DBG.HALT resumes at the next TURN_START. -/
  | debugResume (req : Requester)
  /-- FREEZE_EN_WRITE (R215). A write of PWM.DBG.FREEZE_EN selects freezing on debug halt. -/
  | freezeEnWrite (v : Bool)
  /-- COMMIT (R102). XWIN.CTL.COMMIT marks an IN window set for swap at the next TURN_START. -/
  | xwCommit (req : Requester) (w : Fin 8)
  /-- HOLD (R103). Setting or clearing XWIN.CTL.HOLD stops or restores OUT window swaps. -/
  | xwHold (req : Requester) (w : Fin 8) (v : Bool)
  /-- XWIN_BUFFER_WRITE (R102). An interconnect write to a window buffer stores the word or is dropped with WDROP. -/
  | xwinBufferWrite (req : Requester) (w : Fin 8) (off : Fin 1024) (v : Word)
  /-- XWIN_BUFFER_READ (R512). An interconnect read of a window word returns it or a poisoned NaN with IPOISON. -/
  | xwinBufferRead (w : Fin 8) (off : Fin 1024)
  /-- TIMEBASE_GROUP_TRIGGER (R116). A timebase zero, peak or compare event triggers a timebase sample group. -/
  | timebaseGroupTrigger (g : Fin 8)
  /-- ADTRIG_EDGE (R116). A filtered edge at the ADTRIG land triggers its sample group. -/
  | adtrigEdge (rising : Bool) (samples : Nat)
  /-- SWTRIG (R116). A Cone write of ADC.GSW.SWTRIG triggers a Cone sample group. -/
  | swtrig (g : Fin 8)
  /-- CONVERSION_RESULT (R513). A conversion slot completes, is corrected and stored with validity. -/
  | conversionResult (conv : Fin 16) (code : BitVec 14)
  /-- ADC_STUCK_CLEAR (R130). A W1C of ADC.FLAG.STUCK clears the flag and restarts counting. -/
  | adcStuckClear (mask : BitVec 16)
  /-- CAL_START (R125). A write of ADC.CAL.START starts self-calibration or is discarded. -/
  | calStart
  /-- CAL_DONE (R126). Calibration ends, writing factors or FAIL bits and setting DONE. -/
  | calDone (m10 m90 : List Nat)
  /-- VREFSEL_WRITE (R112). A change of ADC.CTL.VREFSEL switches reference, clears CAL.DONE and moves Saggar thresholds. -/
  | vrefselWrite (v : Bool)
  /-- SD_OUTPUT (R133). A sinc3 decimation completes and delivers a corrected output. -/
  | sdOutput (ch : Fin 6) (bits : List Bool)
  /-- SD_SYNC_EVENT (R134). A selected timebase event realigns decimation, restarting it if off-boundary. -/
  | sdSyncEvent (ch : Fin 6)
  /-- SD_STUCK (R135). 128 identical bitstream bits set the channel STUCK flag. -/
  | sdStuck (ch : Fin 6)
  /-- SD_STUCK_CLEAR (R135). A W1C of ADC.SDSTAT.STUCK clears the flag. -/
  | sdStuckClear (ch : Fin 6)
  /-- NOEST (R144). No resolver estimate within 4 excitation periods sets NOEST. -/
  | noest (x : Fin 2)
  /-- EXCOC (R144). Exciter overcurrent switches the output off and sets EXCOC. -/
  | excoc (x : Fin 2)
  /-- ENCODER_COUNT (R145). A filtered A or B change counts POSCNT or sets ILL. -/
  | encoderCount (e : Fin 2) (a b : Bool)
  /-- ENCODER_Z (R146). A rising Z edge loads ZPOS and checks the Z position. -/
  | encoderZ (e : Fin 2)
  /-- SPEED_CAPTURE (R148). Encoder speed is captured at each turn match or every 10 us outside RUN. -/
  | speedCapture (e : Fin 2)
  /-- HALL_EDGE (R150). A filtered Hall code change updates angle, speed and the encoder cross-check. -/
  | hallEdge (h : Fin 2) (code : Fin 8)
  /-- HALL_TIMEOUT (R151). HZTO without an edge sets Hall speed to zero. -/
  | hallTimeout (h : Fin 2)
  /-- SENT_FRAME (R153). A SENT frame is decoded, sync and CRC checked and its data stored. -/
  | sentFrame (j : Fin 4) (pulses : List Nat)
  /-- SENT_AGE_EXPIRY (R157). The age since the last good frame exceeds AGEMAX and validity falls. -/
  | sentAgeExpiry (j : Fin 4)
  /-- POS_FLAG_CLEAR (R23). A W1C of a POS flag clears it and restores validity if the condition is absent. -/
  | posFlagClear (u : PosUnit) (mask : BitVec 8)
  /-- FEEDBACK_LOSS (R173). The feedback-loss condition of a closing or closed loop sets FBL and raises the Saggar request. -/
  | feedbackLoss (l : Fin 8)
  /-- FBL_CLEAR (R174). A W1C of LOOP.LSTAT.FBL clears it unless the condition holds. -/
  | fblClear (l : Fin 8)
  /-- CWDATA_WRITE (R170). An interconnect write of LOOP.CWDATA writes a coefficient or is discarded with COEF_REJ. -/
  | cwdataWrite (v : Word)
  /-- CLR (R180). RCU.CTL.CLR clears a channel table in READY. -/
  | rcuClr (ch : Fin 8)
  /-- TDATA_WRITE (R185). A write of RCU.TDATA writes a bin under RWL rules and advances BIN. -/
  | tdataWrite (ch : Fin 8) (v : Word)
  /-- TDATA_READ (R185). A read of RCU.TDATA returns a bin and advances BIN with AINC. -/
  | tdataRead (ch : Fin 8)
  /-- ZERO_EVENT (R190). A timebase counter reads 0, giving reload edges and commutation events. -/
  | zeroEvent (t : Fin 4)
  /-- PEAK_EVENT (R190). An up-down timebase counter reads P, giving reload edges. -/
  | peakEvent (t : Fin 4)
  /-- TIMEBASE_CONFIG_WRITE (R191). An accepted TBCFG, TBPER or TBPHS write restarts all timebases together. -/
  | timebaseConfigWrite (field : Fin 3) (t : Fin 4) (v : Word)
  /-- ARM (R199). A write of PWM.ARM transfers staged compares of named generators or is refused. -/
  | arm (mask : BitVec 8)
  /-- DEAD_TIME_EXPIRY (R203). A pending turn-on is released after the other switch stayed off for the dead time. -/
  | deadTimeExpiry (n : Fin 6) (high : Bool) (fine : Fin 32)
  /-- FSTAGE_WRITE (R211). An interconnect write of PWM.FSTAGE stages force codes or is discarded. -/
  | fstageWrite (v : Fin 2) (w : Word)
  /-- COMM_LAND_EDGE (R213). A filtered COMM land edge raises a commutation event in RUN. -/
  | commLandEdge (rising : Bool) (samples : Nat)
  /-- DLL_LOCK_LOSS (R196). Delay-line lock loss truncates fine placement and sets DLLERR. -/
  | dllLockLoss
  /-- FLT_SC (R230). The di/dt detector latches FLT_SC, asserts the back-channel and starts soft turn-off. -/
  | fltSc (i : Fin 12) (vkp : Nat)
  /-- FLT_DSAT (R231). The desaturation detector latches FLT_DSAT and starts soft turn-off. -/
  | fltDsat (i : Fin 12) (vds : Nat)
  /-- FLT_UVLO (R227). A persisting island under-voltage latches FLT_UVLO and turns off. -/
  | fltUvlo (i : Fin 12) (vcc vee : Int)
  /-- FLT_OT (R232). Island over-temperature for 10 us latches FLT_OT and turns off. -/
  | fltOt (i : Fin 12) (t : Int)
  /-- SOFT_TURN_OFF_END (R222). The soft phase ends on gate level or TSOFT, applying full sink and clamp. -/
  | softTurnOffEnd (i : Fin 12)
  /-- TTLTO_EXPIRY (R221). The two-level turn-off plateau ends and full sink applies. -/
  | ttltoExpiry (i : Fin 12)
  /-- ISLAND_SUPPLY_READY (R227). Both island supplies pass their rising thresholds and SUPRDY is set. -/
  | islandSupplyReady (i : Fin 12) (vcc vee : Int)
  /-- ISLAND_SUPPLY_LOSS (R233). Island supply below 4 V loses latches and resets the held action to PI. -/
  | islandSupplyLoss (i : Fin 12)
  /-- EN_FALL (R234). EN low turns off every island of the inverter via ENOFF. -/
  | enFall (v : Fin 2)
  /-- EN_RISE (R235). EN high after at least 2 us low makes a clear attempt at the islands. -/
  | enRise (v : Fin 2) (lowNs : Nat) (vkp : BitVec 12)
  /-- EDGE_CHANNEL_EDGE (R236). An island in RUN follows a gate-command edge on the edge channel. -/
  | edgeChannelEdge (n : Fin 8) (fine : Fin 32)
  /-- ASCDT_EXPIRY (R239). ASCDT after SAFE_ON or link-loss ASC_LOW the island turns on. -/
  | ascdtExpiry (i : Fin 12)
  /-- FAULT_STATE (R248). An island fault-state frame updates ISL.FLT. -/
  | faultState (i : Fin 12)
  /-- NODE_TRANSITION (R248). An island transition report updates TTR and feeds the dead-time filter. -/
  | nodeTransition (i : Fin 12) (time : BitVec 16) (plat : BitVec 14) (inTime : Bool)
  /-- PROPAGATION_DELAY (R214). An island delay report updates TPD and the compensation delays. -/
  | propagationDelay (i : Fin 12) (onEdge : Bool) (d : BitVec 16)
  /-- SUPPLIES (R248). An island supplies frame updates ISL.VSUP. -/
  | supplies (i : Fin 12) (vcc vee : BitVec 16)
  /-- DIE_TEMPERATURE (R248). An island temperature frame updates ISL.TEMP. -/
  | dieTemperature (i : Fin 12) (t : BitVec 16)
  /-- NTC_RATIO (R248). An island NTC frame updates ISL.NTC. -/
  | ntcRatio (i : Fin 12) (r : BitVec 16)
  /-- KEEP_ALIVE (R248). A keep-alive frame restarts link supervision. -/
  | keepAlive (i : Fin 12) (frame : BitVec 48)
  /-- LINK_LOST (R245). No good frame from an island for 3.0 us sets LOST and clears TRAINED. -/
  | linkLost (i : Fin 12)
  /-- ISLAND_LINK_LOSS (R245). An island without good frames for 4.0 us applies its held link-loss action. -/
  | islandLinkLoss (i : Fin 12)
  /-- RETRAIN (R244). ISL.CTL.RETRAIN retrains every island of a used leg in READY. -/
  | retrain
  /-- ISL_CONFIG_WRITE (R250). A write of an island field is sent to a trained island and read back. -/
  | islConfigWrite (i : Fin 12) (reg : Fin 5) (v : Word) (readBack : Bool)
  /-- TRIP_INPUT (R253). A Saggar input becomes active and sets its latch and the inverter latch. -/
  | tripInput (v : Fin 2) (b : Fin 29) (uv : Nat)
  /-- PRESEL_WRITE (R259). A Cone preselection write restarts the staleness timer or is rejected. -/
  | preselWrite (a b : Fin 4)
  /-- PRESEL_STALE (R259). No preselection write for 1.0 ms makes it stale and the default applies. -/
  | preselStale
  /-- SSREQ (R253). The Cone sets or withdraws a safe-state request for an inverter. -/
  | ssreq (v : Fin 2) (on : Bool)
  /-- DISCH (R275). The Cone sets or withdraws its discharge request. -/
  | dischReq (on : Bool)
  /-- LATCH_CLEAR (R263). A clear request for an inverter latch is accepted or refused with CLRCODE. -/
  | latchClear (v : Fin 2)
  /-- DISCHARGE_LATCH_CLEAR (R263). A clear request for the discharge latch is accepted or refused. -/
  | dischargeLatchClear
  /-- LOCKSTEP_MISMATCH (R267). A Cone core mismatch halts the Cone and latches the Cone-fault input. -/
  | lockstepMismatch
  /-- MONITORING_CYCLE (R269). Every 100 us the Cone samples, checks torque, heartbeat, cross-check, discharge and writes preselection. -/
  | monitoringCycle (ph : ConePhase)
  /-- FLT_DISCH_SLOW (R276). Discharge not DONE within 2.0 s sets FLT_DISCH_SLOW. -/
  | fltDischSlow
  /-- SCLR_INVERTER (R272). CONE.SCLR bit v withdraws the Cone request and forwards a latch clear. -/
  | sclrInverter (v : Fin 2)
  /-- SCLR_DISCHARGE (R272). CONE.SCLR bit 2 forwards a discharge-latch clear. -/
  | sclrDischarge
  /-- TREQ_WRITE (R271). A write of CONE.TREQ sets the torque request and restarts its age. -/
  | treqWrite (v : Fin 2) (w : Word)
  /-- REQSTALE (R271). TREQ unwritten for REQTO ms is taken as zero and REQSTALE set. -/
  | reqstale (v : Fin 2)
  /-- DEMAND_CHANGE (R282). A safe-output demand change moves both switches within 10 us, aborting a test. -/
  | demandChange (x : Fin 4)
  /-- TEST_PULSE (R285). At a test instant one switch of a safe output opens or closes alone. -/
  | testPulse (x : Fin 4)
  /-- TEST_PULSE_END (R286). At pulse end the lands are read back and the test passes or fails. -/
  | testPulseEnd (x : Fin 4) (vh vl vso : Nat)
  /-- OC (R284). A switch in current limit for 100 us opens the output and sets OC. -/
  | soOc (x : Fin 4)
  /-- OC_CLEAR (R284). A W1C of OSTAT.OC returns the output to its demand. -/
  | soOcClear (x : Fin 4)
  /-- UNLOCK (R289). SAFECFG.CTL.UNLOCK checks the password hash and unlocks or counts a failure. -/
  | unlock (req : Requester)
  /-- RELOCK (R291). SAFECFG.CTL.RELOCK clears UNLOCKED. -/
  | relock
  /-- PSET (R292). SAFECFG.CTL.PSET applies a Cone parameter after range check and logging. -/
  | pset (req : Requester)
  /-- RWP_WRITE (R293). A write to an RWP field is applied and logged when unlocked with log room. -/
  | rwpWrite (req : Requester) (addr v : Word)
  /-- CHANGE_LOG_REOFFER (R350). An unmirrored change-log entry is offered to its queue again after 100 us. -/
  | changeLogReoffer
  /-- NRST_ASSERT (R465). nRST low taken by its filter resets the device into OFF with HANDOFF. -/
  | nrstAssert (ns : Nat)
  /-- NRST_RELEASE (R459). nRST release with valid supplies starts WEDGING. -/
  | nrstRelease (test : Bool)
  /-- SUPPLIES_VALID (R458). All rails above rising levels for 1.0 ms make supplies valid. -/
  | suppliesValid (vsys vcore vio33 vio18 : Nat) (por : Bool)
  /-- BEGIN (R323). WEDGE.UCTL BEGIN starts an update by erasing the target. -/
  | updateBegin (req : Requester)
  /-- ERASE_DONE (R323). The update erase completes and USTATE becomes WRITING. -/
  | eraseDone (ok : Bool)
  /-- UDATA_WRITE (R323). A write of WEDGE.UDATA appends 4 bytes and programs full pages. -/
  | udataWrite (req : Requester) (w : Word)
  /-- VERIFY (R323). WEDGE.UCTL VERIFY reads back the target and runs the phase 3 and 4 checks. -/
  | updateVerify (req : Requester)
  /-- VERIFY_DONE (R323). The verify ends with VERIFIED or a refusal code. -/
  | updateVerifyDone (ok : Bool)
  /-- COMMIT_UPDATE (R323). WEDGE.UCTL COMMIT programs LIVE of the target then SUPERSEDED of the active slot. -/
  | commitUpdate (req : Requester)
  /-- COMMIT_DONE (R325). The update commit completes and USTATE becomes COMMITTED. -/
  | commitDone (ok : Bool)
  /-- ABORT (R323). WEDGE.UCTL ABORT returns the update to IDLE. -/
  | updateAbort (req : Requester)
  /-- LCCMD (R332). A write of SEC.LCCMD burns a lifecycle transition or is refused. -/
  | lccmd (req : Requester) (target : Fin 16)
  /-- KEYCMD (R334). A write of SEC.KEYCMD programs a key slot or the image key. -/
  | keycmd (req : Requester) (slot : Fin 4)
  /-- ATTESTATION_REQUEST (R337). SEC.ATTCTL.REQ starts a signed attestation report. -/
  | attestationRequest (req : Requester)
  /-- REPORT_READY (R338). The attestation report completes and READY is set. -/
  | reportReady
  /-- TIMEOUT (R337). Report signing unfinished at 20 ms is abandoned with TIMEOUT. -/
  | reportTimeout
  /-- CHREQ (R340). SEC.DBGCTL.CHREQ issues an authorisation challenge. -/
  | chreq (req : Requester)
  /-- RESPDATA_WRITE (R340). A write of SEC.RESPDATA stores a response word and advances the pointer. -/
  | respdataWrite (req : Requester) (w : Word)
  /-- SUBMIT (R340). SEC.DBGCTL.SUBMIT verifies the response and grants the purpose or counts a failure. -/
  | submit (req : Requester)
  /-- DEBUG_RELOCK (R341). SEC.DBGCTL.RELOCK clears debug UNLOCKED. -/
  | debugRelock (req : Requester)
  /-- CHALLENGE_EXPIRY (R341). A challenge becomes invalid 10 s after issue. -/
  | challengeExpiry
  /-- RNG_READ (R344). A read of SEC.RNG with AVAIL returns a fresh random word. -/
  | rngRead (req : Requester)
  /-- RNG_HEALTH_FAIL (R344). A TRNG health-test failure sets FAIL until reset. -/
  | rngHealthFail
  /-- PUSHHI (R354). A write of QUE.PUSHHI pushes a 64-bit word under the drop rules. -/
  | pushhi (req : Requester) (q : Fin 32) (w : Word)
  /-- PUSHHIE (R354). A write of QUE.PUSHHIE pushes a word and ends the packet. -/
  | pushhie (req : Requester) (q : Fin 32) (w : Word)
  /-- PKTEMPTY (R354). A write of QUE.PKTEMPTY writes an empty packet or aborts the open one. -/
  | pktempty (req : Requester) (q : Fin 32)
  /-- POPLO (R359). A read of QUE.POPLO pops one entry and latches the high half and tag. -/
  | poplo (req : Requester) (q : Fin 32)
  /-- DPRST (R468). A data-plane reset empties queues, CAN and Ethernet paths and ends readout. -/
  | dprst (req : Requester) (key : BitVec 8)
  /-- SWRST (R467). A keyed software reset resets the device as nRST does. -/
  | swrst (req : Requester) (key : BitVec 8)
  /-- TRANSMIT_PACKET (R377). A CAN controller takes a transmit packet, checks it and appends it to its FIFO. -/
  | transmitPacket (x : Fin 4)
  /-- ATTEMPT (R379). A CAN head frame starts an attempt at SOF and ends sent, lost or in error. -/
  | canAttempt (x : Fin 4) (ph : CanPhase)
  /-- CANCEL (R380). CANx.CANCEL GO removes FIFO entries with a matching TAG. -/
  | canCancel (req : Requester) (x : Fin 4) (tag : BitVec 16)
  /-- CANCELALL (R380). CANx.CMD.CANCELALL removes every FIFO entry not in an attempt. -/
  | canCancelAll (req : Requester) (x : Fin 4)
  /-- RECOVER (R382). CANx.CMD.RECOVER starts bus-off recovery. -/
  | canRecover (req : Requester) (x : Fin 4)
  /-- RECOVERY_COMPLETE (R382). 128 sequences of 11 recessive bits complete bus-off recovery. -/
  | recoveryComplete (x : Fin 4)
  /-- INTEGRATION (R371). 11 consecutive recessive bits let the controller take part in the bus. -/
  | integration (x : Fin 4)
  /-- RECEIVE_FRAME (R384). A valid received frame is acknowledged, filtered and stored or dropped. -/
  | receiveFrame (x : Fin 4) (d0 : BitVec 64) (af : Word) (data : List (BitVec 8)) (ticks : Nat) (err : Option (CanErr × Bool))
  /-- SAFETY_STATUS_FRAME (R386). In SAFE_HOLD a CAN0 status slot appends its frame each PERIOD. -/
  | safetyStatusFrame (k : Fin 4)
  /-- SLEEP (R387). CANx.CMD.SLEEP stops the controller after its attempt and arms wake detection. -/
  | canSleep (req : Requester) (x : Fin 4)
  /-- WAKE (R387). CANx.CMD.WAKE wakes a sleeping controller. -/
  | canWake (req : Requester) (x : Fin 4)
  /-- DOMINANT_WAKE (R387). A dominant level lasting WUPFILT wakes a sleeping controller. -/
  | dominantWake (x : Fin 4) (ns : Nat)
  /-- WAKE_FRAME (R388). A matching CC wake frame wakes a sleeping controller. -/
  | wakeFrame (x : Fin 4) (ide : Bool) (id : BitVec 29) (dlc : Fin 16) (data : List (BitVec 8))
  /-- FECNT_WAKE (R388). FECNT reaching 32 wakes the controller with cause 0b11. -/
  | fecntWake (x : Fin 4)
  /-- REGISTER_FRAME (R392). An 88-edge HSPI frame reads or writes one register after CRC checks. -/
  | registerFrame (cmd : Word) (crcC : BitVec 8) (wdata : Word) (crcW : BitVec 8) (edges lead : Nat)
  /-- STREAM_FRAME (R397). An HSPI stream frame pops entries of the streaming queue. -/
  | streamFrame (crc : BitVec 8) (edges lead : Nat)
  /-- LOW_HALF_READ (R399). A read of the low half of a 64-bit quantity loads the snapshot slot. -/
  | lowHalfRead (req : Requester) (k : Fin 4)
  /-- HIGH_HALF_READ (R399). A read of the high half returns the snapshot or the live value with TEAR. -/
  | highHalfRead (req : Requester) (k : Fin 4)
  /-- ABSENT_ACCESS (R504). An access to an absent address reads zero and is captured. -/
  | absentAccess (req : Requester) (addr : Word) (wr : Bool)
  /-- POLL (R402). Every POLLMS the MDIO master reads the PHY and updates link state. -/
  | ethPoll (r1 r4 r5 r9 r10 : BitVec 16)
  /-- MDIO_ACCESS (R402). ETH.MDIO GO runs a manual PHY register access. -/
  | mdioAccess (req : Requester) (ph : MdioPhase)
  /-- ETH_TRANSMIT (R403). The MAC takes a transmit packet and sends the frame or discards it. -/
  | ethTransmit
  /-- ETH_RECEIVE (R403). A received Ethernet frame is accepted into its queue or rejected. -/
  | ethReceive (bytes : List (BitVec 8)) (fcsOk : Bool) (ticks : Nat)
  /-- INPUT_PACKET (R412). REC pops an input packet and forms records, rows or triggers. -/
  | inputPacket (vhold : BitVec 16)
  /-- TRIG (R416). A write of REC.CMD.TRIG triggers a snapshot stream. -/
  | recTrig (req : Requester) (mask : BitVec 4)
  /-- UNIT_TIMER (R411). 2 ms after a record closes a padded commit unit is started. -/
  | unitTimer (vhold : BitVec 16)
  /-- DEFER_RECHECK (R418). A deferred unit rechecks hold-up energy every 100 us. -/
  | deferRecheck (vhold : BitVec 16)
  /-- DATA_PAGES_DONE (R410). All data pages of a unit pass and the metadata page is programmed. -/
  | dataPagesDone (vhold : BitVec 16)
  /-- UNIT_COMMITTED (R410). The metadata page passes and the unit counts as committed. -/
  | unitCommitted (vhold : BitVec 16)
  /-- PROGRAM_FAIL (R422). A failed page program relocates the unit or stalls the recorder. -/
  | programFail (l : Fin 4) (second : Bool)
  /-- ERASE_FAIL (R422). A failed erase retires the block or stalls the recorder. -/
  | eraseFail (l : Fin 4) (block : Nat)
  /-- SCRUB (R425). After mount the retention scrub reads and refreshes committed pages. -/
  | nandScrub (reads : List PageRead)
  /-- FORMAT (R420). REC.CMD.FORMAT formats the NAND in READY. -/
  | nandFormat (req : Requester) (ph : FormatPhase)
  /-- RESUME (R422). REC.CMD.RESUME leaves the STALLED state. -/
  | recResume (req : Requester)
  /-- READ (R426). REC.CMD.READ starts readout of a selected record. -/
  | shardRead (req : Requester)
  /-- READOUT_PUSH (R426). The readout engine pushes its next packet once the queue has room. -/
  | readoutPush (reads : List PageRead)
  /-- HOLDWIN_EXPIRY (R427). The SAFE_HOLD drain window ends and the recorder commits and parks. -/
  | holdwinExpiry
  /-- ISLEEP_REQUEST (R430). A write of PWR.ISLEEP.REQ puts interfaces to sleep or wakes them. -/
  | isleepRequest (req : Requester) (mask : BitVec 6)
  /-- ETH_WAKE (R431). ETH_nWAKE low for 1 us wakes the sleeping MAC. -/
  | ethWake
  /-- ENTER (R433). PWR.BCTL.ENTER starts the BANKED entry handshake or is refused. -/
  | pwrEnter (req : Requester)
  /-- EXIT (R438). PWR.BCTL.EXIT aborts an entry in progress. -/
  | pwrExit (req : Requester)
  /-- AGREE (R435). A block agrees; the next is asked or, for the last, BANKED is entered. -/
  | pwrAgree
  /-- REFUSE (R437). A block refuses and the stopped blocks restart in reverse order. -/
  | pwrRefuse
  /-- HANDSHAKE_TIMEOUT (R435). A block past its declared maximum is taken as refusing with TIMEOUT. -/
  | handshakeTimeout
  /-- WAKE_EVENT (R442). An enabled wake source restarts every block and returns to READY. -/
  | wakeEvent (first later : BitVec 9)
  /-- LBIST_START (R452). BIST.CTL.START starts an on-demand LBIST run or is refused. -/
  | lbistStart (req : Requester)
  /-- LBIST_STOP (R449). BIST.CTL.STOP from the debug port cuts a run short. -/
  | lbistStop (req : Requester)
  /-- RUN_CONDITION_BROKEN (R447). A clock or VCORE monitor breach stops the run within 2 us. -/
  | runConditionBroken (khz mv : Nat)
  /-- LBIST_RUN_END (R448). A run ends after restore with its result and, on demand, an internal reset. -/
  | lbistRunEnd
  /-- SUPPLY_WINDOW (R456). A rail outside its window for the filter time activates the Saggar supply input. -/
  | supplyWindow (rail : Fin 5) (mv : Nat)
  /-- SUPPLY_RESET (R457). A rail below its reset level takes an internal reset into OFF. -/
  | supplyReset (rail : Fin 4) (mv : Nat) (torn : Fin 3)
  /-- CLOCK_FAULT (R463). A failed clock check declares a clock fault with its state-dependent reaction. -/
  | clockFault (check : Fin 9) (stopped : Bool) (w1 w2 : Nat)
  /-- REGISTER_WRITE (R12). A write to a register with no row of its own applies its fields under access codes. -/
  | registerWrite (req : Requester) (addr v : Word)
  /-- TRIP_INPUT_INACTIVE (R254). A Saggar input stops being active, for example a comparator voltage lying 16 codes inside its threshold for the filter time or a supply back inside its window, and ACTIVE falls so that a latch clear can be accepted. -/
  | tripInputInactive (v : Fin 2) (b : Fin 29) (rail : Fin 5) (uv : Nat)
  /-- INTERNAL_RESET_RELEASE (R459). After an internal reset the device has held OFF for at least 20 us, and with nRST high and valid supplies it leaves OFF for WEDGING. -/
  | internalResetRelease
  /-- MOUNT_COMPLETE (R407). The NAND mount ends up to 50 ms after READY entry: REC starts popping, writes the BOOT record, starts the scrub, and a waiting readout proceeds, or the state becomes NOFMT or NONAND. -/
  | mountComplete (bad : BitVec 4) (tabs : BitVec 8) (reads : List PageRead)
  /-- SGMII_CONTROL_WORD (R402). In SGMII, or with POLLMS = 0, a change in the PHY's SGMII control word or in whether the interface is receiving changes LINK, SPEED or HDX and sets LINKEV. -/
  | sgmiiControlWord (up : Bool) (speed : Fin 3) (hdx : Bool)
  /-- NOR_PAGE_PROGRAM_DONE (R323). A 256-byte NOR page program of an update finishes; UBUSY falls, or a reported failure sets NOR and returns USTATE to IDLE. -/
  | norPageProgramDone (ok : Bool)
  deriving DecidableEq, Repr

end Sys2Proof
end

