-- ==== Sys2Proof/Config.lean ====
section
/-! DEFINITION. What the spec leaves open, as constants without a body: nothing can be proved of their values. Fresh values are the constant applied to the state's counter of free values (assumption 5); results the spec bounds are constrained where they are used (assumption 6); the external standards the spec names (R8) are uninterpreted functions (assumption 7). -/

namespace Sys2Proof.Config

/-- A value the spec leaves open, one for each draw (assumption 5). -/
opaque freeNat : Nat → Nat

/-- What a sine of an operand's fractional part might be, before R57's bound: sign, significand, exponent of the last place (assumption 6). -/
opaque sinRaw : Word → Bool × Nat × Int
/-- As `sinRaw` for the cosine (R57, assumption 6). -/
opaque cosRaw : Word → Bool × Nat × Int
/-- As `sinRaw` for ATAN2 of y, x (R57, assumption 6). -/
opaque atan2Raw : Word → Word → Bool × Nat × Int
/-- As `sinRaw` for the square root (R57, assumption 6). -/
opaque sqrtRaw : Word → Bool × Nat × Int
/-- As `sinRaw` for the reciprocal (R57, assumption 6). -/
opaque rcpRaw : Word → Bool × Nat × Int
/-- As `sinRaw` for the reciprocal square root (R57, assumption 6). -/
opaque rsqrtRaw : Word → Bool × Nat × Int

/-- Nominal level in mV of VSYS (rail 0) and VSO (rail 4), which the spec states nowhere (R455, assumption 14). -/
opaque railNominal : Nat → Nat

/-- What a word with three or more flipped bits delivers: none for a reported double-bit error, else the value and whether a correction is counted (R67, assumption 5). -/
opaque multiError : Nat → Word → Option (Word × Bool)

/-- SHA-512 of a byte string, as a little-endian number of 512 bits (FIPS 180-4, R8, assumption 7). -/
opaque sha512 : List Nat → Nat
/-- SHAKE256 of a byte string to a number of output bytes (FIPS 202, R8, assumption 7). -/
opaque shake256 : List Nat → Nat → List Nat
/-- Ed25519 public key of a private key (RFC 8032, assumption 7). -/
opaque ed25519Public : List Nat → List Nat
/-- Ed25519 signature under a private key of a message (RFC 8032, assumption 7). -/
opaque ed25519Sign : List Nat → List Nat → List Nat
/-- Ed25519 verification: public key, message, signature (RFC 8032, R8, assumption 7). -/
opaque ed25519Ok : List Nat → List Nat → List Nat → Bool
/-- ML-DSA-65 public key from its seed (FIPS 204, assumption 7). -/
opaque mldsaPublic : List Nat → List Nat
/-- Hedged ML-DSA-65 signature: seed of the key, context, message, random value (FIPS 204, assumption 7). -/
opaque mldsaSign : List Nat → List Nat → List Nat → Nat → List Nat
/-- ML-DSA-65 verification: public key, context, message, signature (FIPS 204, R8, assumption 7). -/
opaque mldsaOk : List Nat → List Nat → List Nat → List Nat → Bool
/-- AES-256-GCM decryption under a key: initialisation vector, additional authenticated data, ciphertext, tag; the plain bytes, none where the tag is wrong (NIST SP 800-38D, R316, assumption 7). -/
opaque aesGcmOpen : Nat → List Nat → List Nat → List Nat → List Nat → Option (List Nat)
/-- A word of the true random number generator, one for each draw (R344, assumption 7). -/
opaque trngWord : Nat → Nat
/-- The 64-bit signature an LBIST run leaves in the MISR: partition mask, pattern count, seed (R446, assumption 7). -/
opaque lbistSignature : Nat → Nat → Nat → Nat
/-- The vendor's seed and expected signature of the key-on profile (R450, assumption 7). -/
opaque keyOnSeed : Nat
opaque keyOnSignature : Nat

end Sys2Proof.Config
end

