-- ==== Sys2Proof/Machine/Fp32.lean ====
section
/-! DEFINITION. Numeric behaviour of the Wheel (R56, R57): binary32 with one rounding to nearest even, subnormals flushed, canonical NaN, and the flag each case sets. -/

namespace Sys2Proof.Machine.Fp32

open Sys2Proof

/-- A result with the NUMSTAT flags it sets (bit order of WHEEL.NUMSTAT). -/
structure Res where
  v : Word
  fl : Nat := 0
  deriving DecidableEq, Repr

/-- WHEEL.NUMSTAT bits (R80). -/
def inv : Nat := 1
def dz : Nat := 2
def ovf : Nat := 4
def unf : Nat := 8
def cvt : Nat := 16
def sat : Nat := 32

/-- The canonical quiet NaN (R56). -/
def nan : Word := 0x7FC00000#32

/-- A sign in bit 31. -/
def signBit (neg : Bool) : Nat := if neg then 0x80000000 else 0

/-- Signed zero. -/
def zero (neg : Bool) : Word := BitVec.ofNat 32 (signBit neg)

/-- Signed infinity. -/
def infinity (neg : Bool) : Word := BitVec.ofNat 32 (signBit neg + 0x7F800000)

/-- What a word reads as: a NaN, an infinity, or ±m·2^e with m = 0 for zeros and flushed subnormals (R56). -/
inductive Num where
  | nan
  | inf (neg : Bool)
  | fin (neg : Bool) (m : Nat) (e : Int)
  deriving DecidableEq, Repr

/-- The reading of a word; a subnormal operand reads as zero of the same sign (R56). -/
def num (w : Word) : Num :=
  let b := w.toNat
  let neg := 0x80000000 ≤ b
  let ex := b / 0x800000 % 256
  let fr := b % 0x800000
  if ex = 255 then (if fr = 0 then .inf neg else .nan)
  else if ex = 0 then .fin neg 0 0
  else .fin neg (fr + 0x800000) ((ex : Int) - 150)

/-- m·2^e as a numerator over a denominator. -/
def scale (m : Nat) (e : Int) : Nat × Nat :=
  if 0 ≤ e then (m * 2 ^ e.toNat, 1) else (m, 2 ^ (-e).toNat)

/-- ±m·2^e delivered as binary32, for a significand of 24 bits (or 2^24 after a carry): overflow to infinity, a subnormal to zero (R56). -/
def pack (neg : Bool) (m : Nat) (e : Int) : Res :=
  let m' := if m = 0x1000000 then 0x800000 else m
  let e' := if m = 0x1000000 then e + 1 else e
  if e' < -149 then ⟨zero neg, unf⟩
  else if 104 < e' then ⟨infinity neg, ovf⟩
  else ⟨BitVec.ofNat 32 (signBit neg + (e' + 150).toNat * 0x800000 + (m' - 0x800000)), 0⟩

/-- The 24-bit significand and exponent of n/d rounded to nearest even, the exponent unbounded (n, d positive). -/
def roundSig (n d : Nat) : Nat × Int :=
  let k0 : Int := (Nat.log2 n : Int) - (Nat.log2 d : Int)
  let ge := if 0 ≤ k0 then d * 2 ^ k0.toNat ≤ n else d ≤ n * 2 ^ (-k0).toNat
  let k := if ge then k0 else k0 - 1
  let sh := 23 - k
  let a := if 0 ≤ sh then n * 2 ^ sh.toNat else n
  let b := if 0 ≤ sh then d else d * 2 ^ (-sh).toNat
  let q := a / b
  let r := a % b
  let up := decide (b < 2 * r) || (decide (2 * r = b) && decide (q % 2 = 1))
  (if up then q + 1 else q, k - 23)

/-- ±n/d rounded once to nearest even; an exact zero keeps the sign given (R56, R8). -/
def ofRat (neg : Bool) (n d : Nat) : Res :=
  if n = 0 ∨ d = 0 then ⟨zero neg, 0⟩
  else let r := roundSig n d; pack neg r.1 r.2

/-- An integer numerator over a positive denominator, rounded once; zero is +0. -/
def ofIntRat (n : Int) (d : Nat) : Res :=
  ofRat (decide (n < 0)) n.natAbs d

/-- The signed significand at a smaller exponent. -/
def alignTo (neg : Bool) (m : Nat) (e e0 : Int) : Int :=
  let v : Int := (m * 2 ^ (e - e0).toNat : Nat)
  if neg then -v else v

/-- The exact sum of two finite numbers, rounded once; an exact zero sum is +0 unless both operands are −0. -/
def addFin (na : Bool) (ma : Nat) (ea : Int) (nb : Bool) (mb : Nat) (eb : Int) : Res :=
  if ma = 0 ∧ mb = 0 then ⟨zero (na && nb), 0⟩
  else
    let e0 := if ma = 0 then eb else if mb = 0 then ea else min ea eb
    let sum := (if ma = 0 then 0 else alignTo na ma ea e0) + (if mb = 0 then 0 else alignTo nb mb eb e0)
    if sum = 0 then ⟨zero false, 0⟩
    else
      let s := scale sum.natAbs e0
      ofRat (decide (sum < 0)) s.1 s.2

/-- The number with its sign inverted. -/
def Num.neg : Num → Num
  | .nan => .nan
  | .inf n => .inf (!n)
  | .fin n m e => .fin (!n) m e

/-- The exact product of two numbers; 0 × ∞ is none (R56). -/
def Num.mul (a b : Num) : Option Num :=
  match a, b with
  | .nan, _ => some .nan
  | _, .nan => some .nan
  | .inf na, .inf nb => some (.inf (na != nb))
  | .inf na, .fin nb m _ => if m = 0 then none else some (.inf (na != nb))
  | .fin na m _, .inf nb => if m = 0 then none else some (.inf (na != nb))
  | .fin na ma ea, .fin nb mb eb => some (.fin (na != nb) (ma * mb) (ea + eb))

/-- The sum of two numbers rounded once (R56). -/
def addNum (a b : Num) : Res :=
  match a, b with
  | .nan, _ => ⟨nan, 0⟩
  | _, .nan => ⟨nan, 0⟩
  | .inf na, .inf nb => if na = nb then ⟨infinity na, 0⟩ else ⟨nan, inv⟩
  | .inf na, .fin _ _ _ => ⟨infinity na, 0⟩
  | .fin _ _ _, .inf nb => ⟨infinity nb, 0⟩
  | .fin na ma ea, .fin nb mb eb => addFin na ma ea nb mb eb

/-- A number delivered as binary32, rounded once. -/
def deliver (a : Num) : Res :=
  match a with
  | .nan => ⟨nan, 0⟩
  | .inf n => ⟨infinity n, 0⟩
  | .fin n m e => let s := scale m e; ofRat n s.1 s.2

/-- FADD (R56, R508). -/
def add (a b : Word) : Res := addNum (num a) (num b)

/-- FSUB (R56, R508). -/
def sub (a b : Word) : Res := addNum (num a) (num b).neg

/-- FMUL; 0 × ∞ is invalid, a NaN operand gives NaN without a flag (R56, R508). -/
def mul (a b : Word) : Res :=
  match (num a).mul (num b) with
  | none => ⟨nan, inv⟩
  | some p => deliver p

/-- d + p with one rounding, where the product p is invalid for 0 × ∞ whatever d holds (R56). -/
def addProduct (d : Num) (p : Option Num) : Res :=
  match p with
  | none => ⟨nan, inv⟩
  | some q => addNum d q

/-- FMA: d + a·b, one rounding (R56, R508). -/
def fma (d a b : Word) : Res := addProduct (num d) ((num a).mul (num b))

/-- FMS: d − a·b, one rounding (R56, R508). -/
def fms (d a b : Word) : Res := addProduct (num d) ((num a).neg.mul (num b))

/-- FNMS: a·b − d, one rounding (R56, R508). -/
def fnms (d a b : Word) : Res := addProduct (num d).neg ((num a).mul (num b))

/-- A NaN word (R56). -/
def isNan (w : Word) : Bool :=
  match num w with
  | .nan => true
  | _ => false

/-- A NaN or an infinity (R72). -/
def notFinite (w : Word) : Bool := decide (w.toNat / 0x800000 % 256 = 255)

/-- The word as an operand reads: subnormals to zero, NaN canonical. -/
def canon (w : Word) : Word :=
  match num w with
  | .nan => nan
  | .inf n => infinity n
  | .fin n m _ => if m = 0 then zero n else w

/-- FABS (R508). -/
def abs (a : Word) : Res :=
  if isNan a then ⟨nan, 0⟩ else ⟨BitVec.ofNat 32 ((canon a).toNat % 0x80000000), 0⟩

/-- FNEG (R508). -/
def neg (a : Word) : Res :=
  if isNan a then ⟨nan, 0⟩ else ⟨canon a ^^^ 0x80000000#32, 0⟩

/-- A rank that orders numbers as reals, both zeros alike: the sign-magnitude pattern. -/
def rank (w : Word) : Int :=
  let c := (canon w).toNat
  if c < 0x80000000 then (c : Int) else -((c - 0x80000000 : Nat) : Int)

/-- As `rank`, with −0 below +0 (FMIN and FMAX, R56). -/
def rankZ (w : Word) : Int :=
  let c := (canon w).toNat
  if c < 0x80000000 then 2 * (c : Int) + 1 else -(2 * ((c - 0x80000000 : Nat) : Int) + 1)

/-- FMIN: one NaN gives the other operand, two NaNs the canonical NaN (R56). -/
def fmin (a b : Word) : Res :=
  if isNan a then ⟨canon b, 0⟩
  else if isNan b then ⟨canon a, 0⟩
  else if rankZ a ≤ rankZ b then ⟨canon a, 0⟩ else ⟨canon b, 0⟩

/-- FMAX (R56). -/
def fmax (a b : Word) : Res :=
  if isNan a then ⟨canon b, 0⟩
  else if isNan b then ⟨canon a, 0⟩
  else if rankZ a ≤ rankZ b then ⟨canon b, 0⟩ else ⟨canon a, 0⟩

/-- FP32 compares: false with a NaN operand (R56). -/
def eq (a b : Word) : Bool := !isNan a && !isNan b && decide (rank a = rank b)
def lt (a b : Word) : Bool := !isNan a && !isNan b && decide (rank a < rank b)
def le (a b : Word) : Bool := !isNan a && !isNan b && decide (rank a ≤ rank b)

/-- n/d (d positive) rounded to the nearest integer, ties to even. -/
def roundHalfEven (n d : Nat) : Nat :=
  let q := n / d
  let r := n % d
  if d < 2 * r ∨ (2 * r = d ∧ q % 2 = 1) then q + 1 else q

/-- A finite number rounded to the nearest integer, ties to even. -/
def toInt (n : Bool) (m : Nat) (e : Int) : Int :=
  let s := scale m e
  let r : Int := (roundHalfEven s.1 s.2 : Nat)
  if n then -r else r

/-- FCVT.S32: round first, judge the range on the rounded result (R56). -/
def cvtS32 (a : Word) : Res :=
  match num a with
  | .nan => ⟨0#32, cvt⟩
  | .inf n => ⟨if n then 0x80000000#32 else 0x7FFFFFFF#32, cvt⟩
  | .fin n m e =>
    let r := toInt n m e
    if 2147483647 < r then ⟨0x7FFFFFFF#32, cvt⟩
    else if r < -2147483648 then ⟨0x80000000#32, cvt⟩
    else ⟨BitVec.ofInt 32 r, 0⟩

/-- FCVT.U32 (R56). -/
def cvtU32 (a : Word) : Res :=
  match num a with
  | .nan => ⟨0#32, cvt⟩
  | .inf n => ⟨if n then 0#32 else 0xFFFFFFFF#32, cvt⟩
  | .fin n m e =>
    let r := toInt n m e
    if 4294967295 < r then ⟨0xFFFFFFFF#32, cvt⟩
    else if r < 0 then ⟨0#32, cvt⟩
    else ⟨BitVec.ofInt 32 r, 0⟩

/-- ICVT.S32 (R508). -/
def ofS32 (a : Word) : Res := ofIntRat a.toInt 1

/-- ICVT.U32 (R508). -/
def ofU32 (a : Word) : Res := ofRat false a.toNat 1

/-- A signed integer saturated to 32 bits, with SAT where it saturates (R56). -/
def satS32 (x : Int) : Res :=
  if 2147483647 < x then ⟨0x7FFFFFFF#32, sat⟩
  else if x < -2147483648 then ⟨0x80000000#32, sat⟩
  else ⟨BitVec.ofInt 32 x, 0⟩

/-- QMUL: Q1.31 product rounded to nearest, ties away from zero (R56). -/
def qmul (a b : Word) : Res :=
  let p := a.toInt * b.toInt
  let r : Int := ((p.natAbs + 0x40000000) / 0x80000000 : Nat)
  satS32 (if p < 0 then -r else r)

/-! ## The transcendental unit (R57): a result within the stated error, otherwise open. -/

/-- Scale of the fixed-point reference values. -/
def fxOne : Int := 2 ^ 60

/-- Half of π times 2^60. -/
def halfPi : Int := 1811004864519280710

/-- Σ of the Taylor series of sine or cosine from a term: `t` the present term, `x2` the square of the argument, both times 2^60. -/
def taylor : Nat → Int → Int → Nat → Int
  | 0, _, _, _ => 0
  | fuel + 1, t, x2, k => t + taylor fuel (-(t * x2 / fxOne) / ((k + 1) * (k + 2) : Nat)) x2 (k + 2)

/-- Sine and cosine of a quarter turn's fraction r/2^60, times 2^60. -/
def sinQuarter (r : Int) : Int :=
  let x := r * halfPi / fxOne
  taylor 14 x (x * x / fxOne) 1
def cosQuarter (r : Int) : Int :=
  let x := r * halfPi / fxOne
  taylor 14 fxOne (x * x / fxOne) 0

/-- Sine times 2^60 of an angle of f/2^60 revolutions, 0 ≤ f < 2^60. -/
def sinFx (f : Int) : Int :=
  let q := 4 * f / fxOne
  let r := 4 * f % fxOne
  if q = 0 then sinQuarter r else if q = 1 then cosQuarter r
  else if q = 2 then -sinQuarter r else -cosQuarter r

/-- Cosine times 2^60. -/
def cosFx (f : Int) : Int := sinFx ((f + fxOne / 4) % fxOne)

/-- The fractional part of a finite number, times 2^60 and rounded down. -/
def fracFx (n : Bool) (m : Nat) (e : Int) : Int :=
  let s := scale m e
  let f : Int := ((s.1 % s.2) * 2 ^ 60 / s.2 : Nat)
  if n then (-f) % fxOne else f

/-- The fractional part of a finite number with its sign, as a word: it is exact (R57). -/
def fracWord (n : Bool) (m : Nat) (e : Int) : Word :=
  let s := scale m e
  (ofRat n (s.1 % s.2) s.2).v

/-- A candidate significand and exponent is one the unit can deliver. -/
def candOk (c : Bool × Nat × Int) : Bool :=
  c.2.1 = 0 || (decide (0x800000 ≤ c.2.1) && decide (c.2.1 < 0x1000000) && decide (-400 ≤ c.2.2) && decide (c.2.2 ≤ 104))

/-- The value of a candidate as a signed numerator over a denominator. -/
def candVal (c : Bool × Nat × Int) : Int × Nat :=
  let s := scale c.2.1 c.2.2
  (if c.1 then -(s.1 : Int) else (s.1 : Int), s.2)

/-- A candidate delivered. -/
def candRes (c : Bool × Nat × Int) : Res :=
  if c.2.1 = 0 then ⟨zero c.1, 0⟩ else pack c.1 c.2.1 c.2.2

/-- |x/dx − y/dy| ≤ p/q. -/
def within (x : Int) (dx : Nat) (y : Int) (dy : Nat) (p q : Nat) : Bool :=
  decide ((x * dy - y * dx).natAbs * q ≤ p * dx * dy)

/-- The candidate where it lies within 2^−21 of the reference value (times 2^60), less the 2^−51 by which the reference may be off; else the reference rounded (R57, assumption 6). -/
def boundedAbs (c : Bool × Nat × Int) (ref : Int) : Res :=
  let v := candVal c
  if candOk c && within v.1 v.2 ref (2 ^ 60) (2 ^ 40 - 2 ^ 10) (2 ^ 61) then candRes c
  else ofIntRat ref (2 ^ 60)

/-- SIN (R56, R57). -/
def sin (a : Word) : Res :=
  match num a with
  | .nan => ⟨nan, 0⟩
  | .inf _ => ⟨nan, inv⟩
  | .fin n m e =>
    if m ≠ 0 ∧ 0 ≤ e then ⟨zero false, 0⟩ else boundedAbs (Config.sinRaw (fracWord n m e)) (sinFx (fracFx n m e))

/-- COS (R56, R57). -/
def cos (a : Word) : Res :=
  match num a with
  | .nan => ⟨nan, 0⟩
  | .inf _ => ⟨nan, inv⟩
  | .fin n m e =>
    if m ≠ 0 ∧ 0 ≤ e then ⟨0x3F800000#32, 0⟩ else boundedAbs (Config.cosRaw (fracWord n m e)) (cosFx (fracFx n m e))

/-- The largest k below 2^n·(start step) for which the direction (cos, sin) of k/2^26 revolutions does not pass (x, y), by bisection over the first quadrant. -/
def atanSearch (y x : Nat) : Nat → Nat → Nat
  | 0, k => k
  | n + 1, k =>
    let k' := k + 2 ^ n
    let f : Int := (k' : Int) * 2 ^ 34
    if (x : Int) * sinFx f ≤ (y : Int) * cosFx f then atanSearch y x n k' else atanSearch y x n k

/-- A reference for ATAN2 in the first quadrant, in 2^−26 revolutions. -/
def atanRef (y x : Nat) : Nat := atanSearch y x 24 0

/-- The candidate angle points at (x, y) to within 2^−22 revolution: the sine of the difference is at most 2π·2^−22, less what the references may be off, and the cosine positive; left of the y axis it has the sign of y, so that the difference is no whole turn (R57, assumption 6). -/
def atanOk (c : Bool × Nat × Int) (neg : Bool) (y x : Int) : Bool :=
  candOk c &&
  (let v := candVal c
   let f := (v.1 * 2 ^ 60 / v.2) % fxOne
   let cr := y * cosFx f - x * sinFx f
   decide (v.1.natAbs * 2 ≤ v.2) && (decide (0 ≤ x) || (decide (v.1 < 0) == neg)) && decide (0 < x * cosFx f + y * sinFx f) &&
   decide (cr * cr * 2 ^ 44 ≤ (x * x + y * y) * (7244019458077122842 - 2 ^ 30) ^ 2))

/-- ATAN2 with A as y and B as x (R56, R57). -/
def atan2 (y x : Word) : Res :=
  match num y, num x with
  | .nan, _ => ⟨nan, 0⟩
  | _, .nan => ⟨nan, 0⟩
  | ny, nx =>
    let sy : Bool × Nat × Int := match ny with
      | .inf n => (n, 1, 0)
      | .fin n m e => (n, (match nx with | .inf _ => 0 | _ => m), e)
      | .nan => (false, 0, 0)
    let sx : Bool × Nat × Int := match nx with
      | .inf n => (n, 1, 0)
      | .fin n m e => (n, (match ny with | .inf _ => 0 | _ => m), e)
      | .nan => (false, 0, 0)
    if sy.2.1 = 0 ∧ sx.2.1 = 0 then ⟨zero false, 0⟩
    else
      let e0 : Int := if sy.2.1 = 0 then sx.2.2 else if sx.2.1 = 0 then sy.2.2 else min sy.2.2 sx.2.2
      let my := if sy.2.1 = 0 then 0 else sy.2.1 * 2 ^ (sy.2.2 - e0).toNat
      let mx := if sx.2.1 = 0 then 0 else sx.2.1 * 2 ^ (sx.2.2 - e0).toNat
      let c := Config.atan2Raw (canon y) (canon x)
      if atanOk c sy.1 (if sy.1 then -(my : Int) else my) (if sx.1 then -(mx : Int) else mx) then candRes c
      else
        let k := atanRef my mx
        let h := if sx.1 then 2 ^ 25 - k else k
        ofRat sy.1 h (2 ^ 26)

/-- The candidate where it is positive and within `u` units of the last place of the exact value n/d, else that value rounded (R57, assumption 6). -/
def boundedUlp (neg : Bool) (c : Bool × Nat × Int) (n d u : Nat) : Res :=
  let r := roundSig n d
  let v := scale c.2.1 c.2.2
  let p := scale u r.2
  if candOk c && decide (c.2.1 ≠ 0) && within v.1 v.2 n d p.1 p.2 then pack neg c.2.1 c.2.2
  else pack neg r.1 r.2

/-- RCP (R56, R57). -/
def rcp (a : Word) : Res :=
  match num a with
  | .nan => ⟨nan, 0⟩
  | .inf n => ⟨zero n, 0⟩
  | .fin n m e =>
    if m = 0 then ⟨infinity n, dz⟩
    else let s := scale m e; boundedUlp n (Config.rcpRaw (canon a)) s.2 s.1 2

/-- |m·2^e − √(n/d)| ≤ p/q, decided on squares. -/
def sqrtWithin (v : Nat × Nat) (n d : Nat) (p : Nat × Nat) : Bool :=
  let hi := v.1 * p.2 + p.1 * v.2
  let lo := v.1 * p.2 - p.1 * v.2
  let dn := v.2 * p.2
  decide (n * dn * dn ≤ hi * hi * d) && decide (lo * lo * d ≤ n * dn * dn)

/-- √(n/d) as a 24-bit significand rounded to nearest, with its exponent. -/
def sqrtSig (n d : Nat) : Nat × Int :=
  let t := Nat.sqrt (n * 2 ^ 400 / d)
  roundSig (2 * t + 1) (2 ^ 201)

/-- The candidate where it lies within `u` units of the last place of √(n/d), else that root rounded (R57, assumption 6). -/
def boundedSqrt (c : Bool × Nat × Int) (n d u : Nat) : Res :=
  let r := sqrtSig n d
  if candOk c && decide (c.2.1 ≠ 0) && sqrtWithin (scale c.2.1 c.2.2) n d (scale u r.2) then pack false c.2.1 c.2.2
  else pack false r.1 r.2

/-- SQRT (R56, R57). -/
def sqrt (a : Word) : Res :=
  match num a with
  | .nan => ⟨nan, 0⟩
  | .inf n => if n then ⟨nan, inv⟩ else ⟨infinity false, 0⟩
  | .fin n m e =>
    if m = 0 then ⟨zero n, 0⟩
    else if n then ⟨nan, inv⟩
    else let s := scale m e; boundedSqrt (Config.sqrtRaw (canon a)) s.1 s.2 1

/-- RSQRT (R56, R57). -/
def rsqrt (a : Word) : Res :=
  match num a with
  | .nan => ⟨nan, 0⟩
  | .inf n => if n then ⟨nan, inv⟩ else ⟨zero false, 0⟩
  | .fin n m e =>
    if m = 0 then ⟨infinity n, dz⟩
    else if n then ⟨nan, inv⟩
    else let s := scale m e; boundedSqrt (Config.rsqrtRaw (canon a)) s.2 s.1 2

end Sys2Proof.Machine.Fp32
end

