-- ==== Sys2Proof/Machine/Exact.lean ====
section
/-! DEFINITION. Exact rationals, for the formulas the spec gives without a rounding: they are evaluated exactly and rounded once where a value is delivered (assumption 11). A rational is a numerator and a positive denominator. -/

namespace Sys2Proof.Machine

open Sys2Proof

/-- A numerator over a positive denominator. -/
abbrev Rat2 := Int × Nat

/-- An integer. -/
def qInt (n : Int) : Rat2 := (n, 1)

/-- The value of a word; a NaN or an infinity has none. -/
def qWord (w : Word) : Option Rat2 :=
  match Fp32.num w with
  | .fin neg m e => let s := Fp32.scale m e; some (if neg then -(s.1 : Int) else s.1, s.2)
  | _ => none

def qAdd (a b : Rat2) : Rat2 := (a.1 * b.2 + b.1 * a.2, a.2 * b.2)
def qNeg (a : Rat2) : Rat2 := (-a.1, a.2)
def qSub (a b : Rat2) : Rat2 := qAdd a (qNeg b)
def qMul (a b : Rat2) : Rat2 := (a.1 * b.1, a.2 * b.2)
/-- Division; by zero it gives zero, which no formula that uses it reads. -/
def qDiv (a b : Rat2) : Rat2 :=
  if b.1 = 0 then (0, 1) else if b.1 < 0 then (-(a.1 * b.2), a.2 * b.1.natAbs) else (a.1 * b.2, a.2 * b.1.natAbs)
def qAbs (a : Rat2) : Rat2 := (a.1.natAbs, a.2)
def qLe (a b : Rat2) : Bool := decide (a.1 * b.2 ≤ b.1 * a.2)
def qLt (a b : Rat2) : Bool := decide (a.1 * b.2 < b.1 * a.2)
def qMin (a b : Rat2) : Rat2 := if qLe a b then a else b
def qMax (a b : Rat2) : Rat2 := if qLe a b then b else a
/-- The greatest integer not above. -/
def qFloor (a : Rat2) : Int := Int.fdiv a.1 a.2
/-- Rounded to the nearest integer, halves away from zero. -/
def qRound (a : Rat2) : Int :=
  let n := (2 * a.1.natAbs + a.2) / (2 * a.2)
  if a.1 < 0 then -(n : Int) else n
/-- Rounded once to binary32. -/
def qPack (a : Rat2) : Word := (Fp32.ofIntRat a.1 a.2).v
/-- The value with a denominator of 2^60 at most, rounded down: used to bound long chains. -/
def qTrim (a : Rat2) : Rat2 := if a.2 ≤ 2 ^ 60 then a else (Int.fdiv (a.1 * 2 ^ 60) a.2, 2 ^ 60)

end Sys2Proof.Machine
end

