-- ==== Sys2Proof/Machine/RegMap.lean ====
section
/-! DEFINITION. The register map (R499 and the register chapters): one handle per field of the spec's register tables, and the table of registers by address. -/

namespace Sys2Proof.Machine

/-- The access codes of R12 (00_scope). -/
inductive Acc where
  | rw | ro | w1c | w1s | wo | rwl | rwp | rwb
  deriving DecidableEq, Repr

/-- One register field: byte address of its register, lowest bit, width, access code, reset value. -/
structure Fld where
  addr : Nat
  lo : Nat
  width : Nat
  acc : Acc
  rst : Nat
  deriving DecidableEq, Repr

/-- The key of a field in the register store. -/
def Fld.key (f : Fld) : Nat := f.addr * 32 + f.lo

/-- A register, or an array of `count` registers `stride` bytes apart, with its fields. -/
structure RegDef where
  name : String
  base : Nat
  stride : Nat
  count : Nat
  flds : List (Nat → Fld)

/-! ## SYS -/

/-! SYS.STATE (R45, 01_architecture). -/
def R.SYS_STATE_TRANS : Fld := ⟨0x40000040, 8, 1, .ro, 0⟩
def R.SYS_STATE_PREV : Fld := ⟨0x40000040, 4, 4, .ro, 0⟩
def R.SYS_STATE_CUR : Fld := ⟨0x40000040, 0, 4, .ro, 1⟩

/-! SYS.RUNCTL (R45, 01_architecture). -/
def R.SYS_RUNCTL_REFUSE : Fld := ⟨0x40000044, 8, 4, .ro, 0⟩
def R.SYS_RUNCTL_STOP : Fld := ⟨0x40000044, 1, 1, .w1s, 0⟩
def R.SYS_RUNCTL_RUN : Fld := ⟨0x40000044, 0, 1, .w1s, 0⟩

/-! SYS.HOLDCAUSE (R45, 01_architecture). -/
def R.SYS_HOLDCAUSE_TURN : Fld := ⟨0x40000048, 8, 16, .ro, 0⟩
def R.SYS_HOLDCAUSE_CAUSE : Fld := ⟨0x40000048, 0, 8, .ro, 0⟩

/-! SYS.RSTCAUSE (R469, 19_supplies_clocks_reset). -/
def R.SYS_RSTCAUSE_PREV : Fld := ⟨0x40000080, 16, 4, .ro, 0⟩
def R.SYS_RSTCAUSE_SWRST : Fld := ⟨0x40000080, 8, 1, .w1c, 0⟩
def R.SYS_RSTCAUSE_BIST : Fld := ⟨0x40000080, 7, 1, .w1c, 0⟩
def R.SYS_RSTCAUSE_CLOCK : Fld := ⟨0x40000080, 6, 1, .w1c, 0⟩
def R.SYS_RSTCAUSE_VIO18 : Fld := ⟨0x40000080, 5, 1, .w1c, 0⟩
def R.SYS_RSTCAUSE_VIO33 : Fld := ⟨0x40000080, 4, 1, .w1c, 0⟩
def R.SYS_RSTCAUSE_VCORE : Fld := ⟨0x40000080, 3, 1, .w1c, 0⟩
def R.SYS_RSTCAUSE_VSYS : Fld := ⟨0x40000080, 2, 1, .w1c, 0⟩
def R.SYS_RSTCAUSE_NRST : Fld := ⟨0x40000080, 1, 1, .w1c, 0⟩
def R.SYS_RSTCAUSE_POR : Fld := ⟨0x40000080, 0, 1, .w1c, 1⟩

/-! SYS.RSTCTL (R469, 19_supplies_clocks_reset). -/
def R.SYS_RSTCTL_KEY : Fld := ⟨0x40000084, 24, 8, .wo, 0⟩
def R.SYS_RSTCTL_DPBUSY : Fld := ⟨0x40000084, 3, 1, .ro, 0⟩
def R.SYS_RSTCTL_RSTREJ : Fld := ⟨0x40000084, 2, 1, .w1c, 0⟩
def R.SYS_RSTCTL_DPRST : Fld := ⟨0x40000084, 1, 1, .w1s, 0⟩
def R.SYS_RSTCTL_SWRST : Fld := ⟨0x40000084, 0, 1, .w1s, 0⟩

/-! SYS.RSTCNT (R469, 19_supplies_clocks_reset). -/
def R.SYS_RSTCNT_COUNT : Fld := ⟨0x40000088, 0, 8, .ro, 0⟩

/-! SYS.CLKSTAT (R469, 19_supplies_clocks_reset). -/
def R.SYS_CLKSTAT_CLKFLT : Fld := ⟨0x40000090, 3, 9, .ro, 0⟩
def R.SYS_CLKSTAT_FAULT : Fld := ⟨0x40000090, 2, 1, .ro, 0⟩
def R.SYS_CLKSTAT_XTALOK : Fld := ⟨0x40000090, 1, 1, .ro, 0⟩
def R.SYS_CLKSTAT_PLLLOCK : Fld := ⟨0x40000090, 0, 1, .ro, 0⟩

/-! SYS.SUPSTAT (R469, 19_supplies_clocks_reset). -/
def R.SYS_SUPSTAT_WIN : Fld := ⟨0x400000A0, 0, 10, .ro, 0⟩

/-! SYS.SUPLAT (R469, 19_supplies_clocks_reset). -/
def R.SYS_SUPLAT_WIN : Fld := ⟨0x400000A4, 0, 10, .w1c, 0⟩

/-! SYS.ID (R501, 22_register_map). -/
def R.SYS_ID_PART : Fld := ⟨0x40000000, 16, 16, .ro, 0⟩

/-! SYS.REV (R501, 22_register_map). -/
def R.SYS_REV_MAJOR : Fld := ⟨0x40000004, 8, 8, .ro, 1⟩
def R.SYS_REV_MINOR : Fld := ⟨0x40000004, 0, 8, .ro, 0⟩

/-! SYS.CAP0 (R501, 22_register_map). -/
def R.SYS_CAP0_UNITS : Fld := ⟨0x40000008, 0, 24, .ro, 0⟩

/-! SYS.CAP1 (R501, 22_register_map). -/
def R.SYS_CAP1_FEAT : Fld := ⟨0x4000000C, 0, 6, .ro, 0x3F⟩

/-! SYS.ABSENT (R503, 22_register_map). -/
def R.SYS_ABSENT_COUNT : Fld := ⟨0x40000010, 16, 16, .ro, 0⟩
def R.SYS_ABSENT_REQ : Fld := ⟨0x40000010, 2, 2, .ro, 0⟩
def R.SYS_ABSENT_WR : Fld := ⟨0x40000010, 1, 1, .ro, 0⟩
def R.SYS_ABSENT_FLAG : Fld := ⟨0x40000010, 0, 1, .w1c, 0⟩

/-! SYS.ABSENT_ADDR (R503, 22_register_map). -/
def R.SYS_ABSENT_ADDR_ADDR : Fld := ⟨0x40000014, 0, 32, .ro, 0⟩

/-! SYS.TSC_LO (R501, 22_register_map). -/
def R.SYS_TSC_LO_COUNT : Fld := ⟨0x40000050, 0, 32, .ro, 0⟩

/-! SYS.TSC_HI (R501, 22_register_map). -/
def R.SYS_TSC_HI_COUNT : Fld := ⟨0x40000054, 0, 32, .ro, 0⟩

/-- The registers of SYS, part 0. -/
def RegMap.sys0 : List RegDef :=
  [⟨"SYS.STATE", 0x40000040, 4, 1,
      [fun _ => R.SYS_STATE_TRANS, fun _ => R.SYS_STATE_PREV, fun _ => R.SYS_STATE_CUR]⟩,
   ⟨"SYS.RUNCTL", 0x40000044, 4, 1,
      [fun _ => R.SYS_RUNCTL_REFUSE, fun _ => R.SYS_RUNCTL_STOP, fun _ => R.SYS_RUNCTL_RUN]⟩,
   ⟨"SYS.HOLDCAUSE", 0x40000048, 4, 1,
      [fun _ => R.SYS_HOLDCAUSE_TURN, fun _ => R.SYS_HOLDCAUSE_CAUSE]⟩,
   ⟨"SYS.RSTCAUSE", 0x40000080, 4, 1,
      [fun _ => R.SYS_RSTCAUSE_PREV, fun _ => R.SYS_RSTCAUSE_SWRST, fun _ => R.SYS_RSTCAUSE_BIST, fun _ => R.SYS_RSTCAUSE_CLOCK, fun _ => R.SYS_RSTCAUSE_VIO18, fun _ => R.SYS_RSTCAUSE_VIO33, fun _ => R.SYS_RSTCAUSE_VCORE, fun _ => R.SYS_RSTCAUSE_VSYS, fun _ => R.SYS_RSTCAUSE_NRST, fun _ => R.SYS_RSTCAUSE_POR]⟩,
   ⟨"SYS.RSTCTL", 0x40000084, 4, 1,
      [fun _ => R.SYS_RSTCTL_KEY, fun _ => R.SYS_RSTCTL_DPBUSY, fun _ => R.SYS_RSTCTL_RSTREJ, fun _ => R.SYS_RSTCTL_DPRST, fun _ => R.SYS_RSTCTL_SWRST]⟩,
   ⟨"SYS.RSTCNT", 0x40000088, 4, 1,
      [fun _ => R.SYS_RSTCNT_COUNT]⟩,
   ⟨"SYS.CLKSTAT", 0x40000090, 4, 1,
      [fun _ => R.SYS_CLKSTAT_CLKFLT, fun _ => R.SYS_CLKSTAT_FAULT, fun _ => R.SYS_CLKSTAT_XTALOK, fun _ => R.SYS_CLKSTAT_PLLLOCK]⟩,
   ⟨"SYS.SUPSTAT", 0x400000A0, 4, 1,
      [fun _ => R.SYS_SUPSTAT_WIN]⟩,
   ⟨"SYS.SUPLAT", 0x400000A4, 4, 1,
      [fun _ => R.SYS_SUPLAT_WIN]⟩,
   ⟨"SYS.ID", 0x40000000, 4, 1,
      [fun _ => R.SYS_ID_PART]⟩,
   ⟨"SYS.REV", 0x40000004, 4, 1,
      [fun _ => R.SYS_REV_MAJOR, fun _ => R.SYS_REV_MINOR]⟩,
   ⟨"SYS.CAP0", 0x40000008, 4, 1,
      [fun _ => R.SYS_CAP0_UNITS]⟩]

/-- The registers of SYS, part 1. -/
def RegMap.sys1 : List RegDef :=
  [⟨"SYS.CAP1", 0x4000000C, 4, 1,
      [fun _ => R.SYS_CAP1_FEAT]⟩,
   ⟨"SYS.ABSENT", 0x40000010, 4, 1,
      [fun _ => R.SYS_ABSENT_COUNT, fun _ => R.SYS_ABSENT_REQ, fun _ => R.SYS_ABSENT_WR, fun _ => R.SYS_ABSENT_FLAG]⟩,
   ⟨"SYS.ABSENT_ADDR", 0x40000014, 4, 1,
      [fun _ => R.SYS_ABSENT_ADDR_ADDR]⟩,
   ⟨"SYS.TSC_LO", 0x40000050, 4, 1,
      [fun _ => R.SYS_TSC_LO_COUNT]⟩,
   ⟨"SYS.TSC_HI", 0x40000054, 4, 1,
      [fun _ => R.SYS_TSC_HI_COUNT]⟩]

/-! ## WHEEL -/

/-! WHEEL.INFO (R80, 02_wheel_engine). -/
def R.WHEEL_INFO_DBANKS : Fld := ⟨0x40100000, 16, 8, .ro, 0x10⟩
def R.WHEEL_INFO_IBUNDLES : Fld := ⟨0x40100000, 0, 16, .ro, 0x4000⟩

/-! WHEEL.STAT (R80, 02_wheel_engine). -/
def R.WHEEL_STAT_DBGHALT : Fld := ⟨0x40100010, 3, 1, .ro, 0⟩
def R.WHEEL_STAT_HALTED : Fld := ⟨0x40100010, 2, 1, .ro, 0⟩
def R.WHEEL_STAT_IDLE : Fld := ⟨0x40100010, 1, 1, .ro, 0⟩
def R.WHEEL_STAT_TURNING : Fld := ⟨0x40100010, 0, 1, .ro, 0⟩

/-! WHEEL.TURNCNT (R80, 02_wheel_engine). -/
def R.WHEEL_TURNCNT_COUNT : Fld := ⟨0x40100014, 0, 32, .ro, 0⟩

/-! WHEEL.TLEN (R80, 02_wheel_engine). -/
def R.WHEEL_TLEN_CYCLES : Fld := ⟨0x40100018, 0, 32, .ro, 0⟩

/-! WHEEL.TLENMAX (R80, 02_wheel_engine). -/
def R.WHEEL_TLENMAX_CYCLES : Fld := ⟨0x4010001C, 0, 32, .ro, 0⟩

/-! WHEEL.NUMSTAT (R80, 02_wheel_engine). -/
def R.WHEEL_NUMSTAT_SAT : Fld := ⟨0x40100020, 5, 1, .w1c, 0⟩
def R.WHEEL_NUMSTAT_CVT : Fld := ⟨0x40100020, 4, 1, .w1c, 0⟩
def R.WHEEL_NUMSTAT_UNF : Fld := ⟨0x40100020, 3, 1, .w1c, 0⟩
def R.WHEEL_NUMSTAT_OVF : Fld := ⟨0x40100020, 2, 1, .w1c, 0⟩
def R.WHEEL_NUMSTAT_DZ : Fld := ⟨0x40100020, 1, 1, .w1c, 0⟩
def R.WHEEL_NUMSTAT_INV : Fld := ⟨0x40100020, 0, 1, .w1c, 0⟩

/-! WHEEL.XSTAT (R80, 02_wheel_engine). -/
def R.WHEEL_XSTAT_XPOISON : Fld := ⟨0x40100024, 1, 1, .w1c, 0⟩
def R.WHEEL_XSTAT_NANDROP : Fld := ⟨0x40100024, 0, 1, .w1c, 0⟩

/-! WHEEL.NANDROPCNT (R80, 02_wheel_engine). -/
def R.WHEEL_NANDROPCNT_COUNT : Fld := ⟨0x40100028, 0, 16, .ro, 0⟩

/-! WHEEL.XPOISONCNT (R80, 02_wheel_engine). -/
def R.WHEEL_XPOISONCNT_COUNT : Fld := ⟨0x4010002C, 0, 16, .ro, 0⟩

/-! WHEEL.ECCCNT (R80, 02_wheel_engine). -/
def R.WHEEL_ECCCNT_CMEM : Fld := ⟨0x40100030, 16, 8, .ro, 0⟩
def R.WHEEL_ECCCNT_DMEM : Fld := ⟨0x40100030, 8, 8, .ro, 0⟩
def R.WHEEL_ECCCNT_IMEM : Fld := ⟨0x40100030, 0, 8, .ro, 0⟩

/-! WHEEL.ECCADDR (R80, 02_wheel_engine). -/
def R.WHEEL_ECCADDR_MEM : Fld := ⟨0x40100034, 30, 2, .ro, 0⟩
def R.WHEEL_ECCADDR_ADDR : Fld := ⟨0x40100034, 0, 17, .ro, 0⟩

/-! WHEEL.HALTPC (R80, 02_wheel_engine). -/
def R.WHEEL_HALTPC_VALID : Fld := ⟨0x40100038, 31, 1, .ro, 0⟩
def R.WHEEL_HALTPC_IDLE : Fld := ⟨0x40100038, 30, 1, .ro, 0⟩
def R.WHEEL_HALTPC_PC : Fld := ⟨0x40100038, 0, 14, .ro, 0⟩

/-! WHEEL.ARMOD (R80, 02_wheel_engine). -/
def R.WHEEL_ARMOD_LEN (i : Nat) : Fld := ⟨0x40100040 + 0x4 * i, 0, 13, .rwb, 0⟩

/-! WHEEL.DBG (R80, 02_wheel_engine). -/
def R.WHEEL_DBG_HALTED : Fld := ⟨0x40100080, 8, 1, .ro, 0⟩
def R.WHEEL_DBG_STEP : Fld := ⟨0x40100080, 1, 1, .w1s, 0⟩
def R.WHEEL_DBG_HALT : Fld := ⟨0x40100080, 0, 1, .rw, 0⟩

/-- The registers of WHEEL, part 0. -/
def RegMap.wheel0 : List RegDef :=
  [⟨"WHEEL.INFO", 0x40100000, 4, 1,
      [fun _ => R.WHEEL_INFO_DBANKS, fun _ => R.WHEEL_INFO_IBUNDLES]⟩,
   ⟨"WHEEL.STAT", 0x40100010, 4, 1,
      [fun _ => R.WHEEL_STAT_DBGHALT, fun _ => R.WHEEL_STAT_HALTED, fun _ => R.WHEEL_STAT_IDLE, fun _ => R.WHEEL_STAT_TURNING]⟩,
   ⟨"WHEEL.TURNCNT", 0x40100014, 4, 1,
      [fun _ => R.WHEEL_TURNCNT_COUNT]⟩,
   ⟨"WHEEL.TLEN", 0x40100018, 4, 1,
      [fun _ => R.WHEEL_TLEN_CYCLES]⟩,
   ⟨"WHEEL.TLENMAX", 0x4010001C, 4, 1,
      [fun _ => R.WHEEL_TLENMAX_CYCLES]⟩,
   ⟨"WHEEL.NUMSTAT", 0x40100020, 4, 1,
      [fun _ => R.WHEEL_NUMSTAT_SAT, fun _ => R.WHEEL_NUMSTAT_CVT, fun _ => R.WHEEL_NUMSTAT_UNF, fun _ => R.WHEEL_NUMSTAT_OVF, fun _ => R.WHEEL_NUMSTAT_DZ, fun _ => R.WHEEL_NUMSTAT_INV]⟩,
   ⟨"WHEEL.XSTAT", 0x40100024, 4, 1,
      [fun _ => R.WHEEL_XSTAT_XPOISON, fun _ => R.WHEEL_XSTAT_NANDROP]⟩,
   ⟨"WHEEL.NANDROPCNT", 0x40100028, 4, 1,
      [fun _ => R.WHEEL_NANDROPCNT_COUNT]⟩,
   ⟨"WHEEL.XPOISONCNT", 0x4010002C, 4, 1,
      [fun _ => R.WHEEL_XPOISONCNT_COUNT]⟩,
   ⟨"WHEEL.ECCCNT", 0x40100030, 4, 1,
      [fun _ => R.WHEEL_ECCCNT_CMEM, fun _ => R.WHEEL_ECCCNT_DMEM, fun _ => R.WHEEL_ECCCNT_IMEM]⟩,
   ⟨"WHEEL.ECCADDR", 0x40100034, 4, 1,
      [fun _ => R.WHEEL_ECCADDR_MEM, fun _ => R.WHEEL_ECCADDR_ADDR]⟩,
   ⟨"WHEEL.HALTPC", 0x40100038, 4, 1,
      [fun _ => R.WHEEL_HALTPC_VALID, fun _ => R.WHEEL_HALTPC_IDLE, fun _ => R.WHEEL_HALTPC_PC]⟩]

/-- The registers of WHEEL, part 1. -/
def RegMap.wheel1 : List RegDef :=
  [⟨"WHEEL.ARMOD", 0x40100040, 0x4, 16,
      [R.WHEEL_ARMOD_LEN]⟩,
   ⟨"WHEEL.DBG", 0x40100080, 4, 1,
      [fun _ => R.WHEEL_DBG_HALTED, fun _ => R.WHEEL_DBG_STEP, fun _ => R.WHEEL_DBG_HALT]⟩]

/-! ## XWIN -/

/-! XWIN.CFG (R106, 03_schedule_contract). -/
def R.XWIN_CFG_CRIT (i : Nat) : Fld := ⟨0x40110000 + 0x10 * i, 1, 1, .ro, 0⟩
def R.XWIN_CFG_DIR (i : Nat) : Fld := ⟨0x40110000 + 0x10 * i, 0, 1, .ro, 0⟩

/-! XWIN.CTL (R106, 03_schedule_contract). -/
def R.XWIN_CTL_HOLD (i : Nat) : Fld := ⟨0x40110004 + 0x10 * i, 1, 1, .rw, 0⟩
def R.XWIN_CTL_COMMIT (i : Nat) : Fld := ⟨0x40110004 + 0x10 * i, 0, 1, .w1s, 0⟩

/-! XWIN.STAT (R106, 03_schedule_contract). -/
def R.XWIN_STAT_SEQ (i : Nat) : Fld := ⟨0x40110008 + 0x10 * i, 16, 16, .ro, 0⟩
def R.XWIN_STAT_IPOISON (i : Nat) : Fld := ⟨0x40110008 + 0x10 * i, 3, 1, .w1c, 0⟩
def R.XWIN_STAT_HELD (i : Nat) : Fld := ⟨0x40110008 + 0x10 * i, 2, 1, .ro, 0⟩
def R.XWIN_STAT_WDROP (i : Nat) : Fld := ⟨0x40110008 + 0x10 * i, 1, 1, .w1c, 0⟩
def R.XWIN_STAT_SWAPPED (i : Nat) : Fld := ⟨0x40110008 + 0x10 * i, 0, 1, .ro, 0⟩

/-- The registers of XWIN, part 0. -/
def RegMap.xwin0 : List RegDef :=
  [⟨"XWIN.CFG", 0x40110000, 0x10, 8,
      [R.XWIN_CFG_CRIT, R.XWIN_CFG_DIR]⟩,
   ⟨"XWIN.CTL", 0x40110004, 0x10, 8,
      [R.XWIN_CTL_HOLD, R.XWIN_CTL_COMMIT]⟩,
   ⟨"XWIN.STAT", 0x40110008, 0x10, 8,
      [R.XWIN_STAT_SEQ, R.XWIN_STAT_IPOISON, R.XWIN_STAT_HELD, R.XWIN_STAT_WDROP, R.XWIN_STAT_SWAPPED]⟩]

/-! ## ADC -/

/-! ADC.INFO (R136, 04_sampling). -/
def R.ADC_INFO_NAIN : Fld := ⟨0x40200000, 16, 8, .ro, 0x30⟩
def R.ADC_INFO_NSD : Fld := ⟨0x40200000, 8, 8, .ro, 6⟩
def R.ADC_INFO_NCONV : Fld := ⟨0x40200000, 0, 8, .ro, 0x10⟩

/-! ADC.CTL (R136, 04_sampling). -/
def R.ADC_CTL_ADTFILT : Fld := ⟨0x40200004, 8, 4, .rwb, 0⟩
def R.ADC_CTL_ADTEDGE : Fld := ⟨0x40200004, 4, 2, .rwb, 0⟩
def R.ADC_CTL_VREFSEL : Fld := ⟨0x40200004, 0, 1, .rwb, 0⟩

/-! ADC.CAL (R136, 04_sampling). -/
def R.ADC_CAL_FAIL : Fld := ⟨0x40200008, 16, 16, .ro, 0⟩
def R.ADC_CAL_DONE : Fld := ⟨0x40200008, 2, 1, .ro, 0⟩
def R.ADC_CAL_BUSY : Fld := ⟨0x40200008, 1, 1, .ro, 0⟩
def R.ADC_CAL_START : Fld := ⟨0x40200008, 0, 1, .w1s, 0⟩

/-! ADC.STAT (R136, 04_sampling). -/
def R.ADC_STAT_OVRCNT : Fld := ⟨0x4020000C, 16, 16, .ro, 0⟩
def R.ADC_STAT_OVRGRP : Fld := ⟨0x4020000C, 8, 8, .w1c, 0⟩
def R.ADC_STAT_OVR : Fld := ⟨0x4020000C, 2, 1, .w1c, 0⟩
def R.ADC_STAT_CALREJ : Fld := ⟨0x4020000C, 1, 1, .w1c, 0⟩
def R.ADC_STAT_CFGREJ : Fld := ⟨0x4020000C, 0, 1, .w1c, 0⟩

/-! ADC.FLAG (R136, 04_sampling). -/
def R.ADC_FLAG_CLIP : Fld := ⟨0x40200010, 16, 16, .w1c, 0⟩
def R.ADC_FLAG_STUCK : Fld := ⟨0x40200010, 0, 16, .w1c, 0⟩

/-! ADC.GCFG (R136, 04_sampling). -/
def R.ADC_GCFG_SRC (i : Nat) : Fld := ⟨0x40200100 + 0x20 * i, 28, 3, .rwb, 0⟩
def R.ADC_GCFG_SEQLEN (i : Nat) : Fld := ⟨0x40200100 + 0x20 * i, 24, 2, .rwb, 1⟩
def R.ADC_GCFG_NACQ (i : Nat) : Fld := ⟨0x40200100 + 0x20 * i, 16, 7, .rwb, 5⟩
def R.ADC_GCFG_MEMBERS (i : Nat) : Fld := ⟨0x40200100 + 0x20 * i, 0, 16, .rwb, 0⟩

/-! ADC.GMUX0 (R136, 04_sampling). -/
def R.ADC_GMUX0_SEL0 (i : Nat) : Fld := ⟨0x40200104 + 0x20 * i, 0, 2, .rwb, 0⟩
def R.ADC_GMUX0_SEL1 (i : Nat) : Fld := ⟨0x40200104 + 0x20 * i, 2, 2, .rwb, 0⟩
def R.ADC_GMUX0_SEL2 (i : Nat) : Fld := ⟨0x40200104 + 0x20 * i, 4, 2, .rwb, 0⟩
def R.ADC_GMUX0_SEL3 (i : Nat) : Fld := ⟨0x40200104 + 0x20 * i, 6, 2, .rwb, 0⟩
def R.ADC_GMUX0_SEL4 (i : Nat) : Fld := ⟨0x40200104 + 0x20 * i, 8, 2, .rwb, 0⟩
def R.ADC_GMUX0_SEL5 (i : Nat) : Fld := ⟨0x40200104 + 0x20 * i, 10, 2, .rwb, 0⟩
def R.ADC_GMUX0_SEL6 (i : Nat) : Fld := ⟨0x40200104 + 0x20 * i, 12, 2, .rwb, 0⟩
def R.ADC_GMUX0_SEL7 (i : Nat) : Fld := ⟨0x40200104 + 0x20 * i, 14, 2, .rwb, 0⟩
def R.ADC_GMUX0_SEL8 (i : Nat) : Fld := ⟨0x40200104 + 0x20 * i, 16, 2, .rwb, 0⟩
def R.ADC_GMUX0_SEL9 (i : Nat) : Fld := ⟨0x40200104 + 0x20 * i, 18, 2, .rwb, 0⟩
def R.ADC_GMUX0_SEL10 (i : Nat) : Fld := ⟨0x40200104 + 0x20 * i, 20, 2, .rwb, 0⟩
def R.ADC_GMUX0_SEL11 (i : Nat) : Fld := ⟨0x40200104 + 0x20 * i, 22, 2, .rwb, 0⟩
def R.ADC_GMUX0_SEL12 (i : Nat) : Fld := ⟨0x40200104 + 0x20 * i, 24, 2, .rwb, 0⟩
def R.ADC_GMUX0_SEL13 (i : Nat) : Fld := ⟨0x40200104 + 0x20 * i, 26, 2, .rwb, 0⟩
def R.ADC_GMUX0_SEL14 (i : Nat) : Fld := ⟨0x40200104 + 0x20 * i, 28, 2, .rwb, 0⟩
def R.ADC_GMUX0_SEL15 (i : Nat) : Fld := ⟨0x40200104 + 0x20 * i, 30, 2, .rwb, 0⟩

/-! ADC.GMUX1 (R136, 04_sampling). -/
def R.ADC_GMUX1_SEL0 (i : Nat) : Fld := ⟨0x40200108 + 0x20 * i, 0, 2, .rwb, 0⟩
def R.ADC_GMUX1_SEL1 (i : Nat) : Fld := ⟨0x40200108 + 0x20 * i, 2, 2, .rwb, 0⟩
def R.ADC_GMUX1_SEL2 (i : Nat) : Fld := ⟨0x40200108 + 0x20 * i, 4, 2, .rwb, 0⟩
def R.ADC_GMUX1_SEL3 (i : Nat) : Fld := ⟨0x40200108 + 0x20 * i, 6, 2, .rwb, 0⟩
def R.ADC_GMUX1_SEL4 (i : Nat) : Fld := ⟨0x40200108 + 0x20 * i, 8, 2, .rwb, 0⟩
def R.ADC_GMUX1_SEL5 (i : Nat) : Fld := ⟨0x40200108 + 0x20 * i, 10, 2, .rwb, 0⟩
def R.ADC_GMUX1_SEL6 (i : Nat) : Fld := ⟨0x40200108 + 0x20 * i, 12, 2, .rwb, 0⟩
def R.ADC_GMUX1_SEL7 (i : Nat) : Fld := ⟨0x40200108 + 0x20 * i, 14, 2, .rwb, 0⟩
def R.ADC_GMUX1_SEL8 (i : Nat) : Fld := ⟨0x40200108 + 0x20 * i, 16, 2, .rwb, 0⟩
def R.ADC_GMUX1_SEL9 (i : Nat) : Fld := ⟨0x40200108 + 0x20 * i, 18, 2, .rwb, 0⟩
def R.ADC_GMUX1_SEL10 (i : Nat) : Fld := ⟨0x40200108 + 0x20 * i, 20, 2, .rwb, 0⟩
def R.ADC_GMUX1_SEL11 (i : Nat) : Fld := ⟨0x40200108 + 0x20 * i, 22, 2, .rwb, 0⟩
def R.ADC_GMUX1_SEL12 (i : Nat) : Fld := ⟨0x40200108 + 0x20 * i, 24, 2, .rwb, 0⟩
def R.ADC_GMUX1_SEL13 (i : Nat) : Fld := ⟨0x40200108 + 0x20 * i, 26, 2, .rwb, 0⟩
def R.ADC_GMUX1_SEL14 (i : Nat) : Fld := ⟨0x40200108 + 0x20 * i, 28, 2, .rwb, 0⟩
def R.ADC_GMUX1_SEL15 (i : Nat) : Fld := ⟨0x40200108 + 0x20 * i, 30, 2, .rwb, 0⟩

/-! ADC.GMUX2 (R136, 04_sampling). -/
def R.ADC_GMUX2_SEL0 (i : Nat) : Fld := ⟨0x4020010C + 0x20 * i, 0, 2, .rwb, 0⟩
def R.ADC_GMUX2_SEL1 (i : Nat) : Fld := ⟨0x4020010C + 0x20 * i, 2, 2, .rwb, 0⟩
def R.ADC_GMUX2_SEL2 (i : Nat) : Fld := ⟨0x4020010C + 0x20 * i, 4, 2, .rwb, 0⟩
def R.ADC_GMUX2_SEL3 (i : Nat) : Fld := ⟨0x4020010C + 0x20 * i, 6, 2, .rwb, 0⟩
def R.ADC_GMUX2_SEL4 (i : Nat) : Fld := ⟨0x4020010C + 0x20 * i, 8, 2, .rwb, 0⟩
def R.ADC_GMUX2_SEL5 (i : Nat) : Fld := ⟨0x4020010C + 0x20 * i, 10, 2, .rwb, 0⟩
def R.ADC_GMUX2_SEL6 (i : Nat) : Fld := ⟨0x4020010C + 0x20 * i, 12, 2, .rwb, 0⟩
def R.ADC_GMUX2_SEL7 (i : Nat) : Fld := ⟨0x4020010C + 0x20 * i, 14, 2, .rwb, 0⟩
def R.ADC_GMUX2_SEL8 (i : Nat) : Fld := ⟨0x4020010C + 0x20 * i, 16, 2, .rwb, 0⟩
def R.ADC_GMUX2_SEL9 (i : Nat) : Fld := ⟨0x4020010C + 0x20 * i, 18, 2, .rwb, 0⟩
def R.ADC_GMUX2_SEL10 (i : Nat) : Fld := ⟨0x4020010C + 0x20 * i, 20, 2, .rwb, 0⟩
def R.ADC_GMUX2_SEL11 (i : Nat) : Fld := ⟨0x4020010C + 0x20 * i, 22, 2, .rwb, 0⟩
def R.ADC_GMUX2_SEL12 (i : Nat) : Fld := ⟨0x4020010C + 0x20 * i, 24, 2, .rwb, 0⟩
def R.ADC_GMUX2_SEL13 (i : Nat) : Fld := ⟨0x4020010C + 0x20 * i, 26, 2, .rwb, 0⟩
def R.ADC_GMUX2_SEL14 (i : Nat) : Fld := ⟨0x4020010C + 0x20 * i, 28, 2, .rwb, 0⟩
def R.ADC_GMUX2_SEL15 (i : Nat) : Fld := ⟨0x4020010C + 0x20 * i, 30, 2, .rwb, 0⟩

/-! ADC.GTRIG (R136, 04_sampling). -/
def R.ADC_GTRIG_EVT (i : Nat) : Fld := ⟨0x40200110 + 0x20 * i, 2, 2, .rwb, 0⟩
def R.ADC_GTRIG_TB (i : Nat) : Fld := ⟨0x40200110 + 0x20 * i, 0, 2, .rwb, 0⟩

/-! ADC.GTCMP (R136, 04_sampling). -/
def R.ADC_GTCMP_CMP (i : Nat) : Fld := ⟨0x40200114 + 0x20 * i, 0, 32, .rwb, 0⟩

/-! ADC.GSW (R136, 04_sampling). -/
def R.ADC_GSW_DONE (i : Nat) : Fld := ⟨0x40200118 + 0x20 * i, 2, 1, .w1c, 0⟩
def R.ADC_GSW_BUSY (i : Nat) : Fld := ⟨0x40200118 + 0x20 * i, 1, 1, .ro, 0⟩
def R.ADC_GSW_SWTRIG (i : Nat) : Fld := ⟨0x40200118 + 0x20 * i, 0, 1, .w1s, 0⟩

/-! ADC.CONV (R136, 04_sampling). -/
def R.ADC_CONV_CALGAIN (i : Nat) : Fld := ⟨0x40201000 + 0x10 * i, 16, 16, .ro, 0x8000⟩
def R.ADC_CONV_CALOFS (i : Nat) : Fld := ⟨0x40201000 + 0x10 * i, 0, 16, .ro, 0⟩

/-! ADC.CCFG (R136, 04_sampling). -/
def R.ADC_CCFG_STUCKN (i : Nat) : Fld := ⟨0x40201004 + 0x10 * i, 16, 8, .rwb, 0⟩
def R.ADC_CCFG_STKINV (i : Nat) : Fld := ⟨0x40201004 + 0x10 * i, 8, 1, .rwb, 0⟩
def R.ADC_CCFG_RSH (i : Nat) : Fld := ⟨0x40201004 + 0x10 * i, 4, 4, .rwb, 0⟩
def R.ADC_CCFG_CLIPMODE (i : Nat) : Fld := ⟨0x40201004 + 0x10 * i, 1, 2, .rwb, 0⟩
def R.ADC_CCFG_PDIFF (i : Nat) : Fld := ⟨0x40201004 + 0x10 * i, 0, 1, .rwb, 0⟩

/-! ADC.UOFS (R136, 04_sampling). -/
def R.ADC_UOFS_VALUE (i : Nat) : Fld := ⟨0x40201008 + 0x10 * i, 0, 32, .rwb, 0⟩

/-! ADC.UGAIN (R136, 04_sampling). -/
def R.ADC_UGAIN_VALUE (i : Nat) : Fld := ⟨0x4020100C + 0x10 * i, 0, 32, .rwb, 0x3F800000⟩

/-! ADC.RES (R136, 04_sampling). -/
def R.ADC_RES_SEQ (i : Nat) : Fld := ⟨0x40201800 + 0x4 * i, 24, 8, .ro, 0⟩
def R.ADC_RES_SAT (i : Nat) : Fld := ⟨0x40201800 + 0x4 * i, 18, 1, .ro, 0⟩
def R.ADC_RES_CLIP (i : Nat) : Fld := ⟨0x40201800 + 0x4 * i, 17, 1, .ro, 0⟩
def R.ADC_RES_VALID (i : Nat) : Fld := ⟨0x40201800 + 0x4 * i, 16, 1, .ro, 0⟩
def R.ADC_RES_VALUE (i : Nat) : Fld := ⟨0x40201800 + 0x4 * i, 0, 16, .ro, 0⟩

/-! ADC.SDCFG (R136, 04_sampling). -/
def R.ADC_SDCFG_SYNCTB (i : Nat) : Fld := ⟨0x40202000 + 0x20 * i, 18, 2, .rwb, 0⟩
def R.ADC_SDCFG_SYNC (i : Nat) : Fld := ⟨0x40202000 + 0x20 * i, 16, 2, .rwb, 0⟩
def R.ADC_SDCFG_OSR (i : Nat) : Fld := ⟨0x40202000 + 0x20 * i, 4, 9, .rwb, 0x40⟩
def R.ADC_SDCFG_EDGE (i : Nat) : Fld := ⟨0x40202000 + 0x20 * i, 1, 1, .rwb, 0⟩
def R.ADC_SDCFG_EN (i : Nat) : Fld := ⟨0x40202000 + 0x20 * i, 0, 1, .rwb, 0⟩

/-! ADC.SDOFS (R136, 04_sampling). -/
def R.ADC_SDOFS_VALUE (i : Nat) : Fld := ⟨0x40202004 + 0x20 * i, 0, 32, .rwb, 0⟩

/-! ADC.SDGAIN (R136, 04_sampling). -/
def R.ADC_SDGAIN_VALUE (i : Nat) : Fld := ⟨0x40202008 + 0x20 * i, 0, 32, .rwb, 0x3F800000⟩

/-! ADC.SDRES (R136, 04_sampling). -/
def R.ADC_SDRES_VALUE (i : Nat) : Fld := ⟨0x4020200C + 0x20 * i, 0, 32, .ro, 0⟩

/-! ADC.SDSTAT (R136, 04_sampling). -/
def R.ADC_SDSTAT_OUTCNT (i : Nat) : Fld := ⟨0x40202010 + 0x20 * i, 8, 8, .ro, 0⟩
def R.ADC_SDSTAT_RESYNC (i : Nat) : Fld := ⟨0x40202010 + 0x20 * i, 2, 1, .w1c, 0⟩
def R.ADC_SDSTAT_STUCK (i : Nat) : Fld := ⟨0x40202010 + 0x20 * i, 1, 1, .w1c, 0⟩
def R.ADC_SDSTAT_VALID (i : Nat) : Fld := ⟨0x40202010 + 0x20 * i, 0, 1, .ro, 0⟩

/-- The registers of ADC, part 0. -/
def RegMap.adc0 : List RegDef :=
  [⟨"ADC.INFO", 0x40200000, 4, 1,
      [fun _ => R.ADC_INFO_NAIN, fun _ => R.ADC_INFO_NSD, fun _ => R.ADC_INFO_NCONV]⟩,
   ⟨"ADC.CTL", 0x40200004, 4, 1,
      [fun _ => R.ADC_CTL_ADTFILT, fun _ => R.ADC_CTL_ADTEDGE, fun _ => R.ADC_CTL_VREFSEL]⟩,
   ⟨"ADC.CAL", 0x40200008, 4, 1,
      [fun _ => R.ADC_CAL_FAIL, fun _ => R.ADC_CAL_DONE, fun _ => R.ADC_CAL_BUSY, fun _ => R.ADC_CAL_START]⟩,
   ⟨"ADC.STAT", 0x4020000C, 4, 1,
      [fun _ => R.ADC_STAT_OVRCNT, fun _ => R.ADC_STAT_OVRGRP, fun _ => R.ADC_STAT_OVR, fun _ => R.ADC_STAT_CALREJ, fun _ => R.ADC_STAT_CFGREJ]⟩,
   ⟨"ADC.FLAG", 0x40200010, 4, 1,
      [fun _ => R.ADC_FLAG_CLIP, fun _ => R.ADC_FLAG_STUCK]⟩,
   ⟨"ADC.GCFG", 0x40200100, 0x20, 8,
      [R.ADC_GCFG_SRC, R.ADC_GCFG_SEQLEN, R.ADC_GCFG_NACQ, R.ADC_GCFG_MEMBERS]⟩,
   ⟨"ADC.GMUX0", 0x40200104, 0x20, 8,
      [R.ADC_GMUX0_SEL0, R.ADC_GMUX0_SEL1, R.ADC_GMUX0_SEL2, R.ADC_GMUX0_SEL3, R.ADC_GMUX0_SEL4, R.ADC_GMUX0_SEL5, R.ADC_GMUX0_SEL6, R.ADC_GMUX0_SEL7, R.ADC_GMUX0_SEL8, R.ADC_GMUX0_SEL9, R.ADC_GMUX0_SEL10, R.ADC_GMUX0_SEL11, R.ADC_GMUX0_SEL12, R.ADC_GMUX0_SEL13, R.ADC_GMUX0_SEL14, R.ADC_GMUX0_SEL15]⟩,
   ⟨"ADC.GMUX1", 0x40200108, 0x20, 8,
      [R.ADC_GMUX1_SEL0, R.ADC_GMUX1_SEL1, R.ADC_GMUX1_SEL2, R.ADC_GMUX1_SEL3, R.ADC_GMUX1_SEL4, R.ADC_GMUX1_SEL5, R.ADC_GMUX1_SEL6, R.ADC_GMUX1_SEL7, R.ADC_GMUX1_SEL8, R.ADC_GMUX1_SEL9, R.ADC_GMUX1_SEL10, R.ADC_GMUX1_SEL11, R.ADC_GMUX1_SEL12, R.ADC_GMUX1_SEL13, R.ADC_GMUX1_SEL14, R.ADC_GMUX1_SEL15]⟩,
   ⟨"ADC.GMUX2", 0x4020010C, 0x20, 8,
      [R.ADC_GMUX2_SEL0, R.ADC_GMUX2_SEL1, R.ADC_GMUX2_SEL2, R.ADC_GMUX2_SEL3, R.ADC_GMUX2_SEL4, R.ADC_GMUX2_SEL5, R.ADC_GMUX2_SEL6, R.ADC_GMUX2_SEL7, R.ADC_GMUX2_SEL8, R.ADC_GMUX2_SEL9, R.ADC_GMUX2_SEL10, R.ADC_GMUX2_SEL11, R.ADC_GMUX2_SEL12, R.ADC_GMUX2_SEL13, R.ADC_GMUX2_SEL14, R.ADC_GMUX2_SEL15]⟩,
   ⟨"ADC.GTRIG", 0x40200110, 0x20, 8,
      [R.ADC_GTRIG_EVT, R.ADC_GTRIG_TB]⟩,
   ⟨"ADC.GTCMP", 0x40200114, 0x20, 8,
      [R.ADC_GTCMP_CMP]⟩,
   ⟨"ADC.GSW", 0x40200118, 0x20, 8,
      [R.ADC_GSW_DONE, R.ADC_GSW_BUSY, R.ADC_GSW_SWTRIG]⟩]

/-- The registers of ADC, part 1. -/
def RegMap.adc1 : List RegDef :=
  [⟨"ADC.CONV", 0x40201000, 0x10, 16,
      [R.ADC_CONV_CALGAIN, R.ADC_CONV_CALOFS]⟩,
   ⟨"ADC.CCFG", 0x40201004, 0x10, 16,
      [R.ADC_CCFG_STUCKN, R.ADC_CCFG_STKINV, R.ADC_CCFG_RSH, R.ADC_CCFG_CLIPMODE, R.ADC_CCFG_PDIFF]⟩,
   ⟨"ADC.UOFS", 0x40201008, 0x10, 16,
      [R.ADC_UOFS_VALUE]⟩,
   ⟨"ADC.UGAIN", 0x4020100C, 0x10, 16,
      [R.ADC_UGAIN_VALUE]⟩,
   ⟨"ADC.RES", 0x40201800, 0x4, 48,
      [R.ADC_RES_SEQ, R.ADC_RES_SAT, R.ADC_RES_CLIP, R.ADC_RES_VALID, R.ADC_RES_VALUE]⟩,
   ⟨"ADC.SDCFG", 0x40202000, 0x20, 6,
      [R.ADC_SDCFG_SYNCTB, R.ADC_SDCFG_SYNC, R.ADC_SDCFG_OSR, R.ADC_SDCFG_EDGE, R.ADC_SDCFG_EN]⟩,
   ⟨"ADC.SDOFS", 0x40202004, 0x20, 6,
      [R.ADC_SDOFS_VALUE]⟩,
   ⟨"ADC.SDGAIN", 0x40202008, 0x20, 6,
      [R.ADC_SDGAIN_VALUE]⟩,
   ⟨"ADC.SDRES", 0x4020200C, 0x20, 6,
      [R.ADC_SDRES_VALUE]⟩,
   ⟨"ADC.SDSTAT", 0x40202010, 0x20, 6,
      [R.ADC_SDSTAT_OUTCNT, R.ADC_SDSTAT_RESYNC, R.ADC_SDSTAT_STUCK, R.ADC_SDSTAT_VALID]⟩]

/-! ## POS -/

/-! POS.INFO (R158, 05_position). -/
def R.POS_INFO_NSENT : Fld := ⟨0x40210000, 12, 4, .ro, 4⟩
def R.POS_INFO_NHALL : Fld := ⟨0x40210000, 8, 4, .ro, 2⟩
def R.POS_INFO_NENC : Fld := ⟨0x40210000, 4, 4, .ro, 2⟩
def R.POS_INFO_NRES : Fld := ⟨0x40210000, 0, 4, .ro, 2⟩

/-! POS.STAT (R158, 05_position). -/
def R.POS_STAT_CFGREJ : Fld := ⟨0x40210004, 0, 1, .w1c, 0⟩

/-! POS.VALID (R158, 05_position). -/
def R.POS_VALID_SRC : Fld := ⟨0x40210008, 0, 20, .ro, 0⟩

/-! POS.RXCFG (R158, 05_position). -/
def R.POS_RXCFG_PER (i : Nat) : Fld := ⟨0x40210100 + 0x20 * i, 16, 15, .rwb, 0⟩
def R.POS_RXCFG_LOSN (i : Nat) : Fld := ⟨0x40210100 + 0x20 * i, 8, 8, .rwb, 8⟩
def R.POS_RXCFG_AMPL (i : Nat) : Fld := ⟨0x40210100 + 0x20 * i, 4, 4, .rwb, 0⟩
def R.POS_RXCFG_LOCK (i : Nat) : Fld := ⟨0x40210100 + 0x20 * i, 1, 1, .rwb, 0⟩

/-! POS.RXMON (R158, 05_position). -/
def R.POS_RXMON_AMPN (i : Nat) : Fld := ⟨0x40210104 + 0x20 * i, 24, 8, .rwb, 8⟩
def R.POS_RXMON_PHDLY (i : Nat) : Fld := ⟨0x40210104 + 0x20 * i, 8, 16, .rwb, 0⟩
def R.POS_RXMON_COSCONV (i : Nat) : Fld := ⟨0x40210104 + 0x20 * i, 4, 4, .rwb, 0⟩
def R.POS_RXMON_SINCONV (i : Nat) : Fld := ⟨0x40210104 + 0x20 * i, 0, 4, .rwb, 0⟩

/-! POS.RXAMIN (R158, 05_position). -/
def R.POS_RXAMIN_VALUE (i : Nat) : Fld := ⟨0x40210108 + 0x20 * i, 0, 32, .rwb, 0⟩

/-! POS.RXAMAX (R158, 05_position). -/
def R.POS_RXAMAX_VALUE (i : Nat) : Fld := ⟨0x4021010C + 0x20 * i, 0, 32, .rwb, 0⟩

/-! POS.RXLOSTH (R158, 05_position). -/
def R.POS_RXLOSTH_VALUE (i : Nat) : Fld := ⟨0x40210110 + 0x20 * i, 0, 32, .rwb, 0⟩

/-! POS.RXSTAT (R158, 05_position). -/
def R.POS_RXSTAT_VALID (i : Nat) : Fld := ⟨0x40210114 + 0x20 * i, 4, 1, .ro, 0⟩
def R.POS_RXSTAT_EXCOC (i : Nat) : Fld := ⟨0x40210114 + 0x20 * i, 3, 1, .w1c, 0⟩
def R.POS_RXSTAT_NOEST (i : Nat) : Fld := ⟨0x40210114 + 0x20 * i, 2, 1, .w1c, 0⟩
def R.POS_RXSTAT_LOS (i : Nat) : Fld := ⟨0x40210114 + 0x20 * i, 1, 1, .w1c, 0⟩
def R.POS_RXSTAT_AMPF (i : Nat) : Fld := ⟨0x40210114 + 0x20 * i, 0, 1, .w1c, 0⟩

/-! POS.RXAMP (R158, 05_position). -/
def R.POS_RXAMP_VALUE (i : Nat) : Fld := ⟨0x40210118 + 0x20 * i, 0, 32, .ro, 0⟩

/-! POS.ECFG (R158, 05_position). -/
def R.POS_ECFG_PP (i : Nat) : Fld := ⟨0x40210200 + 0x20 * i, 16, 6, .rwb, 1⟩
def R.POS_ECFG_ZTOL (i : Nat) : Fld := ⟨0x40210200 + 0x20 * i, 8, 8, .rwb, 0⟩
def R.POS_ECFG_FILT (i : Nat) : Fld := ⟨0x40210200 + 0x20 * i, 4, 3, .rwb, 0⟩
def R.POS_ECFG_DIR (i : Nat) : Fld := ⟨0x40210200 + 0x20 * i, 3, 1, .rwb, 0⟩
def R.POS_ECFG_ZRST (i : Nat) : Fld := ⟨0x40210200 + 0x20 * i, 2, 1, .rwb, 0⟩
def R.POS_ECFG_ZREQ (i : Nat) : Fld := ⟨0x40210200 + 0x20 * i, 1, 1, .rwb, 1⟩
def R.POS_ECFG_EN (i : Nat) : Fld := ⟨0x40210200 + 0x20 * i, 0, 1, .rwb, 0⟩

/-! POS.ECPR (R158, 05_position). -/
def R.POS_ECPR_CPR (i : Nat) : Fld := ⟨0x40210204 + 0x20 * i, 0, 24, .rwb, 0⟩

/-! POS.EZPOS (R158, 05_position). -/
def R.POS_EZPOS_ZPOS (i : Nat) : Fld := ⟨0x40210208 + 0x20 * i, 0, 24, .rwb, 0⟩

/-! POS.EOFS (R158, 05_position). -/
def R.POS_EOFS_EOFS (i : Nat) : Fld := ⟨0x4021020C + 0x20 * i, 0, 16, .rwb, 0⟩

/-! POS.ECNT (R158, 05_position). -/
def R.POS_ECNT_POSCNT (i : Nat) : Fld := ⟨0x40210210 + 0x20 * i, 0, 24, .ro, 0⟩

/-! POS.EZTO (R158, 05_position). -/
def R.POS_EZTO_EZTO (i : Nat) : Fld := ⟨0x40210214 + 0x20 * i, 0, 16, .rwb, 0⟩

/-! POS.ESTAT (R158, 05_position). -/
def R.POS_ESTAT_VALID (i : Nat) : Fld := ⟨0x40210218 + 0x20 * i, 4, 1, .ro, 0⟩
def R.POS_ESTAT_PLAUS (i : Nat) : Fld := ⟨0x40210218 + 0x20 * i, 3, 1, .w1c, 0⟩
def R.POS_ESTAT_ZERR (i : Nat) : Fld := ⟨0x40210218 + 0x20 * i, 2, 1, .w1c, 0⟩
def R.POS_ESTAT_ILL (i : Nat) : Fld := ⟨0x40210218 + 0x20 * i, 1, 1, .w1c, 0⟩
def R.POS_ESTAT_ZSEEN (i : Nat) : Fld := ⟨0x40210218 + 0x20 * i, 0, 1, .ro, 0⟩

/-! POS.ESPD (R158, 05_position). -/
def R.POS_ESPD_VALUE (i : Nat) : Fld := ⟨0x4021021C + 0x20 * i, 0, 32, .ro, 0⟩

/-! POS.HCFG (R158, 05_position). -/
def R.POS_HCFG_HTOL (i : Nat) : Fld := ⟨0x40210300 + 0x20 * i, 24, 7, .rwb, 8⟩
def R.POS_HCFG_PAIR (i : Nat) : Fld := ⟨0x40210300 + 0x20 * i, 16, 1, .rwb, 0⟩
def R.POS_HCFG_HFILT (i : Nat) : Fld := ⟨0x40210300 + 0x20 * i, 8, 8, .rwb, 0⟩
def R.POS_HCFG_EN (i : Nat) : Fld := ⟨0x40210300 + 0x20 * i, 0, 1, .rwb, 0⟩

/-! POS.HANG0 (R158, 05_position). -/
def R.POS_HANG0_ANG1 (i : Nat) : Fld := ⟨0x40210304 + 0x20 * i, 0, 8, .rwb, 0⟩
def R.POS_HANG0_ANG2 (i : Nat) : Fld := ⟨0x40210304 + 0x20 * i, 8, 8, .rwb, 0⟩
def R.POS_HANG0_ANG3 (i : Nat) : Fld := ⟨0x40210304 + 0x20 * i, 16, 8, .rwb, 0⟩
def R.POS_HANG0_ANG4 (i : Nat) : Fld := ⟨0x40210304 + 0x20 * i, 24, 8, .rwb, 0⟩

/-! POS.HANG1 (R158, 05_position). -/
def R.POS_HANG1_ANG5 (i : Nat) : Fld := ⟨0x40210308 + 0x20 * i, 0, 8, .rwb, 0⟩
def R.POS_HANG1_ANG6 (i : Nat) : Fld := ⟨0x40210308 + 0x20 * i, 8, 8, .rwb, 0⟩

/-! POS.HZTO (R158, 05_position). -/
def R.POS_HZTO_HZTO (i : Nat) : Fld := ⟨0x4021030C + 0x20 * i, 0, 16, .rwb, 0⟩

/-! POS.HSTAT (R158, 05_position). -/
def R.POS_HSTAT_VALID (i : Nat) : Fld := ⟨0x40210310 + 0x20 * i, 6, 1, .ro, 0⟩
def R.POS_HSTAT_PLAUS (i : Nat) : Fld := ⟨0x40210310 + 0x20 * i, 5, 1, .w1c, 0⟩
def R.POS_HSTAT_SKIP (i : Nat) : Fld := ⟨0x40210310 + 0x20 * i, 4, 1, .w1c, 0⟩
def R.POS_HSTAT_ILL (i : Nat) : Fld := ⟨0x40210310 + 0x20 * i, 3, 1, .w1c, 0⟩
def R.POS_HSTAT_CODE (i : Nat) : Fld := ⟨0x40210310 + 0x20 * i, 0, 3, .ro, 0⟩

/-! POS.HSPD (R158, 05_position). -/
def R.POS_HSPD_VALUE (i : Nat) : Fld := ⟨0x40210314 + 0x20 * i, 0, 32, .ro, 0⟩

/-! POS.SCFG (R158, 05_position). -/
def R.POS_SCFG_CRCN (i : Nat) : Fld := ⟨0x40210400 + 0x40 * i, 16, 8, .rwb, 3⟩
def R.POS_SCFG_STMASK (i : Nat) : Fld := ⟨0x40210400 + 0x40 * i, 8, 2, .rwb, 0⟩
def R.POS_SCFG_NIB (i : Nat) : Fld := ⟨0x40210400 + 0x40 * i, 4, 3, .rwb, 6⟩
def R.POS_SCFG_FC2REV (i : Nat) : Fld := ⟨0x40210400 + 0x40 * i, 2, 1, .rwb, 0⟩
def R.POS_SCFG_CRCMODE (i : Nat) : Fld := ⟨0x40210400 + 0x40 * i, 1, 1, .rwb, 1⟩
def R.POS_SCFG_EN (i : Nat) : Fld := ⟨0x40210400 + 0x40 * i, 0, 1, .rwb, 0⟩

/-! POS.STICK (R158, 05_position). -/
def R.POS_STICK_TICK (i : Nat) : Fld := ⟨0x40210404 + 0x40 * i, 0, 10, .rwb, 0x1E⟩

/-! POS.SAGEMAX (R158, 05_position). -/
def R.POS_SAGEMAX_AGEMAX (i : Nat) : Fld := ⟨0x40210408 + 0x40 * i, 0, 16, .rwb, 0⟩

/-! POS.SOFS1 (R158, 05_position). -/
def R.POS_SOFS1_VALUE (i : Nat) : Fld := ⟨0x4021040C + 0x40 * i, 0, 32, .rwb, 0⟩

/-! POS.SGAIN1 (R158, 05_position). -/
def R.POS_SGAIN1_VALUE (i : Nat) : Fld := ⟨0x40210410 + 0x40 * i, 0, 32, .rwb, 0x3F800000⟩

/-! POS.SOFS2 (R158, 05_position). -/
def R.POS_SOFS2_VALUE (i : Nat) : Fld := ⟨0x40210414 + 0x40 * i, 0, 32, .rwb, 0⟩

/-! POS.SGAIN2 (R158, 05_position). -/
def R.POS_SGAIN2_VALUE (i : Nat) : Fld := ⟨0x40210418 + 0x40 * i, 0, 32, .rwb, 0x3F800000⟩

/-! POS.SDATA (R158, 05_position). -/
def R.POS_SDATA_STATUS (i : Nat) : Fld := ⟨0x4021041C + 0x40 * i, 28, 4, .ro, 0⟩
def R.POS_SDATA_FC2 (i : Nat) : Fld := ⟨0x4021041C + 0x40 * i, 16, 12, .ro, 0⟩
def R.POS_SDATA_FC1 (i : Nat) : Fld := ⟨0x4021041C + 0x40 * i, 0, 12, .ro, 0⟩

/-! POS.SSLOW (R158, 05_position). -/
def R.POS_SSLOW_ID (i : Nat) : Fld := ⟨0x40210420 + 0x40 * i, 24, 8, .ro, 0⟩
def R.POS_SSLOW_NEW (i : Nat) : Fld := ⟨0x40210420 + 0x40 * i, 18, 1, .w1c, 0⟩
def R.POS_SSLOW_TYPE (i : Nat) : Fld := ⟨0x40210420 + 0x40 * i, 16, 2, .ro, 0⟩
def R.POS_SSLOW_DATA (i : Nat) : Fld := ⟨0x40210420 + 0x40 * i, 0, 16, .ro, 0⟩

/-! POS.SSTAT (R158, 05_position). -/
def R.POS_SSTAT_CRCCNT (i : Nat) : Fld := ⟨0x40210424 + 0x40 * i, 8, 8, .ro, 0⟩
def R.POS_SSTAT_VALID (i : Nat) : Fld := ⟨0x40210424 + 0x40 * i, 4, 1, .ro, 0⟩
def R.POS_SSTAT_STERR (i : Nat) : Fld := ⟨0x40210424 + 0x40 * i, 3, 1, .ro, 0⟩
def R.POS_SSTAT_STALE (i : Nat) : Fld := ⟨0x40210424 + 0x40 * i, 2, 1, .ro, 0⟩
def R.POS_SSTAT_SYNCERR (i : Nat) : Fld := ⟨0x40210424 + 0x40 * i, 1, 1, .w1c, 0⟩
def R.POS_SSTAT_CRCERR (i : Nat) : Fld := ⟨0x40210424 + 0x40 * i, 0, 1, .w1c, 0⟩

/-! POS.SAGE (R158, 05_position). -/
def R.POS_SAGE_AGE (i : Nat) : Fld := ⟨0x40210428 + 0x40 * i, 0, 16, .ro, 0xFFFF⟩

/-- The registers of POS, part 0. -/
def RegMap.pos0 : List RegDef :=
  [⟨"POS.INFO", 0x40210000, 4, 1,
      [fun _ => R.POS_INFO_NSENT, fun _ => R.POS_INFO_NHALL, fun _ => R.POS_INFO_NENC, fun _ => R.POS_INFO_NRES]⟩,
   ⟨"POS.STAT", 0x40210004, 4, 1,
      [fun _ => R.POS_STAT_CFGREJ]⟩,
   ⟨"POS.VALID", 0x40210008, 4, 1,
      [fun _ => R.POS_VALID_SRC]⟩,
   ⟨"POS.RXCFG", 0x40210100, 0x20, 2,
      [R.POS_RXCFG_PER, R.POS_RXCFG_LOSN, R.POS_RXCFG_AMPL, R.POS_RXCFG_LOCK]⟩,
   ⟨"POS.RXMON", 0x40210104, 0x20, 2,
      [R.POS_RXMON_AMPN, R.POS_RXMON_PHDLY, R.POS_RXMON_COSCONV, R.POS_RXMON_SINCONV]⟩,
   ⟨"POS.RXAMIN", 0x40210108, 0x20, 2,
      [R.POS_RXAMIN_VALUE]⟩,
   ⟨"POS.RXAMAX", 0x4021010C, 0x20, 2,
      [R.POS_RXAMAX_VALUE]⟩,
   ⟨"POS.RXLOSTH", 0x40210110, 0x20, 2,
      [R.POS_RXLOSTH_VALUE]⟩,
   ⟨"POS.RXSTAT", 0x40210114, 0x20, 2,
      [R.POS_RXSTAT_VALID, R.POS_RXSTAT_EXCOC, R.POS_RXSTAT_NOEST, R.POS_RXSTAT_LOS, R.POS_RXSTAT_AMPF]⟩,
   ⟨"POS.RXAMP", 0x40210118, 0x20, 2,
      [R.POS_RXAMP_VALUE]⟩,
   ⟨"POS.ECFG", 0x40210200, 0x20, 2,
      [R.POS_ECFG_PP, R.POS_ECFG_ZTOL, R.POS_ECFG_FILT, R.POS_ECFG_DIR, R.POS_ECFG_ZRST, R.POS_ECFG_ZREQ, R.POS_ECFG_EN]⟩,
   ⟨"POS.ECPR", 0x40210204, 0x20, 2,
      [R.POS_ECPR_CPR]⟩]

/-- The registers of POS, part 1. -/
def RegMap.pos1 : List RegDef :=
  [⟨"POS.EZPOS", 0x40210208, 0x20, 2,
      [R.POS_EZPOS_ZPOS]⟩,
   ⟨"POS.EOFS", 0x4021020C, 0x20, 2,
      [R.POS_EOFS_EOFS]⟩,
   ⟨"POS.ECNT", 0x40210210, 0x20, 2,
      [R.POS_ECNT_POSCNT]⟩,
   ⟨"POS.EZTO", 0x40210214, 0x20, 2,
      [R.POS_EZTO_EZTO]⟩,
   ⟨"POS.ESTAT", 0x40210218, 0x20, 2,
      [R.POS_ESTAT_VALID, R.POS_ESTAT_PLAUS, R.POS_ESTAT_ZERR, R.POS_ESTAT_ILL, R.POS_ESTAT_ZSEEN]⟩,
   ⟨"POS.ESPD", 0x4021021C, 0x20, 2,
      [R.POS_ESPD_VALUE]⟩,
   ⟨"POS.HCFG", 0x40210300, 0x20, 2,
      [R.POS_HCFG_HTOL, R.POS_HCFG_PAIR, R.POS_HCFG_HFILT, R.POS_HCFG_EN]⟩,
   ⟨"POS.HANG0", 0x40210304, 0x20, 2,
      [R.POS_HANG0_ANG1, R.POS_HANG0_ANG2, R.POS_HANG0_ANG3, R.POS_HANG0_ANG4]⟩,
   ⟨"POS.HANG1", 0x40210308, 0x20, 2,
      [R.POS_HANG1_ANG5, R.POS_HANG1_ANG6]⟩,
   ⟨"POS.HZTO", 0x4021030C, 0x20, 2,
      [R.POS_HZTO_HZTO]⟩,
   ⟨"POS.HSTAT", 0x40210310, 0x20, 2,
      [R.POS_HSTAT_VALID, R.POS_HSTAT_PLAUS, R.POS_HSTAT_SKIP, R.POS_HSTAT_ILL, R.POS_HSTAT_CODE]⟩,
   ⟨"POS.HSPD", 0x40210314, 0x20, 2,
      [R.POS_HSPD_VALUE]⟩]

/-- The registers of POS, part 2. -/
def RegMap.pos2 : List RegDef :=
  [⟨"POS.SCFG", 0x40210400, 0x40, 4,
      [R.POS_SCFG_CRCN, R.POS_SCFG_STMASK, R.POS_SCFG_NIB, R.POS_SCFG_FC2REV, R.POS_SCFG_CRCMODE, R.POS_SCFG_EN]⟩,
   ⟨"POS.STICK", 0x40210404, 0x40, 4,
      [R.POS_STICK_TICK]⟩,
   ⟨"POS.SAGEMAX", 0x40210408, 0x40, 4,
      [R.POS_SAGEMAX_AGEMAX]⟩,
   ⟨"POS.SOFS1", 0x4021040C, 0x40, 4,
      [R.POS_SOFS1_VALUE]⟩,
   ⟨"POS.SGAIN1", 0x40210410, 0x40, 4,
      [R.POS_SGAIN1_VALUE]⟩,
   ⟨"POS.SOFS2", 0x40210414, 0x40, 4,
      [R.POS_SOFS2_VALUE]⟩,
   ⟨"POS.SGAIN2", 0x40210418, 0x40, 4,
      [R.POS_SGAIN2_VALUE]⟩,
   ⟨"POS.SDATA", 0x4021041C, 0x40, 4,
      [R.POS_SDATA_STATUS, R.POS_SDATA_FC2, R.POS_SDATA_FC1]⟩,
   ⟨"POS.SSLOW", 0x40210420, 0x40, 4,
      [R.POS_SSLOW_ID, R.POS_SSLOW_NEW, R.POS_SSLOW_TYPE, R.POS_SSLOW_DATA]⟩,
   ⟨"POS.SSTAT", 0x40210424, 0x40, 4,
      [R.POS_SSTAT_CRCCNT, R.POS_SSTAT_VALID, R.POS_SSTAT_STERR, R.POS_SSTAT_STALE, R.POS_SSTAT_SYNCERR, R.POS_SSTAT_CRCERR]⟩,
   ⟨"POS.SAGE", 0x40210428, 0x40, 4,
      [R.POS_SAGE_AGE]⟩]

/-! ## LOOP -/

/-! LOOP.INFO (R187, 06_control_loops). -/
def R.LOOP_INFO_NRAMP : Fld := ⟨0x40500000, 8, 8, .ro, 8⟩
def R.LOOP_INFO_NLOOP : Fld := ⟨0x40500000, 0, 8, .ro, 8⟩

/-! LOOP.STAT (R187, 06_control_loops). -/
def R.LOOP_STAT_CMDREJ : Fld := ⟨0x40500004, 2, 1, .w1c, 0⟩
def R.LOOP_STAT_CFGREJ : Fld := ⟨0x40500004, 1, 1, .w1c, 0⟩
def R.LOOP_STAT_COEF_REJ : Fld := ⟨0x40500004, 0, 1, .w1c, 0⟩

/-! LOOP.CWADDR (R187, 06_control_loops). -/
def R.LOOP_CWADDR_AINC : Fld := ⟨0x40500008, 31, 1, .rw, 0⟩
def R.LOOP_CWADDR_ADDR : Fld := ⟨0x40500008, 0, 14, .rw, 0⟩

/-! LOOP.CWDATA (R187, 06_control_loops). -/
def R.LOOP_CWDATA_DATA : Fld := ⟨0x4050000C, 0, 32, .rwl, 0⟩

/-! LOOP.INVCFG (R187, 06_control_loops). -/
def R.LOOP_INVCFG_HOLD (i : Nat) : Fld := ⟨0x40500010 + 0x4 * i, 8, 1, .ro, 0⟩
def R.LOOP_INVCFG_OPENACT (i : Nat) : Fld := ⟨0x40500010 + 0x4 * i, 0, 2, .rwb, 0⟩

/-! LOOP.CFG (R187, 06_control_loops). -/
def R.LOOP_CFG_OPENN (i : Nat) : Fld := ⟨0x40500100 + 0x20 * i, 16, 8, .rwb, 0⟩
def R.LOOP_CFG_CLOSEN (i : Nat) : Fld := ⟨0x40500100 + 0x20 * i, 8, 8, .rwb, 0⟩
def R.LOOP_CFG_TYPE (i : Nat) : Fld := ⟨0x40500100 + 0x20 * i, 4, 2, .rwb, 0⟩
def R.LOOP_CFG_INV (i : Nat) : Fld := ⟨0x40500100 + 0x20 * i, 1, 1, .rwb, 0⟩
def R.LOOP_CFG_EN (i : Nat) : Fld := ⟨0x40500100 + 0x20 * i, 0, 1, .rwb, 0⟩

/-! LOOP.FBADC (R187, 06_control_loops). -/
def R.LOOP_FBADC_SD (i : Nat) : Fld := ⟨0x40500104 + 0x20 * i, 16, 6, .rwb, 0⟩
def R.LOOP_FBADC_ADC (i : Nat) : Fld := ⟨0x40500104 + 0x20 * i, 0, 16, .rwb, 0⟩

/-! LOOP.FBPOS (R187, 06_control_loops). -/
def R.LOOP_FBPOS_SRC (i : Nat) : Fld := ⟨0x40500108 + 0x20 * i, 0, 20, .rwb, 0⟩

/-! LOOP.CREG (R187, 06_control_loops). -/
def R.LOOP_CREG_LEN (i : Nat) : Fld := ⟨0x4050010C + 0x20 * i, 16, 15, .rwb, 0⟩
def R.LOOP_CREG_BASE (i : Nat) : Fld := ⟨0x4050010C + 0x20 * i, 0, 14, .rwb, 0⟩

/-! LOOP.LSTAT (R187, 06_control_loops). -/
def R.LOOP_LSTAT_FBSRC (i : Nat) : Fld := ⟨0x40500110 + 0x20 * i, 16, 5, .ro, 0⟩
def R.LOOP_LSTAT_FBCAUSE (i : Nat) : Fld := ⟨0x40500110 + 0x20 * i, 12, 4, .ro, 0⟩
def R.LOOP_LSTAT_REJ (i : Nat) : Fld := ⟨0x40500110 + 0x20 * i, 8, 4, .ro, 0⟩
def R.LOOP_LSTAT_FBL (i : Nat) : Fld := ⟨0x40500110 + 0x20 * i, 4, 1, .w1c, 0⟩
def R.LOOP_LSTAT_TRIP (i : Nat) : Fld := ⟨0x40500110 + 0x20 * i, 3, 1, .ro, 0⟩
def R.LOOP_LSTAT_FORCED (i : Nat) : Fld := ⟨0x40500110 + 0x20 * i, 2, 1, .ro, 0⟩
def R.LOOP_LSTAT_STATE (i : Nat) : Fld := ⟨0x40500110 + 0x20 * i, 0, 2, .ro, 0⟩

/-! LOOP.MEASV (R187, 06_control_loops). -/
def R.LOOP_MEASV_VALUE (i : Nat) : Fld := ⟨0x40500114 + 0x20 * i, 0, 32, .ro, 0⟩

/-! LOOP.SEED (R187, 06_control_loops). -/
def R.LOOP_SEED_VALUE (i : Nat) : Fld := ⟨0x40500118 + 0x20 * i, 0, 32, .ro, 0⟩

/-! LOOP.FBTS (R187, 06_control_loops). -/
def R.LOOP_FBTS_TSC (i : Nat) : Fld := ⟨0x4050011C + 0x20 * i, 0, 32, .ro, 0⟩

/-! LOOP.RCFG (R187, 06_control_loops). -/
def R.LOOP_RCFG_BOUND (i : Nat) : Fld := ⟨0x40500400 + 0x20 * i, 4, 1, .rwb, 0⟩
def R.LOOP_RCFG_LOOPSEL (i : Nat) : Fld := ⟨0x40500400 + 0x20 * i, 0, 3, .rwb, 0⟩

/-! LOOP.RTMIN (R187, 06_control_loops). -/
def R.LOOP_RTMIN_VALUE (i : Nat) : Fld := ⟨0x40500404 + 0x20 * i, 0, 32, .rwl, 0xFF7FFFFF⟩

/-! LOOP.RTMAX (R187, 06_control_loops). -/
def R.LOOP_RTMAX_VALUE (i : Nat) : Fld := ⟨0x40500408 + 0x20 * i, 0, 32, .rwl, 0x7F7FFFFF⟩

/-! LOOP.RRISE (R187, 06_control_loops). -/
def R.LOOP_RRISE_VALUE (i : Nat) : Fld := ⟨0x4050040C + 0x20 * i, 0, 32, .rwl, 0⟩

/-! LOOP.RFALL (R187, 06_control_loops). -/
def R.LOOP_RFALL_VALUE (i : Nat) : Fld := ⟨0x40500410 + 0x20 * i, 0, 32, .rwl, 0⟩

/-! LOOP.RTGT (R187, 06_control_loops). -/
def R.LOOP_RTGT_VALUE (i : Nat) : Fld := ⟨0x40500414 + 0x20 * i, 0, 32, .ro, 0⟩

/-! LOOP.ROUT (R187, 06_control_loops). -/
def R.LOOP_ROUT_VALUE (i : Nat) : Fld := ⟨0x40500418 + 0x20 * i, 0, 32, .ro, 0⟩

/-! LOOP.RSTAT (R187, 06_control_loops). -/
def R.LOOP_RSTAT_ACTIVE (i : Nat) : Fld := ⟨0x4050041C + 0x20 * i, 4, 1, .ro, 0⟩
def R.LOOP_RSTAT_FROZEN (i : Nat) : Fld := ⟨0x4050041C + 0x20 * i, 3, 1, .ro, 0⟩
def R.LOOP_RSTAT_ATTGT (i : Nat) : Fld := ⟨0x4050041C + 0x20 * i, 2, 1, .ro, 0⟩
def R.LOOP_RSTAT_SEEDOUT (i : Nat) : Fld := ⟨0x4050041C + 0x20 * i, 1, 1, .w1c, 0⟩
def R.LOOP_RSTAT_TCLAMP (i : Nat) : Fld := ⟨0x4050041C + 0x20 * i, 0, 1, .w1c, 0⟩

/-- The registers of LOOP, part 0. -/
def RegMap.loop0 : List RegDef :=
  [⟨"LOOP.INFO", 0x40500000, 4, 1,
      [fun _ => R.LOOP_INFO_NRAMP, fun _ => R.LOOP_INFO_NLOOP]⟩,
   ⟨"LOOP.STAT", 0x40500004, 4, 1,
      [fun _ => R.LOOP_STAT_CMDREJ, fun _ => R.LOOP_STAT_CFGREJ, fun _ => R.LOOP_STAT_COEF_REJ]⟩,
   ⟨"LOOP.CWADDR", 0x40500008, 4, 1,
      [fun _ => R.LOOP_CWADDR_AINC, fun _ => R.LOOP_CWADDR_ADDR]⟩,
   ⟨"LOOP.CWDATA", 0x4050000C, 4, 1,
      [fun _ => R.LOOP_CWDATA_DATA]⟩,
   ⟨"LOOP.INVCFG", 0x40500010, 0x4, 2,
      [R.LOOP_INVCFG_HOLD, R.LOOP_INVCFG_OPENACT]⟩,
   ⟨"LOOP.CFG", 0x40500100, 0x20, 8,
      [R.LOOP_CFG_OPENN, R.LOOP_CFG_CLOSEN, R.LOOP_CFG_TYPE, R.LOOP_CFG_INV, R.LOOP_CFG_EN]⟩,
   ⟨"LOOP.FBADC", 0x40500104, 0x20, 8,
      [R.LOOP_FBADC_SD, R.LOOP_FBADC_ADC]⟩,
   ⟨"LOOP.FBPOS", 0x40500108, 0x20, 8,
      [R.LOOP_FBPOS_SRC]⟩,
   ⟨"LOOP.CREG", 0x4050010C, 0x20, 8,
      [R.LOOP_CREG_LEN, R.LOOP_CREG_BASE]⟩,
   ⟨"LOOP.LSTAT", 0x40500110, 0x20, 8,
      [R.LOOP_LSTAT_FBSRC, R.LOOP_LSTAT_FBCAUSE, R.LOOP_LSTAT_REJ, R.LOOP_LSTAT_FBL, R.LOOP_LSTAT_TRIP, R.LOOP_LSTAT_FORCED, R.LOOP_LSTAT_STATE]⟩,
   ⟨"LOOP.MEASV", 0x40500114, 0x20, 8,
      [R.LOOP_MEASV_VALUE]⟩,
   ⟨"LOOP.SEED", 0x40500118, 0x20, 8,
      [R.LOOP_SEED_VALUE]⟩]

/-- The registers of LOOP, part 1. -/
def RegMap.loop1 : List RegDef :=
  [⟨"LOOP.FBTS", 0x4050011C, 0x20, 8,
      [R.LOOP_FBTS_TSC]⟩,
   ⟨"LOOP.RCFG", 0x40500400, 0x20, 8,
      [R.LOOP_RCFG_BOUND, R.LOOP_RCFG_LOOPSEL]⟩,
   ⟨"LOOP.RTMIN", 0x40500404, 0x20, 8,
      [R.LOOP_RTMIN_VALUE]⟩,
   ⟨"LOOP.RTMAX", 0x40500408, 0x20, 8,
      [R.LOOP_RTMAX_VALUE]⟩,
   ⟨"LOOP.RRISE", 0x4050040C, 0x20, 8,
      [R.LOOP_RRISE_VALUE]⟩,
   ⟨"LOOP.RFALL", 0x40500410, 0x20, 8,
      [R.LOOP_RFALL_VALUE]⟩,
   ⟨"LOOP.RTGT", 0x40500414, 0x20, 8,
      [R.LOOP_RTGT_VALUE]⟩,
   ⟨"LOOP.ROUT", 0x40500418, 0x20, 8,
      [R.LOOP_ROUT_VALUE]⟩,
   ⟨"LOOP.RSTAT", 0x4050041C, 0x20, 8,
      [R.LOOP_RSTAT_ACTIVE, R.LOOP_RSTAT_FROZEN, R.LOOP_RSTAT_ATTGT, R.LOOP_RSTAT_SEEDOUT, R.LOOP_RSTAT_TCLAMP]⟩]

/-! ## RCU -/

/-! RCU.INFO (R188, 06_control_loops). -/
def R.RCU_INFO_NBINS : Fld := ⟨0x40510000, 16, 16, .ro, 0x800⟩
def R.RCU_INFO_NCH : Fld := ⟨0x40510000, 0, 8, .ro, 8⟩

/-! RCU.STAT (R188, 06_control_loops). -/
def R.RCU_STAT_UE : Fld := ⟨0x40510004, 1, 1, .w1c, 0⟩
def R.RCU_STAT_CFGREJ : Fld := ⟨0x40510004, 0, 1, .w1c, 0⟩

/-! RCU.CFG (R188, 06_control_loops). -/
def R.RCU_CFG_LEAD (i : Nat) : Fld := ⟨0x40510100 + 0x40 * i, 24, 8, .rwl, 0⟩
def R.RCU_CFG_SPDSRC (i : Nat) : Fld := ⟨0x40510100 + 0x40 * i, 16, 5, .rwl, 2⟩
def R.RCU_CFG_LEARN (i : Nat) : Fld := ⟨0x40510100 + 0x40 * i, 4, 1, .rwl, 0⟩
def R.RCU_CFG_BOUND (i : Nat) : Fld := ⟨0x40510100 + 0x40 * i, 3, 1, .rwb, 0⟩
def R.RCU_CFG_LOOPSEL (i : Nat) : Fld := ⟨0x40510100 + 0x40 * i, 0, 3, .rwb, 0⟩

/-! RCU.ALPHA (R188, 06_control_loops). -/
def R.RCU_ALPHA_VALUE (i : Nat) : Fld := ⟨0x40510104 + 0x40 * i, 0, 32, .rwl, 0x3F7F0000⟩

/-! RCU.BETA (R188, 06_control_loops). -/
def R.RCU_BETA_VALUE (i : Nat) : Fld := ⟨0x40510108 + 0x40 * i, 0, 32, .rwl, 0⟩

/-! RCU.SPDMIN (R188, 06_control_loops). -/
def R.RCU_SPDMIN_VALUE (i : Nat) : Fld := ⟨0x4051010C + 0x40 * i, 0, 32, .rwl, 0⟩

/-! RCU.TLIM (R188, 06_control_loops). -/
def R.RCU_TLIM_VALUE (i : Nat) : Fld := ⟨0x40510110 + 0x40 * i, 0, 32, .rwl, 0x47800000⟩

/-! RCU.CTL (R188, 06_control_loops). -/
def R.RCU_CTL_CLR (i : Nat) : Fld := ⟨0x40510114 + 0x40 * i, 0, 1, .w1s, 0⟩

/-! RCU.CSTAT (R188, 06_control_loops). -/
def R.RCU_CSTAT_FRZ (i : Nat) : Fld := ⟨0x40510118 + 0x40 * i, 0, 6, .ro, 0⟩

/-! RCU.CNT (R188, 06_control_loops). -/
def R.RCU_CNT_FRZCNT (i : Nat) : Fld := ⟨0x4051011C + 0x40 * i, 16, 16, .ro, 0⟩
def R.RCU_CNT_LRNCNT (i : Nat) : Fld := ⟨0x4051011C + 0x40 * i, 0, 16, .ro, 0⟩

/-! RCU.TPTR (R188, 06_control_loops). -/
def R.RCU_TPTR_AINC (i : Nat) : Fld := ⟨0x40510120 + 0x40 * i, 31, 1, .rw, 0⟩
def R.RCU_TPTR_BIN (i : Nat) : Fld := ⟨0x40510120 + 0x40 * i, 0, 11, .rw, 0⟩

/-! RCU.TDATA (R188, 06_control_loops). -/
def R.RCU_TDATA_VALUE (i : Nat) : Fld := ⟨0x40510124 + 0x40 * i, 0, 32, .rwl, 0⟩

/-- The registers of RCU, part 0. -/
def RegMap.rcu0 : List RegDef :=
  [⟨"RCU.INFO", 0x40510000, 4, 1,
      [fun _ => R.RCU_INFO_NBINS, fun _ => R.RCU_INFO_NCH]⟩,
   ⟨"RCU.STAT", 0x40510004, 4, 1,
      [fun _ => R.RCU_STAT_UE, fun _ => R.RCU_STAT_CFGREJ]⟩,
   ⟨"RCU.CFG", 0x40510100, 0x40, 8,
      [R.RCU_CFG_LEAD, R.RCU_CFG_SPDSRC, R.RCU_CFG_LEARN, R.RCU_CFG_BOUND, R.RCU_CFG_LOOPSEL]⟩,
   ⟨"RCU.ALPHA", 0x40510104, 0x40, 8,
      [R.RCU_ALPHA_VALUE]⟩,
   ⟨"RCU.BETA", 0x40510108, 0x40, 8,
      [R.RCU_BETA_VALUE]⟩,
   ⟨"RCU.SPDMIN", 0x4051010C, 0x40, 8,
      [R.RCU_SPDMIN_VALUE]⟩,
   ⟨"RCU.TLIM", 0x40510110, 0x40, 8,
      [R.RCU_TLIM_VALUE]⟩,
   ⟨"RCU.CTL", 0x40510114, 0x40, 8,
      [R.RCU_CTL_CLR]⟩,
   ⟨"RCU.CSTAT", 0x40510118, 0x40, 8,
      [R.RCU_CSTAT_FRZ]⟩,
   ⟨"RCU.CNT", 0x4051011C, 0x40, 8,
      [R.RCU_CNT_FRZCNT, R.RCU_CNT_LRNCNT]⟩,
   ⟨"RCU.TPTR", 0x40510120, 0x40, 8,
      [R.RCU_TPTR_AINC, R.RCU_TPTR_BIN]⟩,
   ⟨"RCU.TDATA", 0x40510124, 0x40, 8,
      [R.RCU_TDATA_VALUE]⟩]

/-! ## PWM -/

/-! PWM.INFO (R217, 07_pwm). -/
def R.PWM_INFO_NTB : Fld := ⟨0x40300000, 12, 4, .ro, 4⟩
def R.PWM_INFO_NAUX : Fld := ⟨0x40300000, 8, 4, .ro, 2⟩
def R.PWM_INFO_NLEG : Fld := ⟨0x40300000, 0, 8, .ro, 6⟩

/-! PWM.STAT (R217, 07_pwm). -/
def R.PWM_STAT_DLLLOCK : Fld := ⟨0x40300004, 4, 1, .ro, 0⟩
def R.PWM_STAT_DLLERR : Fld := ⟨0x40300004, 3, 1, .w1c, 0⟩
def R.PWM_STAT_SHOOT : Fld := ⟨0x40300004, 2, 1, .ro, 0⟩
def R.PWM_STAT_ARMREJ : Fld := ⟨0x40300004, 1, 1, .w1c, 0⟩
def R.PWM_STAT_CFGREJ : Fld := ⟨0x40300004, 0, 1, .w1c, 0⟩

/-! PWM.ARM (R217, 07_pwm). -/
def R.PWM_ARM_GEN : Fld := ⟨0x40300008, 0, 8, .w1s, 0⟩

/-! PWM.DBG (R217, 07_pwm). -/
def R.PWM_DBG_FROZEN : Fld := ⟨0x4030000C, 1, 1, .ro, 0⟩
def R.PWM_DBG_FREEZE_EN : Fld := ⟨0x4030000C, 0, 1, .rw, 0⟩

/-! PWM.COMMCFG (R217, 07_pwm). -/
def R.PWM_COMMCFG_FSRCB : Fld := ⟨0x40300010, 17, 1, .rwb, 0⟩
def R.PWM_COMMCFG_FSRCA : Fld := ⟨0x40300010, 16, 1, .rwb, 0⟩
def R.PWM_COMMCFG_FILT : Fld := ⟨0x40300010, 8, 4, .rwb, 0⟩
def R.PWM_COMMCFG_PINEDGE : Fld := ⟨0x40300010, 6, 2, .rwb, 0⟩
def R.PWM_COMMCFG_SRCB : Fld := ⟨0x40300010, 2, 2, .rwb, 0⟩
def R.PWM_COMMCFG_SRCA : Fld := ⟨0x40300010, 0, 2, .rwb, 0⟩

/-! PWM.PDCTL (R217, 07_pwm). -/
def R.PWM_PDCTL_ALIGN : Fld := ⟨0x40300014, 0, 16, .rwb, 0x5A0⟩

/-! PWM.FSTAGE (R217, 07_pwm). -/
def R.PWM_FSTAGE_PEND (i : Nat) : Fld := ⟨0x40300018 + 0x4 * i, 31, 1, .ro, 0⟩
def R.PWM_FSTAGE_MASK (i : Nat) : Fld := ⟨0x40300018 + 0x4 * i, 12, 3, .rw, 0⟩
def R.PWM_FSTAGE_CODE (i : Nat) : Fld := ⟨0x40300018 + 0x4 * i, 0, 9, .rw, 0⟩

/-! PWM.FACT (R217, 07_pwm). -/
def R.PWM_FACT_CODE (i : Nat) : Fld := ⟨0x40300020 + 0x4 * i, 0, 9, .ro, 0⟩

/-! PWM.TBCFG (R217, 07_pwm). -/
def R.PWM_TBCFG_MODE (i : Nat) : Fld := ⟨0x40300040 + 0x10 * i, 0, 2, .rwb, 0⟩

/-! PWM.TBPER (R217, 07_pwm). -/
def R.PWM_TBPER_P (i : Nat) : Fld := ⟨0x40300044 + 0x10 * i, 0, 32, .rwb, 0⟩

/-! PWM.TBPHS (R217, 07_pwm). -/
def R.PWM_TBPHS_PHS (i : Nat) : Fld := ⟨0x40300048 + 0x10 * i, 0, 32, .rwb, 0⟩

/-! PWM.TBCNT (R217, 07_pwm). -/
def R.PWM_TBCNT_DIR (i : Nat) : Fld := ⟨0x4030004C + 0x10 * i, 31, 1, .ro, 0⟩
def R.PWM_TBCNT_COUNT (i : Nat) : Fld := ⟨0x4030004C + 0x10 * i, 0, 20, .ro, 0⟩

/-! PWM.GCFG (R217, 07_pwm). -/
def R.PWM_GCFG_WHEEL (i : Nat) : Fld := ⟨0x40300100 + 0x40 * i, 31, 1, .ro, 0⟩
def R.PWM_GCFG_TBSEL (i : Nat) : Fld := ⟨0x40300100 + 0x40 * i, 8, 2, .rwb, 0⟩
def R.PWM_GCFG_RLD (i : Nat) : Fld := ⟨0x40300100 + 0x40 * i, 4, 2, .rwb, 1⟩
def R.PWM_GCFG_MODE (i : Nat) : Fld := ⟨0x40300100 + 0x40 * i, 0, 1, .rwb, 0⟩

/-! PWM.SCMPA (R217, 07_pwm). -/
def R.PWM_SCMPA_VALUE (i : Nat) : Fld := ⟨0x40300104 + 0x40 * i, 0, 32, .rw, 0⟩

/-! PWM.SCMPB (R217, 07_pwm). -/
def R.PWM_SCMPB_VALUE (i : Nat) : Fld := ⟨0x40300108 + 0x40 * i, 0, 32, .rw, 0⟩

/-! PWM.CMPA (R217, 07_pwm). -/
def R.PWM_CMPA_VALUE (i : Nat) : Fld := ⟨0x4030010C + 0x40 * i, 0, 32, .ro, 0⟩

/-! PWM.CMPB (R217, 07_pwm). -/
def R.PWM_CMPB_VALUE (i : Nat) : Fld := ⟨0x40300110 + 0x40 * i, 0, 32, .ro, 0⟩

/-! PWM.DTCFG (R217, 07_pwm). -/
def R.PWM_DTCFG_RSTTRIP (i : Nat) : Fld := ⟨0x40300114 + 0x40 * i, 31, 1, .rwb, 1⟩
def R.PWM_DTCFG_NAVG (i : Nat) : Fld := ⟨0x40300114 + 0x40 * i, 24, 7, .rwb, 8⟩
def R.PWM_DTCFG_MARGIN (i : Nat) : Fld := ⟨0x40300114 + 0x40 * i, 0, 16, .rwb, 0⟩

/-! PWM.DTLIM (R217, 07_pwm). -/
def R.PWM_DTLIM_DTMAX (i : Nat) : Fld := ⟨0x40300118 + 0x40 * i, 16, 16, .rwb, 0x2580⟩
def R.PWM_DTLIM_DTMIN (i : Nat) : Fld := ⟨0x40300118 + 0x40 * i, 0, 16, .rwb, 0⟩

/-! PWM.DTINIT (R217, 07_pwm). -/
def R.PWM_DTINIT_INIT (i : Nat) : Fld := ⟨0x4030011C + 0x40 * i, 0, 16, .rwb, 0xF00⟩

/-! PWM.DTACT (R217, 07_pwm). -/
def R.PWM_DTACT_DTR (i : Nat) : Fld := ⟨0x40300120 + 0x40 * i, 16, 16, .ro, 0xF00⟩
def R.PWM_DTACT_DTF (i : Nat) : Fld := ⟨0x40300120 + 0x40 * i, 0, 16, .ro, 0xF00⟩

/-! PWM.DTMEAS (R217, 07_pwm). -/
def R.PWM_DTMEAS_RISE (i : Nat) : Fld := ⟨0x40300124 + 0x40 * i, 16, 16, .ro, 0⟩
def R.PWM_DTMEAS_FALL (i : Nat) : Fld := ⟨0x40300124 + 0x40 * i, 0, 16, .ro, 0⟩

/-! PWM.BSRF (R217, 07_pwm). -/
def R.PWM_BSRF_MIN (i : Nat) : Fld := ⟨0x40300128 + 0x40 * i, 0, 16, .rwb, 0x12C⟩

/-! PWM.GSTAT (R217, 07_pwm). -/
def R.PWM_GSTAT_PDOVR (i : Nat) : Fld := ⟨0x4030012C + 0x40 * i, 7, 1, .ro, 0⟩
def R.PWM_GSTAT_VALIDR (i : Nat) : Fld := ⟨0x4030012C + 0x40 * i, 6, 1, .ro, 0⟩
def R.PWM_GSTAT_VALIDF (i : Nat) : Fld := ⟨0x4030012C + 0x40 * i, 5, 1, .ro, 0⟩
def R.PWM_GSTAT_BSCLAMP (i : Nat) : Fld := ⟨0x4030012C + 0x40 * i, 4, 1, .w1c, 0⟩
def R.PWM_GSTAT_SHOOT_REQ (i : Nat) : Fld := ⟨0x4030012C + 0x40 * i, 3, 1, .w1c, 0⟩
def R.PWM_GSTAT_LATE (i : Nat) : Fld := ⟨0x4030012C + 0x40 * i, 2, 1, .w1c, 0⟩
def R.PWM_GSTAT_LIVE (i : Nat) : Fld := ⟨0x4030012C + 0x40 * i, 1, 1, .ro, 0⟩

/-! PWM.PDCOMP (R217, 07_pwm). -/
def R.PWM_PDCOMP_OFFD (i : Nat) : Fld := ⟨0x40300400 + 0x4 * i, 16, 16, .ro, 0⟩
def R.PWM_PDCOMP_OND (i : Nat) : Fld := ⟨0x40300400 + 0x4 * i, 0, 16, .ro, 0⟩

/-- The registers of PWM, part 0. -/
def RegMap.pwm0 : List RegDef :=
  [⟨"PWM.INFO", 0x40300000, 4, 1,
      [fun _ => R.PWM_INFO_NTB, fun _ => R.PWM_INFO_NAUX, fun _ => R.PWM_INFO_NLEG]⟩,
   ⟨"PWM.STAT", 0x40300004, 4, 1,
      [fun _ => R.PWM_STAT_DLLLOCK, fun _ => R.PWM_STAT_DLLERR, fun _ => R.PWM_STAT_SHOOT, fun _ => R.PWM_STAT_ARMREJ, fun _ => R.PWM_STAT_CFGREJ]⟩,
   ⟨"PWM.ARM", 0x40300008, 4, 1,
      [fun _ => R.PWM_ARM_GEN]⟩,
   ⟨"PWM.DBG", 0x4030000C, 4, 1,
      [fun _ => R.PWM_DBG_FROZEN, fun _ => R.PWM_DBG_FREEZE_EN]⟩,
   ⟨"PWM.COMMCFG", 0x40300010, 4, 1,
      [fun _ => R.PWM_COMMCFG_FSRCB, fun _ => R.PWM_COMMCFG_FSRCA, fun _ => R.PWM_COMMCFG_FILT, fun _ => R.PWM_COMMCFG_PINEDGE, fun _ => R.PWM_COMMCFG_SRCB, fun _ => R.PWM_COMMCFG_SRCA]⟩,
   ⟨"PWM.PDCTL", 0x40300014, 4, 1,
      [fun _ => R.PWM_PDCTL_ALIGN]⟩,
   ⟨"PWM.FSTAGE", 0x40300018, 0x4, 2,
      [R.PWM_FSTAGE_PEND, R.PWM_FSTAGE_MASK, R.PWM_FSTAGE_CODE]⟩,
   ⟨"PWM.FACT", 0x40300020, 0x4, 2,
      [R.PWM_FACT_CODE]⟩,
   ⟨"PWM.TBCFG", 0x40300040, 0x10, 4,
      [R.PWM_TBCFG_MODE]⟩,
   ⟨"PWM.TBPER", 0x40300044, 0x10, 4,
      [R.PWM_TBPER_P]⟩,
   ⟨"PWM.TBPHS", 0x40300048, 0x10, 4,
      [R.PWM_TBPHS_PHS]⟩,
   ⟨"PWM.TBCNT", 0x4030004C, 0x10, 4,
      [R.PWM_TBCNT_DIR, R.PWM_TBCNT_COUNT]⟩]

/-- The registers of PWM, part 1. -/
def RegMap.pwm1 : List RegDef :=
  [⟨"PWM.GCFG", 0x40300100, 0x40, 8,
      [R.PWM_GCFG_WHEEL, R.PWM_GCFG_TBSEL, R.PWM_GCFG_RLD, R.PWM_GCFG_MODE]⟩,
   ⟨"PWM.SCMPA", 0x40300104, 0x40, 8,
      [R.PWM_SCMPA_VALUE]⟩,
   ⟨"PWM.SCMPB", 0x40300108, 0x40, 8,
      [R.PWM_SCMPB_VALUE]⟩,
   ⟨"PWM.CMPA", 0x4030010C, 0x40, 8,
      [R.PWM_CMPA_VALUE]⟩,
   ⟨"PWM.CMPB", 0x40300110, 0x40, 8,
      [R.PWM_CMPB_VALUE]⟩,
   ⟨"PWM.DTCFG", 0x40300114, 0x40, 6,
      [R.PWM_DTCFG_RSTTRIP, R.PWM_DTCFG_NAVG, R.PWM_DTCFG_MARGIN]⟩,
   ⟨"PWM.DTLIM", 0x40300118, 0x40, 6,
      [R.PWM_DTLIM_DTMAX, R.PWM_DTLIM_DTMIN]⟩,
   ⟨"PWM.DTINIT", 0x4030011C, 0x40, 6,
      [R.PWM_DTINIT_INIT]⟩,
   ⟨"PWM.DTACT", 0x40300120, 0x40, 6,
      [R.PWM_DTACT_DTR, R.PWM_DTACT_DTF]⟩,
   ⟨"PWM.DTMEAS", 0x40300124, 0x40, 6,
      [R.PWM_DTMEAS_RISE, R.PWM_DTMEAS_FALL]⟩,
   ⟨"PWM.BSRF", 0x40300128, 0x40, 6,
      [R.PWM_BSRF_MIN]⟩,
   ⟨"PWM.GSTAT", 0x4030012C, 0x40, 8,
      [R.PWM_GSTAT_PDOVR, R.PWM_GSTAT_VALIDR, R.PWM_GSTAT_VALIDF, R.PWM_GSTAT_BSCLAMP, R.PWM_GSTAT_SHOOT_REQ, R.PWM_GSTAT_LATE, R.PWM_GSTAT_LIVE]⟩]

/-- The registers of PWM, part 2. -/
def RegMap.pwm2 : List RegDef :=
  [⟨"PWM.PDCOMP", 0x40300400, 0x4, 12,
      [R.PWM_PDCOMP_OFFD, R.PWM_PDCOMP_OND]⟩]

/-! ## ISL -/

/-! ISL.INFO (R252, 08_gate_islands). -/
def R.ISL_INFO_VERMAX : Fld := ⟨0x40310000, 12, 4, .ro, 2⟩
def R.ISL_INFO_RATES : Fld := ⟨0x40310000, 8, 4, .ro, 7⟩
def R.ISL_INFO_NISL : Fld := ⟨0x40310000, 0, 8, .ro, 0xC⟩

/-! ISL.CTL (R252, 08_gate_islands). -/
def R.ISL_CTL_RETRAIN : Fld := ⟨0x40310004, 16, 1, .w1s, 0⟩
def R.ISL_CTL_MAXRATE : Fld := ⟨0x40310004, 8, 2, .rwb, 3⟩
def R.ISL_CTL_UNUSED : Fld := ⟨0x40310004, 0, 6, .ro, 0⟩

/-! ISL.STAT (R252, 08_gate_islands). -/
def R.ISL_STAT_TRBUSY : Fld := ⟨0x40310008, 3, 1, .ro, 0⟩
def R.ISL_STAT_CFGREJ : Fld := ⟨0x40310008, 2, 1, .w1c, 0⟩
def R.ISL_STAT_ENB : Fld := ⟨0x40310008, 1, 1, .ro, 0⟩
def R.ISL_STAT_ENA : Fld := ⟨0x40310008, 0, 1, .ro, 0⟩

/-! ISL.ICFG (R252, 08_gate_islands). -/
def R.ISL_ICFG_SCEN (i : Nat) : Fld := ⟨0x40310100 + 0x40 * i, 7, 1, .rwb, 1⟩
def R.ISL_ICFG_DSATEN (i : Nat) : Fld := ⟨0x40310100 + 0x40 * i, 6, 1, .rwb, 0⟩
def R.ISL_ICFG_TLTOEN (i : Nat) : Fld := ⟨0x40310100 + 0x40 * i, 5, 1, .rwb, 0⟩
def R.ISL_ICFG_LLACT (i : Nat) : Fld := ⟨0x40310100 + 0x40 * i, 4, 1, .rwb, 0⟩
def R.ISL_ICFG_VNEG (i : Nat) : Fld := ⟨0x40310100 + 0x40 * i, 1, 1, .rwb, 0⟩
def R.ISL_ICFG_SUPMODE (i : Nat) : Fld := ⟨0x40310100 + 0x40 * i, 0, 1, .rwb, 0⟩

/-! ISL.UVLO (R252, 08_gate_islands). -/
def R.ISL_UVLO_VEETH (i : Nat) : Fld := ⟨0x40310104 + 0x40 * i, 8, 4, .rwb, 3⟩
def R.ISL_UVLO_VCCTH (i : Nat) : Fld := ⟨0x40310104 + 0x40 * i, 0, 4, .rwb, 4⟩

/-! ISL.SCCFG (R252, 08_gate_islands). -/
def R.ISL_SCCFG_DSATBLK (i : Nat) : Fld := ⟨0x40310108 + 0x40 * i, 24, 6, .rwb, 0x14⟩
def R.ISL_SCCFG_DSATTH (i : Nat) : Fld := ⟨0x40310108 + 0x40 * i, 16, 4, .rwb, 8⟩
def R.ISL_SCCFG_SCBLK (i : Nat) : Fld := ⟨0x40310108 + 0x40 * i, 8, 6, .rwb, 0xA⟩
def R.ISL_SCCFG_SCTH (i : Nat) : Fld := ⟨0x40310108 + 0x40 * i, 0, 5, .rwb, 4⟩

/-! ISL.STO (R252, 08_gate_islands). -/
def R.ISL_STO_TSOFT (i : Nat) : Fld := ⟨0x4031010C + 0x40 * i, 24, 4, .rwb, 4⟩
def R.ISL_STO_ISOFT (i : Nat) : Fld := ⟨0x4031010C + 0x40 * i, 16, 4, .rwb, 4⟩
def R.ISL_STO_TTLTO (i : Nat) : Fld := ⟨0x4031010C + 0x40 * i, 8, 5, .rwb, 4⟩
def R.ISL_STO_VTLTO (i : Nat) : Fld := ⟨0x4031010C + 0x40 * i, 0, 4, .rwb, 4⟩

/-! ISL.AUX (R252, 08_gate_islands). -/
def R.ISL_AUX_ASCDT (i : Nat) : Fld := ⟨0x40310110 + 0x40 * i, 16, 8, .rwb, 0x19⟩
def R.ISL_AUX_OTTH (i : Nat) : Fld := ⟨0x40310110 + 0x40 * i, 0, 4, .rwb, 6⟩

/-! ISL.LSTAT (R252, 08_gate_islands). -/
def R.ISL_LSTAT_CRCCNT (i : Nat) : Fld := ⟨0x40310114 + 0x40 * i, 24, 8, .ro, 0⟩
def R.ISL_LSTAT_FAILC (i : Nat) : Fld := ⟨0x40310114 + 0x40 * i, 16, 4, .ro, 0⟩
def R.ISL_LSTAT_VER (i : Nat) : Fld := ⟨0x40310114 + 0x40 * i, 8, 4, .ro, 0⟩
def R.ISL_LSTAT_RATE (i : Nat) : Fld := ⟨0x40310114 + 0x40 * i, 6, 2, .ro, 0⟩
def R.ISL_LSTAT_CFGPEND (i : Nat) : Fld := ⟨0x40310114 + 0x40 * i, 5, 1, .ro, 0⟩
def R.ISL_LSTAT_LLHELD (i : Nat) : Fld := ⟨0x40310114 + 0x40 * i, 4, 1, .ro, 0⟩
def R.ISL_LSTAT_UNUSED (i : Nat) : Fld := ⟨0x40310114 + 0x40 * i, 3, 1, .ro, 0⟩
def R.ISL_LSTAT_LOST (i : Nat) : Fld := ⟨0x40310114 + 0x40 * i, 2, 1, .ro, 0⟩
def R.ISL_LSTAT_LOSTEV (i : Nat) : Fld := ⟨0x40310114 + 0x40 * i, 1, 1, .w1c, 0⟩
def R.ISL_LSTAT_TRAINED (i : Nat) : Fld := ⟨0x40310114 + 0x40 * i, 0, 1, .ro, 0⟩

/-! ISL.FLT (R252, 08_gate_islands). -/
def R.ISL_FLT_FLTEV (i : Nat) : Fld := ⟨0x40310118 + 0x40 * i, 15, 1, .w1c, 0⟩
def R.ISL_FLT_BACK (i : Nat) : Fld := ⟨0x40310118 + 0x40 * i, 8, 1, .ro, 0⟩
def R.ISL_FLT_SUPRDY (i : Nat) : Fld := ⟨0x40310118 + 0x40 * i, 7, 1, .ro, 0⟩
def R.ISL_FLT_UVCOND (i : Nat) : Fld := ⟨0x40310118 + 0x40 * i, 6, 1, .ro, 0⟩
def R.ISL_FLT_OTCOND (i : Nat) : Fld := ⟨0x40310118 + 0x40 * i, 5, 1, .ro, 0⟩
def R.ISL_FLT_OT (i : Nat) : Fld := ⟨0x40310118 + 0x40 * i, 4, 1, .ro, 0⟩
def R.ISL_FLT_UVEE (i : Nat) : Fld := ⟨0x40310118 + 0x40 * i, 3, 1, .ro, 0⟩
def R.ISL_FLT_UVCC (i : Nat) : Fld := ⟨0x40310118 + 0x40 * i, 2, 1, .ro, 0⟩
def R.ISL_FLT_DSAT (i : Nat) : Fld := ⟨0x40310118 + 0x40 * i, 1, 1, .ro, 0⟩
def R.ISL_FLT_SC (i : Nat) : Fld := ⟨0x40310118 + 0x40 * i, 0, 1, .ro, 0⟩

/-! ISL.VSUP (R252, 08_gate_islands). -/
def R.ISL_VSUP_VEE2 (i : Nat) : Fld := ⟨0x4031011C + 0x40 * i, 16, 16, .ro, 0⟩
def R.ISL_VSUP_VCC2 (i : Nat) : Fld := ⟨0x4031011C + 0x40 * i, 0, 16, .ro, 0⟩

/-! ISL.TEMP (R252, 08_gate_islands). -/
def R.ISL_TEMP_DIE (i : Nat) : Fld := ⟨0x40310120 + 0x40 * i, 0, 16, .ro, 0⟩

/-! ISL.NTC (R252, 08_gate_islands). -/
def R.ISL_NTC_RATIO (i : Nat) : Fld := ⟨0x40310124 + 0x40 * i, 0, 16, .ro, 0⟩

/-! ISL.TPD (R252, 08_gate_islands). -/
def R.ISL_TPD_OFF (i : Nat) : Fld := ⟨0x40310128 + 0x40 * i, 16, 16, .ro, 0⟩
def R.ISL_TPD_ON (i : Nat) : Fld := ⟨0x40310128 + 0x40 * i, 0, 16, .ro, 0⟩

/-! ISL.TTR (R252, 08_gate_islands). -/
def R.ISL_TTR_VALID (i : Nat) : Fld := ⟨0x4031012C + 0x40 * i, 31, 1, .ro, 0⟩
def R.ISL_TTR_PLAT (i : Nat) : Fld := ⟨0x4031012C + 0x40 * i, 16, 14, .ro, 0⟩
def R.ISL_TTR_TIME (i : Nat) : Fld := ⟨0x4031012C + 0x40 * i, 0, 16, .ro, 0⟩

/-! ISL.CNT (R252, 08_gate_islands). -/
def R.ISL_CNT_SCCNT (i : Nat) : Fld := ⟨0x40310130 + 0x40 * i, 24, 8, .ro, 0⟩
def R.ISL_CNT_UVCNT (i : Nat) : Fld := ⟨0x40310130 + 0x40 * i, 16, 8, .ro, 0⟩
def R.ISL_CNT_OTCNT (i : Nat) : Fld := ⟨0x40310130 + 0x40 * i, 8, 8, .ro, 0⟩
def R.ISL_CNT_DSATCNT (i : Nat) : Fld := ⟨0x40310130 + 0x40 * i, 0, 8, .ro, 0⟩

/-- The registers of ISL, part 0. -/
def RegMap.isl0 : List RegDef :=
  [⟨"ISL.INFO", 0x40310000, 4, 1,
      [fun _ => R.ISL_INFO_VERMAX, fun _ => R.ISL_INFO_RATES, fun _ => R.ISL_INFO_NISL]⟩,
   ⟨"ISL.CTL", 0x40310004, 4, 1,
      [fun _ => R.ISL_CTL_RETRAIN, fun _ => R.ISL_CTL_MAXRATE, fun _ => R.ISL_CTL_UNUSED]⟩,
   ⟨"ISL.STAT", 0x40310008, 4, 1,
      [fun _ => R.ISL_STAT_TRBUSY, fun _ => R.ISL_STAT_CFGREJ, fun _ => R.ISL_STAT_ENB, fun _ => R.ISL_STAT_ENA]⟩,
   ⟨"ISL.ICFG", 0x40310100, 0x40, 12,
      [R.ISL_ICFG_SCEN, R.ISL_ICFG_DSATEN, R.ISL_ICFG_TLTOEN, R.ISL_ICFG_LLACT, R.ISL_ICFG_VNEG, R.ISL_ICFG_SUPMODE]⟩,
   ⟨"ISL.UVLO", 0x40310104, 0x40, 12,
      [R.ISL_UVLO_VEETH, R.ISL_UVLO_VCCTH]⟩,
   ⟨"ISL.SCCFG", 0x40310108, 0x40, 12,
      [R.ISL_SCCFG_DSATBLK, R.ISL_SCCFG_DSATTH, R.ISL_SCCFG_SCBLK, R.ISL_SCCFG_SCTH]⟩,
   ⟨"ISL.STO", 0x4031010C, 0x40, 12,
      [R.ISL_STO_TSOFT, R.ISL_STO_ISOFT, R.ISL_STO_TTLTO, R.ISL_STO_VTLTO]⟩,
   ⟨"ISL.AUX", 0x40310110, 0x40, 12,
      [R.ISL_AUX_ASCDT, R.ISL_AUX_OTTH]⟩,
   ⟨"ISL.LSTAT", 0x40310114, 0x40, 12,
      [R.ISL_LSTAT_CRCCNT, R.ISL_LSTAT_FAILC, R.ISL_LSTAT_VER, R.ISL_LSTAT_RATE, R.ISL_LSTAT_CFGPEND, R.ISL_LSTAT_LLHELD, R.ISL_LSTAT_UNUSED, R.ISL_LSTAT_LOST, R.ISL_LSTAT_LOSTEV, R.ISL_LSTAT_TRAINED]⟩,
   ⟨"ISL.FLT", 0x40310118, 0x40, 12,
      [R.ISL_FLT_FLTEV, R.ISL_FLT_BACK, R.ISL_FLT_SUPRDY, R.ISL_FLT_UVCOND, R.ISL_FLT_OTCOND, R.ISL_FLT_OT, R.ISL_FLT_UVEE, R.ISL_FLT_UVCC, R.ISL_FLT_DSAT, R.ISL_FLT_SC]⟩,
   ⟨"ISL.VSUP", 0x4031011C, 0x40, 12,
      [R.ISL_VSUP_VEE2, R.ISL_VSUP_VCC2]⟩,
   ⟨"ISL.TEMP", 0x40310120, 0x40, 12,
      [R.ISL_TEMP_DIE]⟩]

/-- The registers of ISL, part 1. -/
def RegMap.isl1 : List RegDef :=
  [⟨"ISL.NTC", 0x40310124, 0x40, 12,
      [R.ISL_NTC_RATIO]⟩,
   ⟨"ISL.TPD", 0x40310128, 0x40, 12,
      [R.ISL_TPD_OFF, R.ISL_TPD_ON]⟩,
   ⟨"ISL.TTR", 0x4031012C, 0x40, 12,
      [R.ISL_TTR_VALID, R.ISL_TTR_PLAT, R.ISL_TTR_TIME]⟩,
   ⟨"ISL.CNT", 0x40310130, 0x40, 12,
      [R.ISL_CNT_SCCNT, R.ISL_CNT_UVCNT, R.ISL_CNT_OTCNT, R.ISL_CNT_DSATCNT]⟩]

/-! ## SAGGAR -/

/-! SAGGAR.INFO (R278, 09_protection_safety). -/
def R.SAGGAR_INFO_NINV : Fld := ⟨0x40400000, 8, 4, .ro, 2⟩
def R.SAGGAR_INFO_NCMP : Fld := ⟨0x40400000, 0, 8, .ro, 0xC⟩

/-! SAGGAR.STAT (R278, 09_protection_safety). -/
def R.SAGGAR_STAT_CLRCODE : Fld := ⟨0x40400004, 4, 4, .ro, 0⟩
def R.SAGGAR_STAT_CLR_REFUSED : Fld := ⟨0x40400004, 3, 1, .w1c, 0⟩
def R.SAGGAR_STAT_PRESTALE : Fld := ⟨0x40400004, 2, 1, .ro, 1⟩
def R.SAGGAR_STAT_PREREJ : Fld := ⟨0x40400004, 1, 1, .w1c, 0⟩
def R.SAGGAR_STAT_CFGREJ : Fld := ⟨0x40400004, 0, 1, .w1c, 0⟩

/-! SAGGAR.PRESEL (R278, 09_protection_safety). -/
def R.SAGGAR_PRESEL_AGE : Fld := ⟨0x40400008, 16, 16, .ro, 0xFFFF⟩
def R.SAGGAR_PRESEL_B : Fld := ⟨0x40400008, 2, 2, .ro, 0⟩
def R.SAGGAR_PRESEL_A : Fld := ⟨0x40400008, 0, 2, .ro, 0⟩

/-! SAGGAR.DEFAULT (R278, 09_protection_safety). -/
def R.SAGGAR_DEFAULT_B : Fld := ⟨0x4040000C, 2, 2, .rwp, 0⟩
def R.SAGGAR_DEFAULT_A : Fld := ⟨0x4040000C, 0, 2, .rwp, 0⟩

/-! SAGGAR.REQ (R278, 09_protection_safety). -/
def R.SAGGAR_REQ_DISCH : Fld := ⟨0x40400010, 2, 1, .ro, 0⟩
def R.SAGGAR_REQ_SSREQB : Fld := ⟨0x40400010, 1, 1, .ro, 0⟩
def R.SAGGAR_REQ_SSREQA : Fld := ⟨0x40400010, 0, 1, .ro, 0⟩

/-! SAGGAR.CLR (R278, 09_protection_safety). -/
def R.SAGGAR_CLR_CLRDIS : Fld := ⟨0x40400014, 2, 1, .ro, 0⟩
def R.SAGGAR_CLR_CLRB : Fld := ⟨0x40400014, 1, 1, .ro, 0⟩
def R.SAGGAR_CLR_CLRA : Fld := ⟨0x40400014, 0, 1, .ro, 0⟩

/-! SAGGAR.APPLIED (R278, 09_protection_safety). -/
def R.SAGGAR_APPLIED_DREQ : Fld := ⟨0x40400018, 17, 1, .ro, 0⟩
def R.SAGGAR_APPLIED_DLATCH : Fld := ⟨0x40400018, 16, 1, .ro, 0⟩
def R.SAGGAR_APPLIED_SIDEB : Fld := ⟨0x40400018, 12, 1, .ro, 0⟩
def R.SAGGAR_APPLIED_SRCB : Fld := ⟨0x40400018, 11, 1, .ro, 0⟩
def R.SAGGAR_APPLIED_LATCHB : Fld := ⟨0x40400018, 10, 1, .ro, 0⟩
def R.SAGGAR_APPLIED_STATEB : Fld := ⟨0x40400018, 8, 2, .ro, 0⟩
def R.SAGGAR_APPLIED_SIDEA : Fld := ⟨0x40400018, 4, 1, .ro, 0⟩
def R.SAGGAR_APPLIED_SRCA : Fld := ⟨0x40400018, 3, 1, .ro, 0⟩
def R.SAGGAR_APPLIED_LATCHA : Fld := ⟨0x40400018, 2, 1, .ro, 0⟩
def R.SAGGAR_APPLIED_STATEA : Fld := ⟨0x40400018, 0, 2, .ro, 0⟩

/-! SAGGAR.HBSUM (R278, 09_protection_safety). -/
def R.SAGGAR_HBSUM_SUM : Fld := ⟨0x4040001C, 0, 32, .ro, 0⟩

/-! SAGGAR.HBTURN (R278, 09_protection_safety). -/
def R.SAGGAR_HBTURN_VALID : Fld := ⟨0x40400020, 31, 1, .ro, 0⟩
def R.SAGGAR_HBTURN_TURN : Fld := ⟨0x40400020, 0, 16, .ro, 0⟩

/-! SAGGAR.TMWIN (R278, 09_protection_safety). -/
def R.SAGGAR_TMWIN_TICKS : Fld := ⟨0x40400024, 0, 20, .ro, 0⟩

/-! SAGGAR.TSWIN (R278, 09_protection_safety). -/
def R.SAGGAR_TSWIN_TICKS : Fld := ⟨0x40400028, 0, 20, .ro, 0⟩

/-! SAGGAR.DISCHMASK (R278, 09_protection_safety). -/
def R.SAGGAR_DISCHMASK_MASK : Fld := ⟨0x4040002C, 0, 29, .rwp, 0⟩

/-! SAGGAR.LATCH (R278, 09_protection_safety). -/
def R.SAGGAR_LATCH_INPUTS (i : Nat) : Fld := ⟨0x40400030 + 0x4 * i, 0, 29, .ro, 0⟩

/-! SAGGAR.ACTIVE (R278, 09_protection_safety). -/
def R.SAGGAR_ACTIVE_INPUTS (i : Nat) : Fld := ⟨0x40400038 + 0x4 * i, 0, 29, .ro, 0⟩

/-! SAGGAR.FIRST (R278, 09_protection_safety). -/
def R.SAGGAR_FIRST_INPUTS (i : Nat) : Fld := ⟨0x40400040 + 0x4 * i, 0, 29, .ro, 0⟩

/-! SAGGAR.TRIPTS (R278, 09_protection_safety). -/
def R.SAGGAR_TRIPTS_TSC (i : Nat) : Fld := ⟨0x40400048 + 0x4 * i, 0, 32, .ro, 0⟩

/-! SAGGAR.PINCFG (R278, 09_protection_safety). -/
def R.SAGGAR_PINCFG_ROUTEB : Fld := ⟨0x40400050, 13, 1, .rwp, 0⟩
def R.SAGGAR_PINCFG_ENB : Fld := ⟨0x40400050, 12, 1, .rwp, 0⟩
def R.SAGGAR_PINCFG_FILTB : Fld := ⟨0x40400050, 8, 4, .rwp, 0⟩
def R.SAGGAR_PINCFG_ROUTEA : Fld := ⟨0x40400050, 5, 1, .rwp, 0⟩
def R.SAGGAR_PINCFG_ENA : Fld := ⟨0x40400050, 4, 1, .rwp, 0⟩
def R.SAGGAR_PINCFG_FILTA : Fld := ⟨0x40400050, 0, 4, .rwp, 0⟩

/-! SAGGAR.CMPCFG (R278, 09_protection_safety). -/
def R.SAGGAR_CMPCFG_FILT (i : Nat) : Fld := ⟨0x40400100 + 0x8 * i, 8, 4, .rwp, 0⟩
def R.SAGGAR_CMPCFG_INV (i : Nat) : Fld := ⟨0x40400100 + 0x8 * i, 0, 2, .rwp, 0⟩

/-! SAGGAR.CMPTH (R278, 09_protection_safety). -/
def R.SAGGAR_CMPTH_HI (i : Nat) : Fld := ⟨0x40400104 + 0x8 * i, 16, 12, .rwp, 0xFFF⟩
def R.SAGGAR_CMPTH_LO (i : Nat) : Fld := ⟨0x40400104 + 0x8 * i, 0, 12, .rwp, 0⟩

/-! SAGGAR.DCCFG (R278, 09_protection_safety). -/
def R.SAGGAR_DCCFG_FILT (i : Nat) : Fld := ⟨0x40400180 + 0x8 * i, 12, 4, .rwp, 0⟩
def R.SAGGAR_DCCFG_SHARE (i : Nat) : Fld := ⟨0x40400180 + 0x8 * i, 10, 1, .rwp, 0⟩
def R.SAGGAR_DCCFG_UVEN (i : Nat) : Fld := ⟨0x40400180 + 0x8 * i, 9, 1, .rwp, 0⟩
def R.SAGGAR_DCCFG_OVEN (i : Nat) : Fld := ⟨0x40400180 + 0x8 * i, 8, 1, .rwp, 0⟩
def R.SAGGAR_DCCFG_AIN (i : Nat) : Fld := ⟨0x40400180 + 0x8 * i, 0, 6, .rwp, 0⟩

/-! SAGGAR.DCTH (R278, 09_protection_safety). -/
def R.SAGGAR_DCTH_OV (i : Nat) : Fld := ⟨0x40400184 + 0x8 * i, 16, 12, .rwp, 0xFFF⟩
def R.SAGGAR_DCTH_UV (i : Nat) : Fld := ⟨0x40400184 + 0x8 * i, 0, 12, .rwp, 0⟩

/-- The registers of SAGGAR, part 0. -/
def RegMap.saggar0 : List RegDef :=
  [⟨"SAGGAR.INFO", 0x40400000, 4, 1,
      [fun _ => R.SAGGAR_INFO_NINV, fun _ => R.SAGGAR_INFO_NCMP]⟩,
   ⟨"SAGGAR.STAT", 0x40400004, 4, 1,
      [fun _ => R.SAGGAR_STAT_CLRCODE, fun _ => R.SAGGAR_STAT_CLR_REFUSED, fun _ => R.SAGGAR_STAT_PRESTALE, fun _ => R.SAGGAR_STAT_PREREJ, fun _ => R.SAGGAR_STAT_CFGREJ]⟩,
   ⟨"SAGGAR.PRESEL", 0x40400008, 4, 1,
      [fun _ => R.SAGGAR_PRESEL_AGE, fun _ => R.SAGGAR_PRESEL_B, fun _ => R.SAGGAR_PRESEL_A]⟩,
   ⟨"SAGGAR.DEFAULT", 0x4040000C, 4, 1,
      [fun _ => R.SAGGAR_DEFAULT_B, fun _ => R.SAGGAR_DEFAULT_A]⟩,
   ⟨"SAGGAR.REQ", 0x40400010, 4, 1,
      [fun _ => R.SAGGAR_REQ_DISCH, fun _ => R.SAGGAR_REQ_SSREQB, fun _ => R.SAGGAR_REQ_SSREQA]⟩,
   ⟨"SAGGAR.CLR", 0x40400014, 4, 1,
      [fun _ => R.SAGGAR_CLR_CLRDIS, fun _ => R.SAGGAR_CLR_CLRB, fun _ => R.SAGGAR_CLR_CLRA]⟩,
   ⟨"SAGGAR.APPLIED", 0x40400018, 4, 1,
      [fun _ => R.SAGGAR_APPLIED_DREQ, fun _ => R.SAGGAR_APPLIED_DLATCH, fun _ => R.SAGGAR_APPLIED_SIDEB, fun _ => R.SAGGAR_APPLIED_SRCB, fun _ => R.SAGGAR_APPLIED_LATCHB, fun _ => R.SAGGAR_APPLIED_STATEB, fun _ => R.SAGGAR_APPLIED_SIDEA, fun _ => R.SAGGAR_APPLIED_SRCA, fun _ => R.SAGGAR_APPLIED_LATCHA, fun _ => R.SAGGAR_APPLIED_STATEA]⟩,
   ⟨"SAGGAR.HBSUM", 0x4040001C, 4, 1,
      [fun _ => R.SAGGAR_HBSUM_SUM]⟩,
   ⟨"SAGGAR.HBTURN", 0x40400020, 4, 1,
      [fun _ => R.SAGGAR_HBTURN_VALID, fun _ => R.SAGGAR_HBTURN_TURN]⟩,
   ⟨"SAGGAR.TMWIN", 0x40400024, 4, 1,
      [fun _ => R.SAGGAR_TMWIN_TICKS]⟩,
   ⟨"SAGGAR.TSWIN", 0x40400028, 4, 1,
      [fun _ => R.SAGGAR_TSWIN_TICKS]⟩,
   ⟨"SAGGAR.DISCHMASK", 0x4040002C, 4, 1,
      [fun _ => R.SAGGAR_DISCHMASK_MASK]⟩]

/-- The registers of SAGGAR, part 1. -/
def RegMap.saggar1 : List RegDef :=
  [⟨"SAGGAR.LATCH", 0x40400030, 0x4, 2,
      [R.SAGGAR_LATCH_INPUTS]⟩,
   ⟨"SAGGAR.ACTIVE", 0x40400038, 0x4, 2,
      [R.SAGGAR_ACTIVE_INPUTS]⟩,
   ⟨"SAGGAR.FIRST", 0x40400040, 0x4, 2,
      [R.SAGGAR_FIRST_INPUTS]⟩,
   ⟨"SAGGAR.TRIPTS", 0x40400048, 0x4, 2,
      [R.SAGGAR_TRIPTS_TSC]⟩,
   ⟨"SAGGAR.PINCFG", 0x40400050, 4, 1,
      [fun _ => R.SAGGAR_PINCFG_ROUTEB, fun _ => R.SAGGAR_PINCFG_ENB, fun _ => R.SAGGAR_PINCFG_FILTB, fun _ => R.SAGGAR_PINCFG_ROUTEA, fun _ => R.SAGGAR_PINCFG_ENA, fun _ => R.SAGGAR_PINCFG_FILTA]⟩,
   ⟨"SAGGAR.CMPCFG", 0x40400100, 0x8, 12,
      [R.SAGGAR_CMPCFG_FILT, R.SAGGAR_CMPCFG_INV]⟩,
   ⟨"SAGGAR.CMPTH", 0x40400104, 0x8, 12,
      [R.SAGGAR_CMPTH_HI, R.SAGGAR_CMPTH_LO]⟩,
   ⟨"SAGGAR.DCCFG", 0x40400180, 0x8, 2,
      [R.SAGGAR_DCCFG_FILT, R.SAGGAR_DCCFG_SHARE, R.SAGGAR_DCCFG_UVEN, R.SAGGAR_DCCFG_OVEN, R.SAGGAR_DCCFG_AIN]⟩,
   ⟨"SAGGAR.DCTH", 0x40400184, 0x8, 2,
      [R.SAGGAR_DCTH_OV, R.SAGGAR_DCTH_UV]⟩]

/-! ## CONE -/

/-! CONE.INFO (R279, 09_protection_safety). -/
def R.CONE_INFO_NCC : Fld := ⟨0x40410000, 8, 8, .ro, 4⟩
def R.CONE_INFO_NCAIN : Fld := ⟨0x40410000, 0, 8, .ro, 8⟩

/-! CONE.STAT (R279, 09_protection_safety). -/
def R.CONE_STAT_CFGREJ : Fld := ⟨0x40410004, 2, 1, .w1c, 0⟩
def R.CONE_STAT_LSERR : Fld := ⟨0x40410004, 1, 1, .ro, 0⟩
def R.CONE_STAT_RUNNING : Fld := ⟨0x40410004, 0, 1, .ro, 0⟩

/-! CONE.CYCLE (R279, 09_protection_safety). -/
def R.CONE_CYCLE_COUNT : Fld := ⟨0x40410008, 0, 32, .ro, 0⟩

/-! CONE.SCLR (R279, 09_protection_safety). -/
def R.CONE_SCLR_REQ : Fld := ⟨0x4041000C, 0, 3, .w1s, 0⟩

/-! CONE.TREQ (R279, 09_protection_safety). -/
def R.CONE_TREQ_VALUE (i : Nat) : Fld := ⟨0x40410010 + 0x4 * i, 0, 32, .rw, 0⟩

/-! CONE.TDEL (R279, 09_protection_safety). -/
def R.CONE_TDEL_VALUE (i : Nat) : Fld := ⟨0x40410018 + 0x4 * i, 0, 32, .ro, 0⟩

/-! CONE.TMSTAT (R279, 09_protection_safety). -/
def R.CONE_TMSTAT_CAUSE (i : Nat) : Fld := ⟨0x40410020 + 0x4 * i, 16, 4, .ro, 0⟩
def R.CONE_TMSTAT_SSREQ (i : Nat) : Fld := ⟨0x40410020 + 0x4 * i, 12, 1, .ro, 0⟩
def R.CONE_TMSTAT_ANGINV (i : Nat) : Fld := ⟨0x40410020 + 0x4 * i, 11, 1, .ro, 0⟩
def R.CONE_TMSTAT_REQSTALE (i : Nat) : Fld := ⟨0x40410020 + 0x4 * i, 10, 1, .ro, 0⟩
def R.CONE_TMSTAT_OUTTAB (i : Nat) : Fld := ⟨0x40410020 + 0x4 * i, 9, 1, .ro, 0⟩
def R.CONE_TMSTAT_OUTBAND (i : Nat) : Fld := ⟨0x40410020 + 0x4 * i, 8, 1, .ro, 0⟩
def R.CONE_TMSTAT_DEVCNT (i : Nat) : Fld := ⟨0x40410020 + 0x4 * i, 0, 8, .ro, 0⟩

/-! CONE.CHKSTAT (R279, 09_protection_safety). -/
def R.CONE_CHKSTAT_XSKIP : Fld := ⟨0x40410028, 24, 8, .ro, 0⟩
def R.CONE_CHKSTAT_XCMISB : Fld := ⟨0x40410028, 16, 8, .ro, 0⟩
def R.CONE_CHKSTAT_XCMISA : Fld := ⟨0x40410028, 8, 8, .ro, 0⟩
def R.CONE_CHKSTAT_HBMIS : Fld := ⟨0x40410028, 0, 8, .ro, 0⟩

/-! CONE.DISCH (R279, 09_protection_safety). -/
def R.CONE_DISCH_ELAPSED : Fld := ⟨0x40410030, 16, 16, .ro, 0⟩
def R.CONE_DISCH_SLOW : Fld := ⟨0x40410030, 2, 1, .w1c, 0⟩
def R.CONE_DISCH_DONE : Fld := ⟨0x40410030, 1, 1, .ro, 0⟩
def R.CONE_DISCH_ACTIVE : Fld := ⟨0x40410030, 0, 1, .ro, 0⟩

/-! CONE.CRES (R279, 09_protection_safety). -/
def R.CONE_CRES_VALID (i : Nat) : Fld := ⟨0x40410040 + 0x4 * i, 24, 1, .ro, 0⟩
def R.CONE_CRES_SEQ (i : Nat) : Fld := ⟨0x40410040 + 0x4 * i, 16, 8, .ro, 0⟩
def R.CONE_CRES_RAW (i : Nat) : Fld := ⟨0x40410040 + 0x4 * i, 0, 12, .ro, 0⟩

/-- The registers of CONE, part 0. -/
def RegMap.cone0 : List RegDef :=
  [⟨"CONE.INFO", 0x40410000, 4, 1,
      [fun _ => R.CONE_INFO_NCC, fun _ => R.CONE_INFO_NCAIN]⟩,
   ⟨"CONE.STAT", 0x40410004, 4, 1,
      [fun _ => R.CONE_STAT_CFGREJ, fun _ => R.CONE_STAT_LSERR, fun _ => R.CONE_STAT_RUNNING]⟩,
   ⟨"CONE.CYCLE", 0x40410008, 4, 1,
      [fun _ => R.CONE_CYCLE_COUNT]⟩,
   ⟨"CONE.SCLR", 0x4041000C, 4, 1,
      [fun _ => R.CONE_SCLR_REQ]⟩,
   ⟨"CONE.TREQ", 0x40410010, 0x4, 2,
      [R.CONE_TREQ_VALUE]⟩,
   ⟨"CONE.TDEL", 0x40410018, 0x4, 2,
      [R.CONE_TDEL_VALUE]⟩,
   ⟨"CONE.TMSTAT", 0x40410020, 0x4, 2,
      [R.CONE_TMSTAT_CAUSE, R.CONE_TMSTAT_SSREQ, R.CONE_TMSTAT_ANGINV, R.CONE_TMSTAT_REQSTALE, R.CONE_TMSTAT_OUTTAB, R.CONE_TMSTAT_OUTBAND, R.CONE_TMSTAT_DEVCNT]⟩,
   ⟨"CONE.CHKSTAT", 0x40410028, 4, 1,
      [fun _ => R.CONE_CHKSTAT_XSKIP, fun _ => R.CONE_CHKSTAT_XCMISB, fun _ => R.CONE_CHKSTAT_XCMISA, fun _ => R.CONE_CHKSTAT_HBMIS]⟩,
   ⟨"CONE.DISCH", 0x40410030, 4, 1,
      [fun _ => R.CONE_DISCH_ELAPSED, fun _ => R.CONE_DISCH_SLOW, fun _ => R.CONE_DISCH_DONE, fun _ => R.CONE_DISCH_ACTIVE]⟩,
   ⟨"CONE.CRES", 0x40410040, 0x4, 8,
      [R.CONE_CRES_VALID, R.CONE_CRES_SEQ, R.CONE_CRES_RAW]⟩]

/-! ## SAFEOUT -/

/-! SAFEOUT.INFO (R296, 10_safe_outputs_config). -/
def R.SAFEOUT_INFO_NSO : Fld := ⟨0x40420000, 0, 8, .ro, 4⟩

/-! SAFEOUT.STAT (R296, 10_safe_outputs_config). -/
def R.SAFEOUT_STAT_CFGREJ : Fld := ⟨0x40420004, 0, 1, .w1c, 0⟩

/-! SAFEOUT.CMD (R296, 10_safe_outputs_config). -/
def R.SAFEOUT_CMD_SO : Fld := ⟨0x40420010, 0, 3, .ro, 0⟩

/-! SAFEOUT.CFG (R296, 10_safe_outputs_config). -/
def R.SAFEOUT_CFG_TPER (i : Nat) : Fld := ⟨0x40420100 + 0x10 * i, 24, 8, .rwp, 0xA⟩
def R.SAFEOUT_CFG_ONW (i : Nat) : Fld := ⟨0x40420100 + 0x10 * i, 16, 7, .rwp, 0⟩
def R.SAFEOUT_CFG_OFFW (i : Nat) : Fld := ⟨0x40420100 + 0x10 * i, 8, 7, .rwp, 0⟩
def R.SAFEOUT_CFG_FLTOFF (i : Nat) : Fld := ⟨0x40420100 + 0x10 * i, 4, 1, .rwp, 0⟩
def R.SAFEOUT_CFG_POL (i : Nat) : Fld := ⟨0x40420100 + 0x10 * i, 3, 1, .rwp, 0⟩
def R.SAFEOUT_CFG_SRC (i : Nat) : Fld := ⟨0x40420100 + 0x10 * i, 0, 3, .rwp, 0⟩

/-! SAFEOUT.OSTAT (R296, 10_safe_outputs_config). -/
def R.SAFEOUT_OSTAT_FCAUSE (i : Nat) : Fld := ⟨0x40420104 + 0x10 * i, 8, 4, .ro, 0⟩
def R.SAFEOUT_OSTAT_SOFLT (i : Nat) : Fld := ⟨0x40420104 + 0x10 * i, 5, 1, .ro, 0⟩
def R.SAFEOUT_OSTAT_OC (i : Nat) : Fld := ⟨0x40420104 + 0x10 * i, 4, 1, .w1c, 0⟩
def R.SAFEOUT_OSTAT_TESTING (i : Nat) : Fld := ⟨0x40420104 + 0x10 * i, 3, 1, .ro, 0⟩
def R.SAFEOUT_OSTAT_DEMAND (i : Nat) : Fld := ⟨0x40420104 + 0x10 * i, 2, 1, .ro, 0⟩
def R.SAFEOUT_OSTAT_LSON (i : Nat) : Fld := ⟨0x40420104 + 0x10 * i, 1, 1, .ro, 0⟩
def R.SAFEOUT_OSTAT_HSON (i : Nat) : Fld := ⟨0x40420104 + 0x10 * i, 0, 1, .ro, 0⟩

/-! SAFEOUT.TCNT (R296, 10_safe_outputs_config). -/
def R.SAFEOUT_TCNT_PASSCNT (i : Nat) : Fld := ⟨0x40420108 + 0x10 * i, 16, 16, .ro, 0⟩
def R.SAFEOUT_TCNT_ABORTCNT (i : Nat) : Fld := ⟨0x40420108 + 0x10 * i, 8, 8, .ro, 0⟩
def R.SAFEOUT_TCNT_FAILCNT (i : Nat) : Fld := ⟨0x40420108 + 0x10 * i, 0, 8, .ro, 0⟩

/-- The registers of SAFEOUT, part 0. -/
def RegMap.safeout0 : List RegDef :=
  [⟨"SAFEOUT.INFO", 0x40420000, 4, 1,
      [fun _ => R.SAFEOUT_INFO_NSO]⟩,
   ⟨"SAFEOUT.STAT", 0x40420004, 4, 1,
      [fun _ => R.SAFEOUT_STAT_CFGREJ]⟩,
   ⟨"SAFEOUT.CMD", 0x40420010, 4, 1,
      [fun _ => R.SAFEOUT_CMD_SO]⟩,
   ⟨"SAFEOUT.CFG", 0x40420100, 0x10, 4,
      [R.SAFEOUT_CFG_TPER, R.SAFEOUT_CFG_ONW, R.SAFEOUT_CFG_OFFW, R.SAFEOUT_CFG_FLTOFF, R.SAFEOUT_CFG_POL, R.SAFEOUT_CFG_SRC]⟩,
   ⟨"SAFEOUT.OSTAT", 0x40420104, 0x10, 4,
      [R.SAFEOUT_OSTAT_FCAUSE, R.SAFEOUT_OSTAT_SOFLT, R.SAFEOUT_OSTAT_OC, R.SAFEOUT_OSTAT_TESTING, R.SAFEOUT_OSTAT_DEMAND, R.SAFEOUT_OSTAT_LSON, R.SAFEOUT_OSTAT_HSON]⟩,
   ⟨"SAFEOUT.TCNT", 0x40420108, 0x10, 4,
      [R.SAFEOUT_TCNT_PASSCNT, R.SAFEOUT_TCNT_ABORTCNT, R.SAFEOUT_TCNT_FAILCNT]⟩]

/-! ## SAFECFG -/

/-! SAFECFG.CTL (R296, 10_safe_outputs_config). -/
def R.SAFECFG_CTL_RELOCK : Fld := ⟨0x40420800, 2, 1, .w1s, 0⟩
def R.SAFECFG_CTL_UNLOCK : Fld := ⟨0x40420800, 1, 1, .w1s, 0⟩
def R.SAFECFG_CTL_PSET : Fld := ⟨0x40420800, 0, 1, .w1s, 0⟩

/-! SAFECFG.STAT (R296, 10_safe_outputs_config). -/
def R.SAFECFG_STAT_NCHG : Fld := ⟨0x40420804, 16, 16, .ro, 0⟩
def R.SAFECFG_STAT_RESULT : Fld := ⟨0x40420804, 12, 4, .ro, 0⟩
def R.SAFECFG_STAT_TRIES : Fld := ⟨0x40420804, 8, 2, .ro, 0⟩
def R.SAFECFG_STAT_LOCKOUT : Fld := ⟨0x40420804, 2, 1, .ro, 0⟩
def R.SAFECFG_STAT_BUSY : Fld := ⟨0x40420804, 1, 1, .ro, 0⟩
def R.SAFECFG_STAT_UNLOCKED : Fld := ⟨0x40420804, 0, 1, .ro, 0⟩

/-! SAFECFG.PW (R296, 10_safe_outputs_config). -/
def R.SAFECFG_PW_BYTES (i : Nat) : Fld := ⟨0x40420810 + 0x4 * i, 0, 32, .wo, 0⟩

/-! SAFECFG.PID (R296, 10_safe_outputs_config). -/
def R.SAFECFG_PID_ID : Fld := ⟨0x40420820, 0, 16, .rw, 0⟩

/-! SAFECFG.PVAL (R296, 10_safe_outputs_config). -/
def R.SAFECFG_PVAL_VALUE : Fld := ⟨0x40420824, 0, 32, .rw, 0⟩

/-! SAFECFG.LOGPTR (R296, 10_safe_outputs_config). -/
def R.SAFECFG_LOGPTR_UNMIR : Fld := ⟨0x40420830, 16, 9, .ro, 0⟩
def R.SAFECFG_LOGPTR_HEAD : Fld := ⟨0x40420830, 8, 8, .ro, 0⟩
def R.SAFECFG_LOGPTR_IDX : Fld := ⟨0x40420830, 0, 8, .rw, 0⟩

/-! SAFECFG.LOGDATA (R296, 10_safe_outputs_config). -/
def R.SAFECFG_LOGDATA_WORD (i : Nat) : Fld := ⟨0x40420840 + 0x4 * i, 0, 32, .ro, 0⟩

/-- The registers of SAFECFG, part 0. -/
def RegMap.safecfg0 : List RegDef :=
  [⟨"SAFECFG.CTL", 0x40420800, 4, 1,
      [fun _ => R.SAFECFG_CTL_RELOCK, fun _ => R.SAFECFG_CTL_UNLOCK, fun _ => R.SAFECFG_CTL_PSET]⟩,
   ⟨"SAFECFG.STAT", 0x40420804, 4, 1,
      [fun _ => R.SAFECFG_STAT_NCHG, fun _ => R.SAFECFG_STAT_RESULT, fun _ => R.SAFECFG_STAT_TRIES, fun _ => R.SAFECFG_STAT_LOCKOUT, fun _ => R.SAFECFG_STAT_BUSY, fun _ => R.SAFECFG_STAT_UNLOCKED]⟩,
   ⟨"SAFECFG.PW", 0x40420810, 0x4, 4,
      [R.SAFECFG_PW_BYTES]⟩,
   ⟨"SAFECFG.PID", 0x40420820, 4, 1,
      [fun _ => R.SAFECFG_PID_ID]⟩,
   ⟨"SAFECFG.PVAL", 0x40420824, 4, 1,
      [fun _ => R.SAFECFG_PVAL_VALUE]⟩,
   ⟨"SAFECFG.LOGPTR", 0x40420830, 4, 1,
      [fun _ => R.SAFECFG_LOGPTR_UNMIR, fun _ => R.SAFECFG_LOGPTR_HEAD, fun _ => R.SAFECFG_LOGPTR_IDX]⟩,
   ⟨"SAFECFG.LOGDATA", 0x40420840, 0x4, 8,
      [R.SAFECFG_LOGDATA_WORD]⟩]

/-! ## WEDGE -/

/-! WEDGE.STAT (R328, 11_wedging). -/
def R.WEDGE_STAT_SKIPB : Fld := ⟨0x40010000, 10, 1, .ro, 0⟩
def R.WEDGE_STAT_SKIPA : Fld := ⟨0x40010000, 9, 1, .ro, 0⟩
def R.WEDGE_STAT_PASS : Fld := ⟨0x40010000, 8, 1, .ro, 0⟩
def R.WEDGE_STAT_BOOTSLOT : Fld := ⟨0x40010000, 4, 2, .ro, 0⟩
def R.WEDGE_STAT_PHASE : Fld := ⟨0x40010000, 0, 4, .ro, 1⟩

/-! WEDGE.XSPI (R328, 11_wedging). -/
def R.WEDGE_XSPI_FREQ : Fld := ⟨0x40010004, 16, 8, .ro, 0x19⟩
def R.WEDGE_XSPI_SFDP : Fld := ⟨0x40010004, 7, 1, .ro, 0⟩
def R.WEDGE_XSPI_ADDR4 : Fld := ⟨0x40010004, 6, 1, .ro, 0⟩
def R.WEDGE_XSPI_CHKFAIL : Fld := ⟨0x40010004, 4, 2, .ro, 0⟩
def R.WEDGE_XSPI_MODE : Fld := ⟨0x40010004, 0, 4, .ro, 1⟩

/-! WEDGE.TIME (R328, 11_wedging). -/
def R.WEDGE_TIME_US : Fld := ⟨0x40010008, 0, 32, .ro, 0⟩

/-! WEDGE.IMG (R328, 11_wedging). -/
def R.WEDGE_IMG_ROLLBACK : Fld := ⟨0x4001000C, 24, 8, .ro, 0⟩
def R.WEDGE_IMG_KEYSLOT : Fld := ⟨0x4001000C, 0, 2, .ro, 0⟩

/-! WEDGE.IMGVER (R328, 11_wedging). -/
def R.WEDGE_IMGVER_VERSION : Fld := ⟨0x40010010, 0, 32, .ro, 0⟩

/-! WEDGE.KEYS (R328, 11_wedging). -/
def R.WEDGE_KEYS_OTPCNT : Fld := ⟨0x40010014, 16, 8, .ro, 0⟩
def R.WEDGE_KEYS_REVOKED : Fld := ⟨0x40010014, 8, 3, .ro, 0⟩
def R.WEDGE_KEYS_PROG : Fld := ⟨0x40010014, 0, 3, .ro, 0⟩

/-! WEDGE.REP (R328, 11_wedging). -/
def R.WEDGE_REP_SIDX (i : Nat) : Fld := ⟨0x40010020 + 0x10 * i, 16, 8, .ro, 0xFF⟩
def R.WEDGE_REP_SSEC (i : Nat) : Fld := ⟨0x40010020 + 0x10 * i, 8, 4, .ro, 0xF⟩
def R.WEDGE_REP_CODE (i : Nat) : Fld := ⟨0x40010020 + 0x10 * i, 0, 8, .ro, 0xFF⟩

/-! WEDGE.REPADDR (R328, 11_wedging). -/
def R.WEDGE_REPADDR_VALUE (i : Nat) : Fld := ⟨0x40010024 + 0x10 * i, 0, 32, .ro, 0xFFFFFFFF⟩

/-! WEDGE.REPCYC (R328, 11_wedging). -/
def R.WEDGE_REPCYC_VALUE (i : Nat) : Fld := ⟨0x40010028 + 0x10 * i, 0, 32, .ro, 0xFFFFFFFF⟩

/-! WEDGE.IHASH (R328, 11_wedging). -/
def R.WEDGE_IHASH_BYTES (i : Nat) : Fld := ⟨0x40010040 + 0x4 * i, 0, 32, .ro, 0⟩

/-! WEDGE.UCTL (R328, 11_wedging). -/
def R.WEDGE_UCTL_CMD : Fld := ⟨0x40010100, 0, 4, .wo, 0⟩

/-! WEDGE.USTAT (R328, 11_wedging). -/
def R.WEDGE_USTAT_URES : Fld := ⟨0x40010104, 16, 8, .ro, 0⟩
def R.WEDGE_USTAT_OWNER : Fld := ⟨0x40010104, 8, 2, .ro, 0⟩
def R.WEDGE_USTAT_UBUSY : Fld := ⟨0x40010104, 7, 1, .ro, 0⟩
def R.WEDGE_USTAT_USTATE : Fld := ⟨0x40010104, 4, 3, .ro, 0⟩
def R.WEDGE_USTAT_TARGET : Fld := ⟨0x40010104, 0, 2, .ro, 0⟩

/-! WEDGE.ULEN (R328, 11_wedging). -/
def R.WEDGE_ULEN_LEN : Fld := ⟨0x40010108, 0, 23, .rw, 0⟩

/-! WEDGE.UADDR (R328, 11_wedging). -/
def R.WEDGE_UADDR_COUNT : Fld := ⟨0x4001010C, 0, 23, .ro, 0⟩

/-! WEDGE.UDATA (R328, 11_wedging). -/
def R.WEDGE_UDATA_WORD : Fld := ⟨0x40010110, 0, 32, .wo, 0⟩

/-- The registers of WEDGE, part 0. -/
def RegMap.wedge0 : List RegDef :=
  [⟨"WEDGE.STAT", 0x40010000, 4, 1,
      [fun _ => R.WEDGE_STAT_SKIPB, fun _ => R.WEDGE_STAT_SKIPA, fun _ => R.WEDGE_STAT_PASS, fun _ => R.WEDGE_STAT_BOOTSLOT, fun _ => R.WEDGE_STAT_PHASE]⟩,
   ⟨"WEDGE.XSPI", 0x40010004, 4, 1,
      [fun _ => R.WEDGE_XSPI_FREQ, fun _ => R.WEDGE_XSPI_SFDP, fun _ => R.WEDGE_XSPI_ADDR4, fun _ => R.WEDGE_XSPI_CHKFAIL, fun _ => R.WEDGE_XSPI_MODE]⟩,
   ⟨"WEDGE.TIME", 0x40010008, 4, 1,
      [fun _ => R.WEDGE_TIME_US]⟩,
   ⟨"WEDGE.IMG", 0x4001000C, 4, 1,
      [fun _ => R.WEDGE_IMG_ROLLBACK, fun _ => R.WEDGE_IMG_KEYSLOT]⟩,
   ⟨"WEDGE.IMGVER", 0x40010010, 4, 1,
      [fun _ => R.WEDGE_IMGVER_VERSION]⟩,
   ⟨"WEDGE.KEYS", 0x40010014, 4, 1,
      [fun _ => R.WEDGE_KEYS_OTPCNT, fun _ => R.WEDGE_KEYS_REVOKED, fun _ => R.WEDGE_KEYS_PROG]⟩,
   ⟨"WEDGE.REP", 0x40010020, 0x10, 2,
      [R.WEDGE_REP_SIDX, R.WEDGE_REP_SSEC, R.WEDGE_REP_CODE]⟩,
   ⟨"WEDGE.REPADDR", 0x40010024, 0x10, 2,
      [R.WEDGE_REPADDR_VALUE]⟩,
   ⟨"WEDGE.REPCYC", 0x40010028, 0x10, 2,
      [R.WEDGE_REPCYC_VALUE]⟩,
   ⟨"WEDGE.IHASH", 0x40010040, 0x4, 16,
      [R.WEDGE_IHASH_BYTES]⟩,
   ⟨"WEDGE.UCTL", 0x40010100, 4, 1,
      [fun _ => R.WEDGE_UCTL_CMD]⟩,
   ⟨"WEDGE.USTAT", 0x40010104, 4, 1,
      [fun _ => R.WEDGE_USTAT_URES, fun _ => R.WEDGE_USTAT_OWNER, fun _ => R.WEDGE_USTAT_UBUSY, fun _ => R.WEDGE_USTAT_USTATE, fun _ => R.WEDGE_USTAT_TARGET]⟩]

/-- The registers of WEDGE, part 1. -/
def RegMap.wedge1 : List RegDef :=
  [⟨"WEDGE.ULEN", 0x40010108, 4, 1,
      [fun _ => R.WEDGE_ULEN_LEN]⟩,
   ⟨"WEDGE.UADDR", 0x4001010C, 4, 1,
      [fun _ => R.WEDGE_UADDR_COUNT]⟩,
   ⟨"WEDGE.UDATA", 0x40010110, 4, 1,
      [fun _ => R.WEDGE_UDATA_WORD]⟩]

/-! ## SEC -/

/-! SEC.INFO (R346, 12_lifecycle_security). -/
def R.SEC_INFO_NSLOT : Fld := ⟨0x40020000, 0, 4, .ro, 3⟩

/-! SEC.LC (R346, 12_lifecycle_security). -/
def R.SEC_LC_OTP : Fld := ⟨0x40020004, 8, 4, .ro, 0⟩
def R.SEC_LC_PARTIAL : Fld := ⟨0x40020004, 7, 1, .ro, 0⟩
def R.SEC_LC_CUR : Fld := ⟨0x40020004, 0, 4, .ro, 0⟩

/-! SEC.LCCMD (R346, 12_lifecycle_security). -/
def R.SEC_LCCMD_TARGET : Fld := ⟨0x40020008, 0, 4, .wo, 0⟩

/-! SEC.STAT (R346, 12_lifecycle_security). -/
def R.SEC_STAT_RESULT : Fld := ⟨0x4002000C, 8, 8, .ro, 0⟩
def R.SEC_STAT_IDRDY : Fld := ⟨0x4002000C, 2, 1, .ro, 0⟩
def R.SEC_STAT_OTPBUSY : Fld := ⟨0x4002000C, 1, 1, .ro, 0⟩
def R.SEC_STAT_IMGKEY : Fld := ⟨0x4002000C, 0, 1, .ro, 0⟩

/-! SEC.KEYCMD (R346, 12_lifecycle_security). -/
def R.SEC_KEYCMD_SLOT : Fld := ⟨0x40020010, 0, 2, .wo, 0⟩

/-! SEC.KEYBUF (R346, 12_lifecycle_security). -/
def R.SEC_KEYBUF_BYTES (i : Nat) : Fld := ⟨0x40020020 + 0x4 * i, 0, 32, .wo, 0⟩

/-! SEC.ATTCTL (R346, 12_lifecycle_security). -/
def R.SEC_ATTCTL_REQ : Fld := ⟨0x40020080, 0, 1, .w1s, 0⟩

/-! SEC.ATTSTAT (R346, 12_lifecycle_security). -/
def R.SEC_ATTSTAT_SEQ : Fld := ⟨0x40020084, 16, 16, .ro, 0⟩
def R.SEC_ATTSTAT_RESULT : Fld := ⟨0x40020084, 8, 8, .ro, 0⟩
def R.SEC_ATTSTAT_READY : Fld := ⟨0x40020084, 1, 1, .ro, 0⟩
def R.SEC_ATTSTAT_BUSY : Fld := ⟨0x40020084, 0, 1, .ro, 0⟩

/-! SEC.NONCE (R346, 12_lifecycle_security). -/
def R.SEC_NONCE_BYTES (i : Nat) : Fld := ⟨0x400200A0 + 0x4 * i, 0, 32, .rw, 0⟩

/-! SEC.DBGCTL (R346, 12_lifecycle_security). -/
def R.SEC_DBGCTL_PURPOSE : Fld := ⟨0x40020100, 4, 2, .rw, 0⟩
def R.SEC_DBGCTL_RELOCK : Fld := ⟨0x40020100, 2, 1, .w1s, 0⟩
def R.SEC_DBGCTL_SUBMIT : Fld := ⟨0x40020100, 1, 1, .w1s, 0⟩
def R.SEC_DBGCTL_CHREQ : Fld := ⟨0x40020100, 0, 1, .w1s, 0⟩

/-! SEC.DBGSTAT (R346, 12_lifecycle_security). -/
def R.SEC_DBGSTAT_RESULT : Fld := ⟨0x40020104, 8, 8, .ro, 0⟩
def R.SEC_DBGSTAT_FAILS : Fld := ⟨0x40020104, 6, 2, .ro, 0⟩
def R.SEC_DBGSTAT_LOCKOUT : Fld := ⟨0x40020104, 3, 1, .ro, 0⟩
def R.SEC_DBGSTAT_CHVALID : Fld := ⟨0x40020104, 2, 1, .ro, 0⟩
def R.SEC_DBGSTAT_BUSY : Fld := ⟨0x40020104, 1, 1, .ro, 0⟩
def R.SEC_DBGSTAT_UNLOCKED : Fld := ⟨0x40020104, 0, 1, .ro, 0⟩

/-! SEC.RESPPTR (R346, 12_lifecycle_security). -/
def R.SEC_RESPPTR_WORD : Fld := ⟨0x40020108, 0, 11, .rw, 0⟩

/-! SEC.RESPDATA (R346, 12_lifecycle_security). -/
def R.SEC_RESPDATA_WORD : Fld := ⟨0x4002010C, 0, 32, .wo, 0⟩

/-! SEC.DBGCHAL (R346, 12_lifecycle_security). -/
def R.SEC_DBGCHAL_BYTES (i : Nat) : Fld := ⟨0x40020140 + 0x4 * i, 0, 32, .ro, 0⟩

/-! SEC.RNG (R346, 12_lifecycle_security). -/
def R.SEC_RNG_WORD : Fld := ⟨0x40020200, 0, 32, .ro, 0⟩

/-! SEC.RNGSTAT (R346, 12_lifecycle_security). -/
def R.SEC_RNGSTAT_FAIL : Fld := ⟨0x40020204, 1, 1, .ro, 0⟩
def R.SEC_RNGSTAT_AVAIL : Fld := ⟨0x40020204, 0, 1, .ro, 0⟩

/-! SEC.ATTDATA (R346, 12_lifecycle_security). -/
def R.SEC_ATTDATA_BYTES (i : Nat) : Fld := ⟨0x40021000 + 0x4 * i, 0, 32, .ro, 0⟩

/-! SEC.IDPUB (R346, 12_lifecycle_security). -/
def R.SEC_IDPUB_BYTES (i : Nat) : Fld := ⟨0x40022000 + 0x4 * i, 0, 32, .ro, 0⟩

/-- The registers of SEC, part 0. -/
def RegMap.sec0 : List RegDef :=
  [⟨"SEC.INFO", 0x40020000, 4, 1,
      [fun _ => R.SEC_INFO_NSLOT]⟩,
   ⟨"SEC.LC", 0x40020004, 4, 1,
      [fun _ => R.SEC_LC_OTP, fun _ => R.SEC_LC_PARTIAL, fun _ => R.SEC_LC_CUR]⟩,
   ⟨"SEC.LCCMD", 0x40020008, 4, 1,
      [fun _ => R.SEC_LCCMD_TARGET]⟩,
   ⟨"SEC.STAT", 0x4002000C, 4, 1,
      [fun _ => R.SEC_STAT_RESULT, fun _ => R.SEC_STAT_IDRDY, fun _ => R.SEC_STAT_OTPBUSY, fun _ => R.SEC_STAT_IMGKEY]⟩,
   ⟨"SEC.KEYCMD", 0x40020010, 4, 1,
      [fun _ => R.SEC_KEYCMD_SLOT]⟩,
   ⟨"SEC.KEYBUF", 0x40020020, 0x4, 16,
      [R.SEC_KEYBUF_BYTES]⟩,
   ⟨"SEC.ATTCTL", 0x40020080, 4, 1,
      [fun _ => R.SEC_ATTCTL_REQ]⟩,
   ⟨"SEC.ATTSTAT", 0x40020084, 4, 1,
      [fun _ => R.SEC_ATTSTAT_SEQ, fun _ => R.SEC_ATTSTAT_RESULT, fun _ => R.SEC_ATTSTAT_READY, fun _ => R.SEC_ATTSTAT_BUSY]⟩,
   ⟨"SEC.NONCE", 0x400200A0, 0x4, 8,
      [R.SEC_NONCE_BYTES]⟩,
   ⟨"SEC.DBGCTL", 0x40020100, 4, 1,
      [fun _ => R.SEC_DBGCTL_PURPOSE, fun _ => R.SEC_DBGCTL_RELOCK, fun _ => R.SEC_DBGCTL_SUBMIT, fun _ => R.SEC_DBGCTL_CHREQ]⟩,
   ⟨"SEC.DBGSTAT", 0x40020104, 4, 1,
      [fun _ => R.SEC_DBGSTAT_RESULT, fun _ => R.SEC_DBGSTAT_FAILS, fun _ => R.SEC_DBGSTAT_LOCKOUT, fun _ => R.SEC_DBGSTAT_CHVALID, fun _ => R.SEC_DBGSTAT_BUSY, fun _ => R.SEC_DBGSTAT_UNLOCKED]⟩,
   ⟨"SEC.RESPPTR", 0x40020108, 4, 1,
      [fun _ => R.SEC_RESPPTR_WORD]⟩]

/-- The registers of SEC, part 1. -/
def RegMap.sec1 : List RegDef :=
  [⟨"SEC.RESPDATA", 0x4002010C, 4, 1,
      [fun _ => R.SEC_RESPDATA_WORD]⟩,
   ⟨"SEC.DBGCHAL", 0x40020140, 0x4, 26,
      [R.SEC_DBGCHAL_BYTES]⟩,
   ⟨"SEC.RNG", 0x40020200, 4, 1,
      [fun _ => R.SEC_RNG_WORD]⟩,
   ⟨"SEC.RNGSTAT", 0x40020204, 4, 1,
      [fun _ => R.SEC_RNGSTAT_FAIL, fun _ => R.SEC_RNGSTAT_AVAIL]⟩,
   ⟨"SEC.ATTDATA", 0x40021000, 0x4, 892,
      [R.SEC_ATTDATA_BYTES]⟩,
   ⟨"SEC.IDPUB", 0x40022000, 0x4, 496,
      [R.SEC_IDPUB_BYTES]⟩]

/-! ## QUE -/

/-! QUE.INFO (R367, 13_queues). -/
def R.QUE_INFO_POOLU : Fld := ⟨0x40600000, 16, 10, .ro, 0x200⟩
def R.QUE_INFO_NQ : Fld := ⟨0x40600000, 0, 8, .ro, 0x20⟩

/-! QUE.STAT (R367, 13_queues). -/
def R.QUE_STAT_CFGREJ : Fld := ⟨0x40600004, 0, 1, .w1c, 0⟩

/-! QUE.IRQ (R367, 13_queues). -/
def R.QUE_IRQ_LVL : Fld := ⟨0x40600008, 0, 32, .w1c, 0⟩

/-! QUE.QCFG (R367, 13_queues). -/
def R.QUE_QCFG_MODE (i : Nat) : Fld := ⟨0x40600100 + 0x40 * i, 31, 1, .rwb, 0⟩
def R.QUE_QCFG_POLICY (i : Nat) : Fld := ⟨0x40600100 + 0x40 * i, 29, 2, .rwb, 1⟩
def R.QUE_QCFG_CONS (i : Nat) : Fld := ⟨0x40600100 + 0x40 * i, 24, 5, .rwb, 0⟩
def R.QUE_QCFG_PROD (i : Nat) : Fld := ⟨0x40600100 + 0x40 * i, 16, 5, .rwb, 0⟩
def R.QUE_QCFG_SIZE (i : Nat) : Fld := ⟨0x40600100 + 0x40 * i, 9, 7, .rwb, 0⟩
def R.QUE_QCFG_BASE (i : Nat) : Fld := ⟨0x40600100 + 0x40 * i, 0, 9, .rwb, 0⟩

/-! QUE.QLVL (R367, 13_queues). -/
def R.QUE_QLVL_CT_LEVEL (i : Nat) : Fld := ⟨0x40600104 + 0x40 * i, 16, 16, .rwb, 0⟩
def R.QUE_QLVL_LEVEL (i : Nat) : Fld := ⟨0x40600104 + 0x40 * i, 0, 16, .rwb, 0⟩

/-! QUE.QSTAT (R367, 13_queues). -/
def R.QUE_QSTAT_OPENP (i : Nat) : Fld := ⟨0x40600108 + 0x40 * i, 7, 1, .ro, 0⟩
def R.QUE_QSTAT_OPENC (i : Nat) : Fld := ⟨0x40600108 + 0x40 * i, 6, 1, .ro, 0⟩
def R.QUE_QSTAT_POISON (i : Nat) : Fld := ⟨0x40600108 + 0x40 * i, 5, 1, .w1c, 0⟩
def R.QUE_QSTAT_DROP (i : Nat) : Fld := ⟨0x40600108 + 0x40 * i, 4, 1, .w1c, 0⟩
def R.QUE_QSTAT_PUSHREJ (i : Nat) : Fld := ⟨0x40600108 + 0x40 * i, 3, 1, .w1c, 0⟩
def R.QUE_QSTAT_POPREJ (i : Nat) : Fld := ⟨0x40600108 + 0x40 * i, 2, 1, .w1c, 0⟩
def R.QUE_QSTAT_FULL (i : Nat) : Fld := ⟨0x40600108 + 0x40 * i, 1, 1, .ro, 0⟩
def R.QUE_QSTAT_EMPTY (i : Nat) : Fld := ⟨0x40600108 + 0x40 * i, 0, 1, .ro, 1⟩

/-! QUE.QFILL (R367, 13_queues). -/
def R.QUE_QFILL_FREE (i : Nat) : Fld := ⟨0x4060010C + 0x40 * i, 16, 16, .ro, 0⟩
def R.QUE_QFILL_FILL (i : Nat) : Fld := ⟨0x4060010C + 0x40 * i, 0, 16, .ro, 0⟩

/-! QUE.QDROP (R367, 13_queues). -/
def R.QUE_QDROP_DROPP (i : Nat) : Fld := ⟨0x40600110 + 0x40 * i, 16, 16, .ro, 0⟩
def R.QUE_QDROP_DROPW (i : Nat) : Fld := ⟨0x40600110 + 0x40 * i, 0, 16, .ro, 0⟩

/-! QUE.QERR (R367, 13_queues). -/
def R.QUE_QERR_POISONCNT (i : Nat) : Fld := ⟨0x40600114 + 0x40 * i, 16, 16, .ro, 0⟩
def R.QUE_QERR_REJCNT (i : Nat) : Fld := ⟨0x40600114 + 0x40 * i, 0, 16, .ro, 0⟩

/-! QUE.PUSHLO (R367, 13_queues). -/
def R.QUE_PUSHLO_WORD (i : Nat) : Fld := ⟨0x40600118 + 0x40 * i, 0, 32, .wo, 0⟩

/-! QUE.PUSHHI (R367, 13_queues). -/
def R.QUE_PUSHHI_WORD (i : Nat) : Fld := ⟨0x4060011C + 0x40 * i, 0, 32, .wo, 0⟩

/-! QUE.PUSHHIE (R367, 13_queues). -/
def R.QUE_PUSHHIE_WORD (i : Nat) : Fld := ⟨0x40600120 + 0x40 * i, 0, 32, .wo, 0⟩

/-! QUE.PKTEMPTY (R367, 13_queues). -/
def R.QUE_PKTEMPTY_GO (i : Nat) : Fld := ⟨0x40600124 + 0x40 * i, 0, 1, .wo, 0⟩

/-! QUE.POPLO (R367, 13_queues). -/
def R.QUE_POPLO_WORD (i : Nat) : Fld := ⟨0x40600128 + 0x40 * i, 0, 32, .ro, 0⟩

/-! QUE.POPHI (R367, 13_queues). -/
def R.QUE_POPHI_WORD (i : Nat) : Fld := ⟨0x4060012C + 0x40 * i, 0, 32, .ro, 0⟩

/-! QUE.POPTAG (R367, 13_queues). -/
def R.QUE_POPTAG_PLEN (i : Nat) : Fld := ⟨0x40600130 + 0x40 * i, 16, 16, .ro, 0⟩
def R.QUE_POPTAG_WAITCT (i : Nat) : Fld := ⟨0x40600130 + 0x40 * i, 4, 1, .ro, 0⟩
def R.QUE_POPTAG_EMPTY (i : Nat) : Fld := ⟨0x40600130 + 0x40 * i, 3, 1, .ro, 0⟩
def R.QUE_POPTAG_POISON (i : Nat) : Fld := ⟨0x40600130 + 0x40 * i, 2, 1, .ro, 0⟩
def R.QUE_POPTAG_MARK (i : Nat) : Fld := ⟨0x40600130 + 0x40 * i, 0, 2, .ro, 0⟩

/-- The registers of QUE, part 0. -/
def RegMap.que0 : List RegDef :=
  [⟨"QUE.INFO", 0x40600000, 4, 1,
      [fun _ => R.QUE_INFO_POOLU, fun _ => R.QUE_INFO_NQ]⟩,
   ⟨"QUE.STAT", 0x40600004, 4, 1,
      [fun _ => R.QUE_STAT_CFGREJ]⟩,
   ⟨"QUE.IRQ", 0x40600008, 4, 1,
      [fun _ => R.QUE_IRQ_LVL]⟩,
   ⟨"QUE.QCFG", 0x40600100, 0x40, 32,
      [R.QUE_QCFG_MODE, R.QUE_QCFG_POLICY, R.QUE_QCFG_CONS, R.QUE_QCFG_PROD, R.QUE_QCFG_SIZE, R.QUE_QCFG_BASE]⟩,
   ⟨"QUE.QLVL", 0x40600104, 0x40, 32,
      [R.QUE_QLVL_CT_LEVEL, R.QUE_QLVL_LEVEL]⟩,
   ⟨"QUE.QSTAT", 0x40600108, 0x40, 32,
      [R.QUE_QSTAT_OPENP, R.QUE_QSTAT_OPENC, R.QUE_QSTAT_POISON, R.QUE_QSTAT_DROP, R.QUE_QSTAT_PUSHREJ, R.QUE_QSTAT_POPREJ, R.QUE_QSTAT_FULL, R.QUE_QSTAT_EMPTY]⟩,
   ⟨"QUE.QFILL", 0x4060010C, 0x40, 32,
      [R.QUE_QFILL_FREE, R.QUE_QFILL_FILL]⟩,
   ⟨"QUE.QDROP", 0x40600110, 0x40, 32,
      [R.QUE_QDROP_DROPP, R.QUE_QDROP_DROPW]⟩,
   ⟨"QUE.QERR", 0x40600114, 0x40, 32,
      [R.QUE_QERR_POISONCNT, R.QUE_QERR_REJCNT]⟩,
   ⟨"QUE.PUSHLO", 0x40600118, 0x40, 32,
      [R.QUE_PUSHLO_WORD]⟩,
   ⟨"QUE.PUSHHI", 0x4060011C, 0x40, 32,
      [R.QUE_PUSHHI_WORD]⟩,
   ⟨"QUE.PUSHHIE", 0x40600120, 0x40, 32,
      [R.QUE_PUSHHIE_WORD]⟩]

/-- The registers of QUE, part 1. -/
def RegMap.que1 : List RegDef :=
  [⟨"QUE.PKTEMPTY", 0x40600124, 0x40, 32,
      [R.QUE_PKTEMPTY_GO]⟩,
   ⟨"QUE.POPLO", 0x40600128, 0x40, 32,
      [R.QUE_POPLO_WORD]⟩,
   ⟨"QUE.POPHI", 0x4060012C, 0x40, 32,
      [R.QUE_POPHI_WORD]⟩,
   ⟨"QUE.POPTAG", 0x40600130, 0x40, 32,
      [R.QUE_POPTAG_PLEN, R.QUE_POPTAG_WAITCT, R.QUE_POPTAG_EMPTY, R.QUE_POPTAG_POISON, R.QUE_POPTAG_MARK]⟩]

/-! ## CAN -/

/-! CAN.INFO (R389, 14_can). -/
def R.CAN_INFO_RXDEPTH (x : Nat) : Fld := ⟨0x40700000 + 0x10000 * x, 24, 8, .ro, 0x40⟩
def R.CAN_INFO_TXDEPTH (x : Nat) : Fld := ⟨0x40700000 + 0x10000 * x, 16, 8, .ro, 0x20⟩
def R.CAN_INFO_NFILT (x : Nat) : Fld := ⟨0x40700000 + 0x10000 * x, 8, 8, .ro, 0x80⟩
def R.CAN_INFO_XL (x : Nat) : Fld := ⟨0x40700000 + 0x10000 * x, 4, 1, .ro, 0⟩
def R.CAN_INFO_IDX (x : Nat) : Fld := ⟨0x40700000 + 0x10000 * x, 0, 4, .ro, 0⟩

/-! CAN.CFG (R389, 14_can). -/
def R.CAN_CFG_NOMATCH (x : Nat) : Fld := ⟨0x40700004 + 0x10000 * x, 12, 1, .rwb, 0⟩
def R.CAN_CFG_AUTOREC (x : Nat) : Fld := ⟨0x40700004 + 0x10000 * x, 8, 1, .rwb, 1⟩
def R.CAN_CFG_XMODE (x : Nat) : Fld := ⟨0x40700004 + 0x10000 * x, 6, 1, .rwb, 0⟩
def R.CAN_CFG_XLEN (x : Nat) : Fld := ⟨0x40700004 + 0x10000 * x, 5, 1, .rwb, 0⟩
def R.CAN_CFG_FDEN (x : Nat) : Fld := ⟨0x40700004 + 0x10000 * x, 4, 1, .rwb, 0⟩
def R.CAN_CFG_MODE (x : Nat) : Fld := ⟨0x40700004 + 0x10000 * x, 0, 2, .rwb, 0⟩

/-! CAN.CMD (R389, 14_can). -/
def R.CAN_CMD_CANCELALL (x : Nat) : Fld := ⟨0x40700008 + 0x10000 * x, 3, 1, .w1s, 0⟩
def R.CAN_CMD_RECOVER (x : Nat) : Fld := ⟨0x40700008 + 0x10000 * x, 2, 1, .w1s, 0⟩
def R.CAN_CMD_WAKE (x : Nat) : Fld := ⟨0x40700008 + 0x10000 * x, 1, 1, .w1s, 0⟩
def R.CAN_CMD_SLEEP (x : Nat) : Fld := ⟨0x40700008 + 0x10000 * x, 0, 1, .w1s, 0⟩

/-! CAN.STAT (R389, 14_can). -/
def R.CAN_STAT_WAKEEV (x : Nat) : Fld := ⟨0x4070000C + 0x10000 * x, 15, 1, .w1c, 0⟩
def R.CAN_STAT_SFSKIP (x : Nat) : Fld := ⟨0x4070000C + 0x10000 * x, 14, 1, .w1c, 0⟩
def R.CAN_STAT_CFGREJ (x : Nat) : Fld := ⟨0x4070000C + 0x10000 * x, 13, 1, .w1c, 0⟩
def R.CAN_STAT_CANSKIP (x : Nat) : Fld := ⟨0x4070000C + 0x10000 * x, 12, 1, .w1c, 0⟩
def R.CAN_STAT_TXBAD (x : Nat) : Fld := ⟨0x4070000C + 0x10000 * x, 11, 1, .w1c, 0⟩
def R.CAN_STAT_RXOVR (x : Nat) : Fld := ⟨0x4070000C + 0x10000 * x, 10, 1, .w1c, 0⟩
def R.CAN_STAT_ID_CLASH (x : Nat) : Fld := ⟨0x4070000C + 0x10000 * x, 9, 1, .w1c, 0⟩
def R.CAN_STAT_NOACK_STALL (x : Nat) : Fld := ⟨0x4070000C + 0x10000 * x, 8, 1, .w1c, 0⟩
def R.CAN_STAT_SLEEPING (x : Nat) : Fld := ⟨0x4070000C + 0x10000 * x, 2, 1, .ro, 0⟩
def R.CAN_STAT_ESTATE (x : Nat) : Fld := ⟨0x4070000C + 0x10000 * x, 0, 2, .ro, 0⟩

/-! CAN.ERR (R389, 14_can). -/
def R.CAN_ERR_LEC (x : Nat) : Fld := ⟨0x40700010 + 0x10000 * x, 16, 3, .ro, 0⟩
def R.CAN_ERR_REC (x : Nat) : Fld := ⟨0x40700010 + 0x10000 * x, 8, 8, .ro, 0⟩
def R.CAN_ERR_TEC (x : Nat) : Fld := ⟨0x40700010 + 0x10000 * x, 0, 8, .ro, 0⟩

/-! CAN.NBT (R389, 14_can). -/
def R.CAN_NBT_SJW (x : Nat) : Fld := ⟨0x40700014 + 0x10000 * x, 24, 7, .rwb, 1⟩
def R.CAN_NBT_TSEG2 (x : Nat) : Fld := ⟨0x40700014 + 0x10000 * x, 16, 7, .rwb, 0x20⟩
def R.CAN_NBT_TSEG1 (x : Nat) : Fld := ⟨0x40700014 + 0x10000 * x, 8, 8, .rwb, 0x7F⟩
def R.CAN_NBT_BRP (x : Nat) : Fld := ⟨0x40700014 + 0x10000 * x, 0, 6, .rwb, 1⟩

/-! CAN.DBT (R389, 14_can). -/
def R.CAN_DBT_SJW (x : Nat) : Fld := ⟨0x40700018 + 0x10000 * x, 24, 4, .rwb, 1⟩
def R.CAN_DBT_TSEG2 (x : Nat) : Fld := ⟨0x40700018 + 0x10000 * x, 16, 4, .rwb, 2⟩
def R.CAN_DBT_TSEG1 (x : Nat) : Fld := ⟨0x40700018 + 0x10000 * x, 8, 5, .rwb, 7⟩
def R.CAN_DBT_BRP (x : Nat) : Fld := ⟨0x40700018 + 0x10000 * x, 0, 6, .rwb, 1⟩

/-! CAN.XBT (R389, 14_can). -/
def R.CAN_XBT_SJW (x : Nat) : Fld := ⟨0x4070001C + 0x10000 * x, 24, 4, .rwb, 1⟩
def R.CAN_XBT_TSEG2 (x : Nat) : Fld := ⟨0x4070001C + 0x10000 * x, 16, 4, .rwb, 1⟩
def R.CAN_XBT_TSEG1 (x : Nat) : Fld := ⟨0x4070001C + 0x10000 * x, 8, 5, .rwb, 2⟩
def R.CAN_XBT_BRP (x : Nat) : Fld := ⟨0x4070001C + 0x10000 * x, 0, 6, .rwb, 1⟩

/-! CAN.TDC (R389, 14_can). -/
def R.CAN_TDC_TDCV (x : Nat) : Fld := ⟨0x40700020 + 0x10000 * x, 16, 8, .ro, 0⟩
def R.CAN_TDC_TDCEN (x : Nat) : Fld := ⟨0x40700020 + 0x10000 * x, 8, 1, .rwb, 1⟩
def R.CAN_TDC_TDCO (x : Nat) : Fld := ⟨0x40700020 + 0x10000 * x, 0, 7, .rwb, 0⟩

/-! CAN.XPWM (R389, 14_can). -/
def R.CAN_XPWM_PWMO (x : Nat) : Fld := ⟨0x40700024 + 0x10000 * x, 16, 6, .rwb, 0⟩
def R.CAN_XPWM_PWML (x : Nat) : Fld := ⟨0x40700024 + 0x10000 * x, 8, 6, .rwb, 0⟩
def R.CAN_XPWM_PWMS (x : Nat) : Fld := ⟨0x40700024 + 0x10000 * x, 0, 6, .rwb, 0⟩

/-! CAN.LIMIT (R389, 14_can). -/
def R.CAN_LIMIT_CLASHN (x : Nat) : Fld := ⟨0x40700028 + 0x10000 * x, 8, 8, .rwb, 4⟩
def R.CAN_LIMIT_NOACK_LIMIT (x : Nat) : Fld := ⟨0x40700028 + 0x10000 * x, 0, 8, .rwb, 0x10⟩

/-! CAN.CANCEL (R389, 14_can). -/
def R.CAN_CANCEL_GO (x : Nat) : Fld := ⟨0x4070002C + 0x10000 * x, 31, 1, .w1s, 0⟩
def R.CAN_CANCEL_TAG (x : Nat) : Fld := ⟨0x4070002C + 0x10000 * x, 0, 16, .rw, 0⟩

/-! CAN.TXSTAT (R389, 14_can). -/
def R.CAN_TXSTAT_NACKN (x : Nat) : Fld := ⟨0x40700030 + 0x10000 * x, 16, 8, .ro, 0⟩
def R.CAN_TXSTAT_STAGING (x : Nat) : Fld := ⟨0x40700030 + 0x10000 * x, 9, 1, .ro, 0⟩
def R.CAN_TXSTAT_HEADACT (x : Nat) : Fld := ⟨0x40700030 + 0x10000 * x, 8, 1, .ro, 0⟩
def R.CAN_TXSTAT_FILL (x : Nat) : Fld := ⟨0x40700030 + 0x10000 * x, 0, 6, .ro, 0⟩

/-! CAN.TXCNT (R389, 14_can). -/
def R.CAN_TXCNT_ARBLOST (x : Nat) : Fld := ⟨0x40700034 + 0x10000 * x, 16, 16, .ro, 0⟩
def R.CAN_TXCNT_TXOK (x : Nat) : Fld := ⟨0x40700034 + 0x10000 * x, 0, 16, .ro, 0⟩

/-! CAN.RXCNT (R389, 14_can). -/
def R.CAN_RXCNT_RXOVRCNT (x : Nat) : Fld := ⟨0x40700038 + 0x10000 * x, 16, 16, .ro, 0⟩
def R.CAN_RXCNT_RXOK (x : Nat) : Fld := ⟨0x40700038 + 0x10000 * x, 0, 16, .ro, 0⟩

/-! CAN.DISCNT (R389, 14_can). -/
def R.CAN_DISCNT_CLASHCNT (x : Nat) : Fld := ⟨0x4070003C + 0x10000 * x, 24, 8, .ro, 0⟩
def R.CAN_DISCNT_TXBADCNT (x : Nat) : Fld := ⟨0x4070003C + 0x10000 * x, 16, 8, .ro, 0⟩
def R.CAN_DISCNT_NOACKDROP (x : Nat) : Fld := ⟨0x4070003C + 0x10000 * x, 8, 8, .ro, 0⟩
def R.CAN_DISCNT_CANCELLED (x : Nat) : Fld := ⟨0x4070003C + 0x10000 * x, 0, 8, .ro, 0⟩

/-! CAN.CLASHID (R389, 14_can). -/
def R.CAN_CLASHID_VALID (x : Nat) : Fld := ⟨0x40700040 + 0x10000 * x, 31, 1, .ro, 0⟩
def R.CAN_CLASHID_IDE (x : Nat) : Fld := ⟨0x40700040 + 0x10000 * x, 29, 1, .ro, 0⟩
def R.CAN_CLASHID_ID (x : Nat) : Fld := ⟨0x40700040 + 0x10000 * x, 0, 29, .ro, 0⟩

/-! CAN.WAKECFG (R389, 14_can). -/
def R.CAN_WAKECFG_WUPFILT (x : Nat) : Fld := ⟨0x40700080 + 0x10000 * x, 8, 5, .rwb, 4⟩
def R.CAN_WAKECFG_WDLC (x : Nat) : Fld := ⟨0x40700080 + 0x10000 * x, 4, 4, .rwb, 0⟩
def R.CAN_WAKECFG_WIDE (x : Nat) : Fld := ⟨0x40700080 + 0x10000 * x, 2, 1, .rwb, 0⟩
def R.CAN_WAKECFG_WMODE (x : Nat) : Fld := ⟨0x40700080 + 0x10000 * x, 0, 2, .rwb, 0⟩

/-! CAN.WAKETIM (R389, 14_can). -/
def R.CAN_WAKETIM_WSP (x : Nat) : Fld := ⟨0x40700084 + 0x10000 * x, 16, 12, .rwb, 0x40⟩
def R.CAN_WAKETIM_WBT (x : Nat) : Fld := ⟨0x40700084 + 0x10000 * x, 0, 12, .rwb, 0x50⟩

/-! CAN.WAKEID (R389, 14_can). -/
def R.CAN_WAKEID_ID (x : Nat) : Fld := ⟨0x40700088 + 0x10000 * x, 0, 29, .rwb, 0⟩

/-! CAN.WAKEMASK (R389, 14_can). -/
def R.CAN_WAKEMASK_ID (x : Nat) : Fld := ⟨0x4070008C + 0x10000 * x, 0, 29, .rwb, 0⟩

/-! CAN.WAKEDLO (R389, 14_can). -/
def R.CAN_WAKEDLO_PAT (x : Nat) : Fld := ⟨0x40700090 + 0x10000 * x, 0, 32, .rwb, 0⟩

/-! CAN.WAKEDHI (R389, 14_can). -/
def R.CAN_WAKEDHI_PAT (x : Nat) : Fld := ⟨0x40700094 + 0x10000 * x, 0, 32, .rwb, 0⟩

/-! CAN.WAKESTAT (R389, 14_can). -/
def R.CAN_WAKESTAT_FECNT (x : Nat) : Fld := ⟨0x40700098 + 0x10000 * x, 8, 8, .ro, 0⟩
def R.CAN_WAKESTAT_CAUSE (x : Nat) : Fld := ⟨0x40700098 + 0x10000 * x, 0, 2, .ro, 0⟩

/-! CAN.FCFG (R389, 14_can). -/
def R.CAN_FCFG_TYPE (x i : Nat) : Fld := ⟨0x40700800 + 0x10000 * x + 0x8 * i, 30, 2, .rwb, 0⟩
def R.CAN_FCFG_IDE (x i : Nat) : Fld := ⟨0x40700800 + 0x10000 * x + 0x8 * i, 29, 1, .rwb, 0⟩
def R.CAN_FCFG_ID1 (x i : Nat) : Fld := ⟨0x40700800 + 0x10000 * x + 0x8 * i, 0, 29, .rwb, 0⟩

/-! CAN.FARG (R389, 14_can). -/
def R.CAN_FARG_REJECT (x i : Nat) : Fld := ⟨0x40700804 + 0x10000 * x + 0x8 * i, 29, 1, .rwb, 0⟩
def R.CAN_FARG_ARG (x i : Nat) : Fld := ⟨0x40700804 + 0x10000 * x + 0x8 * i, 0, 29, .rwb, 0⟩

/-- The registers of CAN, part 0. -/
def RegMap.can0 (x : Nat) : List RegDef :=
  [⟨"CAN.INFO", 0x40700000 + 0x10000 * x, 4, 1,
      [fun _ => R.CAN_INFO_RXDEPTH x, fun _ => R.CAN_INFO_TXDEPTH x, fun _ => R.CAN_INFO_NFILT x, fun _ => R.CAN_INFO_XL x, fun _ => R.CAN_INFO_IDX x]⟩,
   ⟨"CAN.CFG", 0x40700004 + 0x10000 * x, 4, 1,
      [fun _ => R.CAN_CFG_NOMATCH x, fun _ => R.CAN_CFG_AUTOREC x, fun _ => R.CAN_CFG_XMODE x, fun _ => R.CAN_CFG_XLEN x, fun _ => R.CAN_CFG_FDEN x, fun _ => R.CAN_CFG_MODE x]⟩,
   ⟨"CAN.CMD", 0x40700008 + 0x10000 * x, 4, 1,
      [fun _ => R.CAN_CMD_CANCELALL x, fun _ => R.CAN_CMD_RECOVER x, fun _ => R.CAN_CMD_WAKE x, fun _ => R.CAN_CMD_SLEEP x]⟩,
   ⟨"CAN.STAT", 0x4070000C + 0x10000 * x, 4, 1,
      [fun _ => R.CAN_STAT_WAKEEV x, fun _ => R.CAN_STAT_SFSKIP x, fun _ => R.CAN_STAT_CFGREJ x, fun _ => R.CAN_STAT_CANSKIP x, fun _ => R.CAN_STAT_TXBAD x, fun _ => R.CAN_STAT_RXOVR x, fun _ => R.CAN_STAT_ID_CLASH x, fun _ => R.CAN_STAT_NOACK_STALL x, fun _ => R.CAN_STAT_SLEEPING x, fun _ => R.CAN_STAT_ESTATE x]⟩,
   ⟨"CAN.ERR", 0x40700010 + 0x10000 * x, 4, 1,
      [fun _ => R.CAN_ERR_LEC x, fun _ => R.CAN_ERR_REC x, fun _ => R.CAN_ERR_TEC x]⟩,
   ⟨"CAN.NBT", 0x40700014 + 0x10000 * x, 4, 1,
      [fun _ => R.CAN_NBT_SJW x, fun _ => R.CAN_NBT_TSEG2 x, fun _ => R.CAN_NBT_TSEG1 x, fun _ => R.CAN_NBT_BRP x]⟩,
   ⟨"CAN.DBT", 0x40700018 + 0x10000 * x, 4, 1,
      [fun _ => R.CAN_DBT_SJW x, fun _ => R.CAN_DBT_TSEG2 x, fun _ => R.CAN_DBT_TSEG1 x, fun _ => R.CAN_DBT_BRP x]⟩,
   ⟨"CAN.XBT", 0x4070001C + 0x10000 * x, 4, 1,
      [fun _ => R.CAN_XBT_SJW x, fun _ => R.CAN_XBT_TSEG2 x, fun _ => R.CAN_XBT_TSEG1 x, fun _ => R.CAN_XBT_BRP x]⟩,
   ⟨"CAN.TDC", 0x40700020 + 0x10000 * x, 4, 1,
      [fun _ => R.CAN_TDC_TDCV x, fun _ => R.CAN_TDC_TDCEN x, fun _ => R.CAN_TDC_TDCO x]⟩,
   ⟨"CAN.XPWM", 0x40700024 + 0x10000 * x, 4, 1,
      [fun _ => R.CAN_XPWM_PWMO x, fun _ => R.CAN_XPWM_PWML x, fun _ => R.CAN_XPWM_PWMS x]⟩,
   ⟨"CAN.LIMIT", 0x40700028 + 0x10000 * x, 4, 1,
      [fun _ => R.CAN_LIMIT_CLASHN x, fun _ => R.CAN_LIMIT_NOACK_LIMIT x]⟩,
   ⟨"CAN.CANCEL", 0x4070002C + 0x10000 * x, 4, 1,
      [fun _ => R.CAN_CANCEL_GO x, fun _ => R.CAN_CANCEL_TAG x]⟩]

/-- The registers of CAN, part 1. -/
def RegMap.can1 (x : Nat) : List RegDef :=
  [⟨"CAN.TXSTAT", 0x40700030 + 0x10000 * x, 4, 1,
      [fun _ => R.CAN_TXSTAT_NACKN x, fun _ => R.CAN_TXSTAT_STAGING x, fun _ => R.CAN_TXSTAT_HEADACT x, fun _ => R.CAN_TXSTAT_FILL x]⟩,
   ⟨"CAN.TXCNT", 0x40700034 + 0x10000 * x, 4, 1,
      [fun _ => R.CAN_TXCNT_ARBLOST x, fun _ => R.CAN_TXCNT_TXOK x]⟩,
   ⟨"CAN.RXCNT", 0x40700038 + 0x10000 * x, 4, 1,
      [fun _ => R.CAN_RXCNT_RXOVRCNT x, fun _ => R.CAN_RXCNT_RXOK x]⟩,
   ⟨"CAN.DISCNT", 0x4070003C + 0x10000 * x, 4, 1,
      [fun _ => R.CAN_DISCNT_CLASHCNT x, fun _ => R.CAN_DISCNT_TXBADCNT x, fun _ => R.CAN_DISCNT_NOACKDROP x, fun _ => R.CAN_DISCNT_CANCELLED x]⟩,
   ⟨"CAN.CLASHID", 0x40700040 + 0x10000 * x, 4, 1,
      [fun _ => R.CAN_CLASHID_VALID x, fun _ => R.CAN_CLASHID_IDE x, fun _ => R.CAN_CLASHID_ID x]⟩,
   ⟨"CAN.WAKECFG", 0x40700080 + 0x10000 * x, 4, 1,
      [fun _ => R.CAN_WAKECFG_WUPFILT x, fun _ => R.CAN_WAKECFG_WDLC x, fun _ => R.CAN_WAKECFG_WIDE x, fun _ => R.CAN_WAKECFG_WMODE x]⟩,
   ⟨"CAN.WAKETIM", 0x40700084 + 0x10000 * x, 4, 1,
      [fun _ => R.CAN_WAKETIM_WSP x, fun _ => R.CAN_WAKETIM_WBT x]⟩,
   ⟨"CAN.WAKEID", 0x40700088 + 0x10000 * x, 4, 1,
      [fun _ => R.CAN_WAKEID_ID x]⟩,
   ⟨"CAN.WAKEMASK", 0x4070008C + 0x10000 * x, 4, 1,
      [fun _ => R.CAN_WAKEMASK_ID x]⟩,
   ⟨"CAN.WAKEDLO", 0x40700090 + 0x10000 * x, 4, 1,
      [fun _ => R.CAN_WAKEDLO_PAT x]⟩,
   ⟨"CAN.WAKEDHI", 0x40700094 + 0x10000 * x, 4, 1,
      [fun _ => R.CAN_WAKEDHI_PAT x]⟩,
   ⟨"CAN.WAKESTAT", 0x40700098 + 0x10000 * x, 4, 1,
      [fun _ => R.CAN_WAKESTAT_FECNT x, fun _ => R.CAN_WAKESTAT_CAUSE x]⟩]

/-- The registers of CAN, part 2. -/
def RegMap.can2 (x : Nat) : List RegDef :=
  [⟨"CAN.FCFG", 0x40700800 + 0x10000 * x, 0x8, 128,
      [R.CAN_FCFG_TYPE x, R.CAN_FCFG_IDE x, R.CAN_FCFG_ID1 x]⟩,
   ⟨"CAN.FARG", 0x40700804 + 0x10000 * x, 0x8, 128,
      [R.CAN_FARG_REJECT x, R.CAN_FARG_ARG x]⟩]

/-! ## CAN0 -/

/-! CAN0.SFCFG (R389, 14_can). -/
def R.CAN0_SFCFG_SRC1 (i : Nat) : Fld := ⟨0x40700100 + 0x10 * i, 29, 3, .rwb, 0⟩
def R.CAN0_SFCFG_SRC0 (i : Nat) : Fld := ⟨0x40700100 + 0x10 * i, 26, 3, .rwb, 0⟩
def R.CAN0_SFCFG_FD (i : Nat) : Fld := ⟨0x40700100 + 0x10 * i, 25, 1, .rwb, 0⟩
def R.CAN0_SFCFG_IDE (i : Nat) : Fld := ⟨0x40700100 + 0x10 * i, 24, 1, .rwb, 0⟩
def R.CAN0_SFCFG_DLC (i : Nat) : Fld := ⟨0x40700100 + 0x10 * i, 16, 4, .rwb, 0⟩
def R.CAN0_SFCFG_PERIOD (i : Nat) : Fld := ⟨0x40700100 + 0x10 * i, 0, 10, .rwb, 0⟩

/-! CAN0.SFID (R389, 14_can). -/
def R.CAN0_SFID_ID (i : Nat) : Fld := ⟨0x40700104 + 0x10 * i, 0, 29, .rwb, 0⟩

/-! CAN0.SFDAT0 (R389, 14_can). -/
def R.CAN0_SFDAT0_DATA (i : Nat) : Fld := ⟨0x40700108 + 0x10 * i, 0, 32, .rwb, 0⟩

/-! CAN0.SFDAT1 (R389, 14_can). -/
def R.CAN0_SFDAT1_DATA (i : Nat) : Fld := ⟨0x4070010C + 0x10 * i, 0, 32, .rwb, 0⟩

/-- The registers of CAN0, part 0. -/
def RegMap.can00 : List RegDef :=
  [⟨"CAN0.SFCFG", 0x40700100, 0x10, 4,
      [R.CAN0_SFCFG_SRC1, R.CAN0_SFCFG_SRC0, R.CAN0_SFCFG_FD, R.CAN0_SFCFG_IDE, R.CAN0_SFCFG_DLC, R.CAN0_SFCFG_PERIOD]⟩,
   ⟨"CAN0.SFID", 0x40700104, 0x10, 4,
      [R.CAN0_SFID_ID]⟩,
   ⟨"CAN0.SFDAT0", 0x40700108, 0x10, 4,
      [R.CAN0_SFDAT0_DATA]⟩,
   ⟨"CAN0.SFDAT1", 0x4070010C, 0x10, 4,
      [R.CAN0_SFDAT1_DATA]⟩]

/-! ## HSPI -/

/-! HSPI.STAT (R404, 15_host_ethernet). -/
def R.HSPI_STAT_ERRCNT : Fld := ⟨0x40790000, 16, 16, .ro, 0⟩
def R.HSPI_STAT_LASTCODE : Fld := ⟨0x40790000, 0, 8, .ro, 0xFF⟩

/-! HSPI.IRQ (R404, 15_host_ethernet). -/
def R.HSPI_IRQ_UPD : Fld := ⟨0x40790004, 4, 1, .w1c, 0⟩
def R.HSPI_IRQ_LINK : Fld := ⟨0x40790004, 3, 1, .w1c, 0⟩
def R.HSPI_IRQ_TRIP : Fld := ⟨0x40790004, 2, 1, .ro, 0⟩
def R.HSPI_IRQ_STATE : Fld := ⟨0x40790004, 1, 1, .w1c, 0⟩
def R.HSPI_IRQ_QUE : Fld := ⟨0x40790004, 0, 1, .ro, 0⟩

/-! HSPI.IRQEN (R404, 15_host_ethernet). -/
def R.HSPI_IRQEN_EN : Fld := ⟨0x40790008, 0, 5, .rw, 0⟩

/-! HSPI.TEAR (R404, 15_host_ethernet). -/
def R.HSPI_TEAR_DEBUG : Fld := ⟨0x4079000C, 2, 1, .w1c, 0⟩
def R.HSPI_TEAR_CONE : Fld := ⟨0x4079000C, 1, 1, .w1c, 0⟩
def R.HSPI_TEAR_HSPI : Fld := ⟨0x4079000C, 0, 1, .w1c, 0⟩

/-- The registers of HSPI, part 0. -/
def RegMap.hspi0 : List RegDef :=
  [⟨"HSPI.STAT", 0x40790000, 4, 1,
      [fun _ => R.HSPI_STAT_ERRCNT, fun _ => R.HSPI_STAT_LASTCODE]⟩,
   ⟨"HSPI.IRQ", 0x40790004, 4, 1,
      [fun _ => R.HSPI_IRQ_UPD, fun _ => R.HSPI_IRQ_LINK, fun _ => R.HSPI_IRQ_TRIP, fun _ => R.HSPI_IRQ_STATE, fun _ => R.HSPI_IRQ_QUE]⟩,
   ⟨"HSPI.IRQEN", 0x40790008, 4, 1,
      [fun _ => R.HSPI_IRQEN_EN]⟩,
   ⟨"HSPI.TEAR", 0x4079000C, 4, 1,
      [fun _ => R.HSPI_TEAR_DEBUG, fun _ => R.HSPI_TEAR_CONE, fun _ => R.HSPI_TEAR_HSPI]⟩]

/-! ## ETH -/

/-! ETH.CFG (R405, 15_host_ethernet). -/
def R.ETH_CFG_FSPEED : Fld := ⟨0x40780000, 25, 2, .rwb, 2⟩
def R.ETH_CFG_POLLMS : Fld := ⟨0x40780000, 16, 8, .rwb, 0xA⟩
def R.ETH_CFG_PHYAD : Fld := ⟨0x40780000, 8, 5, .rwb, 0⟩
def R.ETH_CFG_PROMISC : Fld := ⟨0x40780000, 4, 1, .rwb, 0⟩
def R.ETH_CFG_BCAST : Fld := ⟨0x40780000, 3, 1, .rwb, 1⟩
def R.ETH_CFG_IF : Fld := ⟨0x40780000, 1, 2, .rwb, 1⟩
def R.ETH_CFG_EN : Fld := ⟨0x40780000, 0, 1, .rwb, 0⟩

/-! ETH.STAT (R405, 15_host_ethernet). -/
def R.ETH_STAT_CFGREJ : Fld := ⟨0x40780004, 8, 1, .w1c, 0⟩
def R.ETH_STAT_MDIOBUSY : Fld := ⟨0x40780004, 7, 1, .ro, 0⟩
def R.ETH_STAT_TXBAD : Fld := ⟨0x40780004, 6, 1, .w1c, 0⟩
def R.ETH_STAT_LINKEV : Fld := ⟨0x40780004, 5, 1, .w1c, 0⟩
def R.ETH_STAT_HDX : Fld := ⟨0x40780004, 4, 1, .ro, 0⟩
def R.ETH_STAT_SPEED : Fld := ⟨0x40780004, 1, 2, .ro, 0⟩
def R.ETH_STAT_LINK : Fld := ⟨0x40780004, 0, 1, .ro, 0⟩

/-! ETH.MACLO (R405, 15_host_ethernet). -/
def R.ETH_MACLO_ADDR : Fld := ⟨0x40780008, 0, 32, .rwb, 0⟩

/-! ETH.MACHI (R405, 15_host_ethernet). -/
def R.ETH_MACHI_ADDR : Fld := ⟨0x4078000C, 0, 16, .rwb, 0⟩

/-! ETH.TPL (R405, 15_host_ethernet). -/
def R.ETH_TPL_BYTES (i : Nat) : Fld := ⟨0x40780010 + 0x4 * i, 0, if i = 3 then 16 else 32, .rwb, 0⟩

/-! ETH.MDIO (R405, 15_host_ethernet). -/
def R.ETH_MDIO_GO : Fld := ⟨0x40780020, 31, 1, .w1s, 0⟩
def R.ETH_MDIO_RD : Fld := ⟨0x40780020, 30, 1, .rw, 0⟩
def R.ETH_MDIO_PHYAD : Fld := ⟨0x40780020, 21, 5, .rw, 0⟩
def R.ETH_MDIO_REG : Fld := ⟨0x40780020, 16, 5, .rw, 0⟩
def R.ETH_MDIO_DATA : Fld := ⟨0x40780020, 0, 16, .rw, 0⟩

/-! ETH.PHYRES (R405, 15_host_ethernet). -/
def R.ETH_PHYRES_R10 : Fld := ⟨0x40780024, 16, 16, .ro, 0⟩
def R.ETH_PHYRES_R1 : Fld := ⟨0x40780024, 0, 16, .ro, 0⟩

/-! ETH.TXOCT_LO (R405, 15_host_ethernet). -/
def R.ETH_TXOCT_LO_COUNT : Fld := ⟨0x40780028, 0, 32, .ro, 0⟩

/-! ETH.TXOCT_HI (R405, 15_host_ethernet). -/
def R.ETH_TXOCT_HI_COUNT : Fld := ⟨0x4078002C, 0, 32, .ro, 0⟩

/-! ETH.CNT (R405, 15_host_ethernet). -/
def R.ETH_CNT_RXOK : Fld := ⟨0x40780030, 16, 16, .ro, 0⟩
def R.ETH_CNT_TXOK : Fld := ⟨0x40780030, 0, 16, .ro, 0⟩

/-! ETH.ERRCNT (R405, 15_host_ethernet). -/
def R.ETH_ERRCNT_RXDROP : Fld := ⟨0x40780034, 16, 16, .ro, 0⟩
def R.ETH_ERRCNT_RXFCS : Fld := ⟨0x40780034, 0, 16, .ro, 0⟩

/-- The registers of ETH, part 0. -/
def RegMap.eth0 : List RegDef :=
  [⟨"ETH.CFG", 0x40780000, 4, 1,
      [fun _ => R.ETH_CFG_FSPEED, fun _ => R.ETH_CFG_POLLMS, fun _ => R.ETH_CFG_PHYAD, fun _ => R.ETH_CFG_PROMISC, fun _ => R.ETH_CFG_BCAST, fun _ => R.ETH_CFG_IF, fun _ => R.ETH_CFG_EN]⟩,
   ⟨"ETH.STAT", 0x40780004, 4, 1,
      [fun _ => R.ETH_STAT_CFGREJ, fun _ => R.ETH_STAT_MDIOBUSY, fun _ => R.ETH_STAT_TXBAD, fun _ => R.ETH_STAT_LINKEV, fun _ => R.ETH_STAT_HDX, fun _ => R.ETH_STAT_SPEED, fun _ => R.ETH_STAT_LINK]⟩,
   ⟨"ETH.MACLO", 0x40780008, 4, 1,
      [fun _ => R.ETH_MACLO_ADDR]⟩,
   ⟨"ETH.MACHI", 0x4078000C, 4, 1,
      [fun _ => R.ETH_MACHI_ADDR]⟩,
   ⟨"ETH.TPL", 0x40780010, 0x4, 4,
      [R.ETH_TPL_BYTES]⟩,
   ⟨"ETH.MDIO", 0x40780020, 4, 1,
      [fun _ => R.ETH_MDIO_GO, fun _ => R.ETH_MDIO_RD, fun _ => R.ETH_MDIO_PHYAD, fun _ => R.ETH_MDIO_REG, fun _ => R.ETH_MDIO_DATA]⟩,
   ⟨"ETH.PHYRES", 0x40780024, 4, 1,
      [fun _ => R.ETH_PHYRES_R10, fun _ => R.ETH_PHYRES_R1]⟩,
   ⟨"ETH.TXOCT_LO", 0x40780028, 4, 1,
      [fun _ => R.ETH_TXOCT_LO_COUNT]⟩,
   ⟨"ETH.TXOCT_HI", 0x4078002C, 4, 1,
      [fun _ => R.ETH_TXOCT_HI_COUNT]⟩,
   ⟨"ETH.CNT", 0x40780030, 4, 1,
      [fun _ => R.ETH_CNT_RXOK, fun _ => R.ETH_CNT_TXOK]⟩,
   ⟨"ETH.ERRCNT", 0x40780034, 4, 1,
      [fun _ => R.ETH_ERRCNT_RXDROP, fun _ => R.ETH_ERRCNT_RXFCS]⟩]

/-! ## REC -/

/-! REC.INFO (R428, 16_shard_log). -/
def R.REC_INFO_NSTREAM : Fld := ⟨0x40800000, 8, 8, .ro, 4⟩
def R.REC_INFO_NIN : Fld := ⟨0x40800000, 0, 8, .ro, 8⟩

/-! REC.CFG (R428, 16_shard_log). -/
def R.REC_CFG_HOLDWIN : Fld := ⟨0x40800004, 24, 8, .rwb, 0x32⟩
def R.REC_CFG_AUTOFMT : Fld := ⟨0x40800004, 2, 1, .rwb, 0⟩
def R.REC_CFG_SCRUBEN : Fld := ⟨0x40800004, 1, 1, .rwb, 1⟩
def R.REC_CFG_EN : Fld := ⟨0x40800004, 0, 1, .rwb, 0⟩

/-! REC.CMD (R428, 16_shard_log). -/
def R.REC_CMD_READ : Fld := ⟨0x40800008, 6, 1, .w1s, 0⟩
def R.REC_CMD_RESUME : Fld := ⟨0x40800008, 5, 1, .w1s, 0⟩
def R.REC_CMD_FORMAT : Fld := ⟨0x40800008, 4, 1, .w1s, 0⟩
def R.REC_CMD_TRIG : Fld := ⟨0x40800008, 0, 4, .w1s, 0⟩

/-! REC.STAT (R428, 16_shard_log). -/
def R.REC_STAT_STATE : Fld := ⟨0x4080000C, 12, 4, .ro, 0⟩
def R.REC_STAT_BBHIGH : Fld := ⟨0x4080000C, 7, 1, .ro, 0⟩
def R.REC_STAT_DEFEV : Fld := ⟨0x4080000C, 6, 1, .w1c, 0⟩
def R.REC_STAT_GAP : Fld := ⟨0x4080000C, 5, 1, .w1c, 0⟩
def R.REC_STAT_CFGREJ : Fld := ⟨0x4080000C, 4, 1, .w1c, 0⟩
def R.REC_STAT_SCRUBBUSY : Fld := ⟨0x4080000C, 3, 1, .ro, 0⟩
def R.REC_STAT_RDBUSY : Fld := ⟨0x4080000C, 2, 1, .ro, 0⟩
def R.REC_STAT_DEFER : Fld := ⟨0x4080000C, 1, 1, .ro, 0⟩
def R.REC_STAT_INUNIT : Fld := ⟨0x4080000C, 0, 1, .ro, 0⟩

/-! REC.HOLD (R428, 16_shard_log). -/
def R.REC_HOLD_HCAP : Fld := ⟨0x40800010, 16, 16, .rwb, 0x64⟩
def R.REC_HOLD_HVMIN : Fld := ⟨0x40800010, 0, 16, .rwb, 0x1770⟩

/-! REC.EREQ (R428, 16_shard_log). -/
def R.REC_EREQ_EREQ : Fld := ⟨0x40800014, 0, 24, .rwb, 0x2EE0⟩

/-! REC.VHOLD (R428, 16_shard_log). -/
def R.REC_VHOLD_MV : Fld := ⟨0x40800018, 0, 16, .ro, 0⟩

/-! REC.EAVAIL (R428, 16_shard_log). -/
def R.REC_EAVAIL_UJ : Fld := ⟨0x4080001C, 0, 32, .ro, 0⟩

/-! REC.CNT (R428, 16_shard_log). -/
def R.REC_CNT_DEFERCNT : Fld := ⟨0x40800020, 16, 16, .ro, 0⟩
def R.REC_CNT_GAPCNT : Fld := ⟨0x40800020, 0, 16, .ro, 0⟩

/-! REC.IN (R428, 16_shard_log). -/
def R.REC_IN_EN (i : Nat) : Fld := ⟨0x40800040 + 0x4 * i, 31, 1, .rwb, 0⟩
def R.REC_IN_QUEUE (i : Nat) : Fld := ⟨0x40800040 + 0x4 * i, 16, 5, .rwb, 0⟩
def R.REC_IN_KIND (i : Nat) : Fld := ⟨0x40800040 + 0x4 * i, 8, 3, .rwb, 0⟩
def R.REC_IN_STREAM (i : Nat) : Fld := ⟨0x40800040 + 0x4 * i, 0, 2, .rwb, 0⟩

/-! REC.SNAP (R428, 16_shard_log). -/
def R.REC_SNAP_PRE (i : Nat) : Fld := ⟨0x40800060 + 0x8 * i, 20, 12, .rwb, 0⟩
def R.REC_SNAP_POST (i : Nat) : Fld := ⟨0x40800060 + 0x8 * i, 8, 12, .rwb, 0⟩
def R.REC_SNAP_NCH (i : Nat) : Fld := ⟨0x40800060 + 0x8 * i, 0, 7, .rwb, 1⟩

/-! REC.SNAPST (R428, 16_shard_log). -/
def R.REC_SNAPST_FILL (i : Nat) : Fld := ⟨0x40800064 + 0x8 * i, 20, 12, .ro, 0⟩
def R.REC_SNAPST_POSTLEFT (i : Nat) : Fld := ⟨0x40800064 + 0x8 * i, 8, 12, .ro, 0⟩
def R.REC_SNAPST_ROWBAD (i : Nat) : Fld := ⟨0x40800064 + 0x8 * i, 3, 1, .w1c, 0⟩
def R.REC_SNAPST_TRIGSKIP (i : Nat) : Fld := ⟨0x40800064 + 0x8 * i, 2, 1, .w1c, 0⟩
def R.REC_SNAPST_CAPT (i : Nat) : Fld := ⟨0x40800064 + 0x8 * i, 1, 1, .ro, 0⟩
def R.REC_SNAPST_ARMED (i : Nat) : Fld := ⟨0x40800064 + 0x8 * i, 0, 1, .ro, 0⟩

/-! REC.RDSEL (R428, 16_shard_log). -/
def R.REC_RDSEL_MODE : Fld := ⟨0x40800080, 28, 4, .rw, 1⟩
def R.REC_RDSEL_TYPE : Fld := ⟨0x40800080, 16, 8, .rw, 0⟩
def R.REC_RDSEL_BACK : Fld := ⟨0x40800080, 0, 16, .rw, 0⟩

/-! REC.RDARG (R428, 16_shard_log). -/
def R.REC_RDARG_SEQ : Fld := ⟨0x40800084, 0, 32, .rw, 0⟩

/-! REC.RDSTAT (R428, 16_shard_log). -/
def R.REC_RDSTAT_RESULT : Fld := ⟨0x40800088, 24, 8, .ro, 0⟩
def R.REC_RDSTAT_PKTS : Fld := ⟨0x40800088, 0, 24, .ro, 0⟩

/-! REC.RDLEN (R428, 16_shard_log). -/
def R.REC_RDLEN_LEN : Fld := ⟨0x4080008C, 0, 32, .ro, 0⟩

/-- The registers of REC, part 0. -/
def RegMap.rec0 : List RegDef :=
  [⟨"REC.INFO", 0x40800000, 4, 1,
      [fun _ => R.REC_INFO_NSTREAM, fun _ => R.REC_INFO_NIN]⟩,
   ⟨"REC.CFG", 0x40800004, 4, 1,
      [fun _ => R.REC_CFG_HOLDWIN, fun _ => R.REC_CFG_AUTOFMT, fun _ => R.REC_CFG_SCRUBEN, fun _ => R.REC_CFG_EN]⟩,
   ⟨"REC.CMD", 0x40800008, 4, 1,
      [fun _ => R.REC_CMD_READ, fun _ => R.REC_CMD_RESUME, fun _ => R.REC_CMD_FORMAT, fun _ => R.REC_CMD_TRIG]⟩,
   ⟨"REC.STAT", 0x4080000C, 4, 1,
      [fun _ => R.REC_STAT_STATE, fun _ => R.REC_STAT_BBHIGH, fun _ => R.REC_STAT_DEFEV, fun _ => R.REC_STAT_GAP, fun _ => R.REC_STAT_CFGREJ, fun _ => R.REC_STAT_SCRUBBUSY, fun _ => R.REC_STAT_RDBUSY, fun _ => R.REC_STAT_DEFER, fun _ => R.REC_STAT_INUNIT]⟩,
   ⟨"REC.HOLD", 0x40800010, 4, 1,
      [fun _ => R.REC_HOLD_HCAP, fun _ => R.REC_HOLD_HVMIN]⟩,
   ⟨"REC.EREQ", 0x40800014, 4, 1,
      [fun _ => R.REC_EREQ_EREQ]⟩,
   ⟨"REC.VHOLD", 0x40800018, 4, 1,
      [fun _ => R.REC_VHOLD_MV]⟩,
   ⟨"REC.EAVAIL", 0x4080001C, 4, 1,
      [fun _ => R.REC_EAVAIL_UJ]⟩,
   ⟨"REC.CNT", 0x40800020, 4, 1,
      [fun _ => R.REC_CNT_DEFERCNT, fun _ => R.REC_CNT_GAPCNT]⟩,
   ⟨"REC.IN", 0x40800040, 0x4, 8,
      [R.REC_IN_EN, R.REC_IN_QUEUE, R.REC_IN_KIND, R.REC_IN_STREAM]⟩,
   ⟨"REC.SNAP", 0x40800060, 0x8, 4,
      [R.REC_SNAP_PRE, R.REC_SNAP_POST, R.REC_SNAP_NCH]⟩,
   ⟨"REC.SNAPST", 0x40800064, 0x8, 4,
      [R.REC_SNAPST_FILL, R.REC_SNAPST_POSTLEFT, R.REC_SNAPST_ROWBAD, R.REC_SNAPST_TRIGSKIP, R.REC_SNAPST_CAPT, R.REC_SNAPST_ARMED]⟩]

/-- The registers of REC, part 1. -/
def RegMap.rec1 : List RegDef :=
  [⟨"REC.RDSEL", 0x40800080, 4, 1,
      [fun _ => R.REC_RDSEL_MODE, fun _ => R.REC_RDSEL_TYPE, fun _ => R.REC_RDSEL_BACK]⟩,
   ⟨"REC.RDARG", 0x40800084, 4, 1,
      [fun _ => R.REC_RDARG_SEQ]⟩,
   ⟨"REC.RDSTAT", 0x40800088, 4, 1,
      [fun _ => R.REC_RDSTAT_RESULT, fun _ => R.REC_RDSTAT_PKTS]⟩,
   ⟨"REC.RDLEN", 0x4080008C, 4, 1,
      [fun _ => R.REC_RDLEN_LEN]⟩]

/-! ## NANDIF -/

/-! NANDIF.STAT (R429, 16_shard_log). -/
def R.NANDIF_STAT_IFACE : Fld := ⟨0x40810000, 28, 4, .ro, 0⟩
def R.NANDIF_STAT_TMODE : Fld := ⟨0x40810000, 24, 4, .ro, 0⟩
def R.NANDIF_STAT_NLUN : Fld := ⟨0x40810000, 20, 4, .ro, 0⟩
def R.NANDIF_STAT_K : Fld := ⟨0x40810000, 16, 4, .ro, 0⟩
def R.NANDIF_STAT_MTS : Fld := ⟨0x40810000, 0, 16, .ro, 0⟩

/-! NANDIF.GEOM (R429, 16_shard_log). -/
def R.NANDIF_GEOM_PGSZ : Fld := ⟨0x40810004, 28, 4, .ro, 0⟩
def R.NANDIF_GEOM_PPB : Fld := ⟨0x40810004, 16, 12, .ro, 0⟩
def R.NANDIF_GEOM_BLKS : Fld := ⟨0x40810004, 0, 16, .ro, 0⟩

/-! NANDIF.CFG (R429, 16_shard_log). -/
def R.NANDIF_CFG_MAXIF : Fld := ⟨0x40810008, 28, 4, .rwb, 4⟩
def R.NANDIF_CFG_MAXTM : Fld := ⟨0x40810008, 24, 4, .rwb, 0xF⟩
def R.NANDIF_CFG_PRETRY : Fld := ⟨0x40810008, 20, 4, .rwb, 3⟩
def R.NANDIF_CFG_RRETRY : Fld := ⟨0x40810008, 16, 4, .rwb, 2⟩
def R.NANDIF_CFG_REFTH : Fld := ⟨0x40810008, 8, 6, .rwb, 0x18⟩

/-! NANDIF.RDLIM (R429, 16_shard_log). -/
def R.NANDIF_RDLIM_LIMIT : Fld := ⟨0x4081000C, 0, 24, .rwb, 0xC350⟩

/-! NANDIF.WL (R429, 16_shard_log). -/
def R.NANDIF_WL_WLDELTA : Fld := ⟨0x40810010, 0, 16, .rwb, 0x1F4⟩

/-! NANDIF.ECC (R429, 16_shard_log). -/
def R.NANDIF_ECC_CORRCNT : Fld := ⟨0x40810014, 16, 16, .ro, 0⟩
def R.NANDIF_ECC_UECNT : Fld := ⟨0x40810014, 0, 16, .ro, 0⟩

/-! NANDIF.ECMIN (R429, 16_shard_log). -/
def R.NANDIF_ECMIN_COUNT : Fld := ⟨0x40810018, 0, 32, .ro, 0⟩

/-! NANDIF.ECMAX (R429, 16_shard_log). -/
def R.NANDIF_ECMAX_COUNT : Fld := ⟨0x4081001C, 0, 32, .ro, 0⟩

/-! NANDIF.SCRUB (R429, 16_shard_log). -/
def R.NANDIF_SCRUB_REFRESHED : Fld := ⟨0x40810020, 16, 16, .ro, 0⟩
def R.NANDIF_SCRUB_LOST : Fld := ⟨0x40810020, 0, 16, .ro, 0⟩

/-! NANDIF.LUNST (R429, 16_shard_log). -/
def R.NANDIF_LUNST_DROP : Fld := ⟨0x40810024, 4, 4, .ro, 0⟩
def R.NANDIF_LUNST_USED : Fld := ⟨0x40810024, 0, 4, .ro, 0⟩

/-! NANDIF.BB (R429, 16_shard_log). -/
def R.NANDIF_BB_GROWN (i : Nat) : Fld := ⟨0x40810030 + 0x4 * i, 16, 16, .ro, 0⟩
def R.NANDIF_BB_FACTORY (i : Nat) : Fld := ⟨0x40810030 + 0x4 * i, 0, 16, .ro, 0⟩

/-- The registers of NANDIF, part 0. -/
def RegMap.nandif0 : List RegDef :=
  [⟨"NANDIF.STAT", 0x40810000, 4, 1,
      [fun _ => R.NANDIF_STAT_IFACE, fun _ => R.NANDIF_STAT_TMODE, fun _ => R.NANDIF_STAT_NLUN, fun _ => R.NANDIF_STAT_K, fun _ => R.NANDIF_STAT_MTS]⟩,
   ⟨"NANDIF.GEOM", 0x40810004, 4, 1,
      [fun _ => R.NANDIF_GEOM_PGSZ, fun _ => R.NANDIF_GEOM_PPB, fun _ => R.NANDIF_GEOM_BLKS]⟩,
   ⟨"NANDIF.CFG", 0x40810008, 4, 1,
      [fun _ => R.NANDIF_CFG_MAXIF, fun _ => R.NANDIF_CFG_MAXTM, fun _ => R.NANDIF_CFG_PRETRY, fun _ => R.NANDIF_CFG_RRETRY, fun _ => R.NANDIF_CFG_REFTH]⟩,
   ⟨"NANDIF.RDLIM", 0x4081000C, 4, 1,
      [fun _ => R.NANDIF_RDLIM_LIMIT]⟩,
   ⟨"NANDIF.WL", 0x40810010, 4, 1,
      [fun _ => R.NANDIF_WL_WLDELTA]⟩,
   ⟨"NANDIF.ECC", 0x40810014, 4, 1,
      [fun _ => R.NANDIF_ECC_CORRCNT, fun _ => R.NANDIF_ECC_UECNT]⟩,
   ⟨"NANDIF.ECMIN", 0x40810018, 4, 1,
      [fun _ => R.NANDIF_ECMIN_COUNT]⟩,
   ⟨"NANDIF.ECMAX", 0x4081001C, 4, 1,
      [fun _ => R.NANDIF_ECMAX_COUNT]⟩,
   ⟨"NANDIF.SCRUB", 0x40810020, 4, 1,
      [fun _ => R.NANDIF_SCRUB_REFRESHED, fun _ => R.NANDIF_SCRUB_LOST]⟩,
   ⟨"NANDIF.LUNST", 0x40810024, 4, 1,
      [fun _ => R.NANDIF_LUNST_DROP, fun _ => R.NANDIF_LUNST_USED]⟩,
   ⟨"NANDIF.BB", 0x40810030, 0x4, 4,
      [R.NANDIF_BB_GROWN, R.NANDIF_BB_FACTORY]⟩]

/-! ## PWR -/

/-! PWR.INFO (R444, 17_power_states). -/
def R.PWR_INFO_NBLK : Fld := ⟨0x40900000, 0, 8, .ro, 0xF⟩

/-! PWR.BCTL (R444, 17_power_states). -/
def R.PWR_BCTL_EXIT : Fld := ⟨0x40900004, 1, 1, .w1s, 0⟩
def R.PWR_BCTL_ENTER : Fld := ⟨0x40900004, 0, 1, .w1s, 0⟩

/-! PWR.BSTAT (R444, 17_power_states). -/
def R.PWR_BSTAT_REJ : Fld := ⟨0x40900008, 24, 4, .ro, 0⟩
def R.PWR_BSTAT_RESULT : Fld := ⟨0x40900008, 16, 4, .ro, 0⟩
def R.PWR_BSTAT_STEP : Fld := ⟨0x40900008, 8, 4, .ro, 0⟩
def R.PWR_BSTAT_CFGREJ : Fld := ⟨0x40900008, 1, 1, .w1c, 0⟩
def R.PWR_BSTAT_BUSY : Fld := ⟨0x40900008, 0, 1, .ro, 0⟩

/-! PWR.REFUSER (R444, 17_power_states). -/
def R.PWR_REFUSER_REASON : Fld := ⟨0x4090000C, 8, 4, .ro, 0⟩
def R.PWR_REFUSER_BLOCK : Fld := ⟨0x4090000C, 0, 4, .ro, 0⟩

/-! PWR.WAKEEN (R444, 17_power_states). -/
def R.PWR_WAKEEN_EN : Fld := ⟨0x40900010, 0, 8, .rwb, 0xFF⟩

/-! PWR.WAKESRC (R444, 17_power_states). -/
def R.PWR_WAKESRC_FIRST : Fld := ⟨0x40900014, 12, 4, .ro, 0⟩
def R.PWR_WAKESRC_SRC : Fld := ⟨0x40900014, 0, 9, .w1c, 0⟩

/-! PWR.ISLEEP (R444, 17_power_states). -/
def R.PWR_ISLEEP_REQ : Fld := ⟨0x40900018, 0, 6, .rw, 0⟩

/-! PWR.ISTAT (R444, 17_power_states). -/
def R.PWR_ISTAT_ASLEEP : Fld := ⟨0x4090001C, 0, 6, .ro, 0⟩

/-! PWR.BTIME (R444, 17_power_states). -/
def R.PWR_BTIME_MS : Fld := ⟨0x40900020, 0, 32, .ro, 0⟩

/-! PWR.DMAX (R444, 17_power_states). -/
def R.PWR_DMAX_US (i : Nat) : Fld := ⟨0x40900040 + 0x4 * i, 0, 24, .ro, 0⟩

/-- The registers of PWR, part 0. -/
def RegMap.pwr0 : List RegDef :=
  [⟨"PWR.INFO", 0x40900000, 4, 1,
      [fun _ => R.PWR_INFO_NBLK]⟩,
   ⟨"PWR.BCTL", 0x40900004, 4, 1,
      [fun _ => R.PWR_BCTL_EXIT, fun _ => R.PWR_BCTL_ENTER]⟩,
   ⟨"PWR.BSTAT", 0x40900008, 4, 1,
      [fun _ => R.PWR_BSTAT_REJ, fun _ => R.PWR_BSTAT_RESULT, fun _ => R.PWR_BSTAT_STEP, fun _ => R.PWR_BSTAT_CFGREJ, fun _ => R.PWR_BSTAT_BUSY]⟩,
   ⟨"PWR.REFUSER", 0x4090000C, 4, 1,
      [fun _ => R.PWR_REFUSER_REASON, fun _ => R.PWR_REFUSER_BLOCK]⟩,
   ⟨"PWR.WAKEEN", 0x40900010, 4, 1,
      [fun _ => R.PWR_WAKEEN_EN]⟩,
   ⟨"PWR.WAKESRC", 0x40900014, 4, 1,
      [fun _ => R.PWR_WAKESRC_FIRST, fun _ => R.PWR_WAKESRC_SRC]⟩,
   ⟨"PWR.ISLEEP", 0x40900018, 4, 1,
      [fun _ => R.PWR_ISLEEP_REQ]⟩,
   ⟨"PWR.ISTAT", 0x4090001C, 4, 1,
      [fun _ => R.PWR_ISTAT_ASLEEP]⟩,
   ⟨"PWR.BTIME", 0x40900020, 4, 1,
      [fun _ => R.PWR_BTIME_MS]⟩,
   ⟨"PWR.DMAX", 0x40900040, 0x4, 16,
      [R.PWR_DMAX_US]⟩]

/-! ## BIST -/

/-! BIST.INFO (R453, 18_self_test). -/
def R.BIST_INFO_SHIFT : Fld := ⟨0x40A00000, 16, 16, .ro, 0xD4⟩
def R.BIST_INFO_NPART : Fld := ⟨0x40A00000, 0, 4, .ro, 4⟩

/-! BIST.CTL (R453, 18_self_test). -/
def R.BIST_CTL_STOP : Fld := ⟨0x40A00004, 1, 1, .w1s, 0⟩
def R.BIST_CTL_START : Fld := ⟨0x40A00004, 0, 1, .w1s, 0⟩

/-! BIST.CFG (R453, 18_self_test). -/
def R.BIST_CFG_MASK : Fld := ⟨0x40A00008, 24, 4, .rw, 0xF⟩
def R.BIST_CFG_PATCNT : Fld := ⟨0x40A00008, 0, 20, .rw, 0x2000⟩

/-! BIST.SEED (R453, 18_self_test). -/
def R.BIST_SEED_VALUE : Fld := ⟨0x40A0000C, 0, 32, .rw, 0⟩

/-! BIST.EXPSIG_LO (R453, 18_self_test). -/
def R.BIST_EXPSIG_LO_VALUE : Fld := ⟨0x40A00010, 0, 32, .rw, 0⟩

/-! BIST.EXPSIG_HI (R453, 18_self_test). -/
def R.BIST_EXPSIG_HI_VALUE : Fld := ⟨0x40A00014, 0, 32, .rw, 0⟩

/-! BIST.SIG_LO (R453, 18_self_test). -/
def R.BIST_SIG_LO_VALUE : Fld := ⟨0x40A00018, 0, 32, .ro, 0⟩

/-! BIST.SIG_HI (R453, 18_self_test). -/
def R.BIST_SIG_HI_VALUE : Fld := ⟨0x40A0001C, 0, 32, .ro, 0⟩

/-! BIST.STAT (R453, 18_self_test). -/
def R.BIST_STAT_INVCAUSE : Fld := ⟨0x40A00020, 12, 4, .ro, 0⟩
def R.BIST_STAT_RESULT : Fld := ⟨0x40A00020, 8, 4, .ro, 0⟩
def R.BIST_STAT_KEYON : Fld := ⟨0x40A00020, 3, 1, .ro, 0⟩
def R.BIST_STAT_BUSY_REJ : Fld := ⟨0x40A00020, 2, 1, .w1c, 0⟩
def R.BIST_STAT_CFGREJ : Fld := ⟨0x40A00020, 1, 1, .w1c, 0⟩
def R.BIST_STAT_RUNNING : Fld := ⟨0x40A00020, 0, 1, .ro, 0⟩

/-! BIST.PATDONE (R453, 18_self_test). -/
def R.BIST_PATDONE_COUNT : Fld := ⟨0x40A00024, 0, 20, .ro, 0⟩

/-! BIST.KPROF (R453, 18_self_test). -/
def R.BIST_KPROF_PATCNT : Fld := ⟨0x40A00028, 0, 20, .ro, 0x2000⟩

/-- The registers of BIST, part 0. -/
def RegMap.bist0 : List RegDef :=
  [⟨"BIST.INFO", 0x40A00000, 4, 1,
      [fun _ => R.BIST_INFO_SHIFT, fun _ => R.BIST_INFO_NPART]⟩,
   ⟨"BIST.CTL", 0x40A00004, 4, 1,
      [fun _ => R.BIST_CTL_STOP, fun _ => R.BIST_CTL_START]⟩,
   ⟨"BIST.CFG", 0x40A00008, 4, 1,
      [fun _ => R.BIST_CFG_MASK, fun _ => R.BIST_CFG_PATCNT]⟩,
   ⟨"BIST.SEED", 0x40A0000C, 4, 1,
      [fun _ => R.BIST_SEED_VALUE]⟩,
   ⟨"BIST.EXPSIG_LO", 0x40A00010, 4, 1,
      [fun _ => R.BIST_EXPSIG_LO_VALUE]⟩,
   ⟨"BIST.EXPSIG_HI", 0x40A00014, 4, 1,
      [fun _ => R.BIST_EXPSIG_HI_VALUE]⟩,
   ⟨"BIST.SIG_LO", 0x40A00018, 4, 1,
      [fun _ => R.BIST_SIG_LO_VALUE]⟩,
   ⟨"BIST.SIG_HI", 0x40A0001C, 4, 1,
      [fun _ => R.BIST_SIG_HI_VALUE]⟩,
   ⟨"BIST.STAT", 0x40A00020, 4, 1,
      [fun _ => R.BIST_STAT_INVCAUSE, fun _ => R.BIST_STAT_RESULT, fun _ => R.BIST_STAT_KEYON, fun _ => R.BIST_STAT_BUSY_REJ, fun _ => R.BIST_STAT_CFGREJ, fun _ => R.BIST_STAT_RUNNING]⟩,
   ⟨"BIST.PATDONE", 0x40A00024, 4, 1,
      [fun _ => R.BIST_PATDONE_COUNT]⟩,
   ⟨"BIST.KPROF", 0x40A00028, 4, 1,
      [fun _ => R.BIST_KPROF_PATCNT]⟩]

/-- Every register of the device by block, in the order of R499. -/
def RegMap.all : List RegDef :=
  RegMap.sys0 ++ RegMap.sys1 ++ RegMap.wheel0 ++ RegMap.wheel1 ++ RegMap.xwin0 ++ RegMap.adc0 ++ RegMap.adc1 ++ RegMap.pos0 ++ RegMap.pos1 ++ RegMap.pos2 ++ RegMap.loop0 ++ RegMap.loop1 ++ RegMap.rcu0 ++ RegMap.pwm0 ++ RegMap.pwm1 ++ RegMap.pwm2 ++ RegMap.isl0 ++ RegMap.isl1 ++ RegMap.saggar0 ++ RegMap.saggar1 ++ RegMap.cone0 ++ RegMap.safeout0 ++ RegMap.safecfg0 ++ RegMap.wedge0 ++ RegMap.wedge1 ++ RegMap.sec0 ++ RegMap.sec1 ++ RegMap.que0 ++ RegMap.que1 ++ RegMap.can00 ++ RegMap.hspi0 ++ RegMap.eth0 ++ RegMap.rec0 ++ RegMap.rec1 ++ RegMap.nandif0 ++ RegMap.pwr0 ++ RegMap.bist0 ++ RegMap.can0 0 ++ RegMap.can1 0 ++ RegMap.can2 0 ++ RegMap.can0 1 ++ RegMap.can1 1 ++ RegMap.can2 1 ++ RegMap.can0 2 ++ RegMap.can1 2 ++ RegMap.can2 2 ++ RegMap.can0 3 ++ RegMap.can1 3 ++ RegMap.can2 3

end Sys2Proof.Machine
end

