-- ==== Sys2Proof/Machine/Sparse.lean ====
section
/-! DEFINITION. Sparse tables: lists of key and value pairs with strictly rising keys and no entry equal to the default, so that equal tables are equal data. -/

namespace Sys2Proof.Machine

/-- A table of values by key. -/
abbrev Sparse (α : Type) := List (Nat × α)

/-- The value at `k`, or the default `d` where nothing is listed. -/
def Sparse.get {α : Type} (d : α) (m : Sparse α) (k : Nat) : α :=
  match m with
  | [] => d
  | (k', v) :: t => if k = k' then v else Sparse.get d t k

/-- The table without any entry at `k`. -/
def Sparse.del {α : Type} (m : Sparse α) (k : Nat) : Sparse α :=
  match m with
  | [] => []
  | (k', v) :: t => if k = k' then Sparse.del t k else (k', v) :: Sparse.del t k

/-- The table with `v` put at `k`, in key order. -/
def Sparse.put {α : Type} (m : Sparse α) (k : Nat) (v : α) : Sparse α :=
  match m with
  | [] => [(k, v)]
  | (k', v') :: t =>
    if k < k' then (k, v) :: (k', v') :: t
    else if k = k' then (k, v) :: t
    else (k', v') :: Sparse.put t k v

/-- The table with the value at `k` set to `v`; a default value is not listed. -/
def Sparse.set {α : Type} [DecidableEq α] (d : α) (m : Sparse α) (k : Nat) (v : α) : Sparse α :=
  if v = d then Sparse.del m k else Sparse.put m k v

/-- Keys above `lo`, strictly rising, and no default listed. -/
def Sparse.wfFrom {α : Type} [DecidableEq α] (d : α) (lo : Option Nat) (m : Sparse α) : Bool :=
  match m with
  | [] => true
  | (k, v) :: t =>
    (match lo with
      | none => true
      | some l => decide (l < k)) && decide (v ≠ d) && Sparse.wfFrom d (some k) t

/-- The canonical form: keys strictly rising, no entry equal to the default. -/
def Sparse.wf {α : Type} [DecidableEq α] (d : α) (m : Sparse α) : Bool :=
  Sparse.wfFrom d none m

/-- The entries whose key satisfies `p`. -/
def Sparse.keep {α : Type} (p : Nat → Bool) (m : Sparse α) : Sparse α :=
  m.filter fun e => p e.1

/-- The table that lists `f k` at each key of `ks`, default elsewhere. -/
def Sparse.ofFn {α : Type} [DecidableEq α] (d : α) (f : Nat → α) : List Nat → Sparse α
  | [] => []
  | k :: t => Sparse.set d (Sparse.ofFn d f t) k (f k)

end Sys2Proof.Machine
end

