-- ==== Sys2Proof/Machine/State.lean ====
section
/-! DEFINITION. The state of the device as plain data: every register field (in one store keyed by field), every memory, FIFO, buffer, latch, pin and sequencer the spec names, and the queue of waiting commands. Each field's docstring gives its meaning, width, the rules of spec/ that name it and its reset value. -/

namespace Sys2Proof.Machine

open Sys2Proof

/-- The three variants of R4. -/
inductive Variant where
  | vz6840 | vz6832 | vz6821
  deriving DecidableEq, Repr

/-- The device states of R34. -/
inductive DevState where
  | off | wedging | noimage | ready | run | safeHold | banked
  deriving DecidableEq, Repr

/-- The lifecycle states of R330. -/
inductive Lifecycle where
  | blank | manufacture | develop | production | rma | scrapped
  deriving DecidableEq, Repr

/-- The OFF-channel symbols of R238. -/
inductive OffSym where
  | noCarrier | enoff | handoff | safeOff | safeOn | run
  deriving DecidableEq, Repr

/-- An effect of a Wheel operation that has been issued and takes place at the end of a later cycle (R52, R68). -/
inductive Effect where
  /-- A result into general register `r`, with the NUMSTAT flags it sets (R52, R56). -/
  | setG (r : Nat) (v : Word) (flags : Nat)
  /-- A result into predicate `p` (R49, R52). -/
  | setP (p : Nat) (b : Bool)
  /-- A new value of an address register (R64). -/
  | setAr (k v : Nat)
  /-- A new value of a coefficient pointer (R64). -/
  | setCp (j v : Nat)
  /-- A data-memory store into bank `k` at `off` (R65). -/
  | storeD (k off : Nat) (v : Word)
  /-- A compare value landing in a shadow, `isB` for CMPB (R71). -/
  | shadow (n : Nat) (isB : Bool) (v : Nat)
  /-- A force-stage write of leg `n` (R211). -/
  | force (n : Nat) (v : Nat)
  /-- A commutation event raised by the Wheel for the inverters of `mask` (R212). -/
  | comm (mask : Nat)
  /-- A ramp target (R176). -/
  | rampTgt (u : Nat) (v : Word)
  /-- A LOOP.CMD command (R164). -/
  | loopCmd (l cmd : Nat)
  /-- A measured value (R165). -/
  | loopMeas (l : Nat) (v : Word)
  /-- The table read of an RCU.RD, result into `r` (R181). -/
  | rcuRead (ch r : Nat) (theta : Word)
  /-- The freeze decision of an RCU.LRN (R183). -/
  | rcuLearn (ch : Nat) (e : Word)
  /-- The table update of an accepted RCU.LRN (R182). -/
  | rcuWrite (ch bin : Nat) (e : Word)
  /-- A staged word reaching its queue (R73). -/
  | qpush (q lo hi : Nat) (endp : Bool)
  /-- The open Wheel packets end, once the last push of the last turn has reached its queue (R355). -/
  | packetsEnd
  /-- A word written into the Wheel buffer of an OUT window (R75). -/
  | xwWrite (w off : Nat) (v : Word)
  /-- A poisoned exchange-window read noted (R74). -/
  | xpoison
  /-- A heartbeat reaching the Saggar (R76). -/
  | heartbeat (sum : Word) (turn : Nat)
  /-- A corrected single-bit memory error noted: memory code and address (R67). -/
  | eccNote (mem addr : Nat)
  /-- A SAFE_HOLD cause detected by the Wheel (R67, R74, R77). -/
  | halt (cause : Nat)
  deriving DecidableEq, Repr

/-- A hardware loop in progress (R59). -/
structure HwLoop where
  /-- First bundle address of the body. -/
  first : Nat
  /-- Last bundle address of the body. -/
  last : Nat
  /-- Iterations left, the present one included. -/
  left : Nat
  deriving DecidableEq, Repr

/-- A slow record of the accepted resource table (R96). -/
structure SlowRec where
  base : Nat := 0
  bundles : Nat := 0
  len : Nat := 0
  n : Nat := 0
  phase : Nat := 0
  deriving DecidableEq, Repr

/-- A group record of the accepted resource table (R96). -/
structure GroupRec where
  members : Nat := 0
  nacq : Nat := 0
  src : Nat := 0
  deriving DecidableEq, Repr

/-- A queue record of the accepted resource table (R96). -/
structure QueueRec where
  queue : Nat := 0
  policy : Nat := 0
  deriving DecidableEq, Repr

/-- The resource table of an image (R95, R96). -/
structure Contract where
  tlenMain : Nat := 0
  occMax : Nat := 0
  mainBundles : Nat := 0
  tendAddr : Nat := 0
  spAddr : Nat := 0xFFFF
  tbsel : Nat := 0
  evsel : Nat := 0
  div : Nat := 1
  tscmp : Nat := 0
  tpMin : Nat := 0
  tpMax : Nat := 0
  lockmask : Nat := 0
  xwdir : Nat := 0
  xwcrit : Nat := 0
  rampmask : Nat := 0
  loopmask : Nat := 0
  rcumask : Nat := 0
  wqmask : Nat := 0
  slow : List SlowRec := []
  groups : List GroupRec := []
  queues : List QueueRec := []
  deriving DecidableEq, Repr

/-- The Wheel's sequencer and registers. -/
structure Wheel where
  /-- g0–g127 | 128 x 32 bits | R52, R54 (02_wheel_engine) | zero (cleared at RUN entry) -/
  g : Sparse Word := []
  /-- p1–p7 | 7 x 1 bit | R49, R54 (02_wheel_engine) | zero (cleared at RUN entry) -/
  p : Sparse Bool := []
  /-- AR0–AR15 | 16 x 13 bits | R63, R54 (02_wheel_engine) | zero (cleared at RUN entry) -/
  ar : Sparse Nat := []
  /-- CP0–CP3 | 4 x 14 bits | R64, R54 (02_wheel_engine) | zero (cleared at RUN entry) -/
  cp : Sparse Nat := []
  /-- Issuing the bundles of a turn | 1 bit | R80 STAT.TURNING (02_wheel_engine) | 0 -/
  turning : Bool := false
  /-- Between TEND and the next TURN_START | 1 bit | R80 STAT.IDLE (02_wheel_engine) | 0 -/
  idle : Bool := false
  /-- Halted by a SAFE_HOLD cause | 1 bit | R77, R80 STAT.HALTED (02_wheel_engine) | 0 -/
  halted : Bool := false
  /-- Halted for debug at a TEND | 1 bit | R79, R80 STAT.DBGHALT (02_wheel_engine) | 0 -/
  dbgHalted : Bool := false
  /-- The turn in progress is a single step | 1 bit | R79 (02_wheel_engine) | 0 -/
  stepping : Bool := false
  /-- Bundle address issuing next | 14 bits | R67, R77 (02_wheel_engine) | 0 -/
  pc : Nat := 0
  /-- Bundle address that an HLOOP of COUNT 0 makes issue next | 14 bits | R60 (02_wheel_engine) | none -/
  jump : Option Nat := none
  /-- Hardware loops in progress, innermost first | at most 2 | R59, R61, R54 (02_wheel_engine) | none -/
  loops : List HwLoop := []
  /-- Slow sections still to run in this turn, ascending | list of 0–7 | R90 (03_schedule_contract) | none -/
  slowTodo : List Nat := []
  /-- Slow section in progress | 0–7 | R90 (03_schedule_contract) | none -/
  inSlow : Option Nat := none
  /-- Phase counters of the slow sections | 8 x 6 bits | R89 (03_schedule_contract) | zero (cleared at RUN entry) -/
  phase : Sparse Nat := []
  /-- CORECLK cycle of the last TURN_START, for TLEN | cycle number | R80 TLEN (02_wheel_engine) | 0 -/
  start : Nat := 0
  /-- Address of the last TEND executed, for HALTPC in idle time | 14 bits | R77 (02_wheel_engine) | 0 -/
  lastTend : Nat := 0
  /-- Turn stamp: the TSC latched at TURN_START | 64 bits | R32, R82 (01_architecture, 03_schedule_contract) | 0 -/
  stamp : Nat := 0
  /-- A turn match has been taken and its TURN_START is to come | 1 bit | R82 (03_schedule_contract) | 0 -/
  matched : Bool := false
  /-- CORECLK cycle of the taken match; TURN_START is four cycles later | cycle number | R82 (03_schedule_contract) | 0 -/
  matchAt : Nat := 0
  /-- One more than the last cycle in which the turn source was compared, so that one cycle gives one match | cycle number | R81 (03_schedule_contract) | 0 -/
  compared : Nat := 0
  /-- Windows that swap at the coming TURN_START (decided at the match) | 8 bits | R101 (03_schedule_contract) | 0 -/
  swapMask : Nat := 0
  /-- OUT windows kept by HOLD at the coming TURN_START | 8 bits | R101, R103 (03_schedule_contract) | 0 -/
  heldMask : Nat := 0
  /-- Matches seen since the last taken one, modulo DIV | 0–15 | R81 (03_schedule_contract) | 0 -/
  divCnt : Nat := 0
  /-- EV_TURN_OVERRUN has been raised | 1 bit | R109 (03_schedule_contract) | 0 -/
  overrun : Bool := false
  /-- Effects in flight: the CORECLK cycle at whose end each takes place | list | R52, R68, R76 (02_wheel_engine) | none -/
  inflight : List (Nat × Effect) := []
  /-- Earliest cycle the next staged push may reach its queue: the FABCLK edge after the last one's | cycle number | R73, R358 (02_wheel_engine, 13_queues) | 0 -/
  pushDue : Nat := 0
  deriving DecidableEq, Repr

/-- The Wheel's memories, each with the number of flipped bits of each protected word (R67). -/
structure Mems where
  /-- Instruction memory, bundle b syllable k at key 8·b + k | 16,384 x 256 bits | R67 (02_wheel_engine) | zero (NOP bundles) -/
  imem : Sparse Word := []
  /-- Flipped bits per 64-bit protected word of instruction memory, key 4·b + j | count | R67 (02_wheel_engine) | zero -/
  ierr : Sparse Nat := []
  /-- Data memory, bank k offset o at key 8192·k + o | 131,072 x 32 bits | R63 (02_wheel_engine) | zero -/
  dmem : Sparse Word := []
  /-- Flipped bits per data-memory word | count | R67 (02_wheel_engine) | zero -/
  derr : Sparse Nat := []
  /-- Coefficient memory | 16,384 x 32 bits | R66 (02_wheel_engine) | zero -/
  cmem : Sparse Word := []
  /-- Flipped bits per coefficient-memory word | count | R67 (02_wheel_engine) | zero -/
  cerr : Sparse Nat := []
  deriving DecidableEq, Repr

/-- The exchange windows (R25, R100). Word o of buffer b of window w has key 2048·w + 1024·b + o. -/
structure Xwin where
  /-- Both buffers of XW0–XW7 | 8 x 2 x 1,024 x 32 bits | R25, R100 (01_architecture, 03_schedule_contract) | zero -/
  buf : Sparse Word := []
  /-- Words with bad parity | 16,384 x 1 bit | R74, R512 (02_wheel_engine, 03_schedule_contract) | good parity -/
  bad : Sparse Bool := []
  /-- Bit w = which buffer of XWw the Wheel owns | 8 bits | R25 (01_architecture) | 0 -/
  sel : Nat := 0
  deriving DecidableEq, Repr

/-- The settings a conversion uses, as they stood at its acquisition edge (R121). -/
structure Snap where
  /-- CORECLK cycle that begins with the acquisition edge. -/
  acq : Nat := 0
  /-- Excitation phase counts of exciters 0 and 1 at that edge (R143). -/
  ph0 : Nat := 0
  ph1 : Nat := 0
  /-- Multiplexer input 0–2. -/
  inp : Nat := 0
  calofs : Nat := 0
  calgain : Nat := 0
  uofs : Word := 0
  ugain : Word := 0
  rsh : Nat := 0
  pdiff : Bool := false
  clipmode : Nat := 0
  /-- The inverter named in STKINV was in a switching condition (R129). -/
  switching : Bool := false
  deriving DecidableEq, Repr

/-- One member converter of a running sample-group sequence (R115). -/
structure AdcRun where
  conv : Nat
  group : Nat
  /-- CORECLK cycle that begins with the first acquisition edge. -/
  t0 : Nat
  nacq : Nat
  slots : Nat
  /-- Settings of the slots that have started, in slot order. -/
  snaps : List Snap
  /-- Slots whose result has been delivered. -/
  done : Nat
  /-- CORECLK cycle from which the result of the first slot is readable (R117, R513). -/
  due : Nat
  /-- Raw codes that wait in the clock-domain handoff for their cycle, in slot order (R117, R513). -/
  codes : List Nat
  deriving DecidableEq, Repr

/-- One ΣΔ channel (R132–R135). -/
structure SdCh where
  /-- Outputs since enabled or restarted, saturating at 3 | 0–3 | R135 (04_sampling) | 0 -/
  outs : Nat := 0
  /-- Outputs still to carry validity 0 after a resync | 0–3 | R134 (04_sampling) | 0 -/
  inval : Nat := 0
  /-- Integrators of the sinc3 filter, first to third | 3 integers | R132 (04_sampling) | 0 -/
  i1 : Int := 0
  i2 : Int := 0
  i3 : Int := 0
  /-- Differentiator delays of the sinc3 filter, first to third | 3 integers | R132 (04_sampling) | 0 -/
  d1 : Int := 0
  d2 : Int := 0
  d3 : Int := 0
  /-- Decimation counter | 0 to OSR − 1 | R134 (04_sampling) | 0 -/
  dec : Nat := 0
  /-- Level of the last sampled bit | 1 bit | R135 (04_sampling) | 0 -/
  level : Bool := false
  /-- Consecutive identical bits, saturating at 128 | 0–128 | R135 (04_sampling) | 0 -/
  same : Nat := 0
  /-- Levels the SDj land takes at the coming sampling edges, next first | list of bits | R131 (04_sampling) | none -/
  land : List Bool := []
  /-- Output that waits for its cycle: that CORECLK cycle, the filter sum, and OSR at the completing edge | record | R132, R133 (04_sampling) | none -/
  out : Option (Nat × Int × Nat) := none
  /-- A selected timebase event waits for the first sampling edge from this CORECLK cycle on | cycle number | R134 (04_sampling) | none -/
  syncAt : Option Nat := none
  deriving DecidableEq, Repr

/-- The converters and ΣΔ channels. -/
structure Adc where
  /-- Triggers taken: the cycle of the ADCCLK edge they start on, the group, and the cycle of the trigger | list | R116, R118 (04_sampling) | none -/
  trigs : List (Nat × Nat × Nat) := []
  /-- Sequences running or awaiting results | list | R115, R119 (04_sampling) | none -/
  runs : List AdcRun := []
  /-- Latest corrected FP32 value per converter | 16 x 32 bits | R121, R124 (04_sampling) | +0.0 -/
  val : Sparse Word := []
  /-- Clip state of the latest result per converter | 16 x 1 bit | R124 (04_sampling) | 0 -/
  clip : Sparse Bool := []
  /-- A conversion of the converter has completed since reset | 16 x 1 bit | R124 (04_sampling) | 0 -/
  seen : Sparse Bool := []
  /-- Run of identical raw codes per converter | 16 x 8 bits | R129 (04_sampling) | 0 -/
  same : Sparse Nat := []
  /-- Last raw code per converter, as an unsigned 14-bit pattern | 16 x 14 bits | R129 (04_sampling) | 0 -/
  lastRaw : Sparse Nat := []
  /-- Present CORECLK cycle of the SDCLK period; SDCLK is high in cycles 0 to 15 | 0–29 | R131 (04_sampling) | 29 (low) -/
  sdclk : Nat := 29
  /-- ΣΔ channels SD0–SD5 | 6 channels | R132–R135 (04_sampling) | idle -/
  sd : Sparse SdCh := []
  deriving DecidableEq, Repr

/-- One resolver exciter and monitor (R141–R144). -/
structure Exciter where
  /-- PERCLK count within the excitation period | 15 bits | R141 (05_position) | 0 -/
  phase : Nat := 0
  /-- The phase restarts at the next PERCLK edge (LOCK) | 1 bit | R142 (05_position) | 0 -/
  restart : Bool := false
  /-- The restart of this RUN has been made | 1 bit | R142 (05_position) | 0 -/
  locked : Bool := false
  /-- An estimate has been formed since the exciter started | 1 bit | R144 (05_position) | 0 -/
  formed : Bool := false
  /-- PERCLK cycles in RUN since the last estimate | count | R144 (05_position) | 0 -/
  since : Nat := 0
  /-- Consecutive estimates outside [AMIN, AMAX] | 8 bits | R144 (05_position) | 0 -/
  ampOut : Nat := 0
  /-- Consecutive estimates below LOSTH | 8 bits | R144 (05_position) | 0 -/
  losCnt : Nat := 0
  /-- Sine results that wait for the cosine result of their edge: acquisition cycle, phase, value, validity | list of records | R143 (05_position) | none -/
  sins : List (Nat × Nat × Word × Bool) := []
  /-- Cosine results that wait for the sine result of their edge | list of records | R143 (05_position) | none -/
  coss : List (Nat × Nat × Word × Bool) := []
  deriving DecidableEq, Repr

/-- One quadrature encoder (R145–R149). -/
structure Encoder where
  /-- Last sampled levels of A and B | 2 bits | R145 (05_position) | 0 -/
  ab : Nat := 0
  /-- Counts since the last capture, signed | integer | R148 (05_position) | 0 -/
  dcount : Int := 0
  /-- PERCLK time stamp of the last count edge | PERCLK count | R148 (05_position) | 0 -/
  te : Nat := 0
  /-- PERCLK time stamp of the last count edge before the previous capture | PERCLK count | R148 (05_position) | 0 -/
  tePrev : Nat := 0
  /-- A captured speed on its way to ESPD: the PERCLK count of its registration, and the value | record | R148 (05_position) | none -/
  spd : Option (Nat × Word) := none
  /-- One more than the CORECLK cycle of the last capture | cycle number | R148 (05_position) | 0 -/
  captured : Nat := 0
  /-- A Z edge has been loaded since EN | 1 bit | R146 (05_position) | 0 -/
  loaded : Bool := false
  deriving DecidableEq, Repr

/-- One Hall set (R150–R152). -/
structure Hall where
  /-- Last valid code | 3 bits | R150 (05_position) | 0 (none) -/
  last : Nat := 0
  /-- PERCLK time of the last valid edge | PERCLK count | R151 (05_position) | none -/
  tLast : Option Nat := none
  /-- Code last sampled since EN rose | 3 bits | R150 (05_position) | none -/
  seen : Option Nat := none
  deriving DecidableEq, Repr

/-- What a SENT channel takes the next pulse for (R153): it looks for a synchronisation pulse, must get one (after a pause), takes one or a pause (after a CRC nibble), or takes a nibble. -/
inductive SentStage where
  | hunt | sync | afterCrc | nibble
  deriving DecidableEq, Repr

/-- One SENT channel (R153–R157). -/
structure Sent where
  /-- A good frame has been received since EN | 1 bit | R157 (05_position) | 0 -/
  good : Bool := false
  /-- Synchronisation pulse of the previous accepted frame, in 0.1 ns | time | R154 (05_position) | 0 (none) -/
  prevSync : Nat := 0
  /-- CORECLK cycle of the last good frame, for AGE | cycle number | R157, R158 SAGE (05_position) | none -/
  tGood : Option Nat := none
  /-- What the next pulse is taken for | 4 values | R153 (05_position) | hunt -/
  stage : SentStage := .hunt
  /-- Synchronisation pulse of the present frame, in 0.1 ns | time | R154 (05_position) | 0 -/
  sync : Nat := 0
  /-- Nibbles of the present frame so far: status, data, CRC | list of 0–15 | R153 (05_position) | none -/
  nibs : List Nat := []
  /-- Status bits [1:0] of the last consecutive good frames, latest first, at most 18 | list of 0–3 | R156 (05_position) | none -/
  slow : List Nat := []
  deriving DecidableEq, Repr

/-- The position block's registers and units as they stood at a PERCLK edge (R138). -/
structure PosHeld where
  /-- CORECLK cycle that begins with the edge. -/
  at_ : Nat := 0
  /-- The block ran. -/
  runs : Bool := false
  /-- Fields of the POS window. -/
  regs : Sparse Nat := []
  exc : Sparse Exciter := []
  enc : Sparse Encoder := []
  hall : Sparse Hall := []
  sent : Sparse Sent := []
  deriving DecidableEq, Repr

/-- The position block. -/
structure Pos where
  /-- RES_EXC_A and RES_EXC_B with their monitors | 2 units | R141–R144 (05_position) | idle -/
  exc : Sparse Exciter := []
  /-- Encoders 0 and 1 | 2 units | R145–R149 (05_position) | idle -/
  enc : Sparse Encoder := []
  /-- Hall sets 0 and 1 | 2 units | R150–R152 (05_position) | idle -/
  hall : Sparse Hall := []
  /-- SENT channels 0–3 | 4 units | R153–R157 (05_position) | idle -/
  sent : Sparse Sent := []
  /-- The block at the latest PERCLK edge | record | R138 (05_position) | stopped -/
  held : PosHeld := {}
  /-- The block at the PERCLK edge before it | record | R138 (05_position) | stopped -/
  heldPrior : PosHeld := {}
  /-- A turn match waits for its PERCLK edge to capture the encoder speeds | 1 bit | R148 (05_position) | 0 -/
  capture : Bool := false
  deriving DecidableEq, Repr

/-- What a loop holds beside its registers (R160–R173). -/
structure LoopSt where
  /-- Turns since the last state change, saturating | 16 bits | R166 (06_control_loops) | 0 -/
  age : Nat := 0
  /-- TURN_STARTs since entry into the present state | count | R161 (06_control_loops) | 0 -/
  cnt : Nat := 0
  /-- A LOOP.MEAS was taken since entry into CLOSING | 1 bit | R160 (06_control_loops) | 0 -/
  meas : Bool := false
  /-- A forced cause was present in a cycle since the previous TURN_START | 1 bit | R160 (06_control_loops) | 0 -/
  forced : Bool := false
  /-- First turn of CLOSED | 1 bit | R166 bit 6 (06_control_loops) | 0 -/
  fresh : Bool := false
  /-- A LOOP.CMD FBLOSS has been taken and FBL is still set | 1 bit | R172 (06_control_loops) | 0 -/
  declared : Bool := false
  deriving DecidableEq, Repr

/-- The RCU tables and angle records (R180–R186). -/
structure Rcu where
  /-- Tables, bin b of channel c at key 2048·c + b | 8 x 2,048 x 32 bits | R180 (06_control_loops) | zero -/
  tab : Sparse Word := []
  /-- Flipped bits per table word | count | R186 (06_control_loops) | zero -/
  err : Sparse Nat := []
  /-- Learning angle of the turn per channel | 8 x 32 bits | R181 (06_control_loops) | none -/
  angle : Sparse (Option Word) := []
  /-- CORECLK cycle before which CTL.CLR reads 1, by channel | cycle number | R180, R188 (06_control_loops) | 0 -/
  clrEnd : Sparse Nat := []
  deriving DecidableEq, Repr

/-- One PWM generator's state beside its registers (R193–R207). -/
structure Gen where
  /-- Shadow of CMPA | 32 bits | R197 (07_pwm) | 0 -/
  shA : Nat := 0
  /-- Shadow of CMPB | 32 bits | R197 (07_pwm) | 0 -/
  shB : Nat := 0
  /-- The shadows were written in this RUN | 1 bit | R195 (07_pwm) | 0 -/
  written : Bool := false
  /-- High-side command at the output of dead-time insertion | 1 bit | R201 (07_pwm) | off -/
  outH : Bool := false
  /-- Low-side command at the output of dead-time insertion | 1 bit | R201 (07_pwm) | off -/
  outL : Bool := false
  /-- High-side command before dead-time insertion | 1 bit | R201 steps 1 and 2 (07_pwm) | off -/
  cmdH : Bool := false
  /-- Low-side command before dead-time insertion | 1 bit | R201 steps 1 and 2 (07_pwm) | off -/
  cmdL : Bool := false
  /-- Fine time at which the high side was last commanded off | fine units | R203 (07_pwm) | 0 -/
  offH : Nat := 0
  /-- Fine time at which the low side was last commanded off | fine units | R203 (07_pwm) | 0 -/
  offL : Nat := 0
  /-- A high-side turn-on waits its dead time | 1 bit | R203 (07_pwm) | 0 -/
  pendH : Bool := false
  /-- A low-side turn-on waits its dead time | 1 bit | R203 (07_pwm) | 0 -/
  pendL : Bool := false
  /-- A safe state has cancelled the high-side turn-on that is still commanded | 1 bit | R203, R263 (07_pwm, 09_protection_safety) | 0 -/
  cancH : Bool := false
  /-- A safe state has cancelled the low-side turn-on that is still commanded | 1 bit | R203, R263 (07_pwm, 09_protection_safety) | 0 -/
  cancL : Bool := false
  /-- Sum of the rising-direction block | count | R206 (07_pwm) | 0 -/
  sumR : Nat := 0
  /-- Measurements in the rising-direction block | 7 bits | R206 (07_pwm) | 0 -/
  cntR : Nat := 0
  /-- Sum of the falling-direction block | count | R206 (07_pwm) | 0 -/
  sumF : Nat := 0
  /-- Measurements in the falling-direction block | 7 bits | R206 (07_pwm) | 0 -/
  cntF : Nat := 0
  /-- The commands were last given by the compare source | 1 bit | R168, R204 (06_control_loops, 07_pwm) | 0 -/
  byCmp : Bool := false
  /-- Safe states applied, protective turn-offs and RUN exits so far: an edge counts for R205 while this is as it was at the edge | count | R205 (07_pwm) | 0 -/
  upset : Nat := 0
  /-- Rising dead time waiting for the reload edge | 16 bits | R206 (07_pwm) | none -/
  newR : Option Nat := none
  /-- Falling dead time waiting for the reload edge | 16 bits | R206 (07_pwm) | none -/
  newF : Option Nat := none
  /-- PWMAX0/PWMAX1 level, or the land level of an auxiliary generator | 1 bit | R194 (07_pwm) | low -/
  aux : Bool := false
  deriving DecidableEq, Repr

/-- A deferred ARM transfer (R198, R199): the generators named and the staged values taken at the landing. -/
structure ArmDefer where
  /-- Cycle B + 1 of the transfer. -/
  due : Nat
  mask : Nat
  vals : List (Nat × Nat × Nat)
  deriving DecidableEq, Repr

/-- The PWM block beside its registers. -/
structure Pwm where
  /-- Leg generators 0–5 and AX0, AX1 | 8 units | R193–R207 (07_pwm) | idle -/
  gen : Sparse Gen := []
  /-- A deferred ARM transfer | record | R198 (07_pwm) | none -/
  arm : Option ArmDefer := none
  /-- All timebases restart in the next cycle | 1 bit | R191 (07_pwm) | 0 -/
  restart : Bool := false
  /-- The freeze begins once the halted turn's occupancy has ended | 1 bit | R215 (07_pwm) | 0 -/
  freezeDue : Bool := false
  /-- The freeze ends in the next cycle | 1 bit | R215 (07_pwm) | 0 -/
  thaw : Bool := false
  /-- CORECLK cycle with which the freeze began | cycle number | R215 (07_pwm) | 0 -/
  frozenAt : Nat := 0
  /-- CORECLK cycles at which filtered edges of the COMM land are applied | cycle numbers | R213 (07_pwm) | none -/
  landAt : List Nat := []
  /-- The Wheel is halted for debug without a freeze: no write makes a generator live | 1 bit | R216 (07_pwm) | 0 -/
  dark : Bool := false
  /-- One more than the CORECLK cycle whose zero or peak event has been taken, per timebase | 4 cycle numbers | R190 (07_pwm) | 0 -/
  evt : Sparse Nat := []
  /-- Edges on their way to an island, first to leave first: the fine time at which each leaves the control die, and its level | 12 lists | R201, R214 (07_pwm) | none -/
  egress : Sparse (List (Nat × Bool)) := []
  /-- ON propagation delay last reported by an island | 12 x 16 bits | R214 (07_pwm) | none -/
  tpdOn : Sparse (Option Nat) := []
  /-- OFF propagation delay last reported by an island | 12 x 16 bits | R214 (07_pwm) | none -/
  tpdOff : Sparse (Option Nat) := []
  deriving DecidableEq, Repr

/-- What an island's die answers in training (R242): an environment part. -/
structure IslCap where
  /-- It answers TRAIN frames. -/
  answers : Bool := true
  /-- Rates supported: bit 0 = 50, bit 1 = 100, bit 2 = 200 Mbit/s. -/
  rates : Nat := 7
  /-- Rates whose test passes. -/
  rateOk : Nat := 7
  /-- Protocol versions supported: bit v − 1 = version v. -/
  versions : Nat := 3
  /-- BOOT supported. -/
  boot : Bool := true
  /-- The read-back matches within 3 attempts. -/
  readOk : Bool := true
  deriving DecidableEq, Repr

/-- The fields an island holds as last uploaded, each by its code (R242 step 4); before a first training, the reset values of their registers. -/
structure IslCfg where
  tlto : Bool := false
  scen : Bool := true
  dsaten : Bool := false
  /-- 1 = unipolar (R226). -/
  vneg : Bool := false
  /-- 1 = BOOT (R223). -/
  boot : Bool := false
  veeth : Nat := 3
  vccth : Nat := 4
  dsatblk : Nat := 0x14
  dsatth : Nat := 8
  scblk : Nat := 0xA
  scth : Nat := 4
  tsoft : Nat := 4
  isoft : Nat := 4
  ttlto : Nat := 4
  vtlto : Nat := 4
  ascdt : Nat := 0x19
  otth : Nat := 6
  deriving DecidableEq, Repr

/-- One island (R218–R249). Nothing here is reset by nRST (R19, R466). -/
structure Isl where
  /-- What the die answers in training | record | R242 (08_gate_islands) | answers, all rates, both versions -/
  cap : IslCap := {}
  /-- VCC2 − VEE2 is at least 4 V | 1 bit | R220, R239 row 1 (08_gate_islands) | 0 -/
  powered : Bool := false
  /-- Both supplies have passed their rising thresholds | 1 bit | R227 (08_gate_islands) | 0 -/
  suprdy : Bool := false
  /-- The VCC2 monitor reports under-voltage | 1 bit | R225, R227 (08_gate_islands) | 0 -/
  lowC : Bool := false
  /-- The VEE2 monitor reports under-voltage | 1 bit | R226, R227 (08_gate_islands) | 0 -/
  lowE : Bool := false
  /-- Over-temperature condition present | 1 bit | R232 (08_gate_islands) | 0 -/
  otcond : Bool := false
  /-- FLT_SC latch | 1 bit | R230, R233 (08_gate_islands) | 0 -/
  sc : Bool := false
  /-- FLT_DSAT latch | 1 bit | R231, R233 (08_gate_islands) | 0 -/
  dsat : Bool := false
  /-- FLT_UVLO latch, VCC2 | 1 bit | R227, R233 (08_gate_islands) | 0 -/
  uvcc : Bool := false
  /-- FLT_UVLO latch, VEE2 | 1 bit | R227, R233 (08_gate_islands) | 0 -/
  uvee : Bool := false
  /-- FLT_OT latch | 1 bit | R232, R233 (08_gate_islands) | 0 -/
  ot : Bool := false
  /-- Latches that missed their clear attempt and wait for the next EN low of 2.0 µs | 5 bits | R235 (08_gate_islands) | 0 -/
  missed : Nat := 0
  /-- Soft turn-off running | 1 bit | R222 (08_gate_islands) | 0 -/
  soft : Bool := false
  /-- Two-level turn-off plateau running | 1 bit | R221 (08_gate_islands) | 0 -/
  plateau : Bool := false
  /-- The gate output is on | 1 bit | R219, R239 (08_gate_islands) | off -/
  out : Bool := false
  /-- Level on the edge channel | 1 bit | R237 (08_gate_islands) | off -/
  edge : Bool := false
  /-- An ON edge has been received since the island last returned to the edge channel, with no OFF edge after it | 1 bit | R236 (08_gate_islands) | 0 -/
  follow : Bool := false
  /-- OFF-channel symbol at the island | 6 symbols | R238 (08_gate_islands) | no carrier -/
  sym : OffSym := .noCarrier
  /-- A SAFE_ON or link-loss turn-on waits ASCDT | 1 bit | R239 rows 5 and 6 (08_gate_islands) | 0 -/
  ascWait : Bool := false
  /-- The island has declared its side channel lost | 1 bit | R245 (08_gate_islands) | 0 -/
  lost : Bool := false
  /-- Held link-loss action: ASC_LOW rather than PI | 1 bit | R246 (08_gate_islands) | PI -/
  llAsc : Bool := false
  /-- Trained, as the island sees it | 1 bit | R242, R245 (08_gate_islands) | 0 -/
  trained : Bool := false
  /-- Parked for BANKED | 1 bit | R247 (08_gate_islands) | 0 -/
  parked : Bool := false
  /-- Fields as uploaded | 17 fields | R242 step 4 (08_gate_islands) | the registers' reset values -/
  cfg : IslCfg := {}
  /-- CLMP engaged outright: below the rising UVLO threshold, and from the end of a soft turn-off to the next turn-on | 1 bit | R220, R222 (08_gate_islands) | 0 -/
  clmp : Bool := false
  /-- CORECLK cycle in which the present turn-on started | cycle number | R229, R231 (08_gate_islands) | 0 -/
  onAt : Nat := 0
  /-- The last turn-off was taken under row 8 of R239, and no fault has latched since: the leg's count of upsets at it | count | R205, R249 (07_pwm, 08_gate_islands) | none -/
  offMark : Option Nat := none
  /-- Version 1: valid transitions in the running average | 0–15 | R243 (08_gate_islands) | 0 -/
  avgN : Nat := 0
  /-- Version 1: their sum | fine units | R243 (08_gate_islands) | 0 -/
  avgSum : Nat := 0
  /-- Version 1: the leg's count of upsets at the first of them, where it was a turn-off that counts | count | R205, R243 (07_pwm, 08_gate_islands) | none -/
  avgMark : Option Nat := none
  deriving DecidableEq, Repr

/-- The Saggar beside its registers. -/
structure Sag where
  /-- Discharge latch | 1 bit | R275 (09_protection_safety) | 0 -/
  dlatch : Bool := false
  /-- Conditions of the inputs at the inputs' own filters, bit v·32 + b (whether or not the input acts) | 2 x 29 bits | R253, R255 (09_protection_safety) | 0 -/
  cond : Nat := 0
  /-- TSC value at which FIRST[v] was captured, per inverter | 2 x 64 bits | R256 (09_protection_safety) | none -/
  firstAt : Sparse (Option Nat) := []
  /-- CORECLK cycle of the last accepted preselection write | cycle number | R259, R278 PRESEL.AGE (09_protection_safety) | none -/
  preAt : Option Nat := none
  deriving DecidableEq, Repr

/-- The Cone's firmware state (R267–R277). -/
structure Cone where
  /-- Safety parameters by ID | 32 bits each | R277 (09_protection_safety) | none loaded (0) -/
  par : Sparse Nat := []
  /-- Accepted runtime changes of parameters, in use from the start of the next cycle: ID and value | list | R292 (10_safe_outputs_config) | none -/
  pend : List (Nat × Nat) := []
  /-- Flux table words of inverter v, key 4096·v + word | 2 x 2,052 x 32 bits | R270, R308 (09_protection_safety, 11_wedging) | none loaded (0) -/
  flux : Sparse Word := []
  /-- Challenge and checksum pairs | up to 256 x 64 bits | R273 (09_protection_safety) | none -/
  chal : List (Nat × Nat) := []
  /-- Challenge window | 3 bits | R308 CHALWIN (11_wedging) | 0 -/
  chalWin : Nat := 0
  /-- Cone SRAM, by word | 262,144 x 32 bits | R267 (09_protection_safety) | zero -/
  sram : Sparse Word := []
  /-- Angle read at the start of the cycle per inverter | fraction of a revolution, absent when invalid | R269 (09_protection_safety) | none -/
  ang : Sparse (Option (Int × Nat)) := []
  /-- Angle of the previous cycle per inverter | fraction of a revolution, absent when invalid | R269 (09_protection_safety) | none -/
  angPrev : Sparse (Option (Int × Nat)) := []
  /-- Last preselection written per inverter since the Cone started | 2 bits | R269 (09_protection_safety) | none -/
  preLast : Sparse (Option Nat) := []
  /-- CYOFS | 0–9,999 | R269, R274 (09_protection_safety) | 0 -/
  cyofs : Nat := 0
  /-- CYOFS is fixed for this RUN | 1 bit | R274 (09_protection_safety) | 0 -/
  cyset : Bool := false
  /-- Heartbeat turn of the previous cycle | 16 bits | R273 step 4 (09_protection_safety) | none -/
  hbPrev : Option Nat := none
  /-- CORECLK cycle of the start of the current monitoring cycle | cycle number | R269, R276 (09_protection_safety) | 0 -/
  t0 : Nat := 0
  /-- SEQ of each paired Wheel result at t0, key 2·v + quantity | 4 x 8 bits | R274 (09_protection_safety) | 0 -/
  seqT0 : Sparse Nat := []
  /-- Paired Wheel result read at t0 + 2 µs, key 2·v + quantity: VALUE and RSH, none for a skipped pair | 4 records | R274 (09_protection_safety) | none -/
  iw : Sparse (Option (Int × Int)) := []
  /-- Checks that raised the request of v: bit 0 torque, 1 heartbeat, 2 cross-check, at 4·v | 8 bits | R271–R274 (09_protection_safety) | 0 -/
  raised : Nat := 0
  /-- Last evaluation of each check was out of band, as raised | 8 bits | R272 (09_protection_safety) | 0 -/
  lastBad : Nat := 0
  /-- CORECLK cycle at which the discharge request rose | cycle number | R276 (09_protection_safety) | none -/
  disAt : Option Nat := none
  /-- A monitoring cycle has started and not yet made its evaluation | 1 bit | R269, R434 (09_protection_safety, 17_power_states) | 0 -/
  busy : Bool := false
  /-- Loops whose feedback loss has been entered in the Shard log | 8 bits | R174 (06_control_loops) | 0 -/
  fblSeen : Nat := 0
  /-- The slow discharge in progress has been entered in the Shard log | 1 bit | R276 (09_protection_safety) | 0 -/
  disSlow : Bool := false
  /-- CORECLK cycle of the last write of TREQ per inverter | 2 cycle numbers | R271 (09_protection_safety) | 0 -/
  treqAt : Sparse Nat := []
  deriving DecidableEq, Repr

/-- A safe-output test pulse in progress (R285). -/
structure SoTest where
  /-- ON test (one switch closes) rather than OFF test. -/
  on : Bool
  /-- The high-side switch is the one tested. -/
  high : Bool
  deriving DecidableEq, Repr

/-- One safe output beside its registers (R280–R288). -/
structure So where
  /-- Test pulse in progress | record | R285 (10_safe_outputs_config) | none -/
  test : Option SoTest := none
  /-- The next OFF test is of the low side | 1 bit | R285 (10_safe_outputs_config) | 0 (high side first) -/
  offLow : Bool := false
  /-- The next ON test is of the low side | 1 bit | R285 (10_safe_outputs_config) | 0 (high side first) -/
  onLow : Bool := false
  /-- Demand the switches last followed | 1 bit | R282 (10_safe_outputs_config) | 0 -/
  demand : Bool := false
  /-- PERCLK cycle of the last change of the demand | counter | R288 (10_safe_outputs_config) | none -/
  chg : Option Nat := none
  /-- Test that has ended, to be counted once its PERCLK cycle is over: that cycle, the test, and whether it passed | record | R286, R288 (10_safe_outputs_config) | none -/
  ended : Option (Nat × SoTest × Bool) := none
  deriving DecidableEq, Repr

/-- An entry of the safety change log (R294). -/
structure LogEntry where
  tsc : Nat
  pid : Nat
  old : Nat
  new : Nat
  seq : Nat
  src : Nat
  mirrored : Bool
  deriving DecidableEq, Repr

/-- Safe outputs and safety configuration. -/
structure Safe where
  /-- SO0–SO3 | 4 units | R280–R288 (10_safe_outputs_config) | idle -/
  so : Sparse So := []
  /-- Change log, newest first, at most 256 slots kept | 256 x 256 bits | R294, R295 (10_safe_outputs_config) | empty -/
  log : List LogEntry := []
  /-- Change-log queue, 255 for none | 8 bits | R308 CLQUEUE (11_wedging) | 255 -/
  clq : Nat := 255
  /-- PWSALT of the image | 16 bytes, little-endian number | R289 (10_safe_outputs_config) | 0 -/
  salt : Nat := 0
  /-- PWHASH of the image | 64 bytes, little-endian number | R289 (10_safe_outputs_config) | 0 (no password) -/
  hash : Nat := 0
  deriving DecidableEq, Repr

/-- What the external NOR declares (R300–R303): an environment part. -/
structure NorInfo where
  /-- The NOR answers. -/
  present : Bool := true
  /-- A valid SFDP signature is found. -/
  sfdp : Bool := true
  /-- Declared modes: code of R301 and frequency in MHz (0 = not declared). -/
  modes : List (Nat × Nat) := [(1, 0)]
  /-- Modes that need a configuration write to enter. -/
  needCfg : List Nat := []
  /-- Modes whose mode check fails. -/
  badModes : List Nat := []
  /-- SFDP declares 4-byte addressing. -/
  addr4 : Bool := true
  /-- Declared erase sizes in bytes. -/
  erase : List Nat := [4096, 65536]
  /-- Size of the NOR in bytes. -/
  size : Nat := 0x02000000
  deriving DecidableEq, Repr

/-- The NOR and the update engine beside the WEDGE registers (R300–R325). -/
structure Nor where
  /-- NOR contents by byte address | 32 MiB x 8 bits | R304 (11_wedging) | erased, 0xFF -/
  bytes : Sparse Nat := []
  /-- What the NOR declares | record | R300–R303 (11_wedging) | one 1S-1S-1S mode, SFDP, 4-byte addressing -/
  info : NorInfo := {}
  /-- Bytes of UDATA not yet programmed | bytes | R323 (11_wedging) | none -/
  page : List Nat := []
  /-- A page program is running | 1 bit | R323 (11_wedging) | 0 -/
  programming : Bool := false
  deriving DecidableEq, Repr

/-- A key slot of OTP (R312, R334). -/
structure KeySlot where
  /-- Burned bits of the 64-byte hash | 512 bits | R334 (12_lifecycle_security) | 0 -/
  hash : Nat := 0
  /-- Burned bits of the PROG word | 16 bits | R334 (12_lifecycle_security) | 0 -/
  prog : Nat := 0
  /-- Revoked | 1 bit | R313 (11_wedging) | 0 -/
  revoked : Bool := false
  deriving DecidableEq, Repr

/-- One-time-programmable memory: every bit is only ever burned from 0 to 1 (R331–R335). -/
structure Otp where
  /-- MANUFACTURE word | 16 bits | R331 (12_lifecycle_security) | 0 -/
  wMan : Nat := 0
  /-- DEVELOP word | 16 bits | R331 (12_lifecycle_security) | 0 -/
  wDev : Nat := 0
  /-- PRODUCTION word | 16 bits | R331 (12_lifecycle_security) | 0 -/
  wPro : Nat := 0
  /-- RMA word | 16 bits | R331 (12_lifecycle_security) | 0 -/
  wRma : Nat := 0
  /-- SCRAPPED word | 16 bits | R331 (12_lifecycle_security) | 0 -/
  wScr : Nat := 0
  /-- Key slots 0–2 | 3 records | R312, R334 (11_wedging, 12_lifecycle_security) | not programmed -/
  key0 : KeySlot := {}
  key1 : KeySlot := {}
  key2 : KeySlot := {}
  /-- Image key | 256 bits | R334 (12_lifecycle_security) | 0 -/
  imgKey : Nat := 0
  /-- The image key has been programmed | 1 bit | R334 (12_lifecycle_security) | 0 -/
  imgProg : Bool := false
  /-- Identity seed | 256 bits | R335 (12_lifecycle_security) | 0 -/
  seed : Nat := 0
  /-- SEEDOK word | 16 bits | R335 (12_lifecycle_security) | 0 -/
  seedOk : Nat := 0
  /-- Rollback counter | 0–128 | R314 (11_wedging) | 0 -/
  rollback : Nat := 0
  deriving DecidableEq, Repr

/-- An OTP burn of the security block in progress: what it burns, in order (R332–R335). -/
inductive OtpBurn where
  /-- A lifecycle transition: destructions, the seed and SEEDOK, the lifecycle word. -/
  | transition (target : Lifecycle) (seed : Nat)
  /-- A key slot's hash and PROG word, or the image key. -/
  | key (slot hash img : Nat)
  deriving DecidableEq, Repr

/-- A job on the shared engines (R343). -/
inductive SecJob where
  /-- An attestation report (R337). -/
  | report
  /-- The check of a response: the cycle by which it has ended, and its result code (R340). -/
  | check (due code : Nat)
  /-- The checks of an update VERIFY (R323). -/
  | verify
  /-- The derivation of the identity, and the cycle by which it has ended (R336). -/
  | identity (due : Nat)
  /-- The Wedge's check of an image at start-up (R297, R316). -/
  | image
  deriving DecidableEq, Repr

/-- The security block beside its registers. -/
structure Sec where
  /-- Lifecycle state latched at reset | 6 states | R329 (12_lifecycle_security) | BLANK -/
  lc : Lifecycle := .blank
  /-- A transition has been burned since reset | 1 bit | R332 (12_lifecycle_security) | 0 -/
  burned : Bool := false
  /-- Response words | 1,340 x 32 bits | R340 (12_lifecycle_security) | zero -/
  resp : Sparse Word := []
  /-- Report in ATTDATA, by byte | 3,568 bytes | R338 (12_lifecycle_security) | none (reads zero) -/
  att : List Nat := []
  /-- Body of the report in progress, bytes | up to 192 bytes | R337 (12_lifecycle_security) | none -/
  body : List Nat := []
  /-- Reports since reset | 32 bits | R338 SEQ (12_lifecycle_security) | 0 -/
  reports : Nat := 0
  /-- Identity public bundle, by byte | 1,984 bytes | R336 (12_lifecycle_security) | none (reads zero) -/
  idpub : List Nat := []
  /-- Identity hash | 512 bits | R336 (12_lifecycle_security) | 0 -/
  idhash : Nat := 0
  /-- Purpose of the challenge issued | 2 bits | R340 (12_lifecycle_security) | 0 -/
  purpose : Nat := 0
  /-- TSC at which the challenge was issued | 64 bits | R341 (12_lifecycle_security) | 0 -/
  chalTsc : Nat := 0
  /-- Secret keys derived at the start: the Ed25519 key and ξ of ML-DSA-65 | 2 x 256 bits | R336 (12_lifecycle_security) | none -/
  skEd : List Nat := []
  skMl : List Nat := []
  /-- OTP burn in progress, with the CORECLK cycle at which it ends | record | R331–R335, R346 OTPBUSY (12_lifecycle_security) | none -/
  burn : Option (Nat × OtpBurn) := none
  /-- Jobs of the shared engines in arrival order, the running one first | list | R343 (12_lifecycle_security) | none -/
  jobs : List SecJob := []
  deriving DecidableEq, Repr

/-- A pool entry (R353). -/
structure QEntry where
  /-- The 64-bit word. -/
  word : Nat
  /-- 0 = DATA, 1 = END, 2 = HDR, 3 = ABORT. -/
  mark : Nat
  /-- The parity bit is bad (R362). -/
  bad : Bool
  deriving DecidableEq, Repr

/-- One queue beside its registers (R347–R364). -/
structure Queue where
  /-- Stored entries, oldest first | up to 32,768 entries of 64 + 3 bits | R347, R353 (13_queues) | empty -/
  ents : List QEntry := []
  /-- A packet is open on the producer side | 1 bit | R354, R367 OPENP (13_queues) | 0 -/
  openP : Bool := false
  /-- The words up to the end push are being dropped | 1 bit | R356 (13_queues) | 0 -/
  dropping : Bool := false
  /-- Entries of the open packet in the queue (HDR included) | count | R356, R357 (13_queues) | 0 -/
  openN : Nat := 0
  /-- Packets started, modulo 256 | 8 bits | R354 SEQ (13_queues) | 0 -/
  seq : Nat := 0
  /-- A word or packet was dropped since the previous header | 1 bit | R354 DROPPED (13_queues) | 0 -/
  dropped : Bool := false
  /-- The consumer is inside a packet | 1 bit | R367 OPENC (13_queues) | 0 -/
  openC : Bool := false
  /-- Payload words popped of the consumer's packet | count | R360 PLEN (13_queues) | 0 -/
  popped : Nat := 0
  /-- FABCLK cycle of the last push or pop, the fill before it and the entries popped in it, until that cycle ends | 3 counts | R358, R363 (13_queues) | none -/
  edge : Option (Nat × Nat × Nat) := none
  /-- Held PUSHLO word | 32 bits | R367 PUSHLO (13_queues) | 0 -/
  lo : Nat := 0
  deriving DecidableEq, Repr

/-- A frame in a transmit FIFO (R374, R375). -/
structure CanFrame where
  d0 : Nat
  d1 : Nat
  data : List Nat
  /-- Safety status slot that appended it (R386). -/
  slot : Option Nat
  deriving DecidableEq, Repr

/-- One CAN controller beside its registers (R368–R388). -/
structure Can where
  /-- Staging buffer: entries of the packet being assembled | up to 258 words | R377 (14_can) | empty -/
  staging : List QEntry := []
  /-- Transmit FIFO, head first | 32 frames | R378 (14_can) | empty -/
  tx : List CanFrame := []
  /-- Receive FIFO, oldest first, each record's words | 64 records | R384, R385 (14_can) | empty -/
  rx : List (List Nat) := []
  /-- The controller has integrated (11 recessive bits seen) | 1 bit | R371 (14_can) | 0 -/
  integrated : Bool := false
  /-- The head frame's attempt finishes without retransmission (SAFE_HOLD or data-plane reset) | 1 bit | R372, R468 (14_can, 19_supplies_clocks_reset) | 0 -/
  once : Bool := false
  /-- Removed head frame whose attempt still runs after a data-plane reset | record | R468 (19_supplies_clocks_reset) | none -/
  orphan : Option CanFrame := none
  /-- The SOF of the attempt in progress has been seen back on CANx_RX | 1 bit | R376 (14_can) | 0 -/
  seen : Bool := false
  /-- SOF stamp of the attempt in progress | 32 bits | R376 (14_can) | 0 -/
  stamp : Nat := 0
  /-- A sleep request waits for the attempt to end | 1 bit | R387 (14_can) | 0 -/
  sleepReq : Bool := false
  /-- CORECLK cycle at which each safety status slot falls due in SAFE_HOLD (0: none) | 4 counters | R386 (14_can) | none -/
  sfDue : Sparse Nat := []
  deriving DecidableEq, Repr

/-- The Ethernet MAC beside its registers (R401–R403, R431). -/
structure Eth where
  /-- The MAC is asleep | 1 bit | R431 (17_power_states) | 0 -/
  asleep : Bool := false
  /-- The MAC goes to sleep once the PHY access in progress has ended | 1 bit | R431, R434 (17_power_states) | 0 -/
  sleepReq : Bool := false
  /-- After a wake: transmits nothing until a poll shows the link up | 1 bit | R431 (17_power_states) | 0 -/
  waitPoll : Bool := false
  /-- CORECLK cycle of the next poll; none before polling starts | counter | R402 POLLMS (15_host_ethernet) | none -/
  pollAt : Option Nat := none
  /-- A poll is running | 1 bit | R402, R405 MDIOBUSY (15_host_ethernet) | 0 -/
  polling : Bool := false
  /-- PHY accesses the MDIO master is making: read, PHY address, register, write data | list | R402, R405 (15_host_ethernet) | none -/
  mdio : List (Bool × Nat × Nat × Nat) := []
  /-- Entries popped of the transmit packet in progress | list | R403 (15_host_ethernet) | empty -/
  txPart : List QEntry := []
  /-- TSC at the last data-plane reset: a frame whose SFD came no later is discarded | 64 bits | R468 (19_supplies_clocks_reset) | none -/
  rxCut : Option Nat := none
  /-- Last frame sent, with its FCS, by byte | up to 1,518 bytes | R403 (15_host_ethernet) | none -/
  lastTx : List Nat := []
  /-- Octets sent | 64 bits | R405 TXOCT (15_host_ethernet) | 0 -/
  octets : Nat := 0
  deriving DecidableEq, Repr

/-- The host SPI port beside its registers (R390–R400). -/
structure Hspi where
  /-- Register frames with code 0x00, modulo 256 | 8 bits | R394 SEQ (15_host_ethernet) | 0 -/
  seq : Nat := 0
  /-- Snapshot slots by requester (0 HSPI, 1 Cone, 2 debug): low address and latched high half | 3 x 64 bits | R399 (15_host_ethernet) | empty -/
  slot : Sparse (Option (Nat × Nat)) := []
  /-- MISO response of the last frame: STATUS, RDATA and their CRC-8; of a stream frame STATUS and zeros (port pins) | 72 bits | R392, R397 (15_host_ethernet) | 0 -/
  miso : Nat := 0
  /-- Entry slots shifted out by the last stream frame, each TAG, word and CRC-8 | list of 80-bit slots | R397 (15_host_ethernet) | none -/
  stream : List Nat := []
  /-- Bits shifted out of the entry slot that the end of the last stream frame cut short: how many, and their value | up to 79 bits | R397 (15_host_ethernet) | none -/
  part : Nat × Nat := (0, 0)
  deriving DecidableEq, Repr

/-- A record of the Shard log (R414). -/
structure Rec where
  type : Nat
  /-- [0] POISON, [1] GAP, [2] TRUNC, [3] KEEP. -/
  flags : Nat
  /-- Body bytes in 64-bit words. -/
  body : List Nat
  seq : Nat
  tsc : Nat
  bootno : Nat
  /-- Where the body lies among the bytes that have entered the write buffer, in body order: first byte and count (R410, R414). -/
  spans : List (Nat × Nat) := []
  deriving DecidableEq, Repr

/-- A page of the NAND: LUN, block and page of the block. -/
structure PageAt where
  lun : Nat
  block : Nat
  page : Nat
  deriving DecidableEq, Repr

/-- A commit unit (R410), in flight or on the medium: its sequence, how many data pages it has, the body bytes they carry, the records that close in it, its page map by place (data pages from 0, the metadata page at k), and how far it has come. -/
structure CommitUnit where
  seq : Nat
  k : Nat
  /-- First body byte carried, and how many. -/
  first : Nat
  count : Nat
  /-- Records whose descriptors the metadata page holds, oldest first. -/
  recs : List Rec
  /-- Pages by place in the unit. -/
  pages : List (Nat × PageAt)
  /-- All data pages have passed; the metadata page is programmed once every earlier unit has committed. -/
  meta_ : Bool
  /-- Relocations made in this unit (R422). -/
  retries : Nat
  /-- CORECLK cycle of its start. -/
  start : Nat := 0
  deriving DecidableEq, Repr

/-- A snapshot stream (R415, R416). -/
structure Stream where
  /-- Rows of the ring, oldest first, each its stored words. -/
  ring : List (List Nat) := []
  /-- Rows of the capture, oldest first. -/
  cap : List (List Nat) := []
  /-- Where those rows lie among the bytes that have entered the write buffer. -/
  spans : List (Nat × Nat) := []
  /-- A trigger waits for the next row: its source code (2 Cone, 3 register). -/
  waitRow : Option Nat := none
  /-- Capturing. -/
  capturing : Bool := false
  /-- Rows taken from the ring at the trigger. -/
  preact : Nat := 0
  /-- Trigger source of the capture. -/
  src : Nat := 0
  /-- A packet or row of the stream was lost since the last stored row. -/
  gap : Bool := false
  deriving DecidableEq, Repr

/-- What the external NAND declares (R406–R408, R411): an environment part. -/
structure NandInfo where
  /-- ONFI signatures found on nCE0 and on nCE1. -/
  onfi0 : Bool := true
  onfi1 : Bool := false
  /-- A parameter page copy has a good CRC. -/
  paramOk : Bool := true
  /-- Bits per cell. -/
  bpc : Nat := 1
  /-- 16-bit bus. -/
  wide : Bool := false
  /-- Page data size in KiB. -/
  pageKiB : Nat := 4
  /-- Spare bytes per page. -/
  spare : Nat := 320
  /-- Pages per block. -/
  ppb : Nat := 64
  /-- Blocks per LUN. -/
  blocks : Nat := 1024
  /-- Maximum page program time in µs. -/
  tprog : Nat := 300
  /-- LUNs on nCE0 and on nCE1. -/
  luns0 : Nat := 1
  luns1 : Nat := 0
  /-- Declared interfaces: code (1 SDR … 4 NV-DDR3) and MT/s of each timing mode from 0. -/
  ifs : List (Nat × List Nat) := [(1, [10, 20, 28, 33, 40, 50])]
  /-- Mode-set mismatches met while selecting (R408). -/
  mism : Nat := 0
  /-- Blocks that carry the factory bad-block marker, by 65,536 times the LUN plus the block (R420, R421). -/
  marked : List Nat := []
  deriving DecidableEq, Repr

/-- A block of the medium (R420, R423, R424). -/
structure NandBlock where
  /-- Erase count. -/
  erases : Nat := 0
  /-- Pages programmed since its last erase. -/
  used : Nat := 0
  /-- When it was allocated, in the order of allocations. -/
  stamp : Nat := 0
  /-- Reads made of it since its last erase. -/
  reads : Nat := 0
  /-- Grown bad. -/
  grown : Bool := false
  deriving DecidableEq, Repr

/-- The NAND medium, kept without power (R406–R424). -/
structure Medium where
  /-- What the NAND declares | record | R407 (16_shard_log) | one SDR LUN -/
  info : NandInfo := {}
  /-- Format header of block 0 by LUN: format sequence and LUN set, sequence 0 where there is none | 4 headers | R421 (16_shard_log) | none -/
  headers : Sparse (Nat × Nat) := []
  /-- LUNs dropped at a mount since the last format | 4 bits | R421 (16_shard_log) | 0 -/
  dropped : Nat := 0
  /-- Copies of the bad-block tables that do not read, bits 2L and 2L + 1 | 8 bits | R420 (16_shard_log) | 0 -/
  tabBad : Nat := 0
  /-- Blocks, by 65,536 times the LUN plus the block | per block | R420, R423, R424 (16_shard_log) | erased, never used -/
  blocks : Sparse NandBlock := []
  /-- Block open for programming by LUN, 0 for none | 4 blocks | R410, R423 (16_shard_log) | none -/
  openBlk : Sparse Nat := []
  /-- Committed units, newest first | list | R410 (16_shard_log) | none -/
  log : List CommitUnit := []
  /-- Torn units that no mount has found yet | list | R410, R419 (16_shard_log) | none -/
  torn : List CommitUnit := []
  /-- Sequence of the next unit | count | R409 (16_shard_log) | 1 -/
  unitSeq : Nat := 1
  /-- Number of the next allocation | count | R423 (16_shard_log) | 1 -/
  stamp : Nat := 1
  /-- LUN slot of the next page among the LUNs in use | count | R410, R411 (16_shard_log) | 0 -/
  slot : Nat := 0
  /-- Blocks scheduled for refresh, oldest first | list | R424 (16_shard_log) | none -/
  refresh : List Nat := []
  deriving DecidableEq, Repr

/-- The recorder and the NAND medium beside the REC and NANDIF registers (R406–R427). -/
structure Shard where
  /-- The medium | record | R406–R424 (16_shard_log) | one SDR LUN, not formatted -/
  med : Medium := {}
  /-- A mount has ended since reset | 1 bit | R412 (16_shard_log) | 0 -/
  mounted : Bool := false
  /-- A FORMAT waits for the end of the mount or of interface sleep | 1 bit | R420 (16_shard_log) | 0 -/
  fmtWait : Bool := false
  /-- Next record SEQ | 64 bits | R414 (16_shard_log) | 1 -/
  nextSeq : Nat := 1
  /-- Boot count | 16 bits | R414 BOOTNO (16_shard_log) | 0 -/
  bootno : Nat := 0
  /-- Write buffer: records no unit has taken whole, oldest first, each with the count of body bytes at its end | 512 KiB | R417 (16_shard_log) | empty -/
  wbuf : List (Nat × Rec) := []
  /-- Body bytes that have entered the write buffer | count | R416, R417 (16_shard_log) | 0 -/
  inBytes : Nat := 0
  /-- Body bytes that commit units have taken of it | count | R410, R417 (16_shard_log) | 0 -/
  outBytes : Nat := 0
  /-- CORECLK cycle at which a record closed with no unit started since; none where every one has been taken | cycle number | R411 (16_shard_log) | none -/
  closedAt : Option Nat := none
  /-- CORECLK cycle of the next check of a unit that is due | cycle number | R418 (16_shard_log) | 0 -/
  recheckAt : Nat := 0
  /-- Units in flight, oldest first | at most 2 | R411 (16_shard_log) | none -/
  units : List CommitUnit := []
  /-- Snapshot streams 0–3 | 4 streams | R415, R416 (16_shard_log) | empty rings -/
  streams : Sparse Stream := []
  /-- A packet of the input was dropped, GAP of the next record, per input | 8 bits | R412 (16_shard_log) | 0 -/
  gapIn : Nat := 0
  /-- Words of the input packet being assembled, per input | lists | R412 (16_shard_log) | empty -/
  part : Sparse (List QEntry) := []
  /-- The drain window of SAFE_HOLD runs | 1 bit | R427 (16_shard_log) | 0 -/
  draining : Bool := false
  /-- CORECLK cycle at which that window ends | cycle number | R427 (16_shard_log) | 0 -/
  drainEnd : Nat := 0
  /-- A readout waits for the end of the mount | 1 bit | R426 (16_shard_log) | 0 -/
  rdWait : Bool := false
  /-- The record of the running readout, and how many of its words, descriptor first, have been pushed | record and count | R426 (16_shard_log) | none -/
  rd : Option (Rec × Nat) := none
  /-- The recorder parks once its units in flight have committed | 1 bit | R419, R431 (16_shard_log) | 0 -/
  parking : Bool := false
  /-- STATE before the recorder parked | 4 bits | R427, R431 (16_shard_log) | 0 -/
  parkedFrom : Nat := 0
  /-- CORECLK cycle by which units in flight at a power loss have completed | cycle number | R419 (16_shard_log) | 0 -/
  parkEnd : Nat := 0
  /-- Input served last, for the round robin | 3 bits | R412 (16_shard_log) | 7 -/
  rr : Nat := 7
  /-- A unit is due (its start was deferred) | 1 bit | R418 (16_shard_log) | 0 -/
  due : Bool := false
  deriving DecidableEq, Repr

/-- The power-state controller beside its registers (R430–R443). -/
structure Pwr where
  /-- Blocks that have agreed, latest first | list of 1–15 | R434–R437 (17_power_states) | none -/
  agreed : List Nat := []
  /-- CORECLK cycle at which the block being asked was asked | cycle number | R435 (17_power_states) | 0 -/
  askAt : Nat := 0
  /-- CORECLK cycle of the entry into BANKED (AON keeps counting) | cycle number | R33, R443 BTIME (17_power_states) | 0 -/
  since : Nat := 0
  /-- Interfaces that were asleep when the entry began, as ISTAT | 6 bits | R442 (17_power_states) | 0 -/
  asleep : Nat := 0
  /-- The block being asked has yet to begin what it completes before it agrees | 1 bit | R434, R435 (17_power_states) | 0 -/
  prep : Bool := false
  /-- Armed wake sources that have fired and whose wake, or abort of the entry, is still to come, in the order of WAKESRC | 9 bits | R438, R441, R443 (17_power_states) | 0 -/
  fired : Nat := 0
  deriving DecidableEq, Repr

/-- The BIST controller beside its registers (R445–R452). -/
structure Bist where
  /-- The key-on test has run in this WEDGING | 1 bit | R320, R450 (11_wedging, 18_self_test) | 0 -/
  keyDone : Bool := false
  /-- CORECLK cycle at which the run in progress began | cycle number | R446 (18_self_test) | 0 -/
  since : Nat := 0
  /-- CORECLK cycle at which its restore ends; none while it applies patterns | cycle number | R446 (18_self_test) | none -/
  restore : Option Nat := none
  /-- The run was cut short by STOP | 1 bit | R448, R449 (18_self_test) | 0 -/
  stopped : Bool := false
  /-- A run condition was broken: its INVCAUSE | 4 bits | R447 (18_self_test) | 0 -/
  broken : Nat := 0
  /-- A START has been accepted and takes effect as its FABCLK cycle ends, unless a run request or an ENTER is accepted in it | 1 bit | R452 (18_self_test) | 0 -/
  startDue : Bool := false
  /-- Patterns of the run in progress | 20 bits | R446, R450 (18_self_test) | 0 -/
  count : Nat := 0
  /-- Partitions of the run in progress | 4 bits | R445, R450 (18_self_test) | 0 -/
  mask : Nat := 0
  /-- Seed of the run in progress | 32 bits | R446, R450 (18_self_test) | 0 -/
  seed : Nat := 0
  /-- Expected signature of the run in progress | 64 bits | R448, R450 (18_self_test) | 0 -/
  expect : Nat := 0
  deriving DecidableEq, Repr

/-- The Wedge's sequence in progress (R297–R305, R319, R320). -/
structure Wedge where
  /-- CORECLK cycle at which WEDGING began | cycle number | R37, R459 (01_architecture, 19_supplies_clocks_reset) | 0 -/
  since : Nat := 0
  /-- CORECLK cycle at which the phase in progress ends | cycle number | R297 (11_wedging) | 0 -/
  due : Nat := 0
  /-- CORECLK cycle by which that phase has to end | cycle number | R297 (11_wedging) | 0 -/
  limit : Nat := 0
  /-- Attempts still to be made, the present one first: slot and pass | list of pairs | R305 (11_wedging) | none -/
  todo : List (Nat × Nat) := []
  /-- CORECLK cycle at which the PLL locks | cycle number | R461 (19_supplies_clocks_reset) | 0 -/
  pllAt : Nat := 0
  /-- Resets of the NOR made for failed mode checks | 0–3 | R302 (11_wedging) | 0 -/
  norTries : Nat := 0
  /-- CORECLK cycle at which XSPI_nRST rises again after the last of them | cycle number | R302 (11_wedging) | 0 -/
  norLow : Nat := 0
  /-- The acceptance burn in progress: revocation mask and the level the rollback counter is raised to | 3 bits and 8 bits | R313, R314, R319 (11_wedging) | none -/
  burn : Option (Nat × Nat) := none
  deriving DecidableEq, Repr

/-- Land levels and other inputs of the environment that the device samples. -/
structure Pins where
  /-- nRST as taken by its filter: released | 1 bit | R465 (19_supplies_clocks_reset) | 0 (low) -/
  nrst : Bool := false
  /-- Supplies valid | 1 bit | R458 (19_supplies_clocks_reset) | 0 -/
  supOk : Bool := false
  /-- VSYS below its reset level (no carrier) | 1 bit | R238 row 1, R457 (08_gate_islands, 19_supplies_clocks_reset) | 1 -/
  noVsys : Bool := true
  /-- An internal reset holds OFF for its 20 µs | 1 bit | R459 (19_supplies_clocks_reset) | 0 -/
  hold : Bool := false
  /-- CORECLK cycle until which it holds OFF at least | cycle number | R459 (19_supplies_clocks_reset) | 0 -/
  holdEnd : Nat := 0
  /-- The TEST land is high | 1 bit | R479 (20_package_pins) | 0 -/
  test : Bool := false
  /-- EN_A as filtered | 1 bit | R234 (08_gate_islands) | 0 -/
  enA : Bool := false
  /-- EN_B as filtered | 1 bit | R234 (08_gate_islands) | 0 -/
  enB : Bool := false
  /-- Voltage at each AIN land after the filter of the comparator that watches it, in µV | 48 voltages | R253, R254 (09_protection_safety) | 0 -/
  ain : Sparse Nat := []
  /-- Filtered code at the lands of each Hall set; none until the environment has given one | 2 x 3 bits | R150 (05_position) | none -/
  hall : Sparse (Option Nat) := []
  /-- Voltage at the VREF land in µV | voltage | R112 (04_sampling) | 2.5 V -/
  vref : Nat := 2500000
  deriving DecidableEq, Repr

/-- The device: everything but the queue of waiting commands. -/
structure State where
  /-- Commands waiting, first in first out | list of commands | the block's own queue (model) | empty -/
  pending : List Instr := []
  /-- The part's variant | 3 values | R4 (00_scope) | VZ6840 -/
  variant : Variant := .vz6840
  /-- Device state | 7 states | R34 (01_architecture) | OFF -/
  dev : DevState := .off
  /-- CORECLK cycles since the start of the run of the model | count | R19, R460 (01_architecture, 19_supplies_clocks_reset) | 0 -/
  cycle : Nat := 0
  /-- Timestamp counter | 64 bits | R31 (01_architecture) | 0 -/
  tsc : Nat := 0
  /-- The PLL is locked and the TSC counts | 1 bit | R31 (01_architecture) | 0 -/
  pll : Bool := false
  /-- FABCLK cycle and priority of the last accepted cause of a state change | record | R38 (01_architecture) | none -/
  cause : Option (Nat × Nat) := none
  /-- A run request has been accepted and takes effect as its FABCLK cycle ends, unless a cause of higher priority comes in it | 1 bit | R38, R39 (01_architecture) | 0 -/
  runDue : Bool := false
  /-- CORECLK cycle of the pending stop request | cycle number | R41 (01_architecture) | 0 -/
  stopAt : Nat := 0
  /-- FABCLK cycle of the last absent access | cycle number | R504 (22_register_map) | none -/
  absentAt : Option Nat := none
  /-- CORECLK cycle at which a running data-plane reset ends | cycle number | R364, R468 (13_queues, 19_supplies_clocks_reset) | none -/
  dprDue : Option Nat := none
  /-- Clocks that have failed in this SAFE_HOLD, in the bit order of CLKFLT: their units have stopped | 9 bits | R464 (19_supplies_clocks_reset) | 0 -/
  clkDead : Nat := 0
  /-- Counter of free values drawn (the model's own; no statement rests on its value) | count | model | 0 -/
  free : Nat := 0
  /-- Register fields that differ from their reset values | per register table | R9–R12 and every register table | each field's own reset value -/
  regs : Sparse Nat := []
  wheel : Wheel := {}
  mem : Mems := {}
  /-- Accepted resource table (turn generator and contract) | record | R85, R94–R96 (03_schedule_contract) | empty -/
  contract : Contract := {}
  /-- Legs the image declares unused | 6 bits | R308 DECL, R507 (11_wedging, 00_scope) | 0 -/
  unused : Nat := 0
  xwin : Xwin := {}
  adc : Adc := {}
  pos : Pos := {}
  /-- Loops 0–7 beside their registers | 8 units | R159–R174 (06_control_loops) | OPEN -/
  loops : Sparse LoopSt := []
  rcu : Rcu := {}
  pwm : Pwm := {}
  /-- Configuration writes on their way to a trained island, first to end first: the CORECLK cycle at which the exchange ends, and whether the read-back matches | 12 lists | R250 (08_gate_islands) | none -/
  islWrites : Sparse (List (Nat × Bool)) := []
  /-- CORECLK cycle at which a running training of an island ends | 12 cycle numbers | R242, R244 (08_gate_islands) | none -/
  islTrain : Sparse (Option Nat) := []
  /-- Islands A1H–B3L | 12 units | R218–R249 (08_gate_islands) | unpowered -/
  isl : Sparse Isl := []
  sag : Sag := {}
  cone : Cone := {}
  safe : Safe := {}
  wedge : Wedge := {}
  nor : Nor := {}
  otp : Otp := {}
  sec : Sec := {}
  /-- Queues Q0–Q31 | 32 units | R347–R364 (13_queues) | empty -/
  queues : Sparse Queue := []
  /-- CAN0–CAN3 | 4 units | R368–R388 (14_can) | OFF -/
  can : Sparse Can := []
  eth : Eth := {}
  hspi : Hspi := {}
  shard : Shard := {}
  pwr : Pwr := {}
  bist : Bist := {}
  pins : Pins := {}
  /-- Value returned by the last interconnect read (the requester's read data) | 32 bits | R24, R393 (01_architecture, 15_host_ethernet) | 0 -/
  rdata : Nat := 0
  deriving DecidableEq, Repr

/-- Why the machine stops with a fault. No rule of the spec stops the device: every fault the spec names is a next state (SAFE_HOLD, a latch, a flag). -/
inductive Fault where
  /-- Raised by no command; kept so that the type is not empty. Safe. -/
  | none
  deriving DecidableEq, Repr

/-- Why a command has no meaning. -/
inductive Refusal where
  /-- The command's arm has no meaning yet. Safe: nothing is claimed about it. -/
  | notModelled (mnemonic : String)
  deriving DecidableEq, Repr

/-- The device right after power-on: OFF, every register at its reset value, every memory empty. -/
def State.reset : State := {}

end Sys2Proof.Machine
end

