-- ==== Sys2Proof/Machine/Ops.lean ====
section
/-! DEFINITION. The named operations over the state that every meaning uses: register fields, counters, free values, Wheel registers and effects in flight. -/

namespace Sys2Proof.Machine

open Sys2Proof

/-- The outcome of a command. -/
abbrev Out := Host.Outcome State Fault Refusal

/-! ## Register fields -/

/-- The stored value of a field. -/
def State.get (s : State) (f : Fld) : Nat := Sparse.get f.rst s.regs f.key

/-- The state with a field set to `v`, cut to the field's width. -/
def State.put (s : State) (f : Fld) (v : Nat) : State :=
  { s with regs := Sparse.set f.rst s.regs f.key (v % 2 ^ f.width) }

/-- A one-bit field reads 1. -/
def State.on (s : State) (f : Fld) : Bool := decide (s.get f = 1)

/-- Set a one-bit field. -/
def State.raise (s : State) (f : Fld) : State := s.put f 1

/-- Clear a field to zero. -/
def State.clear (s : State) (f : Fld) : State := s.put f 0

/-- Set a one-bit field to a truth value. -/
def State.putB (s : State) (f : Fld) (b : Bool) : State := s.put f (if b then 1 else 0)

/-- Bit `i` of a field. -/
def State.bit (s : State) (f : Fld) (i : Nat) : Bool := (s.get f).testBit i

/-- A number with bit `i` set or cleared. -/
def setBit (n i : Nat) (b : Bool) : Nat :=
  if b then n ||| 2 ^ i else if n.testBit i then n - 2 ^ i else n

/-- Set or clear bit `i` of a field. -/
def State.putBit (s : State) (f : Fld) (i : Nat) (b : Bool) : State := s.put f (setBit (s.get f) i b)

/-- Advance a counter that saturates at its width. -/
def State.bumpSat (s : State) (f : Fld) : State :=
  if s.get f + 1 < 2 ^ f.width then s.put f (s.get f + 1) else s

/-- Advance a counter by `n`, saturating. -/
def State.addSat (s : State) (f : Fld) (n : Nat) : State :=
  s.put f (min (s.get f + n) (2 ^ f.width - 1))

/-- Advance a counter that wraps. -/
def State.bumpWrap (s : State) (f : Fld) : State := s.put f (s.get f + 1)

/-- Return every register field with an address in [lo, hi) to its reset value. -/
def State.resetRange (s : State) (lo hi : Nat) : State :=
  { s with regs := Sparse.keep (fun k => decide (k / 32 < lo) || decide (hi ≤ k / 32)) s.regs }

/-- A 32-bit field as a word. -/
def State.word (s : State) (f : Fld) : Word := BitVec.ofNat 32 (s.get f)

/-! ## Lists and bits -/

/-- The elements below `n` that satisfy `p`, ascending. -/
def below (n : Nat) (p : Nat → Bool) : List Nat := (List.range n).filter p

/-- The number whose bit i is `p i`, for i below `n`. -/
def bitsOf (n : Nat) (p : Nat → Bool) : Nat :=
  (List.range n).foldr (fun i acc => acc + if p i then 2 ^ i else 0) 0

/-- How many bits below 32 are set. -/
def popCount (n : Nat) : Nat := ((List.range 32).filter fun i => n.testBit i).length

/-- Bits [lo + width − 1 : lo] of a number. -/
def slice (v lo width : Nat) : Nat := v / 2 ^ lo % 2 ^ width

/-- A `width`-bit pattern as a two's-complement integer. -/
def toSigned (width v : Nat) : Int :=
  if v % 2 ^ width < 2 ^ (width - 1) then (v % 2 ^ width : Nat) else ((v % 2 ^ width : Nat) : Int) - 2 ^ width

/-- A two's-complement integer as a `width`-bit pattern. -/
def ofSigned (width : Nat) (x : Int) : Nat := (x % (2 ^ width : Nat)).toNat

/-! ## Time -/

/-- The FABCLK cycle (R19: FABCLK is half of CORECLK). -/
def State.fab (s : State) : Nat := s.cycle / 2

/-! ## Free values (assumption 5) -/

/-- A value the spec leaves open below `n` (n positive), and the state after drawing it. -/
def State.draw (s : State) (n : Nat) : Nat × State :=
  (Config.freeNat s.free % n, { s with free := s.free + 1 })

/-! ## The Wheel -/

/-- A general register (R52). -/
def State.g (s : State) (r : Nat) : Word := Sparse.get 0#32 s.wheel.g r

/-- The state with a general register written. -/
def State.setG (s : State) (r : Nat) (v : Word) : State :=
  { s with wheel := { s.wheel with g := Sparse.set 0#32 s.wheel.g r v } }

/-- A predicate; p0 always reads 1 (R49). -/
def State.p (s : State) (i : Nat) : Bool := if i = 0 then true else Sparse.get false s.wheel.p i

/-- The state with a predicate written; a write of p0 has no effect (R49). -/
def State.setP (s : State) (i : Nat) (b : Bool) : State :=
  if i = 0 then s else { s with wheel := { s.wheel with p := Sparse.set false s.wheel.p i b } }

/-- An address register. -/
def State.ar (s : State) (k : Nat) : Nat := Sparse.get 0 s.wheel.ar k

/-- A coefficient pointer. -/
def State.cp (s : State) (j : Nat) : Nat := Sparse.get 0 s.wheel.cp j

/-- Put an effect in flight that takes place at the end of cycle `due` (R52, R68). -/
def State.later (s : State) (due : Nat) (e : Effect) : State :=
  { s with wheel := { s.wheel with inflight := s.wheel.inflight ++ [(due, e)] } }

/-- The turn counter (R80). -/
def State.turn (s : State) : Nat := s.get R.WHEEL_TURNCNT_COUNT

end Sys2Proof.Machine
end

