-- ==== Sys2Proof/Machine/Flags.lean ====
section
/-! DEFINITION. The flags of WHEEL.NUMSTAT (R56, R80) and the integer results that set them. -/

namespace Sys2Proof.Machine

open Sys2Proof

/-- Set the sticky NUMSTAT flags of a mask, in the bit order of the register (R56, R80). -/
def State.setNumstat (s : State) (fl : Nat) : State :=
  let s := if fl.testBit 0 then s.raise R.WHEEL_NUMSTAT_INV else s
  let s := if fl.testBit 1 then s.raise R.WHEEL_NUMSTAT_DZ else s
  let s := if fl.testBit 2 then s.raise R.WHEEL_NUMSTAT_OVF else s
  let s := if fl.testBit 3 then s.raise R.WHEEL_NUMSTAT_UNF else s
  let s := if fl.testBit 4 then s.raise R.WHEEL_NUMSTAT_CVT else s
  if fl.testBit 5 then s.raise R.WHEEL_NUMSTAT_SAT else s

/-- A register result without flags. -/
def plain (v : Word) : Fp32.Res := ⟨v, 0⟩

end Sys2Proof.Machine
end

