-- ==== Sys2Proof/Machine/Operands.lean ====
section
/-! DEFINITION. Operand forms of the Wheel: guards, results in flight, pointers with post-increment, and protected memory reads. -/

namespace Sys2Proof.Machine

open Sys2Proof

/-- The guard of an operation holds while the Wheel issues bundles (R48–R50). -/
def State.guardOn (s : State) (gd : Guard) : Bool :=
  s.wheel.turning && (s.p gd.psel.val != gd.pinv)

/-- An operation that takes place under its guard and otherwise has no effect (R50). -/
def State.issue (s : State) (gd : Guard) (f : State → State) : State :=
  if s.guardOn gd then f s else s

/-- A result of latency `lat` in flight to a general register, with its flags (R52, R56). -/
def State.result (s : State) (lat : Nat) (d : Nat) (r : Fp32.Res) : State :=
  s.later (s.cycle + lat - 1) (.setG d r.v r.fl)

/-- A result of latency `lat` in flight to a predicate (R52). -/
def State.resultP (s : State) (lat : Nat) (pd : Nat) (b : Bool) : State :=
  s.later (s.cycle + lat - 1) (.setP pd b)

/-- An F-slot result: latency 4 (R55). -/
def State.fResult (s : State) (d : Fin 128) (r : Fp32.Res) : State := s.result 4 d.val r

/-- An F-slot predicate result: latency 4 (R55). -/
def State.fPred (s : State) (pd : Fin 8) (b : Bool) : State := s.resultP 4 pd.val b

/-- A T-slot result: latency 12 (R55). -/
def State.tResult (s : State) (d : Nat) (r : Fp32.Res) : State := s.result 12 d r

/-- The value of a source register. -/
def State.src (s : State) (r : Fin 128) : Word := s.g r.val

/-- The step of an increment code: +0, +1, +2, −1 words (R64, R510). -/
def incStep (inc : Fin 4) : Int :=
  match inc with
  | 0 => 0
  | 1 => 1
  | 2 => 2
  | 3 => -1

/-- The modulo length of ARk: LEN, or the whole bank for 0 (R63). -/
def State.arLen (s : State) (k : Nat) : Nat :=
  let l := s.get (R.WHEEL_ARMOD_LEN k)
  if l = 0 then 8192 else l

/-- The word offset an access through ARk uses (R63). -/
def State.arOff (s : State) (k : Nat) : Nat := s.ar k % s.arLen k

/-- The offset after the post-increment (R63, R64). -/
def State.arNext (s : State) (k : Nat) (inc : Fin 4) : Nat :=
  (((s.arOff k : Nat) + incStep inc) % (s.arLen k : Nat)).toNat

/-- The post-increment of ARk in flight: the new value is used from the next cycle (R64). -/
def State.incAr (s : State) (k : Nat) (inc : Fin 4) : State :=
  if inc = 0 then s else s.later s.cycle (.setAr k (s.arNext k inc))

/-- The post-increment of CPj in flight, modulo 16,384 words (R64). -/
def State.incCp (s : State) (j : Nat) (inc : Fin 4) : State :=
  if inc = 0 then s else s.later s.cycle (.setCp j (((s.cp j : Nat) + incStep inc) % 16384).toNat)

/-- A read of a SECDED-protected word with `errs` flipped bits (R67): the value, or none for a reported double-bit error; and whether a correction is counted. -/
def State.eccRead (s : State) (v : Word) (errs : Nat) : Option (Word × Bool) × State :=
  if errs = 0 then (some (v, false), s)
  else if errs = 1 then (some (v, true), s)
  else if errs = 2 then (none, s)
  else (Config.multiError s.free v, { s with free := s.free + 1 })

/-- Note a corrected error: the memory's count, and its address (R67); memories 1 instruction, 2 data, 3 coefficient. -/
def State.eccNoted (s : State) (m a : Nat) : State :=
  ((s.bumpSat (if m = 1 then R.WHEEL_ECCCNT_IMEM else if m = 2 then R.WHEEL_ECCCNT_DMEM else R.WHEEL_ECCCNT_CMEM)).put
    R.WHEEL_ECCADDR_MEM m).put R.WHEEL_ECCADDR_ADDR a

/-- A load of latency 3 from a protected memory: the corrected value with its count, or the halt of a double-bit error in the cycle the result would be written (R55, R67, assumption 10). -/
def State.loadInto (s : State) (d : Nat) (r : Option (Word × Bool)) (mem addr cause : Nat) : State :=
  match r with
  | none => s.later (s.cycle + 2) (.halt cause)
  | some (v, c) =>
    let s := s.later (s.cycle + 2) (.setG d v 0)
    if c then s.later (s.cycle + 2) (.eccNote mem addr) else s

/-- A data load through ARk (R63, R64). -/
def State.dataLoad (s : State) (d k : Nat) (inc : Fin 4) : State :=
  let a := 8192 * k + s.arOff k
  let r := s.eccRead (Sparse.get 0#32 s.mem.dmem a) (Sparse.get 0 s.mem.derr a)
  (r.2.loadInto d r.1 2 a 0x02).incAr k inc

/-- A data store through ARk: written at the end of the cycle (R55, R65). -/
def State.dataStore (s : State) (g k : Nat) (inc : Fin 4) : State :=
  (s.later s.cycle (.storeD k (s.arOff k) (s.g g))).incAr k inc

/-- A coefficient load through CPj (R64, R66). -/
def State.coefLoad (s : State) (d j : Nat) (inc : Fin 4) : State :=
  let a := s.cp j
  let r := s.eccRead (Sparse.get 0#32 s.mem.cmem a) (Sparse.get 0 s.mem.cerr a)
  (r.2.loadInto d r.1 3 a 0x03).incCp j inc

end Sys2Proof.Machine
end

