-- ==== Sys2Proof/Machine/Units.lean ====
section
/-! DEFINITION. Which units a variant has (R4), legs, islands and inverters (R14, R507), and the device state's encodings (R45). -/

namespace Sys2Proof.Machine

open Sys2Proof

/-- Inverters present (R4). -/
def State.nInv (s : State) : Nat := if s.variant = .vz6821 then 1 else 2
/-- Legs present (R4, R217). -/
def State.nLeg (s : State) : Nat := 3 * s.nInv
/-- Islands present (R4, R252). -/
def State.nIsl (s : State) : Nat := 6 * s.nInv
/-- SAR converters present (R4, R110). -/
def State.nConv (s : State) : Nat := 8 * s.nInv
/-- CAN controllers present (R4). -/
def State.nCan (s : State) : Nat := 2 * s.nInv
/-- CAN XL present on controller x (R4, R7). -/
def State.hasXl (s : State) (x : Nat) : Bool := decide (s.variant = .vz6840) && decide (x < 2)
/-- The Ethernet MAC is present (R4). -/
def State.hasEth (s : State) : Bool := decide (s.variant = .vz6840)
/-- The Shard log is present (R4). -/
def State.hasShard (s : State) : Bool := decide (s.variant ≠ .vz6821)
/-- The RCU is present (R4, R180). -/
def State.hasRcu (s : State) : Bool := decide (s.variant = .vz6840)

/-- Inverter of a leg, and of an island (R14). -/
def invOfLeg (n : Nat) : Nat := n / 3
def invOfIsl (i : Nat) : Nat := i / 6
def legOfIsl (i : Nat) : Nat := i / 2
/-- A high-side island (R14). -/
def isHigh (i : Nat) : Bool := decide (i % 2 = 0)

/-- The image declares a leg unused (R308, R507). -/
def State.legUnused (s : State) (n : Nat) : Bool := s.unused.testBit n

/-- An inverter in use: not all three of its legs declared unused (R507). -/
def State.invInUse (s : State) (v : Nat) : Bool :=
  decide (v < s.nInv) && !(s.legUnused (3 * v) && s.legUnused (3 * v + 1) && s.legUnused (3 * v + 2))

/-- `SYS.STATE.CUR` of a device state (R45); OFF has no code of its own. -/
def DevState.code : DevState → Nat
  | .off => 0x1
  | .wedging => 0x1
  | .noimage => 0x2
  | .ready => 0x3
  | .run => 0x4
  | .safeHold => 0x5
  | .banked => 0x6

/-- A BANKED entry is in progress: a block is being asked (R436, R444 STEP). -/
def State.entering (s : State) : Bool := decide (s.get R.PWR_BSTAT_STEP ≠ 0)

/-- Block b of R434 has agreed to the entry in progress and has stopped (R435, R436). -/
def State.stopped (s : State) (b : Nat) : Bool := s.entering && s.pwr.agreed.contains b

/-- Wake source i fires: CAN0–CAN3, ETH, HSPI, EN_A, EN_B, Saggar. Where it is armed, in BANKED or during an entry, its wake or the abort of the entry is due; the Saggar cannot be masked, a block's source arms when the block has agreed (R438, R441). -/
def State.wakeArms (s : State) (i : Nat) : Bool :=
  let stopped := fun b => decide (s.dev = .banked) || s.stopped b
  (decide (s.dev = .banked) || s.entering) && (decide (i = 8) || (s.get R.PWR_WAKEEN_EN).testBit i) &&
  (if i < 4 then stopped (i + 2) else if i = 4 then stopped 1 else if i = 5 then stopped 6 else decide (i ≤ 8))

/-- Note that wake source i has fired, where it is armed (R438, R441, R443). -/
def State.fire (s : State) (i : Nat) : State :=
  if s.wakeArms i then { s with pwr := { s.pwr with fired := Nat.lor s.pwr.fired (2 ^ i) } } else s

/-- An on-demand LBIST run is in progress (R452). -/
def State.scanning (s : State) : Bool := s.on R.BIST_STAT_RUNNING && decide (s.dev ≠ .wedging)

/-- The clock with check c has not failed, nor the crystal or the PLL that it comes from (R460, R464). -/
def State.clkUp (s : State) (c : Nat) : Bool := !(s.clkDead.testBit 0 || s.clkDead.testBit 1 || s.clkDead.testBit c)

/-- The register interconnect answers (R34, R506): the device is out of reset and awake, and no on-demand LBIST run is in progress. -/
def State.busUp (s : State) : Bool :=
  !s.scanning && s.clkUp 4 &&
  (match s.dev with
   | .off => false
   | .banked => false
   | _ => true)

/-- Partition p of the scan logic is under test: 0 CTL, 1 DATA, 2 MGMT, 3 CONE (R445, R452). -/
def State.scanPart (s : State) (p : Nat) : Bool := s.scanning && s.bist.mask.testBit p

/-- The control plane runs: READY or RUN, with its partition not under test (R34, R445). -/
def State.planes (s : State) : Bool := (decide (s.dev = .ready) || decide (s.dev = .run)) && !s.scanPart 0

/-- The data plane runs: READY or RUN, with its partition not under test (R34, R445). -/
def State.dataUp (s : State) : Bool := (decide (s.dev = .ready) || decide (s.dev = .run)) && !s.scanPart 1

/-- A stop request is pending (R41, R45 RUNCTL.STOP). -/
def State.stopping (s : State) : Bool := s.on R.SYS_RUNCTL_STOP

/-- Move to another device state, noting the previous one; OFF has no code, and PREV then reads as after reset (R45); a change of CUR is an interrupt source (R400). -/
def State.setDev (s : State) (d : DevState) : State :=
  let s' := { (s.put R.SYS_STATE_PREV (if s.dev = .off then 0 else s.dev.code)) with dev := d }
  if s.dev.code = d.code then s' else s'.raise R.HSPI_IRQ_STATE

/-- The lifecycle state has been read and latched: phase 1 of WEDGING is over (R329). -/
def State.lcKnown (s : State) : Bool :=
  match s.dev with
  | .off => false
  | .wedging => decide (s.get R.WEDGE_STAT_PHASE ≠ 1)
  | _ => true

/-- Lifecycle DEVELOP with debug unlocked (R79). -/
def State.debugOpen (s : State) : Bool :=
  decide (s.sec.lc = .develop) && s.on R.SEC_DBGSTAT_UNLOCKED

/-- The debug port reaches every register; the SEC block; the challenge registers (R330): nothing before the lifecycle state is latched (R480). -/
def State.debugFull (s : State) : Bool :=
  s.lcKnown &&
  match s.sec.lc with
  | .manufacture => true
  | .rma => true
  | .develop => s.on R.SEC_DBGSTAT_UNLOCKED
  | _ => false
def State.debugSec (s : State) : Bool := s.debugFull || (s.lcKnown && decide (s.sec.lc = .blank))
def State.debugChal (s : State) : Bool :=
  s.debugSec || (s.lcKnown && (decide (s.sec.lc = .develop) || decide (s.sec.lc = .production)))

/-- A loop, an island, a generator, a queue, a CAN controller. -/
def State.loop (s : State) (l : Nat) : LoopSt := Sparse.get {} s.loops l
def State.setLoop (s : State) (l : Nat) (x : LoopSt) : State := { s with loops := Sparse.set {} s.loops l x }
def State.island (s : State) (i : Nat) : Isl := Sparse.get {} s.isl i
def State.setIsland (s : State) (i : Nat) (x : Isl) : State := { s with isl := Sparse.set {} s.isl i x }
def State.gen (s : State) (n : Nat) : Gen := Sparse.get {} s.pwm.gen n
def State.setGen (s : State) (n : Nat) (x : Gen) : State :=
  { s with pwm := { s.pwm with gen := Sparse.set {} s.pwm.gen n x } }
def State.queue (s : State) (q : Nat) : Queue := Sparse.get {} s.queues q
def State.setQueue (s : State) (q : Nat) (x : Queue) : State := { s with queues := Sparse.set {} s.queues q x }
def State.canx (s : State) (x : Nat) : Can := Sparse.get {} s.can x
def State.setCan (s : State) (x : Nat) (c : Can) : State := { s with can := Sparse.set {} s.can x c }

/-- Apply an operation for each index of a list. -/
def State.each (s : State) (l : List Nat) (f : State → Nat → State) : State := l.foldl f s

/-- The loop's state code: 0 OPEN, 1 CLOSING, 2 CLOSED, 3 OPENING (R166). -/
def State.loopState (s : State) (l : Nat) : Nat := s.get (R.LOOP_LSTAT_STATE l)
/-- Inverter of a loop. -/
def State.loopInv (s : State) (l : Nat) : Nat := s.get (R.LOOP_CFG_INV l)

/-- The present time in fine units of 1/32 CORECLK cycle. -/
def State.fine (s : State) : Nat := s.cycle * 32

end Sys2Proof.Machine
end

