-- ==== Sys2Proof/Machine/Position.lean ====
section
/-! DEFINITION. Position and speed sensing (R137–R158): resolver exciters and their monitors, encoders, Hall sets, SENT channels, and the values and validities POS.RD returns. Formulas the spec gives without a rounding are evaluated exactly and rounded once (assumption 11). -/

namespace Sys2Proof.Machine

open Sys2Proof

/-- The position block runs in READY and RUN (R140). -/
def State.posRuns (s : State) : Bool := s.planes && !s.stopped 12

/-- PERCLK cycles since the start (R137: one in four CORECLK cycles). -/
def State.per (s : State) : Nat := s.cycle / 4

def State.exc (s : State) (x : Nat) : Exciter := Sparse.get {} s.pos.exc x
def State.setExc (s : State) (x : Nat) (v : Exciter) : State :=
  { s with pos := { s.pos with exc := Sparse.set {} s.pos.exc x v } }
def State.enc (s : State) (e : Nat) : Encoder := Sparse.get {} s.pos.enc e
def State.setEnc (s : State) (e : Nat) (v : Encoder) : State :=
  { s with pos := { s.pos with enc := Sparse.set {} s.pos.enc e v } }
def State.hallSet (s : State) (h : Nat) : Hall := Sparse.get {} s.pos.hall h
def State.setHall (s : State) (h : Nat) (v : Hall) : State :=
  { s with pos := { s.pos with hall := Sparse.set {} s.pos.hall h v } }
def State.sentCh (s : State) (j : Nat) : Sent := Sparse.get {} s.pos.sent j
def State.setSent (s : State) (j : Nat) (v : Sent) : State :=
  { s with pos := { s.pos with sent := Sparse.set {} s.pos.sent j v } }

/-! ## Validity (R139, R144, R149, R152, R157) -/

def State.resValid (s : State) (x : Nat) : Bool :=
  decide (s.get (R.POS_RXCFG_PER x) ≠ 0) && !s.on (R.POS_RXSTAT_AMPF x) && !s.on (R.POS_RXSTAT_LOS x) &&
  !s.on (R.POS_RXSTAT_NOEST x) && !s.on (R.POS_RXSTAT_EXCOC x) && (s.exc x).formed

def State.encValid (s : State) (e : Nat) : Bool :=
  s.on (R.POS_ECFG_EN e) && (s.on (R.POS_ESTAT_ZSEEN e) || !s.on (R.POS_ECFG_ZREQ e)) &&
  !s.on (R.POS_ESTAT_ILL e) && !s.on (R.POS_ESTAT_ZERR e) && !s.on (R.POS_ESTAT_PLAUS e)

def State.hallValid (s : State) (h : Nat) : Bool :=
  s.on (R.POS_HCFG_EN h) && decide ((s.hallSet h).last ≠ 0) &&
  !s.on (R.POS_HSTAT_ILL h) && !s.on (R.POS_HSTAT_SKIP h) && !s.on (R.POS_HSTAT_PLAUS h)

def State.sentValid (s : State) (j : Nat) : Bool :=
  s.on (R.POS_SCFG_EN j) && (s.sentCh j).good && decide (s.get (R.POS_SSTAT_CRCCNT j) < s.get (R.POS_SCFG_CRCN j)) &&
  !s.on (R.POS_SSTAT_STALE j) && !s.on (R.POS_SSTAT_STERR j)

/-- Validity of source `src`; every source is invalid while the block is stopped (R138–R140). -/
def State.posValid (s : State) (src : Nat) : Bool :=
  s.posRuns &&
  (if src < 4 then s.encValid (src % 2)
   else if src < 8 then s.hallValid (src % 2)
   else if src < 12 then s.sentValid (src - 8)
   else if src < 16 then s.sentValid (src - 12) && decide (s.get (R.POS_SCFG_NIB (src - 12)) = 6)
   else if src < 20 then s.resValid (src % 2)
   else false)

/-! ## Values (R138) -/

/-- The encoder angle frac(PP·POSCNT/CPR + EOFS/65536) as a numerator over a denominator (R147). -/
def State.encAngle (s : State) (e : Nat) : Nat × Nat :=
  let cpr := max 1 (s.get (R.POS_ECPR_CPR e))
  let d := cpr * 65536
  ((s.get (R.POS_ECFG_PP e) * s.get (R.POS_ECNT_POSCNT e) * 65536 + s.get (R.POS_EOFS_EOFS e) * cpr) % d, d)

/-- HANG of a code 1–6 (R150). -/
def State.hang (s : State) (h code : Nat) : Nat :=
  match code with
  | 1 => s.get (R.POS_HANG0_ANG1 h)
  | 2 => s.get (R.POS_HANG0_ANG2 h)
  | 3 => s.get (R.POS_HANG0_ANG3 h)
  | 4 => s.get (R.POS_HANG0_ANG4 h)
  | 5 => s.get (R.POS_HANG1_ANG5 h)
  | 6 => s.get (R.POS_HANG1_ANG6 h)
  | _ => 0

/-- A SENT channel scaled: (FC − OFS) × GAIN (R156). -/
def sentScale (fc : Nat) (ofs gain : Word) : Word :=
  (Fp32.mul (Fp32.sub (Fp32.ofRat false fc 1).v ofs).v gain).v

/-- A fraction n/d below 1 as a value below 1: where rounding would give 1.0, the largest FP32 value below it (R138; DESIGN CHOICE, assumption 11). -/
def fracWord (n d : Nat) : Word :=
  let w := (Fp32.ofRat false n d).v
  if w = 0x3F800000#32 then 0x3F7FFFFF#32 else w

/-- The value source `src` holds (R138). -/
def State.posValue (s : State) (src : Nat) : Word :=
  if src < 2 then let a := s.encAngle src; fracWord a.1 a.2
  else if src < 4 then s.word (R.POS_ESPD_VALUE (src - 2))
  else if src < 6 then (Fp32.ofRat false (s.hang (src - 4) (s.hallSet (src - 4)).last) 256).v
  else if src < 8 then s.word (R.POS_HSPD_VALUE (src - 6))
  else if src < 12 then
    let j := src - 8
    sentScale (s.get (R.POS_SDATA_FC1 j)) (s.word (R.POS_SOFS1_VALUE j)) (s.word (R.POS_SGAIN1_VALUE j))
  else if src < 16 then
    let j := src - 12
    sentScale (s.get (R.POS_SDATA_FC2 j)) (s.word (R.POS_SOFS2_VALUE j)) (s.word (R.POS_SGAIN2_VALUE j))
  else if src < 18 then
    let per := s.get (R.POS_RXCFG_PER (src - 16))
    if per = 0 then 0#32 else (Fp32.ofRat false (s.exc (src - 16)).phase per).v
  else if src < 20 then s.word (R.POS_RXAMP_VALUE (src - 18))
  else 0#32

/-- The fields of the POS window. -/
def posKey (k : Nat) : Bool := decide (0x40210000 ≤ k / 32) && decide (k / 32 < 0x40220000)

/-- The block as it stands. -/
def State.posNowHeld (s : State) : PosHeld :=
  { at_ := s.cycle, runs := s.posRuns, regs := Sparse.keep posKey s.regs, exc := s.pos.exc, enc := s.pos.enc,
    hall := s.pos.hall, sent := s.pos.sent }

/-- The state with the block as it was held. -/
def State.posView (s : State) (h : PosHeld) : State :=
  { s with regs := h.regs, cycle := h.at_, pos := { exc := h.exc, enc := h.enc, hall := h.hall, sent := h.sent } }

/-- The block at the last PERCLK edge at or before the second cycle back, whether or not the edge of this cycle has been taken (R137, R138). -/
def State.posEdge (s : State) : PosHeld := if s.pos.held.at_ + 2 ≤ s.cycle then s.pos.held else s.pos.heldPrior

/-- What a POS.RD issued in this cycle returns: value and validity at that edge (R138). -/
def State.posRead (s : State) (src : Nat) : Word × Bool :=
  let h := s.posEdge
  ((s.posView h).posValue src, h.runs && (s.posView h).posValid src)

/-! ## Resolver monitor (R143, R144) -/

/-- φ − PHDLY as a fraction of a revolution. -/
def State.resPhase (s : State) (x phase : Nat) : Nat × Nat :=
  let per := max 1 (s.get (R.POS_RXCFG_PER x))
  let d := per * 65536
  ((phase * 65536 + (65536 - s.get (R.POS_RXMON_PHDLY x)) * per) % d, d)

/-- |sin 2πx| ≥ 0.5 for x = n/d in [0, 1): x in [1/12, 5/12] or [7/12, 11/12]. -/
def sinHalf (n d : Nat) : Bool :=
  (decide (d ≤ 12 * n) && decide (12 * n ≤ 5 * d)) || (decide (7 * d ≤ 12 * n) && decide (12 * n ≤ 11 * d))

/-- √(s² + c²)/|k| for finite s and c, rounded once (R143, assumption 11). -/
def resAmplitude (sv cv : Word) (n d : Nat) : Word :=
  match Fp32.num sv, Fp32.num cv with
  | .fin _ ms es, .fin _ mc ec =>
    if ms = 0 ∧ mc = 0 then 0#32
    else
      let e0 := if ms = 0 then ec else if mc = 0 then es else min es ec
      let a := if ms = 0 then 0 else ms * 2 ^ (es - e0).toNat
      let c := if mc = 0 then 0 else mc * 2 ^ (ec - e0).toNat
      let k := (Fp32.sinFx ((n * 2 ^ 60 / d : Nat) : Int)).natAbs
      let sc := Fp32.scale 1 (2 * e0)
      let r := Fp32.sqrtSig ((a * a + c * c) * sc.1 * 2 ^ 120) (sc.2 * k * k)
      (Fp32.pack false r.1 r.2).v
  | .nan, _ => Fp32.nan
  | _, .nan => Fp32.nan
  | _, _ => Fp32.infinity false

/-- Flags after an estimate: consecutive counts against the window and the threshold (R144). -/
def State.resFlags (s : State) (x : Nat) (a : Word) : State :=
  let e := s.exc x
  let out := Fp32.lt a (s.word (R.POS_RXAMIN_VALUE x)) || Fp32.lt (s.word (R.POS_RXAMAX_VALUE x)) a
  let los := Fp32.lt a (s.word (R.POS_RXLOSTH_VALUE x))
  let ao := if out then min (e.ampOut + 1) 255 else 0
  let lc := if los then min (e.losCnt + 1) 255 else 0
  let s := s.setExc x { e with ampOut := ao, losCnt := lc, formed := true, since := 0 }
  let s := if out && decide (s.get (R.POS_RXMON_AMPN x) ≤ ao) then s.raise (R.POS_RXSTAT_AMPF x) else s
  if los && decide (s.get (R.POS_RXCFG_LOSN x) ≤ lc) then s.raise (R.POS_RXSTAT_LOS x) else s

/-- Two results of monitor x that started on one edge with phase `ph`: an estimate where both are valid and |k| ≥ 0.5 (R143). -/
def State.resEstimate (s : State) (x ph : Nat) (a b : Word × Bool) : State :=
  let p := s.resPhase x ph
  if a.2 && b.2 && sinHalf p.1 p.2 then
    let v := resAmplitude a.1 b.1 p.1 p.2
    (s.put (R.POS_RXAMP_VALUE x) v.toNat).resFlags x v
  else s

/-- A sine and a cosine result that started on the same edge. -/
def resMatch (a b : List (Nat × Nat × Word × Bool)) : Option ((Nat × Nat × Word × Bool) × Word × Bool) :=
  a.findSome? fun u => (b.find? fun v => decide (v.1 = u.1)).map fun v => (u, v.2.2)

/-- The pair of results of monitor x, once both are there (R143). -/
def State.resPair (s : State) (x : Nat) : State :=
  let e := s.exc x
  match resMatch e.sins e.coss with
  | some ((t, ph, u), v) =>
    let rest := fun (l : List (Nat × Nat × Word × Bool)) => l.filter fun r => decide (r.1 ≠ t)
    (s.setExc x { e with sins := rest e.sins, coss := rest e.coss }).resEstimate x ph u v
  | none => s

/-- A conversion of converter `conv` that started on the edge of cycle `acq` is still to deliver its result. -/
def State.resultToCome (s : State) (conv acq : Nat) : Bool :=
  s.adc.runs.any fun r => decide (r.conv = conv) && (r.snaps.drop r.done).any fun n => decide (n.acq = acq)

/-- A converter result reaches the resolver monitors that name the converter; it waits there as long as the other converter's result of its edge is to come (R143). -/
def State.resTake (s : State) (conv : Nat) (sn : Snap) (v : Word) (ok : Bool) : State :=
  s.each [0, 1] fun s x =>
    if s.posRuns && decide (s.get (R.POS_RXCFG_PER x) ≠ 0) then
      let ph := if x = 0 then sn.ph0 else sn.ph1
      let e := s.exc x
      let cs := s.get (R.POS_RXMON_SINCONV x)
      let cc := s.get (R.POS_RXMON_COSCONV x)
      let e := if cs = conv then { e with sins := e.sins ++ [(sn.acq, ph, v, ok)] } else e
      let e := if cc = conv then { e with coss := e.coss ++ [(sn.acq, ph, v, ok)] } else e
      let s := (s.setExc x e).resPair x
      let e := s.exc x
      s.setExc x { e with
        sins := e.sins.filter fun r => s.resultToCome cc r.1
        coss := e.coss.filter fun r => s.resultToCome cs r.1 }
    else s

/-- The exciter's output: the phase it drives, none while it is off, for which an overcurrent suffices until its flag is cleared (R141, R144). -/
def State.excOutput (s : State) (x : Nat) : Option Nat :=
  if s.posRuns && decide (s.get (R.POS_RXCFG_PER x) ≠ 0) && !s.on (R.POS_RXSTAT_EXCOC x) then some (s.exc x).phase else none

/-- Four excitation periods in RUN have passed without an estimate (R144). -/
def State.noEstimate (s : State) (x : Nat) : Bool :=
  decide (s.dev = .run) && decide (s.get (R.POS_RXCFG_PER x) ≠ 0) &&
  decide (4 * s.get (R.POS_RXCFG_PER x) ≤ (s.exc x).since)

/-- NOEST: no estimate within 4 excitation periods while the exciter runs in RUN (R144). -/
def execNoest (x : Fin 2) (s : State) : Out :=
  .next (if s.noEstimate x.val then s.raise (R.POS_RXSTAT_NOEST x.val) else s)

/-- EXCOC: the exciter's output is off until the flag is cleared (R144). -/
def execExcoc (x : Fin 2) (s : State) : Out :=
  .next (if s.posRuns && decide (s.get (R.POS_RXCFG_PER x.val) ≠ 0) then s.raise (R.POS_RXSTAT_EXCOC x.val) else s)

/-- A taken turn match at exciter x: with LOCK the first of a RUN restarts the phase on the first PERCLK edge at or after it, which is the edge of this cycle where one falls in it (R137, R142). -/
def State.excMatch (s : State) (x : Nat) : State :=
  let e := s.exc x
  if s.on (R.POS_RXCFG_LOCK x) && !e.locked then
    if s.cycle % 4 = 0 then s.setExc x { e with locked := true, phase := 0 }
    else s.setExc x { e with locked := true, restart := true }
  else s

/-! ## Encoders (R145–R149) -/

/-- The step of a change of the levels (A, B), A leading B counting up (assumption 12); none for an illegal transition. -/
def quadStep (old new : Nat) : Option Int :=
  let pos := fun ab => match ab with
    | 0 => 0
    | 2 => 1
    | 3 => 2
    | _ => 3
  let d := (pos new + 4 - pos old) % 4
  if d = 0 then some 0 else if d = 1 then some 1 else if d = 3 then some (-1) else none

/-- ENCODER_COUNT: a filtered sample of A and B; an encoder that does not run notes the levels only (R145, R147, R148). An enabled encoder whose CPR has never been written counts modulo 2^24, and its angle and speed use 1 (DESIGN CHOICE, assumption 12). -/
def execEncoderCount (e : Fin 2) (a b : Bool) (s : State) : Out :=
  .next (
    let x := s.enc e.val
    let ab := (if a then 2 else 0) + (if b then 1 else 0)
    if !s.posRuns || !s.on (R.POS_ECFG_EN e.val) then s.setEnc e.val { x with ab := ab }
    else
      match quadStep x.ab ab with
      | none => (s.setEnc e.val { x with ab := ab }).raise (R.POS_ESTAT_ILL e.val)
      | some 0 => s
      | some d0 =>
        let d := if s.on (R.POS_ECFG_DIR e.val) then -d0 else d0
        let cpr := s.get (R.POS_ECPR_CPR e.val)
        let m := if cpr = 0 then 2 ^ 24 else cpr
        let n := (((s.get (R.POS_ECNT_POSCNT e.val) : Nat) + d) % (m : Nat)).toNat
        (s.setEnc e.val { x with ab := ab, dcount := x.dcount + d, te := s.per }).put (R.POS_ECNT_POSCNT e.val) n)

/-- An encoder that is enabled starts with the land levels it has and times its first count from here (R145, R148; DESIGN CHOICE, assumption 12). -/
def State.encStart (s : State) (e : Nat) : State :=
  (s.setEnc e { ab := (s.enc e).ab, te := s.per, tePrev := s.per }).clear (R.POS_ESTAT_ZSEEN e)

/-- The circular difference of two counts modulo m. -/
def circDiff (a b m : Nat) : Nat :=
  if m = 0 then (if a ≤ b then b - a else a - b)
  else
    let d := (a + m - b % m) % m
    min d (m - d)

/-- ENCODER_Z: a rising Z edge; in a sample with a count, the count comes first (R146). -/
def execEncoderZ (e : Fin 2) (s : State) : Out :=
  .next (
    if !s.posRuns || !s.on (R.POS_ECFG_EN e.val) then s
    else
      let z := s.get (R.POS_EZPOS_ZPOS e.val)
      if !s.on (R.POS_ESTAT_ZSEEN e.val) then
        ((s.setEnc e.val { s.enc e.val with loaded := true }).put (R.POS_ECNT_POSCNT e.val) z).raise (R.POS_ESTAT_ZSEEN e.val)
      else
        let cpr := s.get (R.POS_ECPR_CPR e.val)
        let d := circDiff z (s.get (R.POS_ECNT_POSCNT e.val)) (if cpr = 0 then 2 ^ 24 else cpr)
        let s := if s.get (R.POS_ECFG_ZTOL e.val) < d then s.raise (R.POS_ESTAT_ZERR e.val) else s
        if s.on (R.POS_ECFG_ZRST e.val) then s.put (R.POS_ECNT_POSCNT e.val) z else s)

/-- PERCLK cycles in a second. -/
def perHz : Nat := 150000000

/-- The captured speed (R148); a count interval of zero length gives an open value (assumption 5). Counts since the last capture that cancel, a net dcount of 0, are taken as no counts (DESIGN CHOICE, assumption 12). -/
def State.capturedSpeed (s : State) (e : Nat) : Word × State :=
  let x := s.enc e
  let pp := s.get (R.POS_ECFG_PP e)
  let cpr := max 1 (s.get (R.POS_ECPR_CPR e))
  let prev := s.word (R.POS_ESPD_VALUE e)
  let now := s.per
  if x.dcount ≠ 0 then
    if x.te ≤ x.tePrev then
      let f := s.draw (2 ^ 32)
      (BitVec.ofNat 32 f.1, f.2)
    else ((Fp32.ofIntRat ((pp : Int) * x.dcount * perHz) (cpr * (x.te - x.tePrev))).v, s)
  else
    let zto := s.get (R.POS_EZTO_EZTO e)
    if zto ≠ 0 ∧ zto * 150 < now - x.te then (0#32, s)
    else if now ≤ x.te then (prev, s)
    else
      let lim := (Fp32.ofRat false (pp * perHz) (cpr * (now - x.te))).v
      if Fp32.lt lim (Fp32.abs prev).v then
        (if Fp32.lt prev 0#32 then (Fp32.neg lim).v else lim, s)
      else (prev, s)

/-- A capture of encoder e falls on the PERCLK edge of this cycle: the first at or after a turn match, or outside RUN every 1,500th (R148; the phase of the latter is the model's, assumption 12). -/
def State.captureDue (s : State) (e : Nat) : Bool :=
  s.posRuns && s.on (R.POS_ECFG_EN e) && decide (s.cycle % 4 = 0) && decide ((s.enc e).captured ≠ s.cycle + 1) &&
  (if s.dev = .run then s.pos.capture else decide (s.per % 1500 = 0))

/-- The capture; its result is registered 8 PERCLK cycles later (R148). -/
def State.speedCapture (s : State) (e : Nat) : State :=
  let r := s.capturedSpeed e
  let x := s.enc e
  r.2.setEnc e { x with dcount := 0, tePrev := x.te, spd := some (s.per + 8, r.1), captured := s.cycle + 1 }

/-- SPEED_CAPTURE (R148). -/
def execSpeedCapture (e : Fin 2) (s : State) : Out :=
  .next (if s.captureDue e.val then s.speedCapture e.val else s)

/-- A captured speed whose edge has come is registered, while the block runs (R140, R148). -/
def State.speedRegister (s : State) (e : Nat) : State :=
  match (s.enc e).spd with
  | some (d, v) => if d ≤ s.per ∧ s.posRuns = true then (s.setEnc e { s.enc e with spd := none }).put (R.POS_ESPD_VALUE e) v.toNat else s
  | none => s

/-! ## Hall sets (R150–R152) -/

/-- The code that follows `c` in the order of the HANG values. -/
def State.hallNext (s : State) (h c : Nat) : Nat :=
  let dist := fun k => (s.hang h k + 256 - s.hang h c) % 256
  ([1, 2, 3, 4, 5, 6].filter fun k => decide (k ≠ c)).foldl
    (fun best k => if best = 0 then k
      else if (if dist k = 0 then 256 else dist k) < (if dist best = 0 then 256 else dist best) then k else best) 0

/-- The boundary between two sectors in 1/512 revolution: the circular mean of their HANG values (R152). -/
def hallBoundary (a b : Nat) : Nat :=
  let d := (b + 256 - a) % 256
  if d ≤ 128 then (2 * a + d) % 512 else (2 * b + (256 - d)) % 512

/-- The encoder angle lies within HTOL/256 revolution of the boundary (R152). -/
def State.hallAgrees (s : State) (h last code : Nat) : Bool :=
  let a := s.encAngle h
  let bd := hallBoundary (s.hang h last) (s.hang h code)
  decide (circDiff (a.1 * 512) (bd * a.2) (512 * a.2) ≤ 2 * s.get (R.POS_HCFG_HTOL h) * a.2)

/-- The effect of a valid edge between adjacent sectors: speed and cross-check (R151, R152). -/
def State.hallStep (s : State) (h code : Nat) : State :=
  let x := s.hallSet h
  let up := decide (s.hallNext h x.last = code)
  let s := match x.tLast with
    | none => s
    | some t =>
      if s.per ≤ t then
        let f := s.draw (2 ^ 32)
        f.2.put (R.POS_HSPD_VALUE h) f.1
      else s.put (R.POS_HSPD_VALUE h) (Fp32.ofRat (!up) perHz (6 * (s.per - t))).v.toNat
  if s.on (R.POS_HCFG_PAIR h) && !s.hallAgrees h x.last code then
    (s.raise (R.POS_ESTAT_PLAUS h)).raise (R.POS_HSTAT_PLAUS h)
  else s

/-- The code `c` is sampled (R150–R152). A transition to a code that is not adjacent forms no speed and no cross-check; it is the start of the next interval (DESIGN CHOICE, assumption 12). -/
def State.hallTake (s : State) (h c : Nat) : State :=
  let s := s.put (R.POS_HSTAT_CODE h) c
  let x := { s.hallSet h with seen := some c }
  let s := s.setHall h x
  if c = 0 ∨ c = 7 then s.raise (R.POS_HSTAT_ILL h)
  else if x.last = 0 then s.setHall h { x with last := c }
  else if c = x.last then s
  else if s.hallNext h x.last = c ∨ s.hallNext h c = x.last then
    (s.hallStep h c).setHall h { x with last := c, tLast := some s.per }
  else (s.raise (R.POS_HSTAT_SKIP h)).setHall h { x with last := c, tLast := some s.per }

/-- The Hall set samples its lands. -/
def State.hallRuns (s : State) (h : Nat) : Bool := s.posRuns && s.on (R.POS_HCFG_EN h)

/-- HALL_EDGE: a change of the filtered code; a set that does not run notes the code its lands have (R150–R152). -/
def execHallEdge (h : Fin 2) (code : Fin 8) (s : State) : Out :=
  .next (
    let s := { s with pins := { s.pins with hall := Sparse.set none s.pins.hall h.val (some code.val) } }
    if s.hallRuns h.val then s.hallTake h.val code.val else s)

/-- A running set whose lands have a code it has not sampled, since EN rose or the block started again, samples it at the PERCLK edge (R150). -/
def State.hallSample (s : State) (h : Nat) : State :=
  match Sparse.get none s.pins.hall h with
  | some c => if s.hallRuns h && decide ((s.hallSet h).seen ≠ some c) then s.hallTake h c else s
  | none => s

/-- HZTO microseconds have passed since the last valid edge (R151). -/
def State.hallQuiet (s : State) (h : Nat) : Bool :=
  s.posRuns && s.on (R.POS_HCFG_EN h) && decide (s.get (R.POS_HZTO_HZTO h) ≠ 0) &&
  (match (s.hallSet h).tLast with
   | some t => decide (t + 150 * s.get (R.POS_HZTO_HZTO h) ≤ s.per)
   | none => true)

/-- HALL_TIMEOUT: HZTO without an edge (R151). -/
def execHallTimeout (h : Fin 2) (s : State) : Out :=
  .next (if s.hallQuiet h.val then s.clear (R.POS_HSPD_VALUE h.val) else s)

/-- A Hall set that is enabled has sampled nothing yet: no code and no edge yet, speed 0 (R150, R151). -/
def State.hallStart (s : State) (h : Nat) : State := (s.setHall h {}).clear (R.POS_HSPD_VALUE h)

/-! ## SENT (R153–R157) -/

/-- One nibble of the 4-bit J2716 checksum: multiply by x⁴ modulo x⁴ + x³ + x² + 1 (R155). -/
def sentCrcShift (c : Nat) : Nat :=
  let step := fun c => let d := 2 * c; if d < 16 then d else Nat.xor (d % 16) 13
  step (step (step (step c)))

/-- The checksum of the data nibbles, seed 0b0101; the recommended form augments a zero nibble (R155). -/
def sentCrc (recommended : Bool) (nibs : List Nat) : Nat :=
  let c := nibs.foldl (fun c n => Nat.xor (sentCrcShift c) n) 5
  if recommended then sentCrcShift c else c

/-- Three nibbles as a 12-bit value, most significant first; a missing nibble counts as 0 (assumption 12). -/
def nib3 (l : List Nat) (i : Nat) : Nat :=
  l.getD i 0 * 256 + l.getD (i + 1) 0 * 16 + l.getD (i + 2) 0

/-! ### Serial messages (R156): the layouts of SAE J2716 (PRESUMED, assumption 50) -/

/-- A number from its bits, most significant first. -/
def bitsBE (l : List Nat) : Nat := l.foldl (fun a b => 2 * a + b % 2) 0

/-- One bit of the 6-bit checksum x⁶ + x⁴ + x³ + 1. -/
def sentCrc6Bit (c b : Nat) : Nat :=
  let d := 2 * c + b
  if d < 64 then d else Nat.xor (d % 64) 0x19

/-- The 6-bit checksum of a bit list, seed 0b010101, augmented with six zeros. -/
def sentCrc6 (l : List Nat) : Nat := (l ++ [0, 0, 0, 0, 0, 0]).foldl sentCrc6Bit 0x15

/-- A short message: 16 frames whose bit 1 is 1 in the first alone; bit 0 carries a 4-bit identifier, 8 data bits and the 4-bit checksum. -/
def sentShort (mode : Bool) (l : List Nat) : Option (Nat × Nat × Nat) :=
  let b1 := l.map (· / 2 % 2)
  let b0 := l.map (· % 2)
  let id := bitsBE (b0.take 4)
  let data := bitsBE ((b0.drop 4).take 8)
  if l.length = 16 ∧ b1 = 1 :: List.replicate 15 0 ∧ sentCrc mode [id, data / 16, data % 16] = bitsBE (b0.drop 12) then
    some (id, 1, data)
  else none

/-- An enhanced message: 18 frames; bit 1 is 1 in the first six, 0 in the 7th, 13th and 18th, and carries the configuration bit in the 8th and identifier bits; bit 0 carries the 6-bit checksum and 12 data bits. -/
def sentLong (l : List Nat) : Option (Nat × Nat × Nat) :=
  let b1 := l.map (· / 2 % 2)
  let b0 := l.map (· % 2)
  let hi := bitsBE ((b1.drop 8).take 4)
  let lo := bitsBE ((b1.drop 13).take 4)
  let data := bitsBE (b0.drop 6)
  let body := ((b0.drop 6).zip (b1.drop 6)).flatMap fun p => [p.1, p.2]
  if l.length = 18 ∧ b1.take 7 = [1, 1, 1, 1, 1, 1, 0] ∧ b1.getD 12 1 = 0 ∧ b1.getD 17 1 = 0 ∧
      sentCrc6 body = bitsBE (b0.take 6) then
    some (if b1.getD 7 0 = 1 then (hi, 3, lo * 4096 + data) else (16 * hi + lo, 2, data))
  else none

/-- The serial message the latest good frame completes: identifier, type, data. CRCMODE selects the checksum form of the short message too (DESIGN CHOICE, assumption 12). -/
def sentMessage (mode : Bool) (slow : List Nat) : Option (Nat × Nat × Nat) :=
  match sentLong (slow.take 18).reverse with
  | some m => some m
  | none => sentShort mode (slow.take 16).reverse

/-- A good frame's data, status and serial message (R156, R157). STERR is formed here, with STMASK as it stands at the frame: a later write of STMASK does not form it anew (DESIGN CHOICE, assumption 12). -/
def State.sentGood (s : State) (j status : Nat) (nibs : List Nat) : State :=
  let x := s.sentCh j
  let slow := (status % 4 :: x.slow).take 18
  let s := s.setSent j { x with good := true, prevSync := x.sync, tGood := some s.cycle, stage := .afterCrc, nibs := [], slow := slow }
  let s := (s.clear (R.POS_SSTAT_CRCCNT j)).clear (R.POS_SSTAT_STALE j)
  let s := (s.put (R.POS_SDATA_STATUS j) status).put (R.POS_SDATA_FC1 j) (nib3 nibs 0)
  let s := if s.get (R.POS_SCFG_NIB j) = 6 then
      s.put (R.POS_SDATA_FC2 j)
        (if s.on (R.POS_SCFG_FC2REV j) then nib3 (nibs.drop 3).reverse 0 else nib3 nibs 3)
    else s
  let s := s.putB (R.POS_SSTAT_STERR j) (decide ((status / 4) &&& s.get (R.POS_SCFG_STMASK j) ≠ 0))
  match sentMessage (s.on (R.POS_SCFG_CRCMODE j)) slow with
  | none => s
  | some m => (((s.put (R.POS_SSLOW_ID j) m.1).put (R.POS_SSLOW_TYPE j) m.2.1).put
      (R.POS_SSLOW_DATA j) m.2.2).raise (R.POS_SSLOW_NEW j)

/-- A discarded frame: the channel looks for the next synchronisation pulse, and a serial message is broken off. -/
def State.sentDrop (s : State) (j : Nat) (st : SentStage) : State :=
  s.setSent j { s.sentCh j with stage := st, nibs := [], slow := [] }

/-- All nibbles of a frame are in: the checksum decides (R155). -/
def State.sentFinish (s : State) (j : Nat) (nibs : List Nat) : State :=
  let data := (nibs.drop 1).dropLast
  if sentCrc (s.on (R.POS_SCFG_CRCMODE j)) data ≠ nibs.getLastD 0 then
    ((s.sentDrop j .afterCrc).raise (R.POS_SSTAT_CRCERR j)).bumpSat (R.POS_SSTAT_CRCCNT j)
  else s.sentGood j (nibs.headD 0) data

/-- Half the distance rule |a − b| ≤ b/k. -/
def nearBy (k a b : Nat) : Bool := decide (k * (if a ≤ b then b - a else a - b) ≤ b)

/-- A pulse lies in the synchronisation window: its tick within ±20 % of TICK (R154). -/
def State.sentWindow (s : State) (j len : Nat) : Bool := nearBy 5 len (56000 * s.get (R.POS_STICK_TICK j))

/-- A pulse taken for a synchronisation pulse (R154). -/
def State.sentSync (s : State) (j len : Nat) : State :=
  let x := s.sentCh j
  if s.sentWindow j len && (decide (x.prevSync = 0) || nearBy 64 len x.prevSync) then
    s.setSent j { x with stage := .nibble, sync := len, nibs := [] }
  else (s.sentDrop j .hunt).raise (R.POS_SSTAT_SYNCERR j)

/-- One pulse of `len` × 0.1 ns, from falling edge to falling edge (R153). A pulse that fits no nibble ends the frame without a flag; after the CRC nibble one that is neither a synchronisation pulse nor a pause of 12 to 768 ticks raises SYNCERR, and the channel looks for the next synchronisation pulse (DESIGN CHOICE, assumption 12). -/
def State.sentPulse (j : Nat) (s : State) (len : Nat) : State :=
  let x := s.sentCh j
  let ticks := if x.sync = 0 then 0 else (112 * len + x.sync) / (2 * x.sync)
  match x.stage with
  | .hunt => if s.sentWindow j len then s.sentSync j len else s
  | .sync => s.sentSync j len
  | .afterCrc =>
    if s.sentWindow j len then s.sentSync j len
    else if 12 ≤ ticks ∧ ticks ≤ 768 then s.setSent j { x with stage := .sync }
    else (s.sentDrop j .hunt).raise (R.POS_SSTAT_SYNCERR j)
  | .nibble =>
    if 12 ≤ ticks ∧ ticks ≤ 27 then
      let nibs := x.nibs ++ [ticks - 12]
      if nibs.length = s.get (R.POS_SCFG_NIB j) + 2 then s.sentFinish j nibs
      else s.setSent j { x with nibs := nibs }
    else s.sentDrop j .hunt

/-- SENT_FRAME: the pulses of the land, each in 0.1 ns (R153–R157). -/
def execSentFrame (j : Fin 4) (pulses : List Nat) (s : State) : Out :=
  .next (if !s.posRuns || !s.on (R.POS_SCFG_EN j.val) then s else pulses.foldl (State.sentPulse j.val) s)

/-- The age since the last good frame is above AGEMAX microseconds (R157). -/
def State.sentStale (s : State) (j : Nat) : Bool :=
  decide (s.get (R.POS_SAGEMAX_AGEMAX j) ≠ 0) &&
  (match (s.sentCh j).tGood with
   | some t => decide (600 * s.get (R.POS_SAGEMAX_AGEMAX j) < s.cycle - t)
   | none => false)

/-- SENT_AGE_EXPIRY: the age exceeds AGEMAX (R157). -/
def execSentAgeExpiry (j : Fin 4) (s : State) : Out :=
  .next (if s.posRuns && s.on (R.POS_SCFG_EN j.val) && s.sentStale j.val then s.raise (R.POS_SSTAT_STALE j.val) else s)

/-! ## The PERCLK edge (R137, R138, R144, R148, R151, R157) -/

/-- What the sensors' timers bring at the PERCLK edge of this cycle, and the block held for POS.RD. -/
def State.perEdge (s : State) : State :=
  let s := s.each [0, 1] fun s e => if s.captureDue e then s.speedCapture e else s
  let s := { s with pos := { s.pos with capture := false } }
  let s := s.each [0, 1] fun s k =>
    let s := (s.speedRegister k).hallSample k
    let s := if s.hallQuiet k then s.clear (R.POS_HSPD_VALUE k) else s
    if s.noEstimate k then s.raise (R.POS_RXSTAT_NOEST k) else s
  let s := if s.posRuns then s.each [0, 1, 2, 3] fun s j =>
      if s.on (R.POS_SCFG_EN j) then s.putB (R.POS_SSTAT_STALE j) (s.sentStale j) else s
    else s
  { s with pos := { s.pos with heldPrior := s.pos.held, held := s.posNowHeld } }

/-- Clear the fields of a list whose mask bit is 1 (R12 W1C). -/
def State.w1c (s : State) (mask : Nat) (l : List Fld) : State :=
  l.foldl (fun s f => if mask.testBit f.lo then s.clear f else s) s

/-- POS_FLAG_CLEAR: a write of 1 clears a sensor's flag; validity follows its conditions (R23, R144, R149, R152, R157). -/
def execPosFlagClear (u : PosUnit) (mask : BitVec 8) (s : State) : Out :=
  .next (if !s.busUp then s else match u with
    | .res x => s.w1c mask.toNat [R.POS_RXSTAT_AMPF x.val, R.POS_RXSTAT_LOS x.val, R.POS_RXSTAT_NOEST x.val, R.POS_RXSTAT_EXCOC x.val]
    | .enc e => s.w1c mask.toNat [R.POS_ESTAT_ILL e.val, R.POS_ESTAT_ZERR e.val, R.POS_ESTAT_PLAUS e.val]
    | .hall h => s.w1c mask.toNat [R.POS_HSTAT_ILL h.val, R.POS_HSTAT_SKIP h.val, R.POS_HSTAT_PLAUS h.val]
    | .sent j => s.w1c mask.toNat [R.POS_SSTAT_CRCERR j.val, R.POS_SSTAT_SYNCERR j.val])

end Sys2Proof.Machine
end

