-- ==== Sys2Proof/Machine/Protect.lean ====
section
/-! DEFINITION. The Saggar's latches and decision (R253–R263), the OFF-channel symbol of each island (R238) and the island's output (R239), with the copies the loop block and the PWM receive (R262). `State.sync` brings all of it to the present inputs; every command that moves an input ends with it. -/

namespace Sys2Proof.Machine

open Sys2Proof

/-! ## Islands as seen by the Saggar -/

/-- A fault of the island is latched (R233). -/
def Isl.latched (x : Isl) : Bool := x.sc || x.dsat || x.uvcc || x.uvee || x.ot

/-- The back-channel fault of island i at the control die: no carrier comes from an island below 4 V; between 4 V and the rising thresholds the island asserts nothing of its own (R227, R240). -/
def State.backChannel (s : State) (i : Nat) : Bool :=
  !(s.island i).powered || (s.island i).latched ||
  (s.on (R.ISL_LSTAT_LOST i) && decide (s.dev = .run))

/-- An under-voltage condition is present: one monitor or the other reports it (R227). -/
def Isl.uvcond (x : Isl) : Bool := x.lowC || x.lowE

/-! ## Trip inputs -/

/-- The condition of input b of inverter v at its own filter (the comparators, nTRIP and shoot-through). -/
def State.cond (s : State) (v b : Nat) : Bool := s.sag.cond.testBit (32 * v + b)

/-- Set or clear an input's condition. -/
def State.setCond (s : State) (v b : Nat) (x : Bool) : State :=
  { s with sag := { s.sag with cond := setBit s.sag.cond (32 * v + b) x } }

/-! ## Comparators (R253, R254) -/

/-- The reference in µV: internal, or the VREF land (R112). -/
def State.vrefUv (s : State) : Nat := if s.on R.ADC_CTL_VREFSEL then s.pins.vref else 2500000

/-- A comparator with limits `lo` (0: none) and `hi` in codes of VREF / 4,096 on a land at `uv` µV: active beyond a limit, inactive once inside both by 16 codes, otherwise as it was (R254). -/
def comparator (vref uv lo hi : Nat) (was : Bool) : Bool :=
  let x := 4096 * uv
  if hi * vref < x ∨ (lo ≠ 0 ∧ x < lo * vref) then true
  else if x + 16 * vref ≤ hi * vref ∧ (lo = 0 ∨ (lo + 16) * vref ≤ x) then false
  else was

/-- The AIN land that comparator b of inverter v watches: AINc, or the one DCCFG selects (R253, R254). -/
def State.cmpLand (s : State) (v b : Nat) : Nat := if b < 12 then b else s.get (R.SAGGAR_DCCFG_AIN v)

/-- The limits of comparator b of inverter v; an upper limit beyond every code is none. -/
def State.cmpLimits (s : State) (v b : Nat) : Nat × Nat :=
  if b < 12 then (s.get (R.SAGGAR_CMPTH_LO b), s.get (R.SAGGAR_CMPTH_HI b))
  else if b = 18 then (0, s.get (R.SAGGAR_DCTH_OV v))
  else (s.get (R.SAGGAR_DCTH_UV v), 2 ^ 32)

/-- Judge comparator b of inverter v against its present limits and reference (R254). -/
def State.judge (s : State) (v b : Nat) : State :=
  let l := s.cmpLimits v b
  s.setCond v b (comparator s.vrefUv (Sparse.get 0 s.pins.ain (s.cmpLand v b)) l.1 l.2 (s.cond v b))

/-- Judge every comparator: the twelve phase comparators, kept with inverter A, and the two DC-link pairs (R253, R254). -/
def State.judgeAll (s : State) : State :=
  (s.each (List.range 12) fun s b => s.judge 0 b).each [0, 1] fun s v => (s.judge v 18).judge v 19

/-- Per-inverter fields of the Saggar. -/
def ssreq (v : Nat) : Fld := if v = 0 then R.SAGGAR_REQ_SSREQA else R.SAGGAR_REQ_SSREQB
def pinEn (v : Nat) : Fld := if v = 0 then R.SAGGAR_PINCFG_ENA else R.SAGGAR_PINCFG_ENB
def pinRoute (v : Nat) : Fld := if v = 0 then R.SAGGAR_PINCFG_ROUTEA else R.SAGGAR_PINCFG_ROUTEB
def presel (v : Nat) : Fld := if v = 0 then R.SAGGAR_PRESEL_A else R.SAGGAR_PRESEL_B
def sagDefault (v : Nat) : Fld := if v = 0 then R.SAGGAR_DEFAULT_A else R.SAGGAR_DEFAULT_B

/-- A comparator of inverter w's DC link, enabled, is active (R254, R255). -/
def State.dcActive (s : State) (w b : Nat) : Bool :=
  s.cond w b && (if b = 18 then s.on (R.SAGGAR_DCCFG_OVEN w)
                 else s.on (R.SAGGAR_DCCFG_UVEN w) && decide (s.get (R.SAGGAR_DCTH_UV w) ≠ 0))

/-- A loop of inverter v has FBL set: the request of the loop block (R173). -/
def State.fbRequest (s : State) (v : Nat) : Bool :=
  (List.range 8).any fun l => decide (s.loopInv l = v) && s.on (R.LOOP_LSTAT_FBL l)

/-- Input b routed to inverter v is active (R253–R255). -/
def State.active (s : State) (v b : Nat) : Bool :=
  let w := 1 - v
  if b < 12 then s.cond 0 b && (s.get (R.SAGGAR_CMPCFG_INV b)).testBit v
  else if b < 18 then
    let i := 6 * v + (b - 12)
    !s.legUnused (legOfIsl i) && s.backChannel i
  else if b < 20 then
    s.dcActive v b || (decide (w < s.nInv) && s.on (R.SAGGAR_DCCFG_SHARE w) && s.dcActive w b)
  else if b = 20 then
    (s.cond v 20 && s.on (pinEn v)) || (s.cond w 20 && s.on (pinEn w) && s.on (pinRoute w))
  else if b = 21 then s.on (ssreq v)
  else if b = 22 then decide (s.dev = .run) && s.fbRequest v
  else if b = 23 then decide (s.dev = .run) && s.cond v 23
  else if b = 24 then decide (s.dev = .run) && s.cond 0 24
  else if b = 25 then s.cond 0 25
  else if b = 26 then decide (s.get R.SYS_SUPSTAT_WIN % 256 ≠ 0)
  else if b = 27 then s.on R.CONE_STAT_LSERR
  else false

/-- The live inputs of inverter v as a vector (R256 ACTIVE). -/
def State.activeVec (s : State) (v : Nat) : Nat := bitsOf 29 (s.active v)

/-- The states in which the Saggar's inputs act (R255). -/
def State.sagActs (s : State) : Bool :=
  match s.dev with
  | .ready => true
  | .run => true
  | .safeHold => true
  | .banked => true
  | _ => false

/-- The latch of inverter v: the OR of its input latches (R256). -/
def State.latched (s : State) (v : Nat) : Bool := decide (s.get (R.SAGGAR_LATCH_INPUTS v) ≠ 0)

/-- The Saggar applies its safe state to inverter v (R257, R43). -/
def State.safeApplied (s : State) (v : Nat) : Bool :=
  decide (v < s.nInv) && ((s.sagActs && s.latched v) || decide (s.dev = .safeHold))

/-! ## The decision (R258) -/

/-- The preselection is stale (R259). -/
def State.stale (s : State) : Bool := s.on R.SAGGAR_STAT_PRESTALE

/-- Base state: 0 PI, 1 ASC_LOW, 2 ASC_HIGH (R258 step 1). -/
def State.sagBase (s : State) (v : Nat) : Nat :=
  if s.stale then s.get (sagDefault v) else s.get (presel v)

/-- A high-side, a low-side island input of v is latched (R258 step 2). -/
def State.sagFH (s : State) (v : Nat) : Bool :=
  let m := s.get (R.SAGGAR_LATCH_INPUTS v)
  m.testBit 12 || m.testBit 14 || m.testBit 16
def State.sagFL (s : State) (v : Nat) : Bool :=
  let m := s.get (R.SAGGAR_LATCH_INPUTS v)
  m.testBit 13 || m.testBit 15 || m.testBit 17

/-- The side rule (R258). -/
def sideRule (base : Nat) (fh fl : Bool) : Nat :=
  if fh && fl then 0
  else if base = 0 then 0
  else if fh then 2
  else if fl then 1
  else base

/-- The decision for inverter v (R258). -/
def State.decision (s : State) (v : Nat) : Nat := sideRule (s.sagBase v) (s.sagFH v) (s.sagFL v)

/-- The discharge request to SO3 (R275). -/
def State.dreq (s : State) : Bool := s.sag.dlatch || s.on R.SAGGAR_REQ_DISCH

/-! ## OFF-channel symbols (R238) -/

/-- EN of inverter v as filtered (R234). -/
def State.en (s : State) (v : Nat) : Bool := if v = 0 then s.pins.enA else s.pins.enB

/-- The safe state of v turns island i on (R257). -/
def State.safeTurnsOn (s : State) (i : Nat) : Bool :=
  let d := s.decision (invOfIsl i)
  (decide (d = 1) && !isHigh i) || (decide (d = 2) && isHigh i)

/-- The symbol the control die sends island i: the first row of R238 that applies. -/
def State.symbol (s : State) (i : Nat) : OffSym :=
  if s.pins.noVsys then .noCarrier
  else if !s.en (invOfIsl i) then .enoff
  else if s.dev = .off then .handoff
  else if s.legUnused (legOfIsl i) then .safeOff
  else if s.safeApplied (invOfIsl i) then (if s.safeTurnsOn i then .safeOn else .safeOff)
  else if s.dev = .run then .run
  else .safeOff

/-! ## Island output (R239) -/

/-- The row of R239 that governs an island (6 only for ASC_LOW of a low side, a link-loss PI counting as row 7: off). -/
def Isl.row (x : Isl) (high : Bool) : Nat :=
  if !x.powered then 1
  else if x.soft || x.latched || x.uvcond then 2
  else match x.sym with
    | .enoff => 3
    | .safeOff => 4
    | .safeOn => 5
    | sy =>
      if x.lost then (if x.llAsc && !high then 6 else 7)
      else match sy with
        | .run => 8
        | _ => 7

/-- The island turns its output off, in two levels where enabled (R221, R239); a turn-off outside row 8 gives no valid transition (R249). -/
def Isl.turnOff (x : Isl) : Isl :=
  { x with
    out := false, ascWait := false, plateau := x.plateau || (x.out && x.cfg.tlto && !x.soft),
    offMark := if x.out || x.latched then none else x.offMark }

/-- The island's output after its inputs moved from `old` to `x`: off rows turn it off; SAFE_ON and a link-loss ASC_LOW keep an island that is on and let any other wait ASCDT; on a return to the edge channel only a new ON edge turns it on (R236, R239). -/
def Isl.settle (old x : Isl) (high : Bool) : Isl :=
  let r := x.row high
  if r = 1 then { x with out := false, plateau := false, soft := false, ascWait := false, follow := false }
  else if r = 5 ∨ r = 6 then
    if x.out then { x with ascWait := false, follow := false }
    else if old.row high ≠ r then { x with ascWait := true, follow := false }
    else x
  else if r = 8 then
    if old.row high = 8 then x
    else if x.out && x.edge then { x with ascWait := false, follow := true }
    else { x.turnOff with follow := false }
  else { x.turnOff with follow := false }

/-- Put an island whose output may have moved: a turn-on starts in this cycle and releases CLMP (R219, R229). -/
def State.putIsl (s : State) (i : Nat) (x : Isl) : State :=
  s.setIsland i (if x.out && !(s.island i).out then { x with onAt := s.cycle, clmp := false } else x)

/-- Change an island and bring its output to its inputs. -/
def State.modIsl (s : State) (i : Nat) (f : Isl → Isl) : State :=
  let old := s.island i
  s.putIsl i (Isl.settle old (f old) (isHigh i))

/-! ## What the island drives (R219–R222) -/

/-- The sink at OUTL (R219–R222): none, the passive 10 kΩ to KS, full, at ISOFT, or holding the gate at VTLTO. -/
inductive Sink where
  | none | passive | full | soft | level
  deriving DecidableEq, Repr

/-- CLMP (R219, R220, R222): released, engaged, or engaged once V(CLMP) − V(VEE2) is below 2.0 V. -/
inductive Clamp where
  | released | engaged | low
  deriving DecidableEq, Repr

/-- OUTH drives VCC2, what OUTL sinks, and CLMP. -/
structure Drive where
  outh : Bool
  outl : Sink
  clmp : Clamp
  deriving DecidableEq, Repr

/-- The drive of an island (R219–R222). -/
def Isl.drive (x : Isl) : Drive :=
  if !x.powered then ⟨false, .passive, .released⟩
  else if x.out then ⟨true, .none, .released⟩
  else if x.soft then ⟨false, .soft, .released⟩
  else if x.clmp || !x.suprdy then ⟨false, .full, .engaged⟩
  else if x.plateau then ⟨false, .level, .low⟩
  else ⟨false, .full, .low⟩

/-- Send island i its symbol (R238). A powered island always receives one. -/
def State.sendSymbol (s : State) (i : Nat) : State :=
  let sy := s.symbol i
  if (s.island i).sym = sy then s else s.modIsl i fun x => { x with sym := sy }

/-- An edge on the edge channel of island i; a turn-off under row 8 is the start of a transition that may be measured (R236, R239 row 8, R249). -/
def State.edgeTo (s : State) (i : Nat) (on : Bool) : State :=
  let x := s.island i
  if x.edge = on then s
  else if x.row (isHigh i) = 8 then
    if on then s.putIsl i { x with edge := true, follow := true, out := !x.plateau || x.out }
    else s.putIsl i { x.turnOff with
      edge := false, follow := false, offMark := if x.out then some (s.gen (legOfIsl i)).upset else x.offMark }
  else s.putIsl i { x with edge := on }

/-! ## Copies to the loop block and the PWM (R262) -/

/-- A safe state, a protective turn-off or the end of RUN: no edge before it gives an accepted measurement (R205). -/
def State.upsetLeg (s : State) (n : Nat) : State := s.setGen n { s.gen n with upset := (s.gen n).upset + 1 }

/-- A Saggar safe state newly applied: pending turn-ons are cancelled and the dead-time blocks reset or discarded (R203, R205, R207). -/
def State.pwmTrip (s : State) (v : Nat) : State :=
  s.each [3 * v, 3 * v + 1, 3 * v + 2] fun s n =>
    let g := s.gen n
    let g := { g with pendH := false, pendL := false, cancH := g.cancH || g.pendH, cancL := g.cancL || g.pendL, sumR := 0, cntR := 0, sumF := 0, cntF := 0, upset := g.upset + 1 }
    if s.on (R.PWM_DTCFG_RSTTRIP n) then
      let i := s.get (R.PWM_DTINIT_INIT n)
      ((((s.setGen n { g with newR := none, newF := none }).put (R.PWM_DTACT_DTR n) i).put
        (R.PWM_DTACT_DTF n) i).clear (R.PWM_GSTAT_VALIDR n)).clear (R.PWM_GSTAT_VALIDF n)
    else s.setGen n g

/-- The safe state of v is released: a turn-on it cancelled that is still commanded waits its full dead time from now (R203, R263). -/
def State.pwmRelease (s : State) (v : Nat) : State :=
  s.each [3 * v, 3 * v + 1, 3 * v + 2] fun s n =>
    let g := s.gen n
    s.setGen n { g with
      pendH := g.pendH || g.cancH, pendL := g.pendL || g.cancL, cancH := false, cancL := false,
      offH := if g.cancL then s.fine else g.offH, offL := if g.cancH then s.fine else g.offL }

/-- A forced cause present for the loops of v since the last TURN_START (R160). -/
def State.forceLoops (s : State) (v : Nat) : State :=
  s.each (below 8 fun l => decide (s.loopInv l = v)) fun s l => s.setLoop l { s.loop l with forced := true }

/-! ## Bringing the Saggar to its inputs -/

/-- FIRST and TRIPTS at the next TSCLK edge: every latch set by then (R256). -/
def State.captureFirst (s : State) (v : Nat) : State :=
  let t := s.tsc + 1
  if !s.latched v then s
  else if s.dev = .banked then s
  else match Sparse.get none s.sag.firstAt v with
    | none =>
      let s := { s with sag := { s.sag with firstAt := Sparse.set none s.sag.firstAt v (some t) } }
      (s.put (R.SAGGAR_FIRST_INPUTS v) (s.get (R.SAGGAR_LATCH_INPUTS v))).put (R.SAGGAR_TRIPTS_TSC v) t
    | some t0 => if t0 = t then s.put (R.SAGGAR_FIRST_INPUTS v) (s.get (R.SAGGAR_LATCH_INPUTS v)) else s

/-- Set input latches of inverter v: the discharge latch with a masked one newly set, and the copies of a new trip (R253, R256, R262, R275). -/
def State.latchBits (s : State) (v bits : Nat) : State :=
  let old := s.get (R.SAGGAR_LATCH_INPUTS v)
  let new := old ||| bits
  let fresh := bitsOf 29 fun b => new.testBit b && !old.testBit b
  let s := s.put (R.SAGGAR_LATCH_INPUTS v) new
  let s := if fresh &&& s.get R.SAGGAR_DISCHMASK_MASK ≠ 0
    then { s with sag := { s.sag with dlatch := true } } else s
  let s := if old = 0 ∧ new ≠ 0 then s.pwmTrip v else s
  let s := if fresh ≠ 0 then s.fire 8 else s
  let s := if new ≠ 0 ∧ s.dev = .run then s.forceLoops v else s
  s.captureFirst v

/-- Set the latches of inverter v whose inputs are active (R253, R255). -/
def State.latchInputs (s : State) (v : Nat) : State := s.latchBits v (s.activeVec v)

/-- Hold every latch clear (R255). -/
def State.holdClear (s : State) : State :=
  let s := (s.clear (R.SAGGAR_LATCH_INPUTS 0)).clear (R.SAGGAR_LATCH_INPUTS 1)
  { s with sag := { s.sag with dlatch := false, firstAt := [] } }

/-- The discharge start follows the discharge request (R276). -/
def State.dischStart (s : State) : State :=
  if s.dreq then
    (match s.cone.disAt with
     | none => ({ s with cone := { s.cone with disAt := some s.cycle, disSlow := false } }.clear R.CONE_DISCH_DONE)
     | some _ => s)
  else { s with cone := { s.cone with disAt := none } }

/-- Bring the Saggar's comparators and latches to the present inputs. -/
def State.sagSync (s : State) : State :=
  let s := s.judgeAll
  if s.sagActs then (s.each (List.range s.nInv) State.latchInputs).dischStart
  else s.holdClear.dischStart

/-- Bring latches, symbols and island outputs to the present inputs. -/
def State.sync (s : State) : State :=
  s.sagSync.each (List.range s.nIsl) State.sendSymbol

end Sys2Proof.Machine
end

