-- ==== Sys2Proof/Machine/Loops.lean ====
section
/-! DEFINITION. Loops, the open hold, the coefficient lock, set-point ramps and the RCU (R159–R188). -/

namespace Sys2Proof.Machine

open Sys2Proof

/-! ## Loop states (R160) -/

/-- Loop l enters a state: 0 OPEN, 1 CLOSING, 2 CLOSED, 3 OPENING (R160, R166). -/
def State.enterLoop (s : State) (l code : Nat) (forced : Bool) : State :=
  ((s.setLoop l { s.loop l with age := 0, cnt := 0, meas := false, fresh := decide (code = 2) }).put
    (R.LOOP_LSTAT_STATE l) code).putB (R.LOOP_LSTAT_FORCED l) forced

/-- Every loop is OPEN (R41). -/
def State.allOpen (s : State) : Bool := (List.range 8).all fun l => decide (s.loopState l = 0)

/-- Loop l is in CLOSING or CLOSED. -/
def State.closedSide (s : State) (l : Nat) : Bool :=
  decide (s.loopState l = 1) || decide (s.loopState l = 2)

/-! ## Feedback loss (R172, R173) -/

/-- The first converter, ΣΔ channel or POS source that makes the condition true: cause and index (R172). -/
def State.fbSource (s : State) (l : Nat) : Option (Nat × Nat) :=
  match below 16 fun k => s.bit (R.LOOP_FBADC_ADC l) k && s.bit R.ADC_FLAG_STUCK k with
  | k :: _ => some (1, k)
  | [] =>
    match below 6 fun j => s.bit (R.LOOP_FBADC_SD l) j && s.on (R.ADC_SDSTAT_STUCK j) with
    | j :: _ => some (2, j)
    | [] =>
      match below 20 fun p => s.bit (R.LOOP_FBPOS_SRC l) p && !s.posValid p with
      | p :: _ => some (3, p)
      | [] => none

/-- The feedback-loss condition, its cause and the index of its source (R172, R173). The Wheel's declaration, cause 4, has no source: its index is captured as 0 (DESIGN CHOICE, assumption 13). -/
def State.fbCond (s : State) (l : Nat) : Option (Nat × Nat) :=
  match s.fbSource l with
  | some c => some c
  | none => if (s.loop l).declared then some (4, 0) else none

/-- The condition of loop l in this cycle: in CLOSING or CLOSED it sets FBL and captures the first event (R173). -/
def State.fbTake (s : State) (l : Nat) : State :=
  if s.dev = .run ∧ s.closedSide l ∧ !s.on (R.LOOP_LSTAT_FBL l) then
    match s.fbCond l with
    | none => s
    | some (c, src) =>
      let s := ((s.raise (R.LOOP_LSTAT_FBL l)).put (R.LOOP_LSTAT_FBCAUSE l) c).put (R.LOOP_LSTAT_FBSRC l) src
      let s := s.put (R.LOOP_FBTS_TSC l) s.tsc
      s.setLoop l { s.loop l with forced := true }
  else s

/-- The condition is evaluated for every loop (R172). -/
def State.fbScan (s : State) : State := (s.each (List.range 8) State.fbTake).sync

/-- FEEDBACK_LOSS: the condition of loop l becomes true (R173). -/
def execFeedbackLoss (l : Fin 8) (s : State) : Out := .next (s.fbTake l.val).sync

/-- FBL_CLEAR: ignored while a source keeps the condition true; the declaration ends with FBL (R172, R174, assumption 13). -/
def execFblClear (l : Fin 8) (s : State) : Out :=
  .next (
    if !s.busUp then s
    else if s.dev = .safeHold then s
    else if (s.fbSource l.val).isSome then s
    else ((s.clear (R.LOOP_LSTAT_FBL l.val)).setLoop l.val { s.loop l.val with declared := false }).sync)

/-! ## LOOP.CMD and LOOP.MEAS (R163–R165) -/

/-- The refusal code of a CLOSE, 0 where it is accepted (R163). Where several conditions hold, the lowest code is written: the spec gives its table no order (DESIGN CHOICE, assumption 13). -/
def State.closeRefusal (s : State) (l : Nat) : Nat :=
  if !s.on (R.LOOP_CFG_EN l) then 1
  else if s.loopState l ≠ 0 then 2
  else if s.safeApplied (s.loopInv l) then 3
  else if (s.fbCond l).isSome then 4
  else if s.stopping then 5
  else if !s.en (s.loopInv l) then 7
  else 0

/-- A LOOP.CMD taken: 1 CLOSE, 2 OPEN, 3 FBLOSS (R160, R164); outside RUN it has no effect (R159). -/
def State.loopCmdTake (s : State) (l cmd : Nat) : State :=
  if s.dev ≠ .run then s
  else match cmd with
  | 1 =>
    let r := s.closeRefusal l
    if r = 0 then s.enterLoop l 1 false
    else (s.put (R.LOOP_LSTAT_REJ l) r).raise R.LOOP_STAT_CMDREJ
  | 2 => if s.closedSide l then s.enterLoop l 3 false else s
  | 3 =>
    if s.closedSide l then ((s.setLoop l { s.loop l with declared := true }).fbTake l).sync else s
  | _ => s

/-- An X operand that is NaN or infinite is discarded at its target (R72). -/
def State.nanDrop (s : State) : State := (s.raise R.WHEEL_XSTAT_NANDROP).bumpSat R.WHEEL_NANDROPCNT_COUNT

/-- A LOOP.MEAS taken (R165, R72). -/
def State.loopMeasTake (s : State) (l : Nat) (v : Word) : State :=
  if Fp32.notFinite v then s.nanDrop
  else (s.put (R.LOOP_MEASV_VALUE l) v.toNat).setLoop l { s.loop l with meas := true }

/-- The word LOOP.RD returns (R166). -/
def State.loopWord (s : State) (l : Nat) : Word :=
  let x := s.loop l
  BitVec.ofNat 32 (min x.age 0xFFFF * 0x10000 + s.get (R.LOOP_LSTAT_REJ l) * 0x100
    + (if s.stopping then 0x80 else 0) + (if x.fresh then 0x40 else 0)
    + s.get (R.LOOP_INVCFG_HOLD (s.loopInv l)) * 0x20 + s.get (R.LOOP_LSTAT_FBL l) * 0x10
    + (if s.safeApplied (s.loopInv l) then 8 else 0) + s.get (R.LOOP_LSTAT_FORCED l) * 4 + s.loopState l)

/-! ## Ramps (R175–R179) -/

/-- clamp(x, TMIN, TMAX) of unit u, and whether it moved the value (R176). -/
def State.rampClamp (s : State) (u : Nat) (x : Word) : Word × Bool :=
  let lo := s.word (R.LOOP_RTMIN_VALUE u)
  let hi := s.word (R.LOOP_RTMAX_VALUE u)
  if Fp32.lt x lo then (lo, true) else if Fp32.lt hi x then (hi, true) else (x, false)

/-- A RAMP.TGT taken (R176, R72). -/
def State.rampTgtTake (s : State) (u : Nat) (v : Word) : State :=
  if Fp32.notFinite v then s.nanDrop
  else
    let c := s.rampClamp u v
    let s := s.put (R.LOOP_RTGT_VALUE u) c.1.toNat
    if c.2 then s.raise (R.LOOP_RSTAT_TCLAMP u) else s

/-- One step of a ramp output (R177). -/
def rampNext (out tgt rise fall : Word) : Word :=
  let d := (Fp32.sub tgt out).v
  if Fp32.lt 0#32 d then (if Fp32.le d rise then tgt else (Fp32.add out rise).v)
  else if Fp32.lt d 0#32 then (if Fp32.le (Fp32.neg d).v fall then tgt else (Fp32.sub out fall).v)
  else out

/-- The ramp steps at TURN_START: an unbound unit, or one whose loop is CLOSED (R177 ACTIVE). -/
def State.rampActive (s : State) (u : Nat) : Bool :=
  decide (s.dev = .run) &&
  (!s.on (R.LOOP_RCFG_BOUND u) || decide (s.loopState (s.get (R.LOOP_RCFG_LOOPSEL u)) = 2))

/-- Step 6 of R162 for one unit (R177, R178). -/
def State.rampTurn (s : State) (u : Nat) : State :=
  let l := s.get (R.LOOP_RCFG_LOOPSEL u)
  if s.on (R.LOOP_RCFG_BOUND u) && (s.loop l).fresh then
    let seed := s.word (R.LOOP_SEED_VALUE l)
    let s' := s.put (R.LOOP_ROUT_VALUE u) seed.toNat
    if (s.rampClamp u seed).2 then s'.raise (R.LOOP_RSTAT_SEEDOUT u) else s'
  else if s.rampActive u then
    s.put (R.LOOP_ROUT_VALUE u)
      (rampNext (s.word (R.LOOP_ROUT_VALUE u)) (s.rampClamp u (s.word (R.LOOP_RTGT_VALUE u))).1
        (s.word (R.LOOP_RRISE_VALUE u)) (s.word (R.LOOP_RFALL_VALUE u))).toNat
  else s

/-- The output equals the clamped target (R178 ATTGT). -/
def State.rampAtTgt (s : State) (u : Nat) : Bool :=
  Fp32.eq (s.word (R.LOOP_ROUT_VALUE u)) (s.rampClamp u (s.word (R.LOOP_RTGT_VALUE u))).1

/-- Held away from its target by a zero slope (R178 FROZEN). -/
def State.rampFrozen (s : State) (u : Nat) : Bool :=
  let out := s.word (R.LOOP_ROUT_VALUE u)
  let tgt := (s.rampClamp u (s.word (R.LOOP_RTGT_VALUE u))).1
  s.rampActive u &&
  ((Fp32.lt out tgt && Fp32.eq (s.word (R.LOOP_RRISE_VALUE u)) 0#32) ||
   (Fp32.lt tgt out && Fp32.eq (s.word (R.LOOP_RFALL_VALUE u)) 0#32))

/-- RUN entry: output and target of each unit are clamp(0.0, TMIN, TMAX) (R179). -/
def State.rampRunEntry (s : State) : State :=
  s.each (List.range 8) fun s u =>
    let z := (s.rampClamp u 0#32).1.toNat
    (s.put (R.LOOP_ROUT_VALUE u) z).put (R.LOOP_RTGT_VALUE u) z

/-! ## The open hold (R167) -/

/-- Inverter v is held: an enabled current loop of it is OPEN, in RUN (R167). -/
def State.holdCond (s : State) (v : Nat) : Bool :=
  decide (s.dev = .run) &&
  (List.range 8).any fun l => s.on (R.LOOP_CFG_EN l) && decide (s.get (R.LOOP_CFG_TYPE l) = 1) &&
    decide (s.loopInv l = v) && decide (s.loopState l = 0)

/-- Evaluate the hold of both inverters (R167). -/
def State.holdEval (s : State) : State :=
  (s.putB (R.LOOP_INVCFG_HOLD 0) (s.holdCond 0)).putB (R.LOOP_INVCFG_HOLD 1) (s.holdCond 1)

/-! ## TURN_START in the loop block (R162) -/

/-- Turns since the last change advance; the entry TURN_START does not count (R161, R166). -/
def State.loopTick (s : State) (l : Nat) : State :=
  let x := s.loop l
  s.setLoop l { x with age := min (x.age + 1) 0xFFFF, cnt := x.cnt + 1, fresh := false }

/-- Step 1: OPENING complete (R161). -/
def State.loopStep1 (s : State) (l : Nat) : State :=
  if s.loopState l = 3 ∧
      (if s.on (R.LOOP_LSTAT_FORCED l) then 1 else s.get (R.LOOP_CFG_OPENN l) + 1) ≤ (s.loop l).cnt
  then s.enterLoop l 0 false else s

/-- A forced cause in any cycle since the previous TURN_START (R160). -/
def State.forcedCause (s : State) (l : Nat) : Bool :=
  (s.loop l).forced || s.safeApplied (s.loopInv l) || s.on (R.LOOP_LSTAT_FBL l)

/-- Step 2: forced OPENING (R162). -/
def State.loopStep2 (s : State) (l : Nat) : State :=
  let st := s.loopState l
  let s := if s.forcedCause l && (s.closedSide l || (decide (st = 3) && !s.on (R.LOOP_LSTAT_FORCED l)))
    then s.enterLoop l 3 true else s
  s.setLoop l { s.loop l with forced := false }

/-- Step 3: a stop request (R162). -/
def State.loopStep3 (s : State) (l : Nat) : State :=
  if s.stopping && s.closedSide l then s.enterLoop l 3 false else s

/-- Step 4: CLOSING complete (R160–R162, R177). -/
def State.loopStep4 (s : State) (l : Nat) : State :=
  if s.loopState l = 1 ∧ s.get (R.LOOP_CFG_CLOSEN l) + 1 ≤ (s.loop l).cnt then
    if (s.loop l).meas then
      (s.enterLoop l 2 false).put (R.LOOP_SEED_VALUE l) (s.get (R.LOOP_MEASV_VALUE l))
    else (s.enterLoop l 0 false).put (R.LOOP_LSTAT_REJ l) 6
  else s

/-- The order of R162. -/
def State.loopTurnStart (s : State) : State :=
  let ls := List.range 8
  let s := s.each ls State.loopTick
  let s := s.each ls State.loopStep1
  let s := s.each ls State.loopStep2
  let s := s.each ls State.loopStep3
  let s := s.each ls State.loopStep4
  let s := s.holdEval
  let s := s.each ls State.rampTurn
  { s with rcu := { s.rcu with angle := [] } }

/-- Every loop enters OPEN in this cycle: RUN entry, SAFE_HOLD entry, forced stop (R160). -/
def State.loopsForceOpen (s : State) : State :=
  s.each (List.range 8) fun s l => s.enterLoop l 0 false

/-- RUN entry in the loop block (R160, R167, R179, R183). -/
def State.loopsRunEntry (s : State) : State :=
  let s := s.each (List.range 8) fun s l =>
    (s.enterLoop l 0 false).setLoop l {}
  let s := s.rampRunEntry
  let s := { s with rcu := { s.rcu with angle := [] } }
  let s := s.each (List.range 8) fun s c => (s.clear (R.RCU_CNT_FRZCNT c)).clear (R.RCU_CNT_LRNCNT c)
  s.holdEval

/-- Leaving RUN: every loop reads OPEN and no inverter is held (R159, R167). -/
def State.loopsLeaveRun (s : State) : State := s.loopsForceOpen.holdEval

/-! ## Coefficient lock (R169–R171) -/

/-- Coefficient word `a` lies in the region of loop l (R169). -/
def State.inRegion (s : State) (l a : Nat) : Bool :=
  let b := s.get (R.LOOP_CREG_BASE l)
  decide (b ≤ a) && decide (a < b + s.get (R.LOOP_CREG_LEN l))

/-- A write of coefficient word `a` is accepted (R170, R171). -/
def State.coefOpen (s : State) (a : Nat) : Bool :=
  match below 8 fun l => s.inRegion l a with
  | [] => decide (s.dev = .ready)
  | l :: _ => decide (s.loopState l = 0) && decide (s.dev ≠ .safeHold)

/-- CWDATA_WRITE (R170): accepted or discarded with COEF_REJ, and CWADDR advances either way, in SAFE_HOLD as elsewhere. -/
def execCwdataWrite (v : Word) (s : State) : Out :=
  .next (
    if !s.busUp then s
    else
      let a := s.get R.LOOP_CWADDR_ADDR
      let s := if s.coefOpen a then
          { s with mem := { s.mem with cmem := Sparse.set 0#32 s.mem.cmem a v, cerr := Sparse.set 0 s.mem.cerr a 0 } }
        else s.raise R.LOOP_STAT_COEF_REJ
      if s.on R.LOOP_CWADDR_AINC then s.put R.LOOP_CWADDR_ADDR (a + 1) else s)

/-- A region is accepted: within the memory and apart from every other (R169). -/
def State.cregOk (s : State) (l base len : Nat) : Bool :=
  decide (base + len ≤ 16384) &&
  (List.range 8).all fun k => decide (k = l) || decide (len = 0) ||
    (let b := s.get (R.LOOP_CREG_BASE k)
     let n := s.get (R.LOOP_CREG_LEN k)
     decide (n = 0) || decide (base + len ≤ b) || decide (b + n ≤ base))

/-- A ramp binding is accepted: no other unit is bound to the loop (R175). -/
def State.rcfgOk (s : State) (u : Nat) (bound : Bool) (l : Nat) : Bool :=
  !bound || (List.range 8).all fun k => decide (k = u) || !s.on (R.LOOP_RCFG_BOUND k) ||
    decide (s.get (R.LOOP_RCFG_LOOPSEL k) ≠ l)

/-- A subnormal pattern. -/
def isSubnormal (w : Word) : Bool :=
  decide (w.toNat / 0x800000 % 256 = 0) && decide (w.toNat % 0x800000 ≠ 0)

/-- A finite, normal or zero value (R175, R184). -/
def plainFinite (w : Word) : Bool := !Fp32.notFinite w && !isSubnormal w

/-! ## RCU (R180–R186) -/

/-- Key of a bin. -/
def rcuKey (ch bin : Nat) : Nat := 2048 * ch + bin

/-- A bin as RCU.RD and RCU.LRN use it: corrected, or 0.0 rewritten with UE for a double-bit error (R186). -/
def State.rcuBin (s : State) (ch bin : Nat) : Word × State :=
  let k := rcuKey ch bin
  let r := s.eccRead (Sparse.get 0#32 s.rcu.tab k) (Sparse.get 0 s.rcu.err k)
  match r.1 with
  | some (v, _) => (v, r.2)
  | none =>
    (0#32, { r.2 with rcu := { r.2.rcu with tab := Sparse.set 0#32 r.2.rcu.tab k 0#32, err := Sparse.set 0 r.2.rcu.err k 0 } }.raise R.RCU_STAT_UE)

/-- Write a bin; the written word carries good code. -/
def State.rcuStore (s : State) (ch bin : Nat) (v : Word) : State :=
  let k := rcuKey ch bin
  { s with rcu := { s.rcu with tab := Sparse.set 0#32 s.rcu.tab k v, err := Sparse.set 0 s.rcu.err k 0 } }

/-- x = θ − floor(θ), rounded (R181). -/
def rcuFrac (theta : Word) : Option Word :=
  match qWord theta with
  | none => none
  | some q => some (qPack (qSub q (qInt (qFloor q))))

/-- The bin kL of a learning angle (R182). -/
def rcuLearnBin (x : Word) : Nat :=
  match qWord x with
  | none => 0
  | some q => (qFloor (qAdd (qMul q (qInt 2048)) (1, 2)) % 2048).toNat

/-- t[k] + f·(t[k+1] − t[k]) with one rounding (R181, assumption 11); operand by operand where a bin is not finite. -/
def rcuLerp (a b f : Word) : Word :=
  match qWord a, qWord b, qWord f with
  | some qa, some qb, some qf => qPack (qAdd qa (qMul qf (qSub qb qa)))
  | _, _, _ => (Fp32.fma a f (Fp32.sub b a).v).v

/-- The table read of an RCU.RD, with the angle recorded; the result is written at the end of c + 5 (R181). -/
def State.rcuReadTake (s : State) (ch r : Nat) (theta : Word) : State :=
  match rcuFrac theta with
  | none => s.later (s.cycle + 4) (.setG r 0#32 0)
  | some x =>
    let s := { s with rcu := { s.rcu with angle := Sparse.set none s.rcu.angle ch (some x) } }
    let p := (Fp32.fma (Fp32.ofRat false (s.get (R.RCU_CFG_LEAD ch)) 1).v x
      (Fp32.ofRat false 2048 1).v).v
    match qWord p with
    | none => s
    | some q =>
      let k := (qFloor q % 2048).toNat
      let f := qPack (qSub q (qInt (qFloor q)))
      let a := s.rcuBin ch k
      if Fp32.eq f 0#32 then a.2.later (s.cycle + 4) (.setG r a.1 0)
      else
        let b := a.2.rcuBin ch ((k + 1) % 2048)
        b.2.later (s.cycle + 4) (.setG r (rcuLerp a.1 b.1 f) 0)

/-- The reasons for which an LRN is discarded, as FRZ bits (R183). -/
def State.rcuFreeze (s : State) (ch : Nat) : Nat :=
  let l := s.get (R.RCU_CFG_LOOPSEL ch)
  let src := s.get (R.RCU_CFG_SPDSRC ch)
  bitsOf 6 fun i => match i with
    | 0 => !s.on (R.RCU_CFG_LEARN ch) || Fp32.eq (s.word (R.RCU_BETA_VALUE ch)) 0#32
    | 1 => !s.on (R.RCU_CFG_BOUND ch) || decide (s.loopState l ≠ 2)
    | 2 => s.on (R.RCU_CFG_BOUND ch) && s.on (R.LOOP_LSTAT_FBL l)
    | 3 => !s.posValid src
    | 4 => Fp32.lt (Fp32.abs (s.posValue src)).v (s.word (R.RCU_SPDMIN_VALUE ch))
    | _ => (Sparse.get none s.rcu.angle ch).isNone

/-- The bin as an LRN sees it: the last update still in flight, else the table (R182). -/
def State.rcuForward (s : State) (ch bin : Nat) : Word × State :=
  match (s.wheel.inflight.filterMap fun e => match e.2 with
      | .rcuWrite c b v => if c = ch ∧ b = bin then some v else none
      | _ => none).reverse with
  | v :: _ => (v, s)
  | [] => s.rcuBin ch bin

/-- clamp to [−TLIM, +TLIM] (R182). -/
def State.rcuClamp (s : State) (ch : Nat) (v : Word) : Word :=
  let t := s.word (R.RCU_TLIM_VALUE ch)
  let n := (Fp32.neg t).v
  if Fp32.lt t v then t else if Fp32.lt v n then n else v

/-- An RCU.LRN in cycle c + 1: frozen and counted, or the update written by the end of c + 3 (R72, R182, R183). -/
def State.rcuLearnTake (s : State) (ch : Nat) (e : Word) : State :=
  if Fp32.notFinite e then s.nanDrop
  else
    let frz := s.rcuFreeze ch
    if frz ≠ 0 then (s.bumpSat (R.RCU_CNT_FRZCNT ch)).put (R.RCU_CSTAT_FRZ ch) frz
    else match Sparse.get none s.rcu.angle ch with
    | none => s
    | some x =>
      let bin := rcuLearnBin x
      let t := s.rcuForward ch bin
      let a := (Fp32.mul (s.word (R.RCU_ALPHA_VALUE ch)) t.1).v
      let v := s.rcuClamp ch (Fp32.fma a (s.word (R.RCU_BETA_VALUE ch)) e).v
      (t.2.later (s.cycle + 2) (.rcuWrite ch bin v)).bumpSat (R.RCU_CNT_LRNCNT ch)

/-- CLR: all bins of a channel to 0.0, in READY only; CTL.CLR reads 1 for up to 4 µs, to an instant the spec leaves open (R180, R188, assumption 5). -/
def execRcuClr (ch : Fin 8) (s : State) : Out :=
  .next (
    if s.busUp = true ∧ s.dev = .ready ∧ s.hasRcu = true then
      let out := fun k => decide (k / 2048 ≠ ch.val)
      let d := s.draw 2400
      { d.2 with rcu := { s.rcu with
          tab := Sparse.keep out s.rcu.tab, err := Sparse.keep out s.rcu.err
          clrEnd := Sparse.set 0 s.rcu.clrEnd ch.val (s.cycle + 1 + d.1) } }
    else s)

/-- An RWL field of channel ch may be written (R12, R180): its loop is OPEN, or it is unbound and the device in READY. -/
def State.rcuOpen (s : State) (ch : Nat) : Bool :=
  decide (s.dev ≠ .safeHold) &&
  (if s.on (R.RCU_CFG_BOUND ch) then decide (s.loopState (s.get (R.RCU_CFG_LOOPSEL ch)) = 0)
   else decide (s.dev = .ready))

/-- BIN advances after a TDATA access with AINC (R188). -/
def State.rcuAdvance (s : State) (ch : Nat) : State :=
  if s.on (R.RCU_TPTR_AINC ch) then s.bumpWrap (R.RCU_TPTR_BIN ch) else s

/-- TDATA_WRITE (R185, R12, R171). -/
def execTdataWrite (ch : Fin 8) (v : Word) (s : State) : Out :=
  .next (
    if !s.busUp || !s.hasRcu then s
    else
      let s' := if s.rcuOpen ch.val then s.rcuStore ch.val (s.get (R.RCU_TPTR_BIN ch.val)) v
        else if s.on (R.RCU_CFG_BOUND ch.val) then s.raise R.LOOP_STAT_COEF_REJ else s
      s'.rcuAdvance ch.val)

/-- TDATA_READ: the bin as it stands, in every state (R185). -/
def execTdataRead (ch : Fin 8) (s : State) : Out :=
  .next (
    if !s.busUp || !s.hasRcu then s
    else
      let v := Sparse.get 0#32 s.rcu.tab (rcuKey ch.val (s.get (R.RCU_TPTR_BIN ch.val)))
      { s with rdata := v.toNat }.rcuAdvance ch.val)

end Sys2Proof.Machine
end

