-- ==== Sys2Proof/Machine/Pwm.lean ====
section
/-! DEFINITION. PWM generation and dead time (R189–R217): timebases, shadow reload, the output stage with its delays, dead-time adaptation, force registers and commutation. What the counters of State fix happens in its cycle, whether a command names it or the tick comes to it (assumption 3). -/

namespace Sys2Proof.Machine

open Sys2Proof

/-! ## Timebases (R189–R192) -/

def State.tbP (s : State) (t : Nat) : Nat := s.get (R.PWM_TBPER_P t)
/-- Up-down mode. -/
def State.tbUd (s : State) (t : Nat) : Bool := decide (s.get (R.PWM_TBCFG_MODE t) = 1)
/-- The repetition of a timebase (R189). -/
def State.tbRep (s : State) (t : Nat) : Nat := if s.tbUd t then 2 * s.tbP t else s.tbP t
def State.tbCount (s : State) (t : Nat) : Nat := s.get (R.PWM_TBCNT_COUNT t)
def State.tbFalling (s : State) (t : Nat) : Bool := s.on (R.PWM_TBCNT_DIR t)
def State.tbSet (s : State) (t count : Nat) (falling : Bool) : State :=
  (s.put (R.PWM_TBCNT_COUNT t) count).putB (R.PWM_TBCNT_DIR t) falling

/-- Timebases count in READY and RUN, unless frozen (R192, R215). -/
def State.tbRuns (s : State) : Bool :=
  s.planes && !s.on R.PWM_DBG_FROZEN

/-- Timebase t counts through `v` in this cycle, in a direction asked for; a turning point counts for both (R81, R116). -/
def State.tbAt (s : State) (t v : Nat) (up down : Bool) : Bool :=
  let turning := decide (v = 0) || (s.tbUd t && decide (v = s.tbP t))
  s.tbRuns && decide (s.tbP t ≠ 0) && decide (s.tbCount t = v) &&
  ((up && (turning || !s.tbFalling t)) || (down && (turning || s.tbFalling t)))

/-- The count and direction PHS cycles after a zero event (R191). -/
def State.tbStart (s : State) (t : Nat) : State :=
  let p := s.tbP t
  let ph := s.get (R.PWM_TBPHS_PHS t)
  if p = 0 then s.tbSet t 0 false
  else if s.tbUd t then
    if ph < p then s.tbSet t ph false else s.tbSet t (2 * p - ph) true
  else s.tbSet t ph false

/-- All timebases with a period start together; the counts are new, and no event of this cycle has been taken (R191). -/
def State.tbStartAll (s : State) : State :=
  let s := { s with pwm := { s.pwm with restart := false, evt := [] } }
  s.each (List.range 4) State.tbStart

/-- One CORECLK cycle of a timebase (R189). -/
def State.tbCountOne (s : State) (t : Nat) : State :=
  let p := s.tbP t
  let k := s.tbCount t
  if p = 0 then s.tbSet t 0 false
  else if !s.tbUd t then s.tbSet t (if k + 1 < p then k + 1 else 0) false
  else if s.tbFalling t then (if k ≤ 1 then s.tbSet t 0 false else s.tbSet t (k - 1) true)
  else if k + 1 < p then s.tbSet t (k + 1) false
  else s.tbSet t p true

/-- Generators present: legs of the variant and both auxiliaries (R217). -/
def State.genPresent (s : State) (n : Nat) : Bool := decide (n < s.nLeg) || decide (n = 6) || decide (n = 7)
def State.genTb (s : State) (n : Nat) : Nat := s.get (R.PWM_GCFG_TBSEL n)
/-- The reload selection takes zero, peak (R197). -/
def State.rldZero (s : State) (n : Nat) : Bool := s.bit (R.PWM_GCFG_RLD n) 0
def State.rldPeak (s : State) (n : Nat) : Bool := s.bit (R.PWM_GCFG_RLD n) 1
/-- The high-side island of leg n is in BOOT mode (R209, R210). -/
def State.legBoot (s : State) (n : Nat) : Bool := decide (n < 6) && s.on (R.ISL_ICFG_SUPMODE (2 * n))
/-- Independent mode; a BOOT leg runs complementary (R193, R210). -/
def State.legIndep (s : State) (n : Nat) : Bool := s.on (R.PWM_GCFG_MODE n) && !s.legBoot n

/-! ## Output stage (R201–R204) -/

/-- The position over the fine unit `f` of the present cycle: the lower end of its interval, in fine units (R190). Without the delay line every crossing of the cycle acts at its start, its fine bits truncated (R196). -/
def State.tbPos (s : State) (t f : Nat) : Nat :=
  let f := if s.on R.PWM_STAT_DLLLOCK then f else 31
  if s.tbFalling t then 32 * s.tbCount t - f - 1 else 32 * s.tbCount t + f

/-- The instant of an edge placed in fine unit `f` of the present cycle (R196). -/
def State.edgeTime (s : State) (f : Nat) : Nat := s.fine + if s.on R.PWM_STAT_DLLLOCK then f else 0

/-- The end `e` of a wait has come for an edge placed at `t`: without the delay line its fine bits are truncated, so that it has come at the start of its cycle (R196). -/
def elapsed (slack e t : Nat) : Bool := decide (e ≤ t + slack)

/-- The fine units by which the missing delay line brings an end of a wait forward at the start of its cycle (R196). -/
def State.slack (s : State) : Nat := if s.on R.PWM_STAT_DLLLOCK then 0 else 31

/-- The generator follows its compare values: live, and in RUN (R195). -/
def State.genLive (s : State) (n : Nat) : Bool := decide (s.dev = .run) && s.on (R.PWM_GSTAT_LIVE n)

/-- Step 1 of R201: the pair of commands and whether the compare source gave them (R168, R193, R211). -/
def State.legSource (s : State) (n f : Nat) : (Bool × Bool) × Bool :=
  let v := invOfLeg n
  if s.on (R.LOOP_INVCFG_HOLD v) then
    let a := s.get (R.LOOP_INVCFG_OPENACT v)
    ((decide (a = 2), decide (a = 1)), false)
  else
    let c := slice (s.get (R.PWM_FACT_CODE v)) (3 * (n % 3)) 3
    if c ≠ 0 then ((decide (c = 1) || decide (c = 4), decide (c = 2) || decide (c = 4)), false)
    else if !s.genLive n then ((false, false), true)
    else
      let x := s.tbPos (s.genTb n) f
      let h := decide (x < s.get (R.PWM_CMPA_VALUE n))
      if s.legIndep n then ((h, decide (s.get (R.PWM_CMPB_VALUE n) ≤ x)), true) else ((h, !h), true)

/-- Step 2 of R201: a both-on command is both off, with SHOOT_REQ (R202). -/
def State.legResolve (s : State) (n f : Nat) : ((Bool × Bool) × Bool) × State :=
  let c := s.legSource n f
  if c.1.1 && c.1.2 then (((false, false), c.2), s.raise (R.PWM_GSTAT_SHOOT_REQ n)) else (c, s)

/-- Step 3 of R201 for one leg at fine time `t`: turn-offs at once; a turn-on once the other switch has been commanded off for the dead time, or at once for an edge of the compare source in independent mode; a transition from another source to the compare source passes the dead time (R168, R204); a turn-on that a safe state has cancelled waits for the release or for its command to return to OFF (R203). -/
def deadTime (g : Gen) (h l byCmp indep : Bool) (dtr dtf slack t : Nat) : Gen :=
  let free := byCmp && indep && g.byCmp
  let offH := if g.cmdH && !h then t else g.offH
  let offL := if g.cmdL && !l then t else g.offL
  let okH := (free && !g.pendH) || (!l && elapsed slack (offL + dtr) t)
  let okL := (free && !g.pendL) || (!h && elapsed slack (offH + dtf) t)
  let canH := g.cancH && h
  let canL := g.cancL && l
  { g with
    cmdH := h, cmdL := l, offH := offH, offL := offL, cancH := canH, cancL := canL, byCmp := byCmp,
    outH := h && !canH && (g.outH || okH), outL := l && !canL && (g.outL || okL),
    pendH := h && !canH && !(g.outH || okH), pendL := l && !canL && !(g.outL || okL) }

/-! ### Step 4: the way to the islands (R201, R214) -/

/-- An edge that would leave at `t` joins the edges on their way: a turn-off that would leave before the turn-on ahead of it cancels both, a turn-on that would leave before the turn-off ahead of it leaves one fine unit after it (R214). -/
def egressAdd (q : List (Nat × Bool)) (t : Nat) (on : Bool) : List (Nat × Bool) :=
  match q.getLast? with
  | none => [(t, on)]
  | some (y, _) =>
    if on then q ++ [(max t (y + 1), true)]
    else if t ≤ y then q.dropLast
    else q ++ [(t, false)]

/-- The level the last edge formed for island i commands. -/
def State.commanded (s : State) (i : Nat) : Bool :=
  match (Sparse.get [] s.pwm.egress i).getLast? with
  | some (_, on) => on
  | none => (s.island i).edge

/-- An edge of island i placed at fine time `t` leaves 10.0 ns (192 fine units) and its compensation delay later (R201, R214). -/
def State.present (s : State) (t i : Nat) (on : Bool) : State :=
  if s.commanded i = on then s
  else
    let d := s.get (if on then R.PWM_PDCOMP_OND i else R.PWM_PDCOMP_OFFD i)
    { s with pwm := { s.pwm with
      egress := Sparse.set [] s.pwm.egress i (egressAdd (Sparse.get [] s.pwm.egress i) (t + 192 + d) on) } }

/-- The edges of island i that leave before fine time `t` reach it. -/
def State.egressOne (t : Nat) (s : State) (i : Nat) : State :=
  let q := Sparse.get [] s.pwm.egress i
  let due := q.takeWhile fun e => decide (e.1 < t)
  if due = [] then s
  else
    let s := { s with pwm := { s.pwm with egress := Sparse.set [] s.pwm.egress i (q.dropWhile fun e => decide (e.1 < t)) } }
    due.foldl (fun s e => s.edgeTo i e.2) s

/-- The edges that leave in the present CORECLK cycle. -/
def State.egressTick (s : State) : State :=
  if s.pwm.egress = [] then s else s.each (List.range s.nIsl) (State.egressOne (s.fine + 32))

/-- Present both commands of a leg, placed at fine time `t`, to its islands (R201, R237). -/
def State.legDrive (s : State) (t n : Nat) : State :=
  let g := s.gen n
  (s.present t (2 * n) g.outH).present t (2 * n + 1) g.outL

/-- Form the commands of leg n at fine unit `f` of the present cycle (R201). Outside RUN the outputs are off; a frozen leg keeps its commands (R192, R215). -/
def State.legEval (s : State) (f n : Nat) : State :=
  if s.dev ≠ .run ∨ s.on R.PWM_DBG_FROZEN then s
  else
    let r := s.legResolve n f
    let s := r.2
    let t := s.edgeTime f
    let g := deadTime (s.gen n) r.1.1.1 r.1.1.2 r.1.2 (s.legIndep n)
      (s.get (R.PWM_DTACT_DTR n)) (s.get (R.PWM_DTACT_DTF n)) s.slack t
    (s.setGen n g).legDrive t n

/-- The level of an auxiliary output (R194). -/
def State.auxEval (s : State) (f n : Nat) : State :=
  if s.on R.PWM_DBG_FROZEN then s
  else
    let x := s.tbPos (s.genTb n) f
    let lv := s.genLive n && decide (s.get (R.PWM_CMPB_VALUE n) ≤ x) && decide (x < s.get (R.PWM_CMPA_VALUE n))
    s.setGen n { s.gen n with aux := lv }

/-- Every leg and auxiliary output at fine unit `f`. -/
def State.outputs (s : State) (f : Nat) : State :=
  ((s.each (List.range s.nLeg) fun s n => s.legEval f n).auxEval f 6).auxEval f 7

/-- The commands of leg n go off now; the dead time after them starts here (R203). -/
def State.legOff (s : State) (n : Nat) : State :=
  let g := s.gen n
  (s.setGen n { g with
    outH := false, outL := false, cmdH := false, cmdL := false, pendH := false, pendL := false, cancH := false, cancL := false,
    byCmp := false,
    offH := if g.cmdH then s.fine else g.offH, offL := if g.cmdL then s.fine else g.offL }).legDrive s.fine n

/-- All outputs off, and no freeze: RUN left or SAFE_HOLD entered (R41, R43, R192, R194, R215). -/
def State.pwmOff (s : State) : State :=
  let s := s.each (List.range s.nLeg) State.legOff
  let s := { s with pwm := { s.pwm with freezeDue := false, thaw := false, dark := false, landAt := [] } }.clear R.PWM_DBG_FROZEN
  (s.setGen 6 { s.gen 6 with aux := false }).setGen 7 { s.gen 7 with aux := false }

/-- Fine units of the present cycle at which the position of a timebase crosses a compare value (R190, R193). -/
def State.crossing (s : State) (t v : Nat) : List Nat :=
  let k := 32 * s.tbCount t
  if s.tbFalling t then (if v < k ∧ k ≤ v + 32 then [k - v] else if v = k then [0] else [])
  else if k ≤ v ∧ v < k + 32 then [v - k] else []

/-- The fine units of the present cycle at which leg n or an auxiliary generator can change: its start, its crossings, and the end of a dead time. -/
def State.instants (s : State) (n : Nat) : List Nat :=
  let g := s.gen n
  let t := s.genTb n
  let wait := fun (p : Bool) (e : Nat) => if p && decide (s.fine ≤ e) && decide (e < s.fine + 32) then [e - s.fine] else []
  let l := 0 :: (s.crossing t (s.get (R.PWM_CMPA_VALUE n)) ++ s.crossing t (s.get (R.PWM_CMPB_VALUE n)) ++
    wait g.pendH (g.offL + s.get (R.PWM_DTACT_DTR n)) ++ wait g.pendL (g.offH + s.get (R.PWM_DTACT_DTF n)))
  (List.range 32).filter fun f => l.contains f

/-- Every leg and auxiliary output over the present cycle, at each of its instants in turn. -/
def State.cycleOutputs (s : State) : State :=
  if s.dev ≠ .run then s
  else
    let s := s.each (List.range s.nLeg) fun s n => (s.instants n).foldl (fun s f => s.legEval f n) s
    s.each [6, 7] fun s n => (s.instants n).foldl (fun s f => s.auxEval f n) s

/-- EDGE_CHANNEL_EDGE: a compare crossing of generator n in the fine unit `fine` of this cycle (R193, R194, R236). -/
def execEdgeChannelEdge (n : Fin 8) (fine : Fin 32) (s : State) : Out :=
  .next (if !s.genPresent n.val then s
    else if n.val < 6 then s.legEval fine.val n.val else s.auxEval fine.val n.val)

/-- DEAD_TIME_EXPIRY: the other switch has been commanded off for the dead time (R203). -/
def execDeadTimeExpiry (n : Fin 6) (high : Bool) (fine : Fin 32) (s : State) : Out :=
  .next (
    if s.dev ≠ .run ∨ s.on R.PWM_DBG_FROZEN then s
    else
      let g := s.gen n.val
      let t := s.edgeTime fine.val
      if high then
        if g.pendH && !g.cmdL && elapsed s.slack (g.offL + s.get (R.PWM_DTACT_DTR n.val)) t then
          (s.setGen n.val { g with outH := true, pendH := false }).legDrive t n.val
        else s
      else
        if g.pendL && !g.cmdH && elapsed s.slack (g.offH + s.get (R.PWM_DTACT_DTF n.val)) t then
          (s.setGen n.val { g with outL := true, pendL := false }).legDrive t n.val
        else s)

/-! ## Reload (R195, R197, R206, R209, R214) -/

/-- The refresh clamp of a BOOT leg (R209): the value, and whether it was moved. -/
def State.refreshClamp (s : State) (n v : Nat) : Nat × Bool :=
  let t := s.genTb n
  let top := 32 * s.tbP t
  if !s.legBoot n || decide (top ≤ v) then (v, false)
  else
    let need := 32 * s.get (R.PWM_BSRF_MIN n) + s.get (R.PWM_DTACT_DTF n)
    let lim := if s.tbUd t then top - (need + 1) / 2 else top - need
    if lim < v then (lim, true) else (v, false)

/-- The compensation delay ALIGN − tpd, 0 where it would be negative; and whether it overran (R214). -/
def State.compDelay (s : State) (tpd : Nat) : Nat × Bool :=
  let a := s.get R.PWM_PDCTL_ALIGN
  if a = 0 then (0, false) else (a - tpd, decide (a < tpd))

/-- PDCOMP of island i at the leg's reload edge, from the delays last reported and the present ALIGN; an island that has reported none has none (R214). -/
def State.pdReload (s : State) (i : Nat) : State :=
  let s := match Sparse.get none s.pwm.tpdOn i with
    | some d => s.put (R.PWM_PDCOMP_OND i) (s.compDelay d).1
    | none => s
  match Sparse.get none s.pwm.tpdOff i with
  | some d => s.put (R.PWM_PDCOMP_OFFD i) (s.compDelay d).1
  | none => s

/-- A leg's dead times and compensation delays computed before the edge take effect (R206, R214). -/
def State.dtReload (s : State) (n : Nat) : State :=
  let g := s.gen n
  let s := match g.newR with | some d => s.put (R.PWM_DTACT_DTR n) d | none => s
  let s := match g.newF with | some d => s.put (R.PWM_DTACT_DTF n) d | none => s
  let s := s.setGen n { g with newR := none, newF := none }
  let s := (s.pdReload (2 * n)).pdReload (2 * n + 1)
  let late := fun i => (s.compDelay (s.get (R.ISL_TPD_ON i))).2 || (s.compDelay (s.get (R.ISL_TPD_OFF i))).2
  s.putB (R.PWM_GSTAT_PDOVR n) (late (2 * n) || late (2 * n + 1))

/-- A reload edge of generator n: the active values take the shadows (R195, R197, R209). -/
def State.reload (s : State) (n : Nat) : State :=
  let s := if n < 6 then s.dtReload n else s
  let g := s.gen n
  let c := s.refreshClamp n g.shA
  let s := (s.put (R.PWM_CMPA_VALUE n) c.1).put (R.PWM_CMPB_VALUE n) g.shB
  let s := if c.2 then s.raise (R.PWM_GSTAT_BSCLAMP n) else s
  if s.dev = .run ∧ g.written then s.raise (R.PWM_GSTAT_LIVE n) else s

/-! ## Commutation (R211–R213) -/

/-- The commutation source of inverter v, and the writer of its stage. -/
def commSrc (v : Nat) : Fld := if v = 0 then R.PWM_COMMCFG_SRCA else R.PWM_COMMCFG_SRCB
def forceSrc (v : Nat) : Fld := if v = 0 then R.PWM_COMMCFG_FSRCA else R.PWM_COMMCFG_FSRCB

/-- The active codes after an event: masked legs take their staged code (R212). -/
def commute (act stage mask : Nat) : Nat :=
  [0, 1, 2].foldl (fun a k => a + (if mask.testBit k then slice stage (3 * k) 3 else slice act (3 * k) 3) * 2 ^ (3 * k)) 0

/-- The codes of a commutation event of inverter v (R212). -/
def State.commCodes (s : State) (v : Nat) : State :=
  if s.on R.PWM_DBG_FROZEN ∨ s.nInv ≤ v then s
  else
    (s.put (R.PWM_FACT_CODE v)
      (commute (s.get (R.PWM_FACT_CODE v)) (s.get (R.PWM_FSTAGE_CODE v)) (s.get (R.PWM_FSTAGE_MASK v)))).clear (R.PWM_FSTAGE_PEND v)

/-- A commutation event of inverter v, and its legs' commands (R201, R212). -/
def State.commEvent (s : State) (v : Nat) : State :=
  if s.on R.PWM_DBG_FROZEN ∨ s.nInv ≤ v then s
  else (s.commCodes v).each [3 * v, 3 * v + 1, 3 * v + 2] fun s n => s.legEval 0 n

/-- A Wheel COMM landing (R212). -/
def State.commTake (s : State) (mask : Nat) : State :=
  s.each [0, 1] fun s v =>
    if mask.testBit v && (decide (s.get (commSrc v) = 1) || decide (s.get (commSrc v) = 3)) then s.commEvent v else s

/-- The commutations the Wheel has commanded for this cycle take place (R68, R212). -/
def State.commNow (s : State) : State :=
  let due := fun (e : Nat × Effect) => decide (e.1 ≤ s.cycle) && (match e.2 with | .comm _ => true | _ => false)
  let l := s.wheel.inflight.filter due
  let s := { s with wheel := { s.wheel with inflight := s.wheel.inflight.filter fun e => !due e } }
  l.foldl (fun s e => match e.2 with | .comm m => s.commTake m | _ => s) s

/-- A code is one of R211. -/
def forceOk (c : Nat) : Bool := decide (c ≤ 4)

/-- A Wheel FORCE landing in the stage (R211). -/
def State.forceTake (s : State) (n v : Nat) : State :=
  let inv := invOfLeg n
  let k := n % 3
  if !s.on (forceSrc inv) || !forceOk (v % 8) then s.raise R.PWM_STAT_CFGREJ
  else
    let code := s.get (R.PWM_FSTAGE_CODE inv)
    let s := s.put (R.PWM_FSTAGE_CODE inv) (code - slice code (3 * k) 3 * 2 ^ (3 * k) + v % 8 * 2 ^ (3 * k))
    (s.putBit (R.PWM_FSTAGE_MASK inv) k (v.testBit 3)).raise (R.PWM_FSTAGE_PEND inv)

/-- FSTAGE_WRITE: an interconnect write of the stage of inverter v; an event of this cycle takes the stage as it was before it (R211, R212). -/
def execFstageWrite (v : Fin 2) (w : Word) (s : State) : Out :=
  .next (
    if !s.busUp || decide (s.nInv ≤ v.val) then s
    else
      let code := w.toNat % 512
      if s.on (forceSrc v.val) || !([0, 1, 2].all fun k => forceOk (slice code (3 * k) 3)) then
        s.raise R.PWM_STAT_CFGREJ
      else ((s.commNow.put (R.PWM_FSTAGE_CODE v.val) code).put (R.PWM_FSTAGE_MASK v.val) (slice w.toNat 12 3)).raise
        (R.PWM_FSTAGE_PEND v.val))

/-- An edge of the COMM land is applied, in RUN (R212, R213). -/
def State.commLand (s : State) : State := s.each [0, 1] fun s v => if 2 ≤ s.get (commSrc v) then s.commEvent v else s

/-- The edges of the COMM land that are due by this cycle (R213). -/
def State.landTick (s : State) : State :=
  if s.pwm.landAt.any fun t => decide (t ≤ s.cycle) then
    let s := { s with pwm := { s.pwm with landAt := s.pwm.landAt.filter fun t => decide (s.cycle < t) } }
    if s.dev = .run then s.commLand else s
  else s

/-- COMM_LAND_EDGE: a CORECLK edge has taken the `samples`th consecutive sample of the new level at the COMM land; in RUN the sample that satisfies FILT, the first where it is 0, has its edge applied in the third cycle after it (R212, R213). -/
def execCommLandEdge (rising : Bool) (samples : Nat) (s : State) : Out :=
  .next (
    if s.dev = .run ∧ s.bit R.PWM_COMMCFG_PINEDGE (if rising then 0 else 1) = true ∧
        samples = max 1 (s.get R.PWM_COMMCFG_FILT) then
      { s with pwm := { s.pwm with landAt := s.pwm.landAt ++ [s.cycle + 3] } }
    else s)

/-! ## Timebase events (R190) -/

/-- The reloads of an event, then the outputs of the cycle (R197). -/
def State.tbEvent (s : State) (t : Nat) (sel : State → Nat → Bool) : State :=
  s.each (below 8 fun n => s.genPresent n && decide (s.genTb n = t) && sel s n) State.reload

/-- The zero or peak event of timebase t has been taken in this cycle. -/
def State.evtTaken (s : State) (t : Nat) : Bool := decide (Sparse.get 0 s.pwm.evt t = s.cycle + 1)

/-- Note that it has. -/
def State.noteEvt (s : State) (t : Nat) : State := { s with pwm := { s.pwm with evt := Sparse.set 0 s.pwm.evt t (s.cycle + 1) } }

/-- The counter of timebase t reads 0 in this cycle, and its event is to come (R190, R192). -/
def State.zeroDue (s : State) (t : Nat) : Bool :=
  s.tbRuns && decide (s.tbP t ≠ 0) && decide (s.tbCount t = 0) && !s.evtTaken t

/-- The up-down counter of timebase t reads P in this cycle, and its event is to come (R190, R192). -/
def State.peakDue (s : State) (t : Nat) : Bool :=
  s.tbRuns && decide (s.tbP t ≠ 0) && s.tbUd t && decide (s.tbCount t = s.tbP t) && !s.evtTaken t

/-- ΣΔ channels aligned with an event of timebase t: they compare their counters from two CORECLK cycles on (R134). -/
def State.sdArm (s : State) (t : Nat) (peak : Bool) : State :=
  { s with adc := { s.adc with
      sd := Sparse.ofFn {} (fun j =>
        let c := Sparse.get {} s.adc.sd j
        if s.on (R.ADC_SDCFG_EN j) && s.bit (R.ADC_SDCFG_SYNC j) (if peak then 1 else 0) &&
            decide (s.get (R.ADC_SDCFG_SYNCTB j) = t)
        then { c with syncAt := some (s.cycle + 2) } else c) (List.range 6) } }

/-- The zero event of timebase t: reloads, commutation, ΣΔ alignment (R134, R190, R197, R212). -/
def State.zeroEvent (s : State) (t : Nat) : State :=
  let s := ((s.noteEvt t).tbEvent t State.rldZero).sdArm t false
  s.each [0, 1] fun s v =>
    if s.get (commSrc v) = 0 ∧ s.genTb (3 * v) = t then s.commCodes v else s

/-- The peak event of timebase t (R134, R190, R197). -/
def State.peakEvent (s : State) (t : Nat) : State := ((s.noteEvt t).tbEvent t State.rldPeak).sdArm t true

/-- An event of some timebase falls in this cycle and has not been taken. -/
def State.eventDue (s : State) : Bool := (List.range 4).any fun t => s.zeroDue t || s.peakDue t

/-- The event of timebase t that falls in this cycle, if any. -/
def State.tbEventOf (s : State) (t : Nat) : State :=
  if s.zeroDue t then s.zeroEvent t else if s.peakDue t then s.peakEvent t else s

/-- Every zero and peak event of this cycle that has not been taken; the outputs of the cycle are formed from the values that all of them leave (R197, R201). -/
def State.tbEvents (s : State) : State :=
  if s.eventDue then (s.each (List.range 4) State.tbEventOf).outputs 0 else s

/-- ZERO_EVENT: the counter of timebase t reads 0; every event of the cycle is taken with it (R190, R197, R212). -/
def execZeroEvent (t : Fin 4) (s : State) : Out := .next (if s.zeroDue t.val then s.tbEvents else s)

/-- PEAK_EVENT: an up-down counter reads P (R190, R197). -/
def execPeakEvent (t : Fin 4) (s : State) : Out := .next (if s.peakDue t.val then s.tbEvents else s)

/-! ## Timebase configuration (R189, R191, R197) -/

/-- Mode, period and phase are acceptable together (R189, R191). -/
def tbCfgOk (mode p phs : Nat) : Bool :=
  decide (mode ≤ 1) &&
  (decide (p = 0) ||
    (if mode = 1 then decide (1500 ≤ p) && decide (p ≤ 300000) && decide (phs < 2 * p)
     else decide (3000 ≤ p) && decide (p ≤ 600000) && decide (phs < p)))

/-- A generator on TBt selects peak or both (R197). -/
def State.tbHasPeak (s : State) (t : Nat) : Bool :=
  (below 8 fun n => s.genPresent n && decide (s.genTb n = t) && s.rldPeak n).length ≠ 0

/-- A write of TBCFG (0), TBPER (1) or TBPHS (2) of timebase t is acceptable. -/
def State.tbWriteOk (s : State) (field t v : Nat) : Bool :=
  let mode := if field = 0 then v % 4 else s.get (R.PWM_TBCFG_MODE t)
  let p := if field = 1 then v else s.tbP t
  let phs := if field = 2 then v else s.get (R.PWM_TBPHS_PHS t)
  tbCfgOk mode p phs && !(decide (field = 0) && decide (mode = 0) && s.tbHasPeak t)

/-- TIMEBASE_CONFIG_WRITE: TBCFG, TBPER or TBPHS of timebase t (R85, R189, R191). -/
def execTimebaseConfigWrite (field : Fin 3) (t : Fin 4) (v : Word) (s : State) : Out :=
  .next (
    if !s.busUp || decide (s.dev ≠ .ready) then s
    else if !s.tbWriteOk field.val t.val v.toNat then s.raise R.PWM_STAT_CFGREJ
    else
      let s := match field with
        | 0 => s.put (R.PWM_TBCFG_MODE t.val) v.toNat
        | 1 => s.put (R.PWM_TBPER_P t.val) v.toNat
        | 2 => s.put (R.PWM_TBPHS_PHS t.val) v.toNat
      { s with pwm := { s.pwm with restart := true } })

/-! ## Shadows and ARM (R197–R200) -/

/-- A shadow of generator n written by the Wheel; during a debug halt without a freeze no write makes a generator live (R71, R195, R216). -/
def State.shadowTake (s : State) (n : Nat) (isB : Bool) (v : Nat) : State :=
  let g := s.gen n
  let w := g.written || (decide (s.dev = .run) && !s.pwm.dark)
  s.setGen n (if isB then { g with shB := v, written := w } else { g with shA := v, written := w })

/-- The group transfer of an ARM into the shadows (R199, R200). -/
def State.armTransfer (s : State) (vals : List (Nat × Nat × Nat)) : State :=
  vals.foldl (fun s e => (s.shadowTake e.1 false e.2.1).shadowTake e.1 true e.2.2) s

/-- The generators of a mask. -/
def maskList (m : Nat) : List Nat := below 8 fun n => m.testBit n

/-- The ARM write is refused as a whole (R199). -/
def State.armRefused (s : State) (m : Nat) : Bool :=
  let l := maskList m
  !(decide (s.dev = .ready) || decide (s.dev = .run)) || s.pwm.arm.isSome ||
  l.any fun n => !s.genPresent n || s.on (R.PWM_GCFG_WHEEL n) ||
    l.any fun k => decide (s.genTb k ≠ s.genTb n) || decide (s.get (R.PWM_GCFG_RLD k) ≠ s.get (R.PWM_GCFG_RLD n))

/-- A count and direction is a reload edge of generator n (R197). -/
def State.isReload (s : State) (n count : Nat) (falling : Bool) : Bool :=
  let t := s.genTb n
  (s.rldZero n && decide (count = 0)) || (s.rldPeak n && s.tbUd t && falling && decide (count = s.tbP t))

/-- A reload edge of generator n falls in the present cycle. -/
def State.reloadNow (s : State) (n : Nat) : Bool :=
  let t := s.genTb n
  s.tbRuns && decide (s.tbP t ≠ 0) && s.isReload n (s.tbCount t) (s.tbFalling t)

/-- The deferred transfer, in cycle B + 1 (R198). -/
def State.armDue (s : State) : State :=
  match s.pwm.arm with
  | some a =>
    if a.due ≤ s.cycle then
      ({ s with pwm := { s.pwm with arm := none } }.armTransfer a.vals).clear R.PWM_ARM_GEN
    else s
  | none => s

/-! ## Dead-time adaptation (R205–R208) -/

/-- clamp(round(sum / NAVG) + MARGIN, max(DTMIN, 384), DTMAX), halves upward (R206). -/
def State.newDeadTime (s : State) (n sum : Nat) : Nat :=
  let k := max 1 (s.get (R.PWM_DTCFG_NAVG n))
  let v := (2 * sum + k) / (2 * k) + s.get (R.PWM_DTCFG_MARGIN n)
  min (max v (max (s.get (R.PWM_DTLIM_DTMIN n)) 384)) (s.get (R.PWM_DTLIM_DTMAX n))

/-- An accepted measurement of leg n: a rising node feeds DT_R, a falling node DT_F (R205, R206). -/
def State.dtAccept (s : State) (n : Nat) (rising : Bool) (m : Nat) : State :=
  let g := s.gen n
  if rising then
    let s := s.put (R.PWM_DTMEAS_RISE n) m
    if s.get (R.PWM_DTCFG_NAVG n) ≤ g.cntR + 1 then
      (s.setGen n { g with sumR := 0, cntR := 0, newR := some (s.newDeadTime n (g.sumR + m)) }).raise (R.PWM_GSTAT_VALIDR n)
    else s.setGen n { g with sumR := g.sumR + m, cntR := g.cntR + 1 }
  else
    let s := s.put (R.PWM_DTMEAS_FALL n) m
    if s.get (R.PWM_DTCFG_NAVG n) ≤ g.cntF + 1 then
      (s.setGen n { g with sumF := 0, cntF := 0, newF := some (s.newDeadTime n (g.sumF + m)) }).raise (R.PWM_GSTAT_VALIDF n)
    else s.setGen n { g with sumF := g.sumF + m, cntF := g.cntF + 1 }

/-! ## RUN entry, debug, delay line -/

/-- Generator n at RUN entry: not live, its shadow values and its count of upsets kept. -/
def State.genEntry (s : State) (n : Nat) : State :=
  let g := s.gen n
  (s.setGen n { shA := g.shA, shB := g.shB, offH := g.offH, offL := g.offL, upset := g.upset }).clear (R.PWM_GSTAT_LIVE n)

/-- The dead times of leg n start at DTINIT (R207). -/
def State.deadTimeEntry (s : State) (n : Nat) : State :=
  let i := s.get (R.PWM_DTINIT_INIT n)
  (((s.put (R.PWM_DTACT_DTR n) i).put (R.PWM_DTACT_DTF n) i).clear (R.PWM_GSTAT_VALIDR n)).clear (R.PWM_GSTAT_VALIDF n)

/-- RUN entry in the PWM: not live, force codes cleared, dead times at DTINIT, timebases restarted, no freeze (R191, R195, R207, R217). The outputs are formed once the loops have entered RUN. -/
def State.pwmRunEntry (s : State) : State :=
  let s := (s.each (List.range 8) State.genEntry).each (List.range 6) State.deadTimeEntry
  let s := { s with pwm := { s.pwm with freezeDue := false, thaw := false, dark := false } }.clear R.PWM_DBG_FROZEN
  ((s.clear (R.PWM_FACT_CODE 0)).clear (R.PWM_FACT_CODE 1)).tbStartAll

/-- Every generator becomes not live, and its shadows wait for a write after the resume (R195, R216). -/
def State.notLive (s : State) : State :=
  let s := { s with pwm := { s.pwm with dark := true } }
  (s.each (List.range 8) fun s n =>
    (s.setGen n { s.gen n with written := false }).clear (R.PWM_GSTAT_LIVE n)).outputs 0

/-- The Wheel halts for debug at a TEND: freeze after the turn's occupancy, or fall to both off (R215, R216). -/
def State.pwmDebugHalt (s : State) : State :=
  if s.on R.PWM_DBG_FREEZE_EN then { s with pwm := { s.pwm with freezeDue := true } } else s.notLive

/-- The halt ends or a step begins: counters resume in the next cycle (R215), and writes from now on make generators live (R216). -/
def State.pwmDebugResume (s : State) : State :=
  { s with pwm := { s.pwm with freezeDue := false, thaw := s.on R.PWM_DBG_FROZEN, dark := false } }

/-- The freeze ends: a pending dead time goes on from where it stood (R215). -/
def State.unfreeze (s : State) : State :=
  let d := s.fine + 32 - 32 * s.pwm.frozenAt
  let s := s.each (List.range 6) fun s n =>
    let g := s.gen n
    s.setGen n { g with offH := g.offH + d, offL := g.offL + d }
  { s with pwm := { s.pwm with thaw := false } }.clear R.PWM_DBG_FROZEN

/-- The counters move to the next cycle (R189–R192, R215). -/
def State.tbAdvance (s : State) : State :=
  if s.pwm.thaw then s.unfreeze
  else if !s.tbRuns then s
  else if s.pwm.restart then s.tbStartAll
  else s.each (List.range 4) State.tbCountOne

/-- All timebases restart in the next cycle: a configuration write, or RUN entry (R191). -/
def State.restartNext (s : State) : Bool :=
  s.pwm.restart || (s.runDue && decide (s.dev = .ready) && decide ((s.cycle + 1) % 2 = 0))

/-- The counters in the next cycle, as far as this one shows it. -/
def State.tbNext (s : State) : State := if s.restartNext then s.tbStartAll else s.tbAdvance

/-- Cycles to a reload edge of generator n that defers an ARM: 0 for L = B, 1 for L = B − 1, none otherwise (R198). -/
def State.armEdge (s : State) (n : Nat) : Option Nat :=
  if s.reloadNow n then some 0 else if s.tbNext.reloadNow n then some 1 else none

/-- ARM: lands now; takes the staged values of every named generator (R198, R199). -/
def execArm (mask : BitVec 8) (s : State) : Out :=
  .next (
    let m := mask.toNat
    if m = 0 ∨ !s.busUp then s
    else if s.armRefused m then s.raise R.PWM_STAT_ARMREJ
    else
      let vals := (maskList m).map fun n => (n, s.get (R.PWM_SCMPA_VALUE n), s.get (R.PWM_SCMPB_VALUE n))
      match (maskList m).head?.bind s.armEdge with
      | none => s.armTransfer vals
      | some k =>
        let s := s.each (maskList m) fun s n => s.raise (R.PWM_GSTAT_LATE n)
        { (s.put R.PWM_ARM_GEN m) with
          pwm := { s.pwm with arm := some { due := s.cycle + k + 1, mask := m, vals := vals } } })

/-- An effect that belongs to the occupancy of the turn that issued it: a staged push has retired when it is staged (R86). -/
def Effect.occupies : Effect → Bool
  | .qpush _ _ _ _ => false
  | .packetsEnd => false
  | .eccNote _ _ => false
  | .halt _ => false
  | _ => true

/-- The occupancy of the halted turn ends with this cycle: nothing it issued is in flight, and the results of its triggers are readable from the next cycle at the latest (R86, R215). -/
def State.turnDrained (s : State) : Bool :=
  !(s.wheel.inflight.any fun e => e.2.occupies) &&
  !(s.adc.runs.any fun r => decide (s.get (R.ADC_GCFG_SRC r.group) = 1) && decide (s.cycle + 1 < r.due)) &&
  !(s.adc.trigs.any fun e => decide (s.get (R.ADC_GCFG_SRC e.2.1) = 1))

/-- One CORECLK cycle of the PWM once the commands of the cycle have been taken: its outputs, the edges that leave, a deferred transfer, the counters, and a freeze that begins with the next cycle (R198, R201, R215). -/
def State.pwmTick (s : State) : State :=
  let s := s.cycleOutputs.egressTick.armDue.tbAdvance
  if s.pwm.freezeDue && s.turnDrained then
    { s with pwm := { s.pwm with freezeDue := false, frozenAt := s.cycle + 1 } }.raise R.PWM_DBG_FROZEN
  else s

/-- FREEZE_EN_WRITE: in DEVELOP with debug unlocked only (R215). -/
def execFreezeEnWrite (v : Bool) (s : State) : Out :=
  .next (if s.busUp && s.debugOpen then s.putB R.PWM_DBG_FREEZE_EN v else s)

/-- DLL_LOCK_LOSS: fine bits are truncated from now on, DLLERR set (R196). -/
def execDllLockLoss (s : State) : Out :=
  .next (if s.on R.PWM_STAT_DLLLOCK then (s.clear R.PWM_STAT_DLLLOCK).raise R.PWM_STAT_DLLERR else s)

end Sys2Proof.Machine
end

