-- ==== Sys2Proof/Machine/Islands.lean ====
section
/-! DEFINITION. Gate-drive islands and the Bluetra link (R218–R252): detectors and latches, EN, training, link loss and telemetry. -/

namespace Sys2Proof.Machine

open Sys2Proof

/-- The island exists on this variant (R4). -/
def State.islPresent (s : State) (i : Nat) : Bool := decide (i < s.nIsl)

/-- The link of island i works, seen from the control die: out of reset, awake, trained, not lost and not parked for BANKED (R245, R247, R248). -/
def State.linkUp (s : State) (i : Nat) : Bool :=
  s.islPresent i && s.busUp && !s.stopped 13 && s.on (R.ISL_LSTAT_TRAINED i) && !(s.island i).parked

/-- The charge pump of island i runs: a trained BOOT island, in READY, RUN and SAFE_HOLD (R224). -/
def State.chargePump (s : State) (i : Nat) : Bool :=
  s.islPresent i && s.on (R.ISL_LSTAT_TRAINED i) && (s.island i).cfg.boot &&
  (decide (s.dev = .ready) || decide (s.dev = .run) || decide (s.dev = .safeHold))

/-! ## Thresholds (R225, R226, R228, R231, R232), in mV, and 1/16 °C -/

/-- The falling and the rising threshold of the VCC2 monitor (R225). -/
def vccFall (x : IslCfg) : Int := 10000 + 500 * x.vccth
def vccRise (x : IslCfg) : Int := vccFall x + 800

/-- The VEE2 monitor reports under-voltage at a voltage above VEE2 − KS (R226). -/
def veeLow (x : IslCfg) (v : Int) : Bool :=
  if x.vneg then decide (500 < v.natAbs) else decide (-1500 - 500 * (x.veeth : Int) < v)

/-- VEE2 has returned: in bipolar operation at least 0.3 V below the threshold (R226). -/
def veeBack (x : IslCfg) (v : Int) : Bool :=
  if x.vneg then decide (v.natAbs ≤ 500) else decide (v ≤ -1800 - 500 * (x.veeth : Int))

/-- The threshold of the di/dt detector (R228). -/
def scThreshold (x : IslCfg) : Nat :=
  if x.scth ≤ 16 then 200 + 50 * x.scth
  else if x.scth ≤ 26 then 1000 + 100 * (x.scth - 16)
  else 2000 + 200 * (x.scth - 26)

/-- The threshold of the desaturation detector (R231). -/
def dsatThreshold (x : IslCfg) : Nat := 3000 + 500 * x.dsatth

/-- The over-temperature threshold (R232). -/
def otThreshold (x : IslCfg) : Int := (130 + 5 * (x.otth : Int)) * 16

/-- The di/dt detector is active and its 5 ns filter can have run: SCBLK × 5 ns and 5 ns more since the turn-on started, 5 ns being three CORECLK cycles (R229). -/
def Isl.scActive (x : Isl) (now : Nat) : Bool := x.out && x.cfg.scen && decide (x.onAt + 3 * x.cfg.scblk + 3 ≤ now)

/-- The same of the desaturation detector, with DSATBLK × 100 ns (R231). -/
def Isl.dsatActive (x : Isl) (now : Nat) : Bool := x.out && x.cfg.dsaten && decide (x.onAt + 60 * x.cfg.dsatblk + 3 ≤ now)

/-! ## Faults (R227–R232) -/

/-- A protective turn-off of island i with the latch that `f` sets; no transition of its leg counts across it (R205). -/
def State.protect (s : State) (i : Nat) (f : Isl → Isl) : State :=
  (((s.upsetLeg (legOfIsl i)).modIsl i f)).sync

/-- FLT_SC: VKP, in mV, has stayed above the threshold for 5 ns inside the active window (R228–R230). -/
def execFltSc (i : Fin 12) (vkp : Nat) (s : State) : Out :=
  .next (
    let x := s.island i.val
    if s.islPresent i.val && x.scActive s.cycle && decide (scThreshold x.cfg < vkp) then
      s.protect i.val fun x => { x with sc := true, soft := true }
    else s)

/-- FLT_DSAT: V(DSAT) − V(KS), in mV, has stayed above the threshold for 5 ns inside the active window (R231). -/
def execFltDsat (i : Fin 12) (vds : Nat) (s : State) : Out :=
  .next (
    let x := s.island i.val
    if s.islPresent i.val && x.dsatActive s.cycle && decide (dsatThreshold x.cfg < vds) then
      s.protect i.val fun x => { x with dsat := true, soft := true }
    else s)

/-- FLT_UVLO: VCC2 − KS and VEE2 − KS, in mV, as they have stood for 400 ns; a monitor that reports under-voltage latches its bit, and before SUPRDY nothing latches (R225–R227). -/
def execFltUvlo (i : Fin 12) (vcc vee : Int) (s : State) : Out :=
  .next (
    let x := s.island i.val
    let lowC := decide (vcc < vccFall x.cfg)
    let lowE := veeLow x.cfg vee
    if s.islPresent i.val && x.powered && (lowC || lowE) then
      if x.suprdy then
        s.protect i.val fun x => { x with
          lowC := x.lowC || lowC, lowE := x.lowE || lowE, uvcc := x.uvcc || lowC, uvee := x.uvee || lowE }
      else (s.modIsl i.val fun x => { x with lowC := x.lowC || lowC, lowE := x.lowE || lowE }).sync
    else s)

/-- FLT_OT: a die temperature, in 1/16 °C, that has stood above the threshold for 10 µs (R232); before SUPRDY nothing latches (R227). -/
def execFltOt (i : Fin 12) (t : Int) (s : State) : Out :=
  .next (
    let x := s.island i.val
    if s.islPresent i.val && x.powered && decide (otThreshold x.cfg < t) then
      if x.suprdy then s.protect i.val fun x => { x with otcond := true, ot := true }
      else (s.modIsl i.val fun x => { x with otcond := true }).sync
    else s)

/-- SOFT_TURN_OFF_END: full sink and CLMP; the switch stays off while latched (R222). -/
def execSoftTurnOffEnd (i : Fin 12) (s : State) : Out :=
  .next (if (s.island i.val).soft then s.modIsl i.val fun x => { x with soft := false, clmp := true } else s)

/-- The island is commanded on at the end of a two-level turn-off: an ON edge followed under row 8, or a row 5 or 6 turn-on already due (R221, R239). -/
def Isl.stillOn (x : Isl) (high : Bool) : Bool :=
  let r := x.row high
  (decide (r = 8) && x.follow && x.edge) || ((decide (r = 5) || decide (r = 6)) && !x.ascWait)

/-- TTLTO_EXPIRY: the plateau ends; a commanded level still ON turns the island on (R221). -/
def execTtltoExpiry (i : Fin 12) (s : State) : Out :=
  .next (
    let x := s.island i.val
    if x.plateau then s.putIsl i.val { x with plateau := false, out := x.out || x.stillOn (isHigh i.val) } else s)

/-- ASCDT_EXPIRY: ASCDT after SAFE_ON or a link-loss ASC_LOW the island turns on; a two-level turn-off still running holds it back (R221, R239). -/
def execAscdtExpiry (i : Fin 12) (s : State) : Out :=
  .next (
    let x := s.island i.val
    if x.ascWait then s.putIsl i.val { x with ascWait := false, out := x.out || !x.plateau } else s)

/-- The supplies of an island after a rise: each monitor ends its report at its own rising threshold, and with both ended SUPRDY is set; an over-temperature condition that stands then latches (R225–R227, R232; the last DESIGN CHOICE, assumption 39). -/
def Isl.supplies (x : Isl) (vcc vee : Int) : Isl :=
  let lowC := (x.lowC || !x.powered) && decide (vcc < vccRise x.cfg)
  let lowE := (x.lowE || !x.powered) && !veeBack x.cfg vee
  let rdy := !lowC && !lowE
  { x with powered := true, lowC := lowC, lowE := lowE, suprdy := x.suprdy || rdy, ot := x.ot || (rdy && !x.suprdy && x.otcond) }

/-- ISLAND_SUPPLY_READY: VCC2 − KS and VEE2 − KS, in mV, after a rise. From 4 V the island is powered (R220, R225–R227). -/
def execIslandSupplyReady (i : Fin 12) (vcc vee : Int) (s : State) : Out :=
  .next (
    if s.islPresent i.val && decide (4000 ≤ vcc - vee) then (s.modIsl i.val fun x => x.supplies vcc vee).sync else s)

/-- ISLAND_SUPPLY_LOSS: below 4 V the latches, the training and the held action are lost (R220, R233, R246). -/
def execIslandSupplyLoss (i : Fin 12) (s : State) : Out :=
  .next (
    if s.islPresent i.val then
      (s.modIsl i.val fun x => { cap := x.cap, sym := x.sym, edge := x.edge }).sync
    else s)

/-! ## EN lands (R234, R235) -/

/-- The filtered level of EN of inverter v. -/
def State.setEn (s : State) (v : Nat) (b : Bool) : State :=
  if v = 0 then { s with pins := { s.pins with enA := b } } else { s with pins := { s.pins with enB := b } }

/-- EN_FALL: taken by the land filter; every island of the inverter turns off, and the land's wake source fires; EN_B has its function on every variant (R234, R441, R482). -/
def execEnFall (v : Fin 2) (s : State) : Out := .next (((s.setEn v.val false).fire (6 + v.val)).sync)

/-- A clear attempt at an island (R235): each latch clears where its condition is absent, and one that stays set takes no clear until an EN low of 2.0 µs. -/
def Isl.clearAttempt (x : Isl) (full vkp : Bool) : Isl :=
  let m := if full then 0 else x.missed
  let tryClear := fun (latched cond : Bool) (b : Nat) => latched && (cond || m.testBit b)
  let sc := tryClear x.sc vkp 0
  let dsat := tryClear x.dsat x.out 1
  let uvcc := tryClear x.uvcc x.uvcond 2
  let uvee := tryClear x.uvee x.uvcond 3
  let ot := tryClear x.ot x.otcond 4
  { x with sc := sc, dsat := dsat, uvcc := uvcc, uvee := uvee, ot := ot,
           missed := bitsOf 5 fun b => [sc, dsat, uvcc, uvee, ot].getD b false }

/-- EN_RISE after a low time in ns; `vkp` names the islands whose VKP is above the threshold. From 2.0 µs the islands are given a clear attempt, up to 1.5 µs none, between the two one or none (R234, R235, assumption 5). -/
def execEnRise (v : Fin 2) (lowNs : Nat) (vkp : BitVec 12) (s : State) : Out :=
  .next (
    let d := if 2000 ≤ lowNs then (true, s)
      else if lowNs ≤ 1500 then (false, s)
      else let f := s.draw 2; (decide (f.1 = 1), f.2)
    let s := d.2
    let s := if d.1 && !s.pins.noVsys then
        s.each (below s.nIsl fun i => decide (invOfIsl i = v.val) && (s.island i).powered) fun s i =>
          s.setIsland i ((s.island i).clearAttempt (decide (2000 ≤ lowNs)) (vkp.toNat.testBit i))
      else s
    ((s.setEn v.val true).fire (6 + v.val)).sync)

/-! ## Telemetry (R248, R249) -/

/-- A latch of the mirror newly set: FLTEV, and its counter (R252). -/
def State.noteLatch (s : State) (i : Nat) (f : Fld) (now : Bool) (cnt : Option Fld) : State :=
  if now && !s.on f then
    let s := (s.raise f).raise (R.ISL_FLT_FLTEV i)
    match cnt with
    | some c => s.bumpSat c
    | none => s
  else s.putB f now

/-- FAULT_STATE: the latches, conditions and SUPRDY of island i reach their mirror (R248). FLT_UVLO counts once where both of its bits set together. -/
def execFaultState (i : Fin 12) (s : State) : Out :=
  .next (
    if !s.linkUp i.val then s
    else
      let x := s.island i.val
      let k := i.val
      let uv := if x.uvcc && !s.on (R.ISL_FLT_UVCC k) then none else some (R.ISL_CNT_UVCNT k)
      let s := s.noteLatch k (R.ISL_FLT_SC k) x.sc (some (R.ISL_CNT_SCCNT k))
      let s := s.noteLatch k (R.ISL_FLT_DSAT k) x.dsat (some (R.ISL_CNT_DSATCNT k))
      let s := s.noteLatch k (R.ISL_FLT_UVCC k) x.uvcc (some (R.ISL_CNT_UVCNT k))
      let s := s.noteLatch k (R.ISL_FLT_UVEE k) x.uvee uv
      let s := s.noteLatch k (R.ISL_FLT_OT k) x.ot (some (R.ISL_CNT_OTCNT k))
      ((s.putB (R.ISL_FLT_UVCOND k) x.uvcond).putB (R.ISL_FLT_OTCOND k) x.otcond).putB (R.ISL_FLT_SUPRDY k) x.suprdy)

/-- A transition is valid: plateau at least 200 mV, both crossings within 2 µs of the turn-off, the turn-off under row 8 with no fault latched during it (R249). -/
def Isl.transitionOk (x : Isl) (plat : Nat) (inTime : Bool) : Bool :=
  decide (200 ≤ plat) && inTime && x.offMark.isSome

/-- The PWM takes a reported transition of an edge made in RUN, with no safe state and no protective turn-off since (R205). -/
def State.takeTransition (s : State) (k time : Nat) (mark : Option Nat) : State :=
  if !s.safeApplied (invOfIsl k) && decide (mark = some (s.gen (legOfIsl k)).upset) then
    s.dtAccept (legOfIsl k) (!isHigh k) time
  else s

/-- The transition register of island k. -/
def State.putTransition (s : State) (k time plat : Nat) (ok : Bool) : State :=
  ((s.put (R.ISL_TTR_TIME k) time).put (R.ISL_TTR_PLAT k) plat).putB (R.ISL_TTR_VALID k) ok

/-- One more valid transition of a version-1 island; the sixteenth completes an average, whose last place and plateau the spec leaves open (R243, assumption 5). -/
def State.average (s : State) (k time : Nat) : State :=
  let x := s.island k
  let mark := if x.avgN = 0 then x.offMark else if x.avgMark = x.offMark then x.avgMark else none
  let sum := x.avgSum + time
  if x.avgN + 1 < 16 then s.setIsland k { x with avgN := x.avgN + 1, avgSum := sum, avgMark := mark, offMark := none }
  else
    let s := s.setIsland k { x with avgN := 0, avgSum := 0, avgMark := none, offMark := none }
    let r := s.draw 2
    let p := r.2.draw 16384
    let avg := if sum % 16 = 0 then sum / 16 else sum / 16 + r.1
    (p.2.putTransition k avg p.1 true).takeTransition k avg mark

/-- NODE_TRANSITION: an own turn-off of island i has been measured: its 10 %–90 % time in fine units, the plateau in mV, and whether both crossings fell within 2 µs of it. Version 2 reports it; version 1 averages the valid ones (R205, R243, R248, R249). -/
def execNodeTransition (i : Fin 12) (time : BitVec 16) (plat : BitVec 14) (inTime : Bool) (s : State) : Out :=
  .next (
    if !s.linkUp i.val then s
    else
      let k := i.val
      let x := s.island k
      let ok := x.transitionOk plat.toNat inTime
      if s.get (R.ISL_LSTAT_VER k) = 1 then (if ok then s.average k time.toNat else s.setIsland k { x with offMark := none })
      else
        let s := (s.setIsland k { x with offMark := none }).putTransition k time.toNat plat.toNat ok
        if ok then s.takeTransition k time.toNat x.offMark else s)

/-- PROPAGATION_DELAY: an averaged ON or OFF delay; it reaches PDCOMP at the leg's reload edge (R214, R248). -/
def execPropagationDelay (i : Fin 12) (onEdge : Bool) (d : BitVec 16) (s : State) : Out :=
  .next (
    if !s.linkUp i.val then s
    else if onEdge then
      { (s.put (R.ISL_TPD_ON i.val) d.toNat) with pwm := { s.pwm with tpdOn := Sparse.set none s.pwm.tpdOn i.val (some d.toNat) } }
    else
      { (s.put (R.ISL_TPD_OFF i.val) d.toNat) with pwm := { s.pwm with tpdOff := Sparse.set none s.pwm.tpdOff i.val (some d.toNat) } })

/-- SUPPLIES: VCC2 − KS and VEE2 − KS in mV (R248). -/
def execSupplies (i : Fin 12) (vcc vee : BitVec 16) (s : State) : Out :=
  .next (if s.linkUp i.val then (s.put (R.ISL_VSUP_VCC2 i.val) vcc.toNat).put (R.ISL_VSUP_VEE2 i.val) vee.toNat else s)

/-- DIE_TEMPERATURE in 1/16 °C (R248); a temperature 10 °C below the threshold the island holds ends its over-temperature condition (R232). -/
def execDieTemperature (i : Fin 12) (t : BitVec 16) (s : State) : Out :=
  .next (
    let lim : Int := otThreshold (s.island i.val).cfg - 160
    let s := if s.islPresent i.val && (s.island i.val).otcond && decide (t.toInt < lim) then
        s.modIsl i.val fun x => { x with otcond := false } else s
    if s.linkUp i.val then s.put (R.ISL_TEMP_DIE i.val) t.toNat else s)

/-- NTC_RATIO in Q0.16 (R232, R248). -/
def execNtcRatio (i : Fin 12) (r : BitVec 16) (s : State) : Out :=
  .next (if s.linkUp i.val then s.put (R.ISL_NTC_RATIO i.val) r.toNat else s)

/-- One bit of the side channel's CRC-8, polynomial 0x2F (R237). -/
def crc2fBit (c : Nat) : Nat := if 128 ≤ c then Nat.xor (2 * c % 256) 0x2F else 2 * c % 256

/-- One byte of it. -/
def crc2fByte (c b : Nat) : Nat :=
  crc2fBit (crc2fBit (crc2fBit (crc2fBit (crc2fBit (crc2fBit (crc2fBit (crc2fBit (Nat.xor c (b % 256)))))))))

/-- A side-channel frame of 48 bits is good: its last byte is the CRC-8 of the five before it, from initial value 0xFF (R237). The order of the bytes, most significant first, is the model's (DESIGN CHOICE, assumption 49). -/
def frameGood (f : Nat) : Bool :=
  decide ([40, 32, 24, 16, 8].foldl (fun c k => crc2fByte c (slice f k 8)) 0xFF = f % 256)

/-- KEEP_ALIVE: a side-channel frame from island i that carries no item. A good one restarts link supervision and mirrors nothing; one that fails its CRC is counted (R237, R245, R248, R252). -/
def execKeepAlive (i : Fin 12) (frame : BitVec 48) (s : State) : Out :=
  .next (if s.linkUp i.val && !frameGood frame.toNat then s.bumpSat (R.ISL_LSTAT_CRCCNT i.val) else s)

/-! ## Link loss (R245, R246) -/

/-- The exchanges with island i are over. -/
def State.dropWrites (s : State) (i : Nat) : State :=
  { s with islWrites := Sparse.set [] s.islWrites i [] }.clear (R.ISL_LSTAT_CFGPEND i)

/-- LINK_LOST: 3.0 µs without a good frame from island i; the link, and what was on its way over it, ends (R240, R245). -/
def execLinkLost (i : Fin 12) (s : State) : Out :=
  .next (
    if s.linkUp i.val then
      ((((((s.dropWrites i.val).raise (R.ISL_LSTAT_LOST i.val)).raise (R.ISL_LSTAT_LOSTEV i.val)).clear (R.ISL_LSTAT_TRAINED i.val)).put
        (R.ISL_LSTAT_FAILC i.val) 6)).sync
    else s)

/-- ISLAND_LINK_LOSS: the island has had no good frame for 4.0 µs; a parked island counts silence only under another symbol than SAFE_OFF and SAFE_ON (R245, R247). -/
def execIslandLinkLoss (i : Fin 12) (s : State) : Out :=
  .next (
    let x := s.island i.val
    let quiet := x.parked && (decide (x.sym = .safeOff) || decide (x.sym = .safeOn))
    if s.islPresent i.val && x.powered && !quiet then
      s.modIsl i.val fun x => { x with lost := true, trained := false, parked := false }
    else s)

/-! ## Training (R242–R244) -/

/-- The highest common rate code at or below MAXRATE whose test passes (R242, R243). -/
def trainRate (c : IslCap) (maxRate : Nat) : Option Nat :=
  ([3, 2, 1].filter fun r => decide (r ≤ maxRate) && c.rates.testBit (r - 1) && c.rateOk.testBit (r - 1)).head?

/-- The highest common version (R243). -/
def trainVersion (c : IslCap) : Option Nat := if c.versions.testBit 1 then some 2 else if c.versions.testBit 0 then some 1 else none

/-- The failure code of an island's training, 0 for success (R242). -/
def State.trainFail (s : State) (i : Nat) : Nat :=
  let x := s.island i
  if !x.powered || !x.cap.answers then 1
  else if (trainVersion x.cap).isNone then 3
  else if (trainRate x.cap (s.get R.ISL_CTL_MAXRATE)).isNone then 2
  else if s.on (R.ISL_ICFG_SUPMODE i) && !x.cap.boot then 5
  else if !x.cap.readOk then 4
  else 0

/-- The fields of island i as its registers hold them. -/
def State.islCfg (s : State) (i : Nat) : IslCfg :=
  { tlto := s.on (R.ISL_ICFG_TLTOEN i), scen := s.on (R.ISL_ICFG_SCEN i), dsaten := s.on (R.ISL_ICFG_DSATEN i),
    vneg := s.on (R.ISL_ICFG_VNEG i), boot := s.on (R.ISL_ICFG_SUPMODE i), veeth := s.get (R.ISL_UVLO_VEETH i),
    vccth := s.get (R.ISL_UVLO_VCCTH i), dsatblk := s.get (R.ISL_SCCFG_DSATBLK i), dsatth := s.get (R.ISL_SCCFG_DSATTH i),
    scblk := s.get (R.ISL_SCCFG_SCBLK i), scth := s.get (R.ISL_SCCFG_SCTH i), tsoft := s.get (R.ISL_STO_TSOFT i),
    isoft := s.get (R.ISL_STO_ISOFT i), ttlto := s.get (R.ISL_STO_TTLTO i), vtlto := s.get (R.ISL_STO_VTLTO i),
    ascdt := s.get (R.ISL_AUX_ASCDT i), otth := s.get (R.ISL_AUX_OTTH i) }

/-- The island takes its uploaded fields (R242 step 4). -/
def State.upload (s : State) (i : Nat) : State :=
  let c := s.islCfg i
  s.modIsl i fun x => { x with cfg := c }

/-- Training of island i (R242): commit, or its failure. -/
def State.train (s : State) (i : Nat) : State :=
  let s := (s.clear (R.ISL_LSTAT_TRAINED i)).clear (R.ISL_LSTAT_CRCCNT i)
  let f := s.trainFail i
  if f ≠ 0 then s.put (R.ISL_LSTAT_FAILC i) f
  else
    let x := s.island i
    let ll := s.on (R.ISL_ICFG_LLACT i)
    let s := (s.upload i).modIsl i fun x => { x with trained := true, lost := false, parked := false, llAsc := ll, avgN := 0, avgSum := 0 }
    let s := ((s.raise (R.ISL_LSTAT_TRAINED i)).clear (R.ISL_LSTAT_FAILC i)).clear (R.ISL_LSTAT_LOST i)
    ((s.put (R.ISL_LSTAT_RATE i) ((trainRate x.cap (s.get R.ISL_CTL_MAXRATE)).getD 0)).put (R.ISL_LSTAT_VER i)
      ((trainVersion x.cap).getD 0)).putB (R.ISL_LSTAT_LLHELD i) ll

/-- The islands of used legs (R242, R244). -/
def State.usedIslands (s : State) : List Nat := below s.nIsl fun i => !s.legUnused (legOfIsl i)

/-- Training of every island of a used leg, as the Wedge runs it to its end (R242). -/
def State.trainAll (s : State) : State := (s.each s.usedIslands State.train).sync

/-- TRBUSY, and RETRAIN, which reads 1 with it (R252). -/
def State.setTraining (s : State) (b : Bool) : State := (s.putB R.ISL_STAT_TRBUSY b).putB R.ISL_CTL_RETRAIN b

/-- A training of island i starts: TRAINED reads 0, and it ends within 1.1 ms (660,000 CORECLK cycles), at an instant the spec leaves open (R242, R244, assumption 5). -/
def State.trainStart (s : State) (i : Nat) : State :=
  let d := s.draw 660000
  let s := (d.2.clear (R.ISL_LSTAT_TRAINED i)).dropWrites i
  { s with islTrain := Sparse.set none s.islTrain i (some (s.cycle + 1 + d.1)) }

/-- RETRAIN, in READY only; while a training runs it is running already (R244); a block that has agreed to a BANKED entry has stopped (R435). -/
def execRetrain (s : State) : Out :=
  .next (
    if !s.busUp || s.stopped 13 then s
    else if s.dev ≠ .ready then s.raise R.ISL_STAT_CFGREJ
    else if s.on R.ISL_STAT_TRBUSY then s
    else if s.usedIslands = [] then s
    else ((s.each s.usedIslands State.trainStart).setTraining true).sync)

/-- Island i's training ends once its cycle has come (R242 step 6). -/
def State.trainEnd (s : State) (i : Nat) : State :=
  match Sparse.get none s.islTrain i with
  | some d => if d ≤ s.cycle then ({ s with islTrain := Sparse.set none s.islTrain i none }.train i).sync else s
  | none => s

/-- A configuration exchange with island i ends: the read-back matches and the island has its fields, or three attempts have failed, which ends the exchanges after it too (R250); an unpowered island, or one that has declared loss, answers nothing (R245). -/
def State.writeEnd (s : State) (i : Nat) : State :=
  match Sparse.get [] s.islWrites i with
  | (d, ok) :: t =>
    if d ≤ s.cycle then
      let x := s.island i
      if ok && x.powered && !x.lost then
        let s := { s with islWrites := Sparse.set [] s.islWrites i t }
        (if t = [] then s.clear (R.ISL_LSTAT_CFGPEND i) else s).upload i
      else (((s.dropWrites i).put (R.ISL_LSTAT_FAILC i) 4).clear (R.ISL_LSTAT_TRAINED i)).sync
    else s
  | [] => s

/-- What the links bring to an end in this cycle. -/
def State.islTick (s : State) : State :=
  if (s.islTrain = [] ∧ s.islWrites = []) ∨ s.stopped 13 = true then s
  else
    let s := (s.each (List.range s.nIsl) State.trainEnd).each (List.range s.nIsl) State.writeEnd
    if s.on R.ISL_STAT_TRBUSY && decide (s.islTrain = []) then s.setTraining false else s

/-! ## Configuration of an island (R250) -/

/-- The fields of ICFG (0), UVLO (1), SCCFG (2), STO (3), AUX (4) that a write carries are acceptable (R223, R231, R252). -/
def islCfgOk (reg i v : Nat) : Bool :=
  match reg with
  | 0 => (v.testBit 7 || v.testBit 6) && !(v.testBit 4 && isHigh i) && !(v.testBit 0 && !isHigh i)
  | 1 => decide (slice v 8 4 ≤ 11) && decide (slice v 0 4 ≤ 12)
  | 2 => decide (slice v 24 6 ≤ 50) && decide (slice v 16 4 ≤ 14) && decide (slice v 8 6 ≤ 40)
  | 3 =>
    decide (1 ≤ slice v 24 4) && decide (slice v 24 4 ≤ 8) && decide (1 ≤ slice v 16 4) && decide (slice v 16 4 ≤ 8) &&
    decide (2 ≤ slice v 8 5) && decide (slice v 8 5 ≤ 16) && decide (slice v 0 4 ≤ 10)
  | _ => decide (10 ≤ slice v 16 8) && decide (slice v 16 8 ≤ 100) && decide (slice v 0 4 ≤ 8)

/-- The fields of a register of island i. -/
def islFields (reg i : Nat) : List Fld :=
  match reg with
  | 0 => [R.ISL_ICFG_SCEN i, R.ISL_ICFG_DSATEN i, R.ISL_ICFG_TLTOEN i, R.ISL_ICFG_LLACT i, R.ISL_ICFG_VNEG i, R.ISL_ICFG_SUPMODE i]
  | 1 => [R.ISL_UVLO_VEETH i, R.ISL_UVLO_VCCTH i]
  | 2 => [R.ISL_SCCFG_DSATBLK i, R.ISL_SCCFG_DSATTH i, R.ISL_SCCFG_SCBLK i, R.ISL_SCCFG_SCTH i]
  | 3 => [R.ISL_STO_TSOFT i, R.ISL_STO_ISOFT i, R.ISL_STO_TTLTO i, R.ISL_STO_VTLTO i]
  | _ => [R.ISL_AUX_ASCDT i, R.ISL_AUX_OTTH i]

/-- Put a register value into its fields. -/
def State.putFields (s : State) (l : List Fld) (v : Nat) : State :=
  l.foldl (fun s f => s.put f (slice v f.lo f.width)) s

/-- A write to a trained island is sent and read back, after the exchanges that are on their way, CFGPEND reading 1 until then: within three attempts of 2 µs, at an instant the spec leaves open (R250, assumptions 5 and 39). -/
def State.sendWrite (s : State) (i : Nat) (readBack : Bool) : State :=
  let d := s.draw 3600
  let s := d.2.raise (R.ISL_LSTAT_CFGPEND i)
  let l := Sparse.get [] s.islWrites i
  let from_ := match l.getLast? with
    | some e => max e.1 s.cycle
    | none => s.cycle
  { s with islWrites := Sparse.set [] s.islWrites i (l ++ [(from_ + 1 + d.1, readBack)]) }

/-- ISL_CONFIG_WRITE: a write of ICFG, UVLO, SCCFG, STO or AUX of island i, and whether its read-back will match within 3 attempts (R250). -/
def execIslConfigWrite (i : Fin 12) (reg : Fin 5) (v : Word) (readBack : Bool) (s : State) : Out :=
  .next (
    if !s.busUp || s.stopped 13 || decide (s.dev ≠ .ready) || !s.islPresent i.val then s
    else if !islCfgOk reg.val i.val v.toNat then s.raise R.ISL_STAT_CFGREJ
    else
      let s := s.putFields (islFields reg.val i.val) v.toNat
      if s.on (R.ISL_LSTAT_TRAINED i.val) then s.sendWrite i.val readBack else s)

end Sys2Proof.Machine
end

