-- ==== Sys2Proof/Machine/Regs.lean ====
section
/-! DEFINITION. Looking up a register by its byte address (R9, R10, R499), and its stored word. -/

namespace Sys2Proof.Machine

open Sys2Proof

/-- The registers of the 64 KiB window that holds an address (R499). -/
def RegMap.window (addr : Nat) : List RegDef :=
  match addr / 0x10000 with
  | 0x4000 => RegMap.sys0 ++ RegMap.sys1
  | 0x4001 => RegMap.wedge0 ++ RegMap.wedge1
  | 0x4002 => RegMap.sec0 ++ RegMap.sec1
  | 0x4010 => RegMap.wheel0 ++ RegMap.wheel1
  | 0x4011 => RegMap.xwin0
  | 0x4020 => RegMap.adc0 ++ RegMap.adc1
  | 0x4021 => RegMap.pos0 ++ RegMap.pos1 ++ RegMap.pos2
  | 0x4030 => RegMap.pwm0 ++ RegMap.pwm1 ++ RegMap.pwm2
  | 0x4031 => RegMap.isl0 ++ RegMap.isl1
  | 0x4040 => RegMap.saggar0 ++ RegMap.saggar1
  | 0x4041 => RegMap.cone0
  | 0x4042 => RegMap.safeout0 ++ RegMap.safecfg0
  | 0x4050 => RegMap.loop0 ++ RegMap.loop1
  | 0x4051 => RegMap.rcu0
  | 0x4060 => RegMap.que0 ++ RegMap.que1
  | 0x4070 => RegMap.can0 0 ++ RegMap.can1 0 ++ RegMap.can2 0 ++ RegMap.can00
  | 0x4071 => RegMap.can0 1 ++ RegMap.can1 1 ++ RegMap.can2 1
  | 0x4072 => RegMap.can0 2 ++ RegMap.can1 2 ++ RegMap.can2 2
  | 0x4073 => RegMap.can0 3 ++ RegMap.can1 3 ++ RegMap.can2 3
  | 0x4078 => RegMap.eth0
  | 0x4079 => RegMap.hspi0
  | 0x4080 => RegMap.rec0 ++ RegMap.rec1
  | 0x4081 => RegMap.nandif0
  | 0x4090 => RegMap.pwr0
  | 0x40A0 => RegMap.bist0
  | _ => []

/-- Index of an address in a register array. -/
def RegDef.index (r : RegDef) (addr : Nat) : Option Nat :=
  if r.base ≤ addr ∧ (addr - r.base) % r.stride = 0 ∧ (addr - r.base) / r.stride < r.count then
    some ((addr - r.base) / r.stride)
  else none

/-- The fields of the register at an address in a list; none listed where there is no register. -/
def regFieldsIn (addr : Nat) : List RegDef → List Fld
  | [] => []
  | r :: t =>
    match r.index addr with
    | some i => r.flds.map fun f => f i
    | none => regFieldsIn addr t

/-- The stored word of a list of fields. -/
def State.wordOf (s : State) (l : List Fld) : Nat := l.foldl (fun a f => a + s.get f * 2 ^ f.lo) 0

/-! ## Absent addresses (R4, R499, R500) -/

/-- The window of a present unit. -/
def State.windowPresent (s : State) (addr : Nat) : Bool :=
  match addr / 0x10000 with
  | 0x4051 => s.hasRcu
  | 0x4072 => decide (3 ≤ s.nCan)
  | 0x4073 => decide (4 ≤ s.nCan)
  | 0x4078 => s.hasEth
  | 0x4080 => s.hasShard
  | 0x4081 => s.hasShard
  | _ => true

/-- An address that lies in a window of R499. -/
def inWindow (addr : Nat) : Bool :=
  [0x4000, 0x4001, 0x4002, 0x4010, 0x4011, 0x4020, 0x4021, 0x4030, 0x4031, 0x4040, 0x4041, 0x4042, 0x4050, 0x4051,
   0x4060, 0x4070, 0x4071, 0x4072, 0x4073, 0x4078, 0x4079, 0x4080, 0x4081, 0x4090, 0x40A0].contains (addr / 0x10000)

/-- An address in [lo, hi). -/
def between (lo hi addr : Nat) : Bool := decide (lo ≤ addr) && decide (addr < hi)

/-- Instances of inverter B and of ADC8–ADC15 inside present windows (R136, R217, R252, R278). -/
def instanceB (addr : Nat) : Bool :=
  between 0x40201080 0x40201100 addr || between 0x40201860 0x402018C0 addr ||
  between 0x403001C0 0x40300280 addr || between 0x40300418 0x40300430 addr ||
  decide (addr = 0x4030001C) || decide (addr = 0x40300024) || between 0x40310280 0x40310400 addr ||
  decide (addr = 0x40400034) || decide (addr = 0x4040003C) || decide (addr = 0x40400044) || decide (addr = 0x4040004C) ||
  between 0x40400188 0x40400190 addr

/-- An absent address (R500). -/
def State.absentAddr (s : State) (addr : Nat) : Bool :=
  !inWindow addr || !s.windowPresent addr || (decide (s.variant = .vz6821) && instanceB addr)

end Sys2Proof.Machine
end

