-- ==== Sys2Proof/Machine/Bytes.lean ====
section
/-! DEFINITION. Bytes: little-endian numbers and the check sums of the device's formats. -/

namespace Sys2Proof.Machine

open Sys2Proof

/-- The `n` bytes of a number, least significant first. -/
def bytesLE : Nat → Nat → List Nat
  | 0, _ => []
  | n + 1, v => v % 256 :: bytesLE n (v / 256)

/-- The number whose bytes, least significant first, are listed. -/
def ofBytesLE : List Nat → Nat
  | [] => 0
  | b :: t => b % 256 + 256 * ofBytesLE t

/-- Bytes in words of 8, the last padded with zeros. -/
def bytesToWords (l : List Nat) : List Nat :=
  (List.range ((l.length + 7) / 8)).map fun i => ofBytesLE ((l.drop (8 * i)).take 8)

/-- One bit of a reflected CRC-32 with polynomial 0x04C1_1DB7. -/
def crc32Bit (c : Nat) : Nat := if c % 2 = 1 then Nat.xor (c / 2) 0xEDB88320 else c / 2

/-- One byte of it. -/
def crc32Byte (c b : Nat) : Nat :=
  let c := Nat.xor c (b % 256)
  crc32Bit (crc32Bit (crc32Bit (crc32Bit (crc32Bit (crc32Bit (crc32Bit (crc32Bit c)))))))

/-- CRC-32: initial value 0xFFFF_FFFF, reflected, final XOR 0xFFFF_FFFF (R294). -/
def crc32 (l : List Nat) : Nat := Nat.xor (l.foldl crc32Byte 0xFFFFFFFF) 0xFFFFFFFF

end Sys2Proof.Machine
end

