-- ==== Sys2Proof/Machine/Queues.lean ====
section
/-! DEFINITION. The hardware queues (R347–R367): packets, headers, drops, pops, poison and fill thresholds. -/

namespace Sys2Proof.Machine

open Sys2Proof

/-- The marks of R353. -/
def markData : Nat := 0
def markEnd : Nat := 1
def markHdr : Nat := 2
def markAbort : Nat := 3

/-- The unit of a requester (R350, R352); the debug port is none. -/
def reqUnit : Requester → Nat
  | .hspi => 0x03
  | .cone => 0x02
  | .debug => 0xFF

/-! ## Fill (R347, R353, R363) -/

/-- Capacity in entries (R347). -/
def State.qCap (s : State) (q : Nat) : Nat := 512 * s.get (R.QUE_QCFG_SIZE q)
/-- Stored and free entries. -/
def State.qFill (s : State) (q : Nat) : Nat := (s.queue q).ents.length
def State.qFree (s : State) (q : Nat) : Nat := s.qCap q - s.qFill q
/-- Packet mode (R353). -/
def State.qPacket (s : State) (q : Nat) : Bool := s.on (R.QUE_QCFG_MODE q)
/-- POLICY = DROP_PACKET (R356). -/
def State.qDropPacket (s : State) (q : Nat) : Bool := decide (s.get (R.QUE_QCFG_POLICY q) = 2)

/-- What has happened to queue q in the present FABCLK cycle: the fill before it and the entries popped in it. -/
def State.qEdge (s : State) (q : Nat) : Nat × Nat :=
  match (s.queue q).edge with
  | some (f, n) => if f = s.fab then n else (s.qFill q, 0)
  | none => (s.qFill q, 0)

/-- FREE as a push finds it: judged before the pops of the same FABCLK edge (R358). -/
def State.qRoom (s : State) (q : Nat) : Nat := s.qFree q - (s.qEdge q).2

/-- Change a queue, keeping the fill its FABCLK cycle began with. -/
def State.modQueue (s : State) (q : Nat) (f : Queue → Queue) : State :=
  s.setQueue q { f (s.queue q) with edge := some (s.fab, s.qEdge q) }

/-- A FABCLK cycle in which queue q was pushed or popped ends: IRQ bit q where FILL rose from below LEVEL to LEVEL or above (R363). -/
def State.levelCheck (s : State) (q : Nat) : State :=
  match (s.queue q).edge with
  | some (_, old, _) =>
    let l := s.get (R.QUE_QLVL_LEVEL q)
    let t := s.setQueue q { s.queue q with edge := none }
    if l ≠ 0 ∧ old < l ∧ l ≤ s.qFill q then t.putBit R.QUE_IRQ_LVL q true else t
  | none => s

/-- The thresholds at the end of a FABCLK cycle. -/
def State.levelTick (s : State) : State :=
  if s.cycle % 2 = 0 then s else s.each (s.queues.filterMap fun e => if e.2.edge.isSome then some e.1 else none) State.levelCheck

/-- The Cone's queue interrupt (R363). -/
def State.coneQueueIrq (s : State) : Bool :=
  (List.range 32).any fun q => s.bit R.QUE_IRQ_LVL q && decide (s.get (R.QUE_QCFG_CONS q) = reqUnit .cone)

/-! ## Drops (R356) -/

/-- Count dropped words, and a packet that lost its first word (R356). -/
def State.qDropped (s : State) (q words : Nat) (packet : Bool) : State :=
  let s := s.setQueue q { s.queue q with dropped := true }
  let s := (s.raise (R.QUE_QSTAT_DROP q)).addSat (R.QUE_QDROP_DROPW q) words
  if packet then s.bumpSat (R.QUE_QDROP_DROPP q) else s

/-! ## Pushes (R353–R357) -/

/-- An entry with good parity. -/
def entry (word mark : Nat) : QEntry := { word := word, mark := mark, bad := false }

/-- The header word (R354). -/
def State.hdrWord (s : State) (q : Nat) (empty : Bool) : Nat :=
  s.tsc % 2 ^ 40 * 2 ^ 24 + (s.queue q).seq * 2 ^ 16 + s.get (R.QUE_QCFG_PROD q) * 2 ^ 11
    + (if (s.queue q).dropped then 2 else 0) + (if empty then 1 else 0)

/-- A packet opens: its header, and its first word on the same edge (R354). -/
def State.qOpen (s : State) (q word : Nat) (last : Bool) : State :=
  let h := entry (s.hdrWord q false) markHdr
  let w := entry word (if last then markEnd else markData)
  s.modQueue q fun x => { x with
    ents := x.ents ++ [h, w], openP := !last, openN := if last then 0 else 2, seq := (x.seq + 1) % 256, dropped := false }

/-- A packet that cannot open is dropped whole; SEQ counts it (R354, R356). -/
def State.qMiss (s : State) (q : Nat) (last : Bool) : State :=
  (s.qDropped q 1 true).modQueue q fun x => { x with seq := (x.seq + 1) % 256, dropping := !last, openP := !last }

/-- The open packet ends with an ABORT (R354, R356). -/
def State.qAbort (s : State) (q : Nat) : State :=
  s.modQueue q fun x => { x with ents := x.ents ++ [entry 0 markAbort], openP := false, openN := 0 }

/-- The open packet is withdrawn, header included; its words count as dropped (R356). -/
def State.qWithdraw (s : State) (q : Nat) : State :=
  let n := (s.queue q).openN
  (s.modQueue q fun x => { x with
    ents := x.ents.take (x.ents.length - n), openP := false, openN := 0 }).qDropped q (n - 1) true

/-- A word of an open packet that is stored. -/
def State.qAppend (s : State) (q word : Nat) (last : Bool) : State :=
  s.modQueue q fun x => { x with
    ents := x.ents ++ [entry word (if last then markEnd else markData)],
    openP := !last, openN := if last then 0 else x.openN + 1 }

/-- A word of an open packet that finds no room: the packet is truncated or withdrawn, and the rest dropped (R356). -/
def State.qOverflow (s : State) (q : Nat) (last : Bool) : State :=
  let s := if s.qDropPacket q || decide (s.qRoom q = 0) then (s.qWithdraw q).qDropped q 1 false else (s.qAbort q).qDropped q 1 true
  s.modQueue q fun x => { x with dropping := !last, openP := !last }

/-- A word that arrives while a data-plane reset runs is dropped and counted; SEQ stays at 0 (R364). -/
def State.qLost (s : State) (q : Nat) (last : Bool) : State :=
  let x := s.queue q
  let s := s.qDropped q 1 (s.qPacket q && !x.dropping)
  if s.qPacket q then s.setQueue q { s.queue q with dropping := !last, openP := !last } else s

/-- A push of a word; `last` ends the packet (R353, R354, R356). -/
def State.qPush (s : State) (q word : Nat) (last : Bool) : State :=
  let x := s.queue q
  if s.dprDue.isSome then s.qLost q last
  else if !s.qPacket q then
    if 1 ≤ s.qRoom q then s.modQueue q fun x => { x with ents := x.ents ++ [entry word markData] }
    else s.qDropped q 1 false
  else if x.dropping then
    (s.qDropped q 1 false).modQueue q fun x => { x with dropping := !last, openP := !last }
  else if !x.openP then
    if (if s.qDropPacket q then 2 else 3) ≤ s.qRoom q then s.qOpen q word last else s.qMiss q last
  else if (if s.qDropPacket q || last then 1 else 2) ≤ s.qRoom q then s.qAppend q word last
  else s.qOverflow q last

/-- PKTEMPTY: an empty packet, or the end of the open one (R354, R356); in word mode there is no header to write. An empty packet that is dropped loses no word, so DROPP stays (R356, R367). -/
def State.qEmpty (s : State) (q : Nat) : State :=
  let x := s.queue q
  if !s.qPacket q then s
  else if s.dprDue.isSome then
    (if x.dropping then s else s.qDropped q 0 false).setQueue q { (s.queue q) with dropped := true, dropping := false, openP := false }
  else if x.dropping then s.modQueue q fun x => { x with dropping := false, openP := false }
  else if x.openP then (if 1 ≤ s.qRoom q then s.qAbort q else s.qWithdraw q)
  else if 1 ≤ s.qRoom q then
    let h := entry (s.hdrWord q true) markHdr
    s.modQueue q fun x => { x with ents := x.ents ++ [h], seq := (x.seq + 1) % 256, dropped := false }
  else (s.qDropped q 0 false).modQueue q fun x => { x with seq := (x.seq + 1) % 256 }

/-- A hardware producer's packet, pushed word by word (R354). -/
def State.qPacketPush (s : State) (q : Nat) (words : List Nat) : State :=
  match words with
  | [] => s.qEmpty q
  | [w] => s.qPush q w true
  | w :: t => (s.qPush q w false).qPacketPush q t

/-- The queue a unit produces into, or consumes from (R350, R351). -/
def State.prodQueue (s : State) (unit : Nat) : Option Nat :=
  (below 32 fun q => decide (s.get (R.QUE_QCFG_PROD q) = unit) && decide (s.get (R.QUE_QCFG_SIZE q) ≠ 0)).head?
def State.consQueue (s : State) (unit : Nat) : Option Nat :=
  (below 32 fun q => decide (s.get (R.QUE_QCFG_CONS q) = unit) && decide (s.get (R.QUE_QCFG_SIZE q) ≠ 0)).head?

/-- A Wheel push reaching its queue (R73, R352). -/
def State.wheelPush (s : State) (q lo hi : Nat) (last : Bool) : State :=
  if s.get (R.QUE_QCFG_PROD q) = 1 then s.qPush q (hi * 2 ^ 32 + lo) last else s

/-- The Wheel halts or stops: its open packets end with an ABORT, or are withdrawn under DROP_PACKET (R355). -/
def State.wheelPacketsEnd (s : State) : State :=
  s.each (below 32 fun q => decide (s.get (R.QUE_QCFG_PROD q) = 1)) fun s q =>
    let x := s.queue q
    if x.dropping then s.setQueue q { x with dropping := false, openP := false }
    else if x.openP && s.qPacket q then
      (if s.qDropPacket q || decide (s.qRoom q = 0) then s.qWithdraw q else s.qAbort q)
    else s

/-! ## Pops (R357, R359, R360, R362) -/

/-- Payload words that follow a header, and whether their packet has ended. -/
def packetOf : List QEntry → Nat × Bool
  | [] => (0, false)
  | e :: t =>
    if e.mark = markHdr then (0, true)
    else if e.mark = markAbort then (0, true)
    else if e.mark = markEnd then (1, true)
    else let r := packetOf t; (r.1 + 1, r.2)

/-- The head entry is deliverable (R357, R360). -/
def State.deliverable (s : State) (q : Nat) : Bool :=
  match (s.queue q).ents with
  | [] => false
  | e :: t =>
    if e.mark = markHdr then
      let r := packetOf t
      let c := s.get (R.QUE_QLVL_CT_LEVEL q)
      e.word.testBit 0 || r.2 || (!s.qDropPacket q && decide (c ≠ 0) && decide (c ≤ r.1))
    else true

/-- Pop the head entry: poison is counted, the packet position of the consumer follows (R359, R362, R367). -/
def State.qPop (s : State) (q : Nat) : Option QEntry × State :=
  match (s.queue q).ents with
  | [] => (none, s)
  | e :: t =>
    if !s.deliverable q then (none, s)
    else
      let x := s.queue q
      let n := if e.mark = markHdr then 0 else if e.mark = markAbort then x.popped else x.popped + 1
      let inPkt := if e.mark = markHdr then !e.word.testBit 0 else if e.mark = markData then x.openC else false
      let k := s.qEdge q
      let s := s.setQueue q { x with ents := t, popped := n, openC := inPkt, edge := some (s.fab, k.1, k.2 + 1) }
      (some e, if e.bad then (s.raise (R.QUE_QSTAT_POISON q)).bumpSat (R.QUE_QERR_POISONCNT q) else s)

/-- Pop up to `n` entries, as a hardware consumer takes them. -/
def State.qPops (s : State) (q : Nat) : Nat → List QEntry × State
  | 0 => ([], s)
  | n + 1 =>
    match s.qPop q with
    | (none, s) => ([], s)
    | (some e, s) => let r := s.qPops q n; (e :: r.1, r.2)

/-- The next packet of a queue, complete: its entries from the header to its end; none where none is complete (store-and-forward). -/
def State.nextPacket (s : State) (q : Nat) : Option (List QEntry × State) :=
  match (s.queue q).ents with
  | [] => none
  | e :: t =>
    if e.mark = markHdr then
      let r := packetOf t
      if e.word.testBit 0 then some (s.qPops q 1)
      else if r.2 then
        let len := if (t.getD r.1 (entry 0 markData)).mark = markAbort then r.1 + 2 else r.1 + 1
        some (s.qPops q len)
      else none
    else some (s.qPops q 1)

/-! ## Register access (R352, R359) -/

/-- A discarded push or pop of another requester (R352). -/
def State.qReject (s : State) (f : Fld) (q : Nat) : State := (s.raise f).bumpSat (R.QUE_QERR_REJCNT q)

/-- The requester acts: a halted Cone makes no access (R267). -/
def State.reqActs (s : State) (req : Requester) : Bool := decide (req ≠ .cone) || s.on R.CONE_STAT_RUNNING

/-- The interconnect takes a write of the requester: it acts, and the host port only reads in SAFE_HOLD (R43, R267). -/
def State.mayBus (s : State) (req : Requester) : Bool :=
  s.busUp && s.reqActs req && !(decide (s.dev = .safeHold) && decide (req = .hspi))

/-- The requester may write registers at large: the debug port where it is open (R43, R267, R330). -/
def State.mayWrite (s : State) (req : Requester) : Bool := s.mayBus req && (decide (req ≠ .debug) || s.debugFull)

/-- Number of a requester: its snapshot slot (R399), and with 1 added its code in ABSENT (R504). -/
def reqIdx : Requester → Nat
  | .hspi => 0
  | .cone => 1
  | .debug => 2

/-- Note an access to an absent address; to the HSPI it is the code of its frame besides (R398, R503, R504). -/
def State.noteAbsent (s : State) (req : Requester) (wr : Bool) (addr : Nat) : State :=
  let s := (s.raise R.SYS_ABSENT_FLAG).bumpSat R.SYS_ABSENT_COUNT
  let s := ((s.put R.SYS_ABSENT_REQ (reqIdx req + 1)).putB R.SYS_ABSENT_WR wr).put R.SYS_ABSENT_ADDR_ADDR addr
  let s := if req = .hspi then s.put R.HSPI_STAT_LASTCODE 5 else s
  { s with absentAt := some s.fab }

/-- A requester's write of a unit's register at `addr`: taken where it may write, noted where the unit is absent (R5, R500, R504). -/
def State.unitWrite (s : State) (req : Requester) (present : Bool) (addr : Nat) (f : State → State) : State :=
  if !s.mayWrite req then s else if present then f s else s.noteAbsent req true addr

/-- A register push operation under R352. -/
def State.regPush (s : State) (req : Requester) (q : Nat) (f : State → State) : State :=
  if !s.mayWrite req then s
  else if s.get (R.QUE_QCFG_PROD q) ≠ reqUnit req then s.qReject (R.QUE_QSTAT_PUSHREJ q) q
  else f s

/-- A write of PUSHLO, held for the next push. -/
def State.pushLo (s : State) (req : Requester) (q w : Nat) : State :=
  s.regPush req q fun s => s.setQueue q { s.queue q with lo := w }

/-- PUSHHI (R354, R356). -/
def execPushhi (req : Requester) (q : Fin 32) (w : Word) (s : State) : Out :=
  .next (s.regPush req q.val fun s => s.qPush q.val (w.toNat * 2 ^ 32 + (s.queue q.val).lo) false)

/-- PUSHHIE (R354, R356). -/
def execPushhie (req : Requester) (q : Fin 32) (w : Word) (s : State) : Out :=
  .next (s.regPush req q.val fun s => s.qPush q.val (w.toNat * 2 ^ 32 + (s.queue q.val).lo) true)

/-- PKTEMPTY (R354). -/
def execPktempty (req : Requester) (q : Fin 32) (s : State) : Out :=
  .next (s.regPush req q.val fun s => s.qEmpty q.val)

/-- A read of POPLO that pops nothing (R359, R360). -/
def State.popNothing (s : State) (q : Nat) : State :=
  { ((s.raise (R.QUE_POPTAG_EMPTY q)).putB (R.QUE_POPTAG_WAITCT q) (decide ((s.queue q).ents ≠ []))) with rdata := 0 }

/-- A read of POPLO by the consumer (R359, R360). -/
def State.popLo (s : State) (q : Nat) : State :=
  match s.qPop q with
  | (none, s) => s.popNothing q
  | (some e, s) =>
    let s := (s.put (R.QUE_POPHI_WORD q) (e.word / 2 ^ 32)).put (R.QUE_POPTAG_MARK q) e.mark
    let s := ((s.putB (R.QUE_POPTAG_POISON q) e.bad).clear (R.QUE_POPTAG_EMPTY q)).clear (R.QUE_POPTAG_WAITCT q)
    let done := decide (e.mark = markEnd) || decide (e.mark = markAbort) || (decide (e.mark = markHdr) && e.word.testBit 0)
    let s := if done then s.put (R.QUE_POPTAG_PLEN q) (s.queue q).popped else s
    { s with rdata := e.word % 2 ^ 32 }

/-- POPLO (R352, R359). -/
def execPoplo (req : Requester) (q : Fin 32) (s : State) : Out :=
  .next (
    if !s.busUp || !s.reqActs req || (decide (req = .debug) && !s.debugFull) then s
    else if s.get (R.QUE_QCFG_CONS q.val) ≠ reqUnit req then
      { s.qReject (R.QUE_QSTAT_POPREJ q.val) q.val with rdata := 0 }
    else s.popLo q.val)

/-! ## Configuration (R348–R351) -/

/-- Units absent from the variant (R4, R350). -/
def State.qUnitAbsent (s : State) (u : Nat) : Bool :=
  (decide (0x05 ≤ u) && decide (u ≤ 0x08) && decide (s.nCan ≤ u - 5)) ||
  (decide (0x0E ≤ u) && decide (u ≤ 0x11) && decide (s.nCan ≤ u - 0x0E)) ||
  ((decide (u = 0x09) || decide (u = 0x0C)) && !s.hasEth) ||
  ((decide (u = 0x0A) || decide (u = 0x0D)) && !s.hasShard)

/-- Units that may produce, and consume; rank of a consumer (R350). -/
def mayProduce (u : Nat) : Bool := decide (u ≤ 0x0A)
def mayConsume (u : Nat) : Bool :=
  decide (u = 0) || decide (u = 2) || decide (u = 3) || (decide (0x0B ≤ u) && decide (u ≤ 0x11))

/-- Units that serve one queue only, as producer, as consumer (R351). -/
def oneProducer (u : Nat) : Bool := decide (0x04 ≤ u) && decide (u ≤ 0x0A)
def oneConsumer (u : Nat) : Bool := decide (u = 0x0B) || decide (u = 0x0C) || (decide (0x0E ≤ u) && decide (u ≤ 0x11))

/-- The producer and consumer named are acceptable (R348, R350, R351). -/
def State.qUnitsOk (s : State) (q prod cons size : Nat) : Bool :=
  mayProduce prod && mayConsume cons && !s.qUnitAbsent prod && !s.qUnitAbsent cons &&
  !(decide (prod = 0x0A) && (decide (cons = 0x0D) || decide (size < 2))) &&
  (List.range 32).all fun k => decide (k = q) ||
    (!(oneProducer prod && decide (s.get (R.QUE_QCFG_PROD k) = prod)) &&
     !(oneConsumer cons && decide (s.get (R.QUE_QCFG_CONS k) = cons)))

/-- The extent is acceptable: within the pool and apart from every other queue (R347, R348). -/
def State.qExtentOk (s : State) (q base size : Nat) : Bool :=
  decide (size ≤ 64) && decide (base + size ≤ 512) &&
  (List.range 32).all fun k => decide (k = q) || decide (size = 0) ||
    (let b := s.get (R.QUE_QCFG_BASE k)
     let n := s.get (R.QUE_QCFG_SIZE k)
     decide (n = 0) || decide (base + size ≤ b) || decide (b + n ≤ base))

/-- A write of QCFG is accepted (R348, R349, R351); the fields of the written word. POLICY 0 on a queue of SIZE 0 is accepted: R348 limits the refusal to SIZE ≠ 0, while the table of zero values says refused without a condition (DESIGN CHOICE, assumption 26). -/
def State.qcfgOk (s : State) (q v : Nat) : Bool :=
  let mode := slice v 31 1
  let policy := slice v 29 2
  let cons := slice v 24 5
  let prod := slice v 16 5
  let size := slice v 9 7
  let base := slice v 0 9
  decide (s.get (R.QUE_QCFG_PROD q) ≠ 1) && decide (prod ≠ 1) && s.qExtentOk q base size && s.qUnitsOk q prod cons size &&
  !(decide (size ≠ 0) && (decide (policy = 0) || decide (policy = 3))) &&
  !(decide (s.qFill q ≠ 0) &&
    (decide (base ≠ s.get (R.QUE_QCFG_BASE q)) || decide (size ≠ s.get (R.QUE_QCFG_SIZE q)) ||
     decide (mode ≠ s.get (R.QUE_QCFG_MODE q))))

/-- A write of QLVL is accepted (R348). -/
def State.qlvlOk (s : State) (q level ct : Nat) : Bool :=
  decide (level ≤ s.qCap q) && (decide (ct = 0) || decide (ct + 3 ≤ s.qCap q))

/-- A write to a Wheel-fed queue's QCFG, or one that sets PROD = Wheel (R349). -/
def State.wheelQcfg (s : State) (addr v : Nat) : Bool :=
  decide (0x40600100 ≤ addr) && decide (addr < 0x40600900) && decide (addr % 0x40 = 0) &&
  (decide (s.get (R.QUE_QCFG_PROD ((addr - 0x40600100) / 0x40)) = 1) || decide (slice v 16 5 = 1))

/-- A data-plane reset empties every queue and clears its counters, flags and IRQ; QCFG and QLVL are kept (R364). -/
def State.queuesReset (s : State) : State :=
  let s := ({ s with queues := [] }.clear R.QUE_IRQ_LVL).clear R.QUE_STAT_CFGREJ
  s.each (List.range 32) fun s q =>
    [R.QUE_QSTAT_POISON q, R.QUE_QSTAT_DROP q, R.QUE_QSTAT_PUSHREJ q, R.QUE_QSTAT_POPREJ q,
     R.QUE_QDROP_DROPP q, R.QUE_QDROP_DROPW q, R.QUE_QERR_POISONCNT q, R.QUE_QERR_REJCNT q,
     R.QUE_POPHI_WORD q, R.QUE_POPTAG_PLEN q, R.QUE_POPTAG_WAITCT q, R.QUE_POPTAG_EMPTY q,
     R.QUE_POPTAG_POISON q, R.QUE_POPTAG_MARK q].foldl State.clear s

/-! ## Events that the Cone records (R274, R276, R287, R412, R413) -/

/-- The queue of the first Cone-event input of the Shard log that the Cone feeds (R412). -/
def State.eventQueue (s : State) : Option Nat :=
  (((List.range 8).filter fun j => decide (s.get (R.REC_IN_KIND j) = 3)).map fun j => s.get (R.REC_IN_QUEUE j)).find?
    fun q => decide (s.get (R.QUE_QCFG_PROD q) = 2)

/-- The Cone records an event: a packet of an EVENT type with a payload word for the Shard log; which type and which payload is open (R274, R276, R287, R413, assumption 5). -/
def State.coneRecord (s : State) : State :=
  match s.eventQueue with
  | some q =>
    if s.on R.CONE_STAT_RUNNING && s.hasShard then
      let t := s.draw 0xDF
      let w := t.2.draw (2 ^ 64)
      w.2.qPacketPush q [0x21 + t.1 % 0xDF, w.1]
    else s
  | none => s

end Sys2Proof.Machine
end

