-- ==== Sys2Proof/Machine/Sec.lean ====
section
/-! DEFINITION. The security block (R329–R346): OTP burns, lifecycle transitions, keys, identity, attestation, authorisations and the random number register. -/

namespace Sys2Proof.Machine

open Sys2Proof

/-! ## Lifecycle (R329–R331) -/

def Lifecycle.code : Lifecycle → Nat
  | .blank => 0
  | .manufacture => 1
  | .develop => 2
  | .production => 3
  | .rma => 4
  | .scrapped => 5

/-- A 16-bit OTP word is set when all its bits are burned (R331). -/
def wordSet (w : Nat) : Bool := decide (w % 2 ^ 16 = 0xFFFF)

/-- The state OTP holds: the last set word (R331). -/
def Otp.lifecycle (o : Otp) : Lifecycle :=
  if wordSet o.wScr then .scrapped
  else if wordSet o.wRma then .rma
  else if wordSet o.wPro then .production
  else if wordSet o.wDev then .develop
  else if wordSet o.wMan then .manufacture
  else .blank

/-- A lifecycle word is partly burned (R331). -/
def Otp.partly (o : Otp) : Bool :=
  [o.wMan, o.wDev, o.wPro, o.wRma, o.wScr].any fun w => decide (w ≠ 0) && !wordSet w

/-- Key slot k. -/
def Otp.key (o : Otp) (k : Nat) : KeySlot := if k = 0 then o.key0 else if k = 1 then o.key1 else o.key2
def Otp.setKey (o : Otp) (k : Nat) (x : KeySlot) : Otp :=
  if k = 0 then { o with key0 := x } else if k = 1 then { o with key1 := x } else { o with key2 := x }

/-- A slot is programmed (R334). -/
def KeySlot.programmed (k : KeySlot) : Bool := wordSet k.prog
/-- Programmed and revoked slots, as three bits. -/
def Otp.progBits (o : Otp) : Nat := bitsOf 3 fun k => (o.key k).programmed
def Otp.revBits (o : Otp) : Nat := bitsOf 3 fun k => (o.key k).revoked

/-- The image key is programmed and not destroyed (R333). -/
def Otp.imgKeyOk (o : Otp) : Bool := o.imgProg && decide (o.imgKey ≠ 2 ^ 256 - 1)

/-- The slot whose hash a key bundle matches: programmed and not revoked (R312, R340). -/
def Otp.slotOf (o : Otp) (bundle : List Nat) : Option Nat :=
  (List.range 3).find? fun k => (o.key k).programmed && !(o.key k).revoked && decide (Config.sha512 bundle = (o.key k).hash)

/-- A write of a security register by a requester reaches it: the debug port as far as it is open, `lv` being what the register needs; in SAFE_HOLD the block has stopped, and once it has agreed to a BANKED entry (R43, R330, R435). -/
def State.secWrite (s : State) (req : Requester) (lv : State → Bool) : Bool :=
  s.mayBus req && decide (s.dev ≠ .safeHold) && !s.stopped 10 && (decide (req ≠ .debug) || lv s)

/-! ## Burning OTP (R331–R334) -/

/-- Burn up to `n` of the bits of `target` that are still 0, from bit 0 up; the word and the bits left. -/
def burnBits (target : Nat) : Nat → Nat → Nat → Nat × Nat
  | 0, old, n => (old, n)
  | w + 1, old, n =>
    let r := burnBits target w old n
    if target.testBit w && !r.1.testBit w then (if r.2 = 0 then r else (r.1 + 2 ^ w, r.2 - 1)) else r

/-- A burn has been finished: it has bits left to spend, or no limit was set. -/
def burnAll : Nat := 4096

/-- Burn one field through accessors. -/
def Otp.burn (o : Otp × Nat) (get : Otp → Nat) (set : Otp → Nat → Otp) (target width : Nat) : Otp × Nat :=
  let r := burnBits target width (get o.1) o.2
  (set o.1 r.1, r.2)

/-- The lifecycle word of a state. -/
def Otp.burnWord (o : Otp × Nat) (t : Lifecycle) : Otp × Nat :=
  match t with
  | .manufacture => Otp.burn o (fun o => o.wMan) (fun o v => { o with wMan := v }) 0xFFFF 16
  | .develop => Otp.burn o (fun o => o.wDev) (fun o v => { o with wDev := v }) 0xFFFF 16
  | .production => Otp.burn o (fun o => o.wPro) (fun o v => { o with wPro := v }) 0xFFFF 16
  | .rma => Otp.burn o (fun o => o.wRma) (fun o v => { o with wRma := v }) 0xFFFF 16
  | .scrapped => Otp.burn o (fun o => o.wScr) (fun o v => { o with wScr := v }) 0xFFFF 16
  | .blank => o

/-- Destroy the image key, the seed (R333). -/
def Otp.burnImg (o : Otp × Nat) : Otp × Nat :=
  Otp.burn o (fun o => o.imgKey) (fun o v => { o with imgKey := v }) (2 ^ 256 - 1) 256
def Otp.burnSeed (seed : Nat) (o : Otp × Nat) : Otp × Nat :=
  Otp.burn o (fun o => o.seed) (fun o v => { o with seed := v }) seed 256
def Otp.burnSeedOk (o : Otp × Nat) : Otp × Nat :=
  Otp.burn o (fun o => o.seedOk) (fun o v => { o with seedOk := v }) 0xFFFF 16

/-- What a transition burns, in order: destructions, the seed and SEEDOK, the lifecycle word (R332, R333, R335). -/
def Otp.transition (o : Otp × Nat) (t : Lifecycle) (seed : Nat) : Otp × Nat :=
  match t with
  | .manufacture => Otp.burnWord (if wordSet o.1.seedOk then o else Otp.burnSeedOk (Otp.burnSeed seed o)) t
  | .rma => Otp.burnWord (Otp.burnImg o) t
  | .scrapped => Otp.burnWord (Otp.burnImg (Otp.burnSeed (2 ^ 256 - 1) o)) t
  | _ => Otp.burnWord o t

/-- The target of a code. -/
def lifecycleOf (n : Nat) : Option Lifecycle :=
  match n with
  | 1 => some .manufacture
  | 2 => some .develop
  | 3 => some .production
  | 4 => some .rma
  | 5 => some .scrapped
  | _ => none

/-- The table of R332: none where no transition is listed; else whether it needs an authorisation. -/
def lcTable (lc t : Lifecycle) : Option Bool :=
  match lc, t with
  | .blank, .manufacture => some false
  | .manufacture, .develop => some false
  | .manufacture, .production => some false
  | .develop, .production => some false
  | .production, .rma => some true
  | .production, .scrapped => some true
  | .blank, .scrapped => some false
  | .manufacture, .scrapped => some false
  | .develop, .scrapped => some false
  | .rma, .scrapped => some false
  | _, _ => none

/-- NOIMAGE or READY (R332, R334). -/
def State.secDev (s : State) : Bool := decide (s.dev = .noimage) || decide (s.dev = .ready)

/-- The code of a requested transition, 0 where it is accepted (R332, R335, R344, R345). -/
def State.lcCode (s : State) (target : Nat) (authorised : Bool) : Nat :=
  match lifecycleOf target with
  | none => 1
  | some t =>
    match lcTable s.sec.lc t with
    | none => 1
    | some needs =>
      if !s.secDev then 2
      else if s.on R.SEC_STAT_OTPBUSY then 7
      else if s.sec.burned then 3
      else if needs && !authorised then 6
      else if t = .manufacture then
        if s.otp.progBits = 0 then 4
        else if s.on R.SEC_RNGSTAT_FAIL then 10
        else if s.otp.seed ≠ 0 ∧ wordSet s.otp.seedOk = false then 8
        else 0
      else 0

/-- A fresh random number of `bits` bits from the TRNG (R344). -/
def State.random (s : State) (words : Nat) : Nat × State :=
  ((List.range words).foldl (fun a i => a + Config.trngWord (s.free + i) % 2 ^ 32 * 2 ^ (32 * i)) 0, { s with free := s.free + words })

/-- A burn starts: OTPBUSY, for up to `us` µs at an instant the spec leaves open (R332, R334, assumption 5). -/
def State.burnStart (s : State) (b : OtpBurn) (us : Nat) : State :=
  let d := s.draw (600 * us)
  { d.2.raise R.SEC_STAT_OTPBUSY with sec := { d.2.sec with burn := some (s.cycle + 1 + d.1, b) } }

/-- Perform a transition, or note its refusal. -/
def State.lcDo (s : State) (target : Nat) (authorised : Bool) : State :=
  let c := s.lcCode target authorised
  if c ≠ 0 then s.put R.SEC_STAT_RESULT c
  else match lifecycleOf target with
  | none => s
  | some t =>
    let r := if t = .manufacture then s.random 8 else (0, s)
    r.2.burnStart (.transition t r.1) 2000

/-- LCCMD (R332). -/
def execLccmd (req : Requester) (target : Fin 16) (s : State) : Out :=
  .next (
    if !s.secWrite req State.debugSec then s
    else if req = .cone then s.put R.SEC_STAT_RESULT 0x10
    else s.lcDo target.val false)

/-! ## Keys (R334) -/

/-- The number in KEYBUF words below n. -/
def State.keybuf (s : State) (n : Nat) : Nat :=
  (List.range n).foldl (fun a k => a + s.get (R.SEC_KEYBUF_BYTES k) * 2 ^ (32 * k)) 0

/-- The code of a key command (R334, R345). -/
def State.keyCode (s : State) (slot : Nat) : Nat :=
  let lc := s.sec.lc
  if ¬(lc = .blank ∨ lc = .manufacture ∨ (lc = .develop ∧ slot < 3)) then 1
  else if !s.secDev then 2
  else if s.on R.SEC_STAT_OTPBUSY then 7
  else if slot < 3 then
    (if (s.otp.key slot).programmed then 5
     else if (s.otp.key slot).hash &&& (2 ^ 512 - 1 - s.keybuf 16) ≠ 0 then 8 else 0)
  else if s.otp.imgProg then 5
  else if s.otp.imgKey &&& (2 ^ 256 - 1 - s.keybuf 8) ≠ 0 then 8 else 0

/-- What a key command burns: the hash, then PROG; or the image key. -/
def Otp.keyBurn (o : Otp × Nat) (slot hash img : Nat) : Otp × Nat :=
  if slot < 3 then
    let o := Otp.burn o (fun o => (o.key slot).hash) (fun o v => o.setKey slot { o.key slot with hash := v }) hash 512
    Otp.burn o (fun o => (o.key slot).prog) (fun o v => o.setKey slot { o.key slot with prog := v }) 0xFFFF 16
  else
    let o := Otp.burn o (fun o => o.imgKey) (fun o v => { o with imgKey := v }) img 256
    ({ o.1 with imgProg := o.1.imgProg || decide (o.1.imgKey = img) }, o.2)

/-- KEYBUF clears at the end of every command. -/
def State.clearKeybuf (s : State) : State := (List.range 16).foldl (fun s k => s.clear (R.SEC_KEYBUF_BYTES k)) s

/-- KEYCMD (R334): the burn takes the key as it stands in KEYBUF. -/
def execKeycmd (req : Requester) (slot : Fin 4) (s : State) : Out :=
  .next (
    if !s.secWrite req State.debugSec then s
    else if req = .cone then (s.put R.SEC_STAT_RESULT 0x10).clearKeybuf
    else
      let c := s.keyCode slot.val
      if c ≠ 0 then (s.put R.SEC_STAT_RESULT c).clearKeybuf
      else s.burnStart (.key slot.val (s.keybuf 16) (s.keybuf 8)) 10000)

/-- What a burn leaves in OTP when at most `n` of its bits are burned. -/
def OtpBurn.apply (n : Nat) (o : Otp) : OtpBurn → Otp
  | .transition t seed => (Otp.transition (o, n) t seed).1
  | .key slot hash img => (Otp.keyBurn (o, n) slot hash img).1

/-- The first `n` burns of an accepted image, in order: the named revocations, then the bits of the rollback counter (R313, R314). -/
def Otp.acceptBurn (o : Otp) (b : Nat × Nat) (n : Nat) : Otp :=
  let l := (List.range 3).filter b.1.testBit
  let o := (l.take n).foldl (fun (o : Otp) i => o.setKey i { o.key i with revoked := true }) o
  { o with rollback := max o.rollback (min b.2 (o.rollback + (n - l.length))) }

/-- A reset cuts the acceptance burn short: its first burns are made, how many is open (R314, assumption 5). -/
def State.acceptCut (s : State) : State :=
  match s.wedge.burn with
  | some b =>
    let d := s.draw 132
    { d.2 with otp := s.otp.acceptBurn b d.1 }
  | none => s

/-- A reset cuts the burn in progress short: its first bits are burned, how many is open (R331, R333–R335, assumption 5). -/
def State.burnCut (s : State) : State :=
  match s.sec.burn with
  | some (_, b) =>
    let d := s.draw 1025
    { d.2 with otp := OtpBurn.apply d.1 s.otp b, sec := { d.2.sec with burn := none } }
  | none => s

/-- The burn in progress ends: OTP holds the new value, and the result is DONE; or it has failed, with some of its first bits burned, and the result is OTP. KEYBUF clears after a key command (R332, R334, R345). -/
def State.burnOver (s : State) (b : OtpBurn) (bits : Option Nat) : State :=
  let s := { s with otp := OtpBurn.apply (bits.getD burnAll) s.otp b, sec := { s.sec with burn := none } }
  let s := (s.clear R.SEC_STAT_OTPBUSY).put R.SEC_STAT_RESULT (if bits.isSome then 8 else 0)
  match b with
  | .transition _ _ => { s with sec := { s.sec with burned := s.sec.burned || bits.isNone } }
  | .key _ _ _ => s.clearKeybuf

/-- Whether a burn fails, and after how many bits, is open (R345, assumption 5). -/
def State.burnEnd (s : State) (b : OtpBurn) : State :=
  let d := s.draw 2
  let n := d.2.draw 1025
  if d.1 = 1 then n.2.burnOver b (some n.1) else d.2.burnOver b none

/-! ## Identity (R335, R336) -/

/-- The identity's private values: "VZID", D, and the index (R336). -/
def State.identityKey (s : State) (ix : Nat) : List Nat :=
  Config.shake256 (bytesLE 32 s.otp.seed ++ [0x56, 0x5A, 0x49, 0x44, if s.sec.lc = .rma then 2 else 1, ix]) 32

/-- A seed of all ones yields no identity; nor BLANK, SCRAPPED, or a seed without SEEDOK (R333, R336). -/
def State.hasIdentity (s : State) : Bool :=
  decide (s.sec.lc ≠ .blank) && decide (s.sec.lc ≠ .scrapped) && wordSet s.otp.seedOk && decide (s.otp.seed ≠ 2 ^ 256 - 1)

/-- Derive the identity: its keys are held from now on; IDRDY is set when the derivation ends, within 4 ms (R336, R343). -/
def State.derive (s : State) : State :=
  if s.hasIdentity then
    let ed := s.identityKey 1
    let ml := s.identityKey 2
    let pub := Config.ed25519Public ed ++ Config.mldsaPublic ml
    let d := s.draw 2400000
    { d.2 with sec := { s.sec with 
        skEd := ed, skMl := ml, idpub := pub, idhash := Config.sha512 pub
        jobs := d.2.sec.jobs ++ [.identity (s.cycle + 1 + d.1)] } }
  else s

/-- Phase 1 latches the lifecycle (R329). -/
def State.latchLc (s : State) : State := { s with sec := { s.sec with lc := s.otp.lifecycle } }

/-! ## Attestation (R337, R338) -/

/-- The report body, its fields read now (R337, R338). -/
def State.reportBody (s : State) : List Nat :=
  let noimg := decide (s.dev = .noimage)
  let words := fun (f : Nat → Fld) n => (List.range n).flatMap fun k => bytesLE 4 (s.get (f k))
  bytesLE 4 0x54415A56 ++ bytesLE 4 0x00010000 ++ words R.SEC_NONCE_BYTES 8
    ++ (if noimg then List.replicate 64 0 else words R.WEDGE_IHASH_BYTES 16)
    ++ bytesLE 64 s.sec.idhash ++ bytesLE 8 s.tsc ++ bytesLE 4 (s.sec.reports + 1)
    ++ [s.sec.lc.code, s.dev.code, s.get R.WEDGE_STAT_BOOTSLOT, if noimg then 0xFF else s.get R.WEDGE_IMG_KEYSLOT,
        s.otp.rollback, if noimg then 0 else s.get R.WEDGE_IMG_ROLLBACK, s.otp.progBits + 8 * s.otp.revBits,
        (if s.on R.SEC_DBGSTAT_UNLOCKED then 1 else 0) + (if s.debugFull then 2 else 0)]
    ++ bytesLE 4 (s.get R.WEDGE_IMGVER_VERSION)

/-- The code of a report request (R337, R345). -/
def State.attCode (s : State) : Nat :=
  if ¬(s.dev = .noimage ∨ s.dev = .ready ∨ s.dev = .run) then 2
  else if s.on R.SEC_ATTSTAT_BUSY then 7
  else if !s.on R.SEC_STAT_IDRDY then 9
  else if s.on R.SEC_RNGSTAT_FAIL then 10
  else 0

/-- ATTESTATION_REQUEST (R337). -/
def execAttestationRequest (req : Requester) (s : State) : Out :=
  .next (
    if !s.secWrite req State.debugSec then s
    else
      let c := s.attCode
      if c ≠ 0 then s.put R.SEC_ATTSTAT_RESULT c
      else
        let b := s.reportBody
        let s := ((s.raise R.SEC_ATTSTAT_BUSY).raise R.SEC_ATTCTL_REQ).clear R.SEC_ATTSTAT_READY
        { s with sec := { s.sec with body := b, jobs := s.sec.jobs ++ [.report] } })

/-- The job at the head of the engines' queue has ended (R343). -/
def State.jobEnd (s : State) : State := { s with sec := { s.sec with jobs := s.sec.jobs.tail } }

/-- The report ends. -/
def State.attEnd (s : State) : State := ((s.clear R.SEC_ATTSTAT_BUSY).clear R.SEC_ATTCTL_REQ).jobEnd

/-- The report in progress is the running job, and the block runs: it has stopped in SAFE_HOLD (R43, R343). -/
def State.reporting (s : State) : Bool :=
  s.on R.SEC_ATTSTAT_BUSY && decide (s.sec.jobs.head? = some .report) && decide (s.dev ≠ .safeHold)

/-- REPORT_READY (R338): both signatures over the body with the keys held since the start, the ML-DSA one hedged. -/
def execReportReady (s : State) : Out :=
  .next (
    if s.reporting then
      let b := s.sec.body
      let r := s.random 8
      let s := r.2
      let sig := Config.ed25519Sign s.sec.skEd b ++
        Config.mldsaSign s.sec.skMl [0x56, 0x5A, 0x41, 0x54, 0x54] b r.1 ++ [0, 0, 0]
      let s := { s with sec := { s.sec with att := b ++ sig, reports := s.sec.reports + 1, body := [] } }
      ((s.attEnd.raise R.SEC_ATTSTAT_READY).put R.SEC_ATTSTAT_RESULT 0).put R.SEC_ATTSTAT_SEQ (s.sec.reports)
    else s)

/-- TIMEOUT: no signature by the end of the 20 ms (R337). -/
def execReportTimeout (s : State) : Out :=
  .next (
    if s.reporting then
      let s := { s with sec := { s.sec with body := [] } }
      s.attEnd.put R.SEC_ATTSTAT_RESULT 0x11
    else s)

/-! ## Authorisations (R340–R342) -/

/-- The challenge bytes for a nonce (R340). -/
def State.challengeBytes (s : State) (purpose nonce : Nat) : List Nat :=
  bytesLE 4 0x48435A56 ++ [purpose, s.sec.lc.code, 0, 0] ++ bytesLE 32 nonce ++ bytesLE 64 s.sec.idhash

/-- The code of a challenge request (R340–R345). -/
def State.chCode (s : State) (purpose : Nat) : Nat :=
  if s.on R.SEC_DBGSTAT_BUSY then 7
  else if s.on R.SEC_DBGSTAT_LOCKOUT then 15
  else if purpose = 0 then 11
  else if ¬(if purpose = 1 then s.sec.lc = .develop else s.sec.lc = .production) then 1
  else if s.on R.SEC_RNGSTAT_FAIL then 10
  else 0

/-- A challenge as issued, and its purpose. -/
def State.putChallenge (s : State) (purpose : Nat) (b : List Nat) : State :=
  { s with sec := { s.sec with purpose := purpose, chalTsc := s.tsc } }.each (List.range 26)
    fun s k => s.put (R.SEC_DBGCHAL_BYTES k) (ofBytesLE ((b.drop (4 * k)).take 4))

/-- A challenge request: it invalidates an earlier challenge, and issues a new one where it is accepted (R340, R341). -/
def State.chreq (s : State) : State :=
  let s := s.clear R.SEC_DBGSTAT_CHVALID
  let p := s.get R.SEC_DBGCTL_PURPOSE
  let c := s.chCode p
  if c ≠ 0 then s.put R.SEC_DBGSTAT_RESULT c
  else
    let r := s.random 8
    ((r.2.putChallenge p (s.challengeBytes p r.1)).raise R.SEC_DBGSTAT_CHVALID).put R.SEC_DBGSTAT_RESULT 0

/-- CHREQ (R340). -/
def execChreq (req : Requester) (s : State) : Out :=
  .next (
    if !s.secWrite req State.debugChal then s
    else if req = .cone then s.put R.SEC_DBGSTAT_RESULT 0x10
    else s.chreq)

/-- RESPDATA_WRITE: the pointer advances after each word (R340, R346). -/
def execRespdataWrite (req : Requester) (w : Word) (s : State) : Out :=
  .next (
    if !s.secWrite req State.debugChal then s
    else
      let p := s.get R.SEC_RESPPTR_WORD
      let s := if p < 1340 then { s with sec := { s.sec with resp := Sparse.set 0#32 s.sec.resp p w } } else s
      s.put R.SEC_RESPPTR_WORD (p + 1))

/-- The response's bytes. -/
def State.respBytes (s : State) : List Nat :=
  (List.range 1340).flatMap fun k => bytesLE 4 (Sparse.get 0#32 s.sec.resp k).toNat

/-- The challenge's bytes as issued. -/
def State.chalBytes (s : State) : List Nat :=
  (List.range 26).flatMap fun k => bytesLE 4 (s.get (R.SEC_DBGCHAL_BYTES k))

/-- The check of a response: 0, or the code of the first failing check (R340, R345). -/
def State.respCode (s : State) : Nat :=
  let b := s.respBytes
  let bundle := b.take 1984
  let c := s.chalBytes
  if (s.otp.slotOf bundle).isNone then 14
  else if !Config.ed25519Ok (bundle.take 32) c ((b.drop 1984).take 64) then 12
  else if !Config.mldsaOk (bundle.drop 32) [0x56, 0x5A, 0x43, 0x48, 0x52] c ((b.drop 2048).take 3309) then 13
  else 0

/-- A failed response: the third sets LOCKOUT (R342). -/
def State.respFail (s : State) (c : Nat) : State :=
  let s := (s.bumpSat R.SEC_DBGSTAT_FAILS).put R.SEC_DBGSTAT_RESULT c
  if s.get R.SEC_DBGSTAT_FAILS = 3 then s.raise R.SEC_DBGSTAT_LOCKOUT else s

/-- The challenge has stood for its 10 s of TSC time (R341). -/
def State.chalOld (s : State) : Bool := s.on R.SEC_DBGSTAT_CHVALID && decide (s.sec.chalTsc + 1000000000 ≤ s.tsc)

/-- A challenge stands for no longer; in SAFE_HOLD, and once it has agreed to a BANKED entry, the block has stopped (R43, R341, R435). -/
def State.chalTick (s : State) : State :=
  if s.chalOld && decide (s.dev ≠ .safeHold) && !s.stopped 10 then s.clear R.SEC_DBGSTAT_CHVALID else s

/-- SUBMIT: a challenge serves one response; its check runs, for up to 3 ms, in the engines' order (R340, R341, R343). -/
def execSubmit (req : Requester) (s : State) : Out :=
  .next (
    if !s.secWrite req State.debugChal then s
    else if req = .cone then s.put R.SEC_DBGSTAT_RESULT 0x10
    else if s.on R.SEC_DBGSTAT_BUSY then s.put R.SEC_DBGSTAT_RESULT 7
    else if !s.on R.SEC_DBGSTAT_CHVALID || s.chalOld then s.put R.SEC_DBGSTAT_RESULT 11
    else
      let d := s.draw 1800000
      let t := (d.2.clear R.SEC_DBGSTAT_CHVALID).raise R.SEC_DBGSTAT_BUSY
      { t with sec := { t.sec with jobs := t.sec.jobs ++ [.check (s.cycle + 1 + d.1) s.respCode] } })

/-- The check of a response ends with code `c`: an accepted one grants its purpose (R340–R342). -/
def State.checkEnd (s : State) (c : Nat) : State :=
  let s := s.jobEnd.clear R.SEC_DBGSTAT_BUSY
  if c ≠ 0 then s.respFail c
  else
    let s := s.put R.SEC_DBGSTAT_RESULT 0
    match s.sec.purpose with
    | 1 => s.raise R.SEC_DBGSTAT_UNLOCKED
    | 2 => s.lcDo 4 true
    | _ => s.lcDo 5 true

/-- The derivation of the identity ends (R336). -/
def State.identityEnd (s : State) : State := s.jobEnd.raise R.SEC_STAT_IDRDY

/-- The job at the head of the engines' queue ends. -/
def State.jobOver (s : State) : SecJob → State
  | .check _ c => s.checkEnd c
  | .identity _ => s.identityEnd
  | _ => s.jobEnd

/-- The Wedge's check of an image joins the engines' queue (R343). -/
def State.imageJob (s : State) : State := { s with sec := { s.sec with jobs := s.sec.jobs ++ [.image] } }

/-- The Wedge's check of an image has ended: every job before it in the engines' queue had ended by then, at an instant the spec leaves open within its own time (R343, DEDUCED, assumption 45). -/
def State.imageOver (s : State) : State :=
  ((s.sec.jobs.takeWhile fun j => decide (j ≠ .image)).foldl State.jobOver s).jobEnd

/-- What ends in the block by itself in this cycle: a burn, the derivation or a check at the head of the engines' queue, a challenge's 10 s (R332, R334, R336, R340, R343, assumption 3). -/
def State.secTick (s : State) : State :=
  if s.dev = .safeHold ∨ s.stopped 10 = true then s
  else
    let s := match s.sec.burn with
      | some (d, b) => if d ≤ s.cycle then s.burnEnd b else s
      | none => s
    let s := match s.sec.jobs.head? with
      | some (.check d c) => if d ≤ s.cycle then s.checkEnd c else s
      | some (.identity d) => if d ≤ s.cycle then s.identityEnd else s
      | _ => s
    s.chalTick

/-- DEBUG_RELOCK (R341). -/
def execDebugRelock (req : Requester) (s : State) : Out :=
  .next (
    if !s.secWrite req State.debugChal then s
    else if req = .cone then s.put R.SEC_DBGSTAT_RESULT 0x10
    else s.clear R.SEC_DBGSTAT_UNLOCKED)

/-- CHALLENGE_EXPIRY: 10 s after its issue (R341). -/
def execChallengeExpiry (s : State) : Out := .next s.chalTick

/-! ## Random numbers (R344) -/

/-- A word is available unless a health test failed; the TRNG has stopped in SAFE_HOLD (R43). -/
def State.rngAvail (s : State) : Bool := s.busUp && !s.on R.SEC_RNGSTAT_FAIL && decide (s.dev ≠ .safeHold)

/-- A read of SEC.RNG: a fresh word, or zero (R344). -/
def State.rngRead (s : State) : State :=
  if s.rngAvail then let r := s.random 1; { r.2 with rdata := r.1 } else { s with rdata := 0 }

/-- RNG_READ (R344). -/
def execRngRead (req : Requester) (s : State) : Out :=
  .next (if !s.busUp || !s.reqActs req || (decide (req = .debug) && !s.debugSec) then s else s.rngRead)

/-- RNG_HEALTH_FAIL (R344). -/
def execRngHealthFail (s : State) : Out :=
  .next (if s.dev = .off ∨ s.dev = .safeHold then s else s.raise R.SEC_RNGSTAT_FAIL)

end Sys2Proof.Machine
end

