-- ==== Sys2Proof/Machine/Adc.lean ====
section
/-! DEFINITION. Sampling and conversion (R110–R136, R513): sample groups and their triggers, correction, calibration, stuck detection and the ΣΔ channels. -/

namespace Sys2Proof.Machine

open Sys2Proof

/-! ## Groups and triggers (R113–R120) -/

/-- The first ADCCLK edge at or after cycle n (R461: every third CORECLK edge). -/
def adcEdgeAt (n : Nat) : Nat := (n + 2) / 3 * 3

/-- Members of group g that are present. -/
def State.groupMembers (s : State) (g : Nat) : List Nat :=
  below s.nConv fun k => s.bit (R.ADC_GCFG_MEMBERS g) k

/-- CORECLK cycles of one slot of an acquisition time (R115). -/
def slotCycles (nacq : Nat) : Nat := 3 * (nacq + 15)

/-- A run keeps its converter busy in cycle t (R115). -/
def AdcRun.busy (r : AdcRun) (t : Nat) : Bool := decide (t < r.t0 + r.slots * slotCycles r.nacq)

/-- Converter k is busy; a conversion is in progress. -/
def State.convBusy (s : State) (k t : Nat) : Bool := s.adc.runs.any fun r => decide (r.conv = k) && r.busy t
def State.adcConverting (s : State) : Bool := s.adc.runs.any fun r => r.busy s.cycle

/-- Triggers are taken in READY and RUN (R120). -/
def State.trigOpen (s : State) : Bool := s.planes && !s.stopped 11

/-- A trigger of group g, taken in this cycle, whose acquisition starts on the edge of cycle t0; refused while calibration runs (R116, R120, R128). -/
def State.adcTrigger (s : State) (g t0 : Nat) : State :=
  if !s.trigOpen || s.groupMembers g = [] then s
  else if s.on R.ADC_CAL_BUSY then s.raise R.ADC_STAT_CALREJ
  else { s with adc := { s.adc with trigs := s.adc.trigs ++ [(t0, g, s.cycle)] } }

/-- An overrun of group g (R119). -/
def State.overrun (s : State) (g : Nat) : State :=
  ((s.raise R.ADC_STAT_OVR).putBit R.ADC_STAT_OVRGRP g true).bumpSat R.ADC_STAT_OVRCNT

/-- The cycle from which the first result of group g is readable: fixed against the trigger for a Wheel group, against the acquisition edge for any other (R68, R117, R513). -/
def State.readableAt (s : State) (g t0 trig : Nat) : Nat :=
  let n := 3 * s.get (R.ADC_GCFG_NACQ g)
  if s.get (R.ADC_GCFG_SRC g) = 1 then trig + n + 68 else t0 + n + 59

/-- Group g, triggered in cycle `trig`, starts on the edge of cycle t0 (R114, R115). -/
def State.groupStart (s : State) (g t0 trig : Nat) : State :=
  let new := (s.groupMembers g).map fun k =>
    ({ conv := k, group := g, t0 := t0, nacq := s.get (R.ADC_GCFG_NACQ g), slots := s.get (R.ADC_GCFG_SEQLEN g),
       snaps := [], done := 0, due := s.readableAt g t0 trig, codes := [] } : AdcRun)
  { s with adc := { s.adc with runs := s.adc.runs ++ new } }

/-- One group of those triggered on an edge, lowest number first: started, or overrun where a member is busy, its own sequence runs, or it shares a converter with a group already started (R118, R119). -/
def State.groupEdge (s : State) (t0 g trig : Nat) : State :=
  if (s.groupMembers g).any (fun k => s.convBusy k t0) || s.adc.runs.any (fun r => decide (r.group = g) && r.busy t0)
  then s.overrun g else s.groupStart g t0 trig

/-- The triggers collected for the edge of cycle t (R118, R120). A trigger taken before CAL.START was accepted starts its group all the same (DESIGN CHOICE, assumption 46). -/
def State.adcEdge (s : State) (t : Nat) : State :=
  let now := s.adc.trigs.filter fun e => decide (e.1 = t)
  let s := { s with adc := { s.adc with trigs := s.adc.trigs.filter fun e => decide (e.1 ≠ t) } }
  if s.trigOpen then
    s.each (List.range 8) fun s g => match now.find? fun e => decide (e.2.1 = g) with
      | some e => s.groupEdge t g e.2.2
      | none => s
  else s

/-- The event that GTRIG selects for timebase group g falls in this cycle (R116). -/
def State.groupEvent (s : State) (g : Nat) : Bool :=
  let t := s.get (R.ADC_GTRIG_TB g)
  let v := s.get (R.ADC_GTCMP_CMP g)
  decide (s.get (R.ADC_GCFG_SRC g) = 2) &&
  (match s.get (R.ADC_GTRIG_EVT g) with
   | 0 => s.tbAt t 0 true true
   | 1 => s.tbUd t && s.tbAt t (s.tbP t) true true
   | 2 => s.tbAt t v true false
   | _ => s.tbAt t v false true)

/-- That event is to be taken: no trigger of the group has been taken in this cycle. -/
def State.groupDue (s : State) (g : Nat) : Bool :=
  s.groupEvent g && !(s.adc.trigs.any fun e => decide (e.2.1 = g) && decide (e.2.2 = s.cycle))

/-- The trigger of timebase group g, where its event falls in this cycle (R116). -/
def State.groupTake (s : State) (g : Nat) : State :=
  if s.groupDue g then s.adcTrigger g (adcEdgeAt (s.cycle + 1)) else s

/-- All timebases start in this cycle, and take its events (R116, R190, R191). -/
def State.tbBegin (s : State) : State := s.tbStartAll.tbEvents.each (List.range 8) State.groupTake

/-! ## Settings at the acquisition edge (R121, R129) -/

/-- The multiplexer selection of converter k in slot `slot` of group g (R115). -/
def muxFld (g slot k : Nat) : Fld := ⟨0x40200104 + 4 * slot + 0x20 * g, 2 * k, 2, .rwb, 0⟩

/-- A leg is governed by compare values strictly inside the period (R129). -/
def State.legSwitching (s : State) (n : Nat) : Bool :=
  let top := 32 * s.tbP (s.genTb n)
  let inside := fun x => decide (0 < x) && decide (x < top)
  decide (slice (s.get (R.PWM_FACT_CODE (invOfLeg n))) (3 * (n % 3)) 3 = 0) && s.genLive n &&
  (inside (s.get (R.PWM_CMPA_VALUE n)) || (s.legIndep n && inside (s.get (R.PWM_CMPB_VALUE n))))

/-- Inverter v is in a switching condition (R129). -/
def State.switching (s : State) (v : Nat) : Bool :=
  !s.safeApplied v && !s.on (R.LOOP_INVCFG_HOLD v) && [3 * v, 3 * v + 1, 3 * v + 2].any s.legSwitching

/-- The settings of converter k for a slot of group g that starts acquisition now (R121). -/
def State.snapshot (s : State) (k g slot : Nat) : Snap :=
  { acq := s.cycle, ph0 := (s.exc 0).phase, ph1 := (s.exc 1).phase,
    inp := s.get (muxFld g slot k), calofs := s.get (R.ADC_CONV_CALOFS k), calgain := s.get (R.ADC_CONV_CALGAIN k),
    uofs := s.word (R.ADC_UOFS_VALUE k), ugain := s.word (R.ADC_UGAIN_VALUE k), rsh := s.get (R.ADC_CCFG_RSH k),
    pdiff := s.on (R.ADC_CCFG_PDIFF k), clipmode := s.get (R.ADC_CCFG_CLIPMODE k),
    switching := s.switching (s.get (R.ADC_CCFG_STKINV k)) }

/-- The slots of a run that have started acquisition by cycle t take their settings. -/
def State.runSnap (s : State) (t : Nat) (r : AdcRun) : AdcRun :=
  if r.snaps.length < r.slots ∧ r.t0 + r.snaps.length * slotCycles r.nacq ≤ t then
    { r with snaps := r.snaps ++ [s.snapshot r.conv r.group r.snaps.length] }
  else r

/-- The converters at the start of a CORECLK cycle: an ADCCLK edge every third cycle, and the slots that start in it (R115, R118, R461). -/
def State.adcSlots (s : State) : State :=
  let s := if s.cycle % 3 = 0 then s.adcEdge s.cycle else s
  { s with adc := { s.adc with runs := s.adc.runs.map (s.runSnap s.cycle) } }

/-! ## Results (R121–R124, R129, R130, R513) -/

/-- The raw code as a number: two's complement in pseudo-differential mode (R111). -/
def rawValue (pdiff : Bool) (code : Nat) : Int := if pdiff then toSigned 14 code else (code : Int)

/-- The raw code is clipped under CLIPMODE (R124). -/
def clipped (pdiff : Bool) (mode : Nat) (r : Int) : Bool :=
  let top : Int := if pdiff then 8191 else 16383
  let bot : Int := if pdiff then -8192 else 0
  (mode.testBit 0 && decide (r = top)) || (mode.testBit 1 && decide (r = bot))

/-- The corrected value (R121). -/
def corrected (sn : Snap) (r : Int) : Word :=
  let d := (Fp32.ofIntRat (16 * r - toSigned 16 sn.calofs) 16).v
  let t := (Fp32.sub d sn.uofs).v
  let t := (Fp32.mul t (Fp32.ofRat false sn.calgain 32768).v).v
  (Fp32.mul t sn.ugain).v

/-- The register copy: corrected × 2^RSH, rounded half away from zero and saturated; and whether it saturated (R122). -/
def registerCopy (v : Word) (rsh : Nat) : Int × Bool :=
  match Fp32.num v with
  | .nan => (0, false)
  | .inf neg => (if neg then -32768 else 32767, true)
  | .fin neg m e =>
    let q := Fp32.scale m (e + toSigned 4 rsh)
    let x := qRound (if neg then -(q.1 : Int) else q.1, q.2)
    if 32767 < x then (32767, true) else if x < -32768 then (-32768, true) else (x, false)

/-- Validity of a result of converter k, from its flags as they stand (R124). -/
def State.convValid (s : State) (k : Nat) (clip seen : Bool) : Bool :=
  s.on R.ADC_CAL_DONE && !s.bit R.ADC_CAL_FAIL k && seen && !clip && !s.bit R.ADC_FLAG_STUCK k

/-- What ADC.RD delivers (R124). Its validity is formed at the read, from DONE, FAIL and STUCK as they then stand (DESIGN CHOICE, assumption 46). -/
def State.adcRead (s : State) (k : Nat) : Word × Bool :=
  (Sparse.get 0#32 s.adc.val k,
   s.convValid k (Sparse.get false s.adc.clip k) (Sparse.get false s.adc.seen k))

/-- The run of identical codes of converter k, and STUCK at N (R129, R130). -/
def State.stuckCount (s : State) (k code : Nat) (sw : Bool) : State :=
  let n := s.get (R.ADC_CCFG_STUCKN k)
  let old := Sparse.get 0 s.adc.same k
  let cnt := if n = 0 ∨ !sw then 0
    else if old ≠ 0 ∧ Sparse.get 0 s.adc.lastRaw k = code then min (old + 1) 255 else 1
  let s := { s with adc := { s.adc with
    same := Sparse.set 0 s.adc.same k cnt, lastRaw := Sparse.set 0 s.adc.lastRaw k code } }
  if n ≠ 0 ∧ n ≤ cnt then s.putBit R.ADC_FLAG_STUCK k true else s

/-- A result of converter k with the settings of its slot: correction, validity and both copies (R121, R122, R124). -/
def State.adcStore (s : State) (k code : Nat) (sn : Snap) : State :=
  let r := rawValue sn.pdiff code
  let v := corrected sn r
  let clip := clipped sn.pdiff sn.clipmode r
  let s := s.stuckCount k code sn.switching
  let s := if clip then s.putBit R.ADC_FLAG_CLIP k true else s
  let ok := s.convValid k clip true
  let c := registerCopy v sn.rsh
  let n := 3 * k + sn.inp
  let s := ((s.put (R.ADC_RES_VALUE n) (ofSigned 16 c.1)).putB (R.ADC_RES_SAT n) c.2).putB (R.ADC_RES_CLIP n) clip
  let s := (s.putB (R.ADC_RES_VALID n) ok).bumpWrap (R.ADC_RES_SEQ n)
  let s := { s with adc := { s.adc with
    val := Sparse.set 0#32 s.adc.val k v, clip := Sparse.set false s.adc.clip k clip,
    seen := Sparse.set false s.adc.seen k true } }
  s.resTake k sn v ok

/-- The next result of a run has its code and its readable cycle has come (R117, R513). -/
def AdcRun.ready (r : AdcRun) (t : Nat) : Bool :=
  decide (r.done < r.codes.length) && decide (r.due + r.done * slotCycles r.nacq ≤ t)

/-- The first run with a result to deliver, with its slot counted as delivered in the list, which a run leaves with its last slot. -/
def takeReady (t : Nat) : List AdcRun → Option (AdcRun × List AdcRun)
  | [] => none
  | r :: l =>
    if r.ready t then some (r, if r.done + 1 < r.slots then { r with done := r.done + 1 } :: l else l)
    else match takeReady t l with
      | some (x, k) => some (x, r :: k)
      | none => none

/-- One result that is due is delivered; the last of a trigger sets GSW.DONE, which stands until it is written 1 (R121, R136). A new trigger of the group leaves DONE as it is (DESIGN CHOICE, assumption 46). -/
def State.deliverOne (s : State) : State :=
  match takeReady s.cycle s.adc.runs with
  | none => s
  | some (r, l) =>
    let s := { s with adc := { s.adc with runs := l } }
    let s := s.adcStore r.conv (r.codes.getD r.done 0) (r.snaps.getD r.done {})
    if s.adc.runs.any fun x => decide (x.group = r.group) then s else s.raise (R.ADC_GSW_DONE r.group)

/-- Codes still to be delivered. -/
def State.codesLeft (s : State) : Nat := s.adc.runs.foldl (fun n r => n + (r.codes.length - r.done)) 0

/-- Every result that is due is delivered (R117, R513). -/
def State.adcDeliver (s : State) : State :=
  (List.range s.codesLeft).foldl (fun s _ => s.deliverOne) s

/-- The oldest run of converter k with a started slot that waits for its code takes `code` (R111, R121). -/
def giveCode (k code : Nat) : List AdcRun → List AdcRun
  | [] => []
  | r :: t =>
    if r.conv = k ∧ r.codes.length < r.snaps.length then { r with codes := r.codes ++ [code] } :: t
    else r :: giveCode k code t

/-- CONVERSION_RESULT: the raw code of converter `conv` for the oldest slot that has started and waits for one; it is delivered in the slot's readable cycle (R117, R513, R121–R124, R130, R143). -/
def execConversionResult (conv : Fin 16) (code : BitVec 14) (s : State) : Out :=
  .next ({ s with adc := { s.adc with runs := giveCode conv.val code.toNat s.adc.runs } }.adcDeliver.fbScan)

/-- TIMEBASE_GROUP_TRIGGER: the event selected for timebase group g falls in this cycle (R116). -/
def execTimebaseGroupTrigger (g : Fin 8) (s : State) : Out := .next (s.groupTake g.val)

/-- The ADTRIG filter is satisfied by `n` consecutive ADCCLK samples of the new level: by the ADTFILTth, or by the first where ADTFILT is 0 (R116). -/
def State.adtFilter (s : State) (n : Nat) : Bool := decide (n = max 1 (s.get R.ADC_CTL_ADTFILT))

/-- ADTRIG_EDGE: an ADCCLK edge has taken the `samples`th consecutive sample of the new level at the land; where that satisfies the filter, the selected groups start on the third edge after it (R116). -/
def execAdtrigEdge (rising : Bool) (samples : Nat) (s : State) : Out :=
  .next (if s.bit R.ADC_CTL_ADTEDGE (if rising then 0 else 1) && s.adtFilter samples then
      s.each (below 8 fun g => decide (s.get (R.ADC_GCFG_SRC g) = 3)) fun s g => s.adcTrigger g (adcEdgeAt s.cycle + 9)
    else s)

/-- SWTRIG: the Cone's trigger, ignored where SRC is not Cone (R23, R116). -/
def execSwtrig (g : Fin 8) (s : State) : Out :=
  .next (if s.busUp && decide (s.get (R.ADC_GCFG_SRC g.val) = 4) then s.adcTrigger g.val (adcEdgeAt (s.cycle + 2)) else s)

/-- ADC_STUCK_CLEAR: counting restarts from 0 (R130). -/
def execAdcStuckClear (mask : BitVec 16) (s : State) : Out :=
  .next (
    if !s.busUp then s
    else
      let m := mask.toNat
      let s := s.put R.ADC_FLAG_STUCK (bitsOf 16 fun k => s.bit R.ADC_FLAG_STUCK k && !m.testBit k)
      { s with adc := { s.adc with same := Sparse.keep (fun k => !m.testBit k) s.adc.same } })

/-! ## Calibration (R112, R125–R128) -/

/-- CAL_START (R125); refused too once the block has stopped for a BANKED entry (R435, assumption 46). -/
def execCalStart (s : State) : Out :=
  .next (
    if !s.busUp then s
    else if s.dev ≠ .ready ∨ s.stopped 11 = true ∨ s.on R.ADC_CAL_BUSY = true ∨ s.adcConverting = true then s.raise R.ADC_STAT_CFGREJ
    else (s.raise R.ADC_CAL_BUSY).clear R.ADC_CAL_DONE)

/-- The factors of a converter from its tap sums over 4,096 conversions: CALGAIN to the nearest 2^−15, CALOFS to the nearest 1/16 LSB, halves away from zero; none where they fall outside R127 (R126, R127). -/
def calFactors (s10 s90 : Nat) : Option (Nat × Int) :=
  if s90 ≤ s10 then none
  else
    let d := s90 - s10
    let gain := qRound (131072 * 4096 * 32768, 10 * d)
    let ofs := qRound (8 * (16 * (s10 : Int) - 2 * (d : Int)), 8 * 4096)
    if 29492 ≤ gain ∧ gain ≤ 36044 ∧ -4096 ≤ ofs ∧ ofs ≤ 4096 then some (gain.toNat, ofs) else none

/-- The end of calibration for converter k (R126, R127). -/
def State.calOne (m10 m90 : List Nat) (s : State) (k : Nat) : State :=
  match calFactors (m10.getD k 0) (m90.getD k 0) with
  | none => s.putBit R.ADC_CAL_FAIL k true
  | some (g, o) =>
    ((s.put (R.ADC_CONV_CALGAIN k) g).put (R.ADC_CONV_CALOFS k) (ofSigned 16 o)).putBit R.ADC_CAL_FAIL k false

/-- CAL_DONE: the sums of the 4,096 codes of each tap, per converter (R126, R127). DONE is set though VREFSEL changed while the calibration ran (DESIGN CHOICE, assumption 46). -/
def execCalDone (m10 m90 : List Nat) (s : State) : Out :=
  .next (if s.on R.ADC_CAL_BUSY then
      ((s.each (List.range s.nConv) (State.calOne m10 m90)).clear R.ADC_CAL_BUSY).raise R.ADC_CAL_DONE
    else s)

/-- VREFSEL_WRITE, in READY only: a change clears DONE and moves the Saggar's thresholds (R112, R254). -/
def execVrefselWrite (v : Bool) (s : State) : Out :=
  .next (
    if !s.busUp || decide (s.dev ≠ .ready) then s
    else if s.on R.ADC_CTL_VREFSEL = v then s
    else ((s.putB R.ADC_CTL_VREFSEL v).clear R.ADC_CAL_DONE).sync)

/-! ## ΣΔ channels (R131–R135) -/

def State.sdCh (s : State) (j : Nat) : SdCh := Sparse.get {} s.adc.sd j
def State.setSd (s : State) (j : Nat) (c : SdCh) : State :=
  { s with adc := { s.adc with sd := Sparse.set {} s.adc.sd j c } }

/-- The channel runs: enabled, in READY or RUN (R43, R131). -/
def State.sdRuns (s : State) (j : Nat) : Bool := s.trigOpen && s.on (R.ADC_SDCFG_EN j)

/-- A channel that is enabled counts its outputs, bits and decimation anew; its integrators go on (R134, R135). -/
def State.sdStart (s : State) (j : Nat) : State :=
  s.setSd j { s.sdCh j with outs := 0, inval := 0, dec := 0, same := 0, out := none, syncAt := none }

/-- A channel of the block runs, and SDCLK with it (R131). -/
def State.sdAny (s : State) : Bool := (List.range 6).any s.sdRuns

/-- (y − SDOFS) × SDGAIN with y = sum/OSR³ (R132). y is kept exact, the difference is rounded, then the product (DESIGN CHOICE, assumption 11). -/
def sdCorrect (sum : Int) (osr : Nat) (ofs gain : Word) : Word :=
  let n := max 1 (osr * osr * osr)
  match qWord ofs with
  | some q => (Fp32.mul (qPack (qSub (sum, n) q)) gain).v
  | none => Fp32.nan

/-- One bit through the integrators: 1 counts as +1, 0 as −1 (R132). -/
def SdCh.integrate (c : SdCh) (b : Bool) : SdCh :=
  let i1 := c.i1 + if b then 1 else -1
  let i2 := c.i2 + i1
  { c with i1 := i1, i2 := i2, i3 := c.i3 + i2 }

/-- The differentiators at an output boundary: the channel and the sinc3 sum over OSR bits a stage, held to ±OSR³ where a restart has cut a stage short (R132; the hold is a DESIGN CHOICE, assumption 11). -/
def SdCh.differentiate (c : SdCh) (osr : Nat) : SdCh × Int :=
  let y1 := c.i3 - c.d1
  let y2 := y1 - c.d2
  let y3 := y2 - c.d3
  let top : Int := osr * osr * osr
  ({ c with d1 := c.i3, d2 := y1, d3 := y2 }, max (-top) (min top y3))

/-- The run of identical bits (R135). A clear of STUCK does not restart it: at 128 the next identical bit sets STUCK again (DESIGN CHOICE, assumption 46: R130 states a restart for converters only). -/
def SdCh.countSame (c : SdCh) (b : Bool) : SdCh :=
  { c with level := b, same := if c.same ≠ 0 ∧ c.level = b then min (c.same + 1) 128 else 1 }

/-- An alignment event waits for a sampling edge that has come (R134). -/
def State.sdSyncDue (s : State) (j : Nat) : Bool :=
  s.sdRuns j && (match (s.sdCh j).syncAt with | some t => decide (t ≤ s.cycle) | none => false)

/-- The comparison of an alignment event: at an output boundary nothing happens; otherwise decimation restarts here (R134). -/
def State.sdSync (s : State) (j : Nat) : State :=
  let c := s.sdCh j
  if c.dec = 0 then s.setSd j { c with syncAt := none }
  else (s.setSd j { c with syncAt := none, dec := 0, outs := 0, inval := 3 }).raise (R.ADC_SDSTAT_RESYNC j)

/-- 128 identical bits have been seen (R135). -/
def State.sdSame (s : State) (j : Nat) : Bool := s.sdRuns j && decide ((s.sdCh j).same = 128)

/-- The SDj land is sampled: its level, open where the environment has given none (assumption 5), then filter, decimation and stuck run (R131, R132, R135). -/
def State.sdSample (s : State) (j : Nat) : State :=
  let c := s.sdCh j
  let r := match c.land with
    | b :: t => ((b, t), s)
    | [] => let d := s.draw 2; ((decide (d.1 = 1), []), d.2)
  let s := r.2
  let c : SdCh := { (c.integrate r.1.1).countSame r.1.1 with land := r.1.2 }
  let osr := s.get (R.ADC_SDCFG_OSR j)
  let c := if c.dec + 1 < osr then { c with dec := c.dec + 1 }
    else
      let y := c.differentiate osr
      { y.1 with dec := 0, out := some (s.cycle + 12, y.2, osr) }
  let s := s.setSd j c
  if s.sdSame j then s.raise (R.ADC_SDSTAT_STUCK j) else s

/-- A completed output whose cycle has come: corrected, with its validity and count (R132, R133, R135). y is formed with OSR as at the completing edge; SDOFS and SDGAIN are taken here, as they stand in the delivery cycle (DESIGN CHOICE, assumption 46: R121 fixes the instant for converters only). -/
def State.sdDeliver (s : State) (j : Nat) : State :=
  let c := s.sdCh j
  match c.out with
  | some (t, sum, osr) =>
    if s.cycle < t then s
    else
      let outs := min (c.outs + 1) 3
      let ok := decide (3 ≤ outs) && decide (c.inval = 0) && !s.on (R.ADC_SDSTAT_STUCK j)
      let v := sdCorrect sum osr (s.word (R.ADC_SDOFS_VALUE j)) (s.word (R.ADC_SDGAIN_VALUE j))
      (((s.setSd j { c with outs := outs, inval := c.inval - 1, out := none }).put (R.ADC_SDRES_VALUE j) v.toNat).putB
        (R.ADC_SDSTAT_VALID j) ok).bumpWrap (R.ADC_SDSTAT_OUTCNT j)
  | none => s

/-- The sampling edge of channel j falls in this cycle (R131). -/
def State.sdEdge (s : State) (j : Nat) : Bool :=
  decide (s.adc.sdclk = if s.on (R.ADC_SDCFG_EDGE j) then 16 else 0)

/-- One CORECLK cycle of a channel. -/
def State.sdStep (s : State) (j : Nat) : State :=
  if !s.sdRuns j then s
  else
    let s := if s.sdEdge j then (if s.sdSyncDue j then s.sdSync j else s).sdSample j else s
    s.sdDeliver j

/-- The ΣΔ block at the start of a CORECLK cycle: SDCLK, 16 cycles high and 14 low while a channel runs, the lands sampled on it, and the outputs that become readable (R131–R135). -/
def State.sdTick (s : State) : State :=
  let run := s.sdAny
  let s := { s with adc := { s.adc with sdclk := if run then (s.adc.sdclk + 1) % 30 else 29 } }
  if run then s.each (List.range 6) State.sdStep else s

/-- SD_OUTPUT: the levels the land of channel `ch` takes at the coming sampling edges, and the output that is due (R131–R133, R135). -/
def execSdOutput (ch : Fin 6) (bits : List Bool) (s : State) : Out :=
  .next (
    let j := ch.val
    if !s.sdRuns j then s
    else (s.setSd j { s.sdCh j with land := (s.sdCh j).land ++ bits }).sdDeliver j)

/-- What SD.RD delivers (R133, R135): VALID as formed at the delivery, with STUCK as it stands at the read (DESIGN CHOICE, assumption 46). -/
def State.sdRead (s : State) (j : Nat) : Word × Bool :=
  (s.word (R.ADC_SDRES_VALUE j), s.on (R.ADC_SDSTAT_VALID j) && !s.on (R.ADC_SDSTAT_STUCK j))

/-- SD_SYNC_EVENT: the comparison that an alignment event asks for, in the cycle of a sampling edge (R134). -/
def execSdSyncEvent (ch : Fin 6) (s : State) : Out :=
  .next (if s.sdSyncDue ch.val && s.sdEdge ch.val then s.sdSync ch.val else s)

/-- SD_STUCK: 128 identical bits (R135). -/
def execSdStuck (ch : Fin 6) (s : State) : Out :=
  .next (if s.sdSame ch.val then (s.raise (R.ADC_SDSTAT_STUCK ch.val)).fbScan else s)

/-- SD_STUCK_CLEAR (R135): the run of identical bits stands (DESIGN CHOICE, assumption 46). -/
def execSdStuckClear (ch : Fin 6) (s : State) : Out :=
  .next (if s.busUp then s.clear (R.ADC_SDSTAT_STUCK ch.val) else s)

end Sys2Proof.Machine
end

