-- ==== Sys2Proof/Machine/Saggar.lean ====
section
/-! DEFINITION. The Saggar's commands (R253–R263, R275): its inputs, the Cone's preselection and requests, and the clearing of latches. -/

namespace Sys2Proof.Machine

open Sys2Proof

/-! ## Inputs (R253, R254) -/

/-- The inputs whose condition the row itself brings: nTRIP and shoot-through. -/
def ownCond (b : Nat) : Bool := decide (b = 20) || decide (b = 23)

/-- The input is a comparator on an AIN land. -/
def isCmp (b : Nat) : Bool := decide (b < 12) || decide (b = 18) || decide (b = 19)

/-- The land that comparator b of inverter v watches has stood at `uv` µV for the filter time (R253, R254). -/
def State.landStands (s : State) (v b uv : Nat) : State :=
  { s with pins := { s.pins with ain := Sparse.set 0 s.pins.ain (s.cmpLand v b) uv } }

/-- TRIP_INPUT: input b (of inverter v) becomes active after its filter (R253): a comparator where its land stands at `uv` µV beyond a threshold (R254); nTRIP and shoot-through by the row itself; an input with a source in the device follows that source. -/
def execTripInput (v : Fin 2) (b : Fin 29) (uv : Nat) (s : State) : Out :=
  .next (
    if isCmp b.val then (s.landStands v.val b.val uv).sync
    else if ownCond b.val then (s.setCond v.val b.val true).sync
    else s.sync)

/-- Window of a rail in mV: VSYS, VCORE, VIO33, VIO18, VSO (R455). -/
def railWindow (r : Fin 5) : Nat × Nat :=
  match r with
  | 0 => (5600, 19000)
  | 1 => (760, 860)
  | 2 => (3000, 3600)
  | 3 => (1620, 1980)
  | 4 => (6000, 19000)

/-- Nominal value of a rail in mV; the spec gives none for VSYS and VSO (R454, assumption 14). -/
def railNominal (r : Fin 5) : Nat :=
  match r with
  | 1 => 800
  | 2 => 3300
  | 3 => 1800
  | _ => Config.railNominal r.val

/-- The rail stands at `uv` µV inside its window by at least 2 % of its nominal value (R455). -/
def railBack (r : Fin 5) (uv : Nat) : Bool :=
  decide (1000 * (50 * (railWindow r).1 + railNominal r) ≤ 50 * uv) &&
  decide (50 * uv + 1000 * railNominal r ≤ 50000 * (railWindow r).2)

/-- TRIP_INPUT_INACTIVE: input b stops being active: a comparator where its land stands at `uv` µV inside its thresholds by 16 codes (R254); for the supply input, `rail` has stood at `uv` µV for the filter time (R455, R456). -/
def execTripInputInactive (v : Fin 2) (b : Fin 29) (rail : Fin 5) (uv : Nat) (s : State) : Out :=
  .next (
    if isCmp b.val then (s.landStands v.val b.val uv).sync
    else if ownCond b.val then (s.setCond v.val b.val false).sync
    else if b.val = 26 ∧ railBack rail uv = true then
      ((s.putBit R.SYS_SUPSTAT_WIN (2 * rail.val) false).putBit R.SYS_SUPSTAT_WIN (2 * rail.val + 1) false).sync
    else s.sync)

/-! ## The Cone's side of the interface (R259, R263, R267, R275) -/

/-- The Cone runs and is awake; an on-demand LBIST run stops it where it is selected (R34, R267, R452). -/
def State.coneUp (s : State) : Bool :=
  s.on R.CONE_STAT_RUNNING &&
    (s.busUp || (s.scanning && s.clkUp 4 && !s.scanPart 3))

/-- A preselection write (R259). -/
def State.preselTake (s : State) (a b : Nat) : State :=
  if a = 3 ∨ b = 3 then s.raise R.SAGGAR_STAT_PREREJ
  else
    let s := ((s.put R.SAGGAR_PRESEL_A a).put R.SAGGAR_PRESEL_B b).clear R.SAGGAR_STAT_PRESTALE
    { s with sag := { s.sag with preAt := some s.cycle } }.sync

/-- The Cone notes what it has last written for each inverter (R269). -/
def State.notePresel (s : State) (a b : Nat) : State :=
  s.each (List.range s.nInv) fun s v =>
    { s with cone := { s.cone with preLast := Sparse.set none s.cone.preLast v (some (if v = 0 then a else b)) } }

/-- PRESEL_WRITE (R259, R269); a refused write is no value written. -/
def execPreselWrite (a b : Fin 4) (s : State) : Out :=
  .next (
    if !s.coneUp then s
    else if a.val = 3 ∨ b.val = 3 then s.preselTake a.val b.val
    else (s.notePresel a.val b.val).preselTake a.val b.val)

/-- 1.0 ms has passed with no accepted write (R259). -/
def State.preselOld (s : State) : Bool :=
  match s.sag.preAt with
  | some c => decide (c + 600000 ≤ s.cycle)
  | none => true

/-- The staleness timer (R259, R440). -/
def State.preselTick (s : State) : State :=
  if s.preselOld && !s.on R.SAGGAR_STAT_PRESTALE then (s.raise R.SAGGAR_STAT_PRESTALE).sync else s

/-- PRESEL_STALE: 1.0 ms without an accepted write (R259). -/
def execPreselStale (s : State) : Out := .next s.preselTick

/-- The Cone's request for inverter v, with its mirror in TMSTAT (R253, R279). -/
def State.setSsreq (s : State) (v : Nat) (on : Bool) : State :=
  let s := (s.putB (ssreq v) on).putB (R.CONE_TMSTAT_SSREQ v) on
  if on then s else s.clear (R.CONE_TMSTAT_CAUSE v)

/-- SSREQ (R253). -/
def execSsreq (v : Fin 2) (on : Bool) (s : State) : Out :=
  .next (if s.coneUp && decide (v.val < s.nInv) then (s.setSsreq v.val on).sync else s)

/-- DISCH (R275). -/
def execDischReq (on : Bool) (s : State) : Out :=
  .next (if s.coneUp then (s.putB R.SAGGAR_REQ_DISCH on).sync else s)

/-! ## Clearing latches (R263) -/

/-- A refused clear (R263). -/
def State.clearRefused (s : State) (code : Nat) : State :=
  (s.raise R.SAGGAR_STAT_CLR_REFUSED).put R.SAGGAR_STAT_CLRCODE code

/-- A non-clearable input latch of v is set: bits 24, 25, 27 (R253, R263). -/
def State.stuckLatch (s : State) (v : Nat) : Bool :=
  let m := s.get (R.SAGGAR_LATCH_INPUTS v)
  m.testBit 24 || m.testBit 25 || m.testBit 27

/-- In RUN, v has an enabled current loop and is not held (R263). -/
def State.unheld (s : State) (v : Nat) : Bool :=
  decide (s.dev = .run) && !s.on (R.LOOP_INVCFG_HOLD v) &&
  (List.range 8).any fun l => s.on (R.LOOP_CFG_EN l) && decide (s.get (R.LOOP_CFG_TYPE l) = 1) && decide (s.loopInv l = v)

/-- The CLRCODE of a clear of inverter v, 0 where it is accepted (R263). -/
def State.clearCode (s : State) (v : Nat) : Nat :=
  if s.dev = .safeHold then 4
  else if s.stuckLatch v then 3
  else if s.activeVec v ≠ 0 then 1
  else if s.unheld v then 2
  else 0

/-- A clear request for inverter v, judged now (R263). -/
def State.latchClear (s : State) (v : Nat) : State :=
  let c := s.clearCode v
  if c ≠ 0 then s.clearRefused c
  else
    let s := (s.put R.SAGGAR_STAT_CLRCODE 0).clear (R.SAGGAR_LATCH_INPUTS v)
    let s := { s with sag := { s.sag with firstAt := Sparse.set none s.sag.firstAt v none } }
    (s.pwmRelease v).sync

/-- The CLRCODE of a discharge-latch clear (R263). -/
def State.dischClearCode (s : State) : Nat :=
  if s.dev = .safeHold then 4
  else if s.on R.SAGGAR_REQ_DISCH ||
      (List.range s.nInv).any (fun v => decide (s.activeVec v &&& s.get R.SAGGAR_DISCHMASK_MASK ≠ 0)) then 1
  else 0

/-- A discharge-latch clear, judged now (R263). -/
def State.dischLatchClear (s : State) : State :=
  let c := s.dischClearCode
  if c ≠ 0 then s.clearRefused c
  else { (s.put R.SAGGAR_STAT_CLRCODE 0) with sag := { s.sag with dlatch := false } }.sync

/-- Bits of CLR: inverters A and B, the discharge latch (R278). -/
def sagClr (k : Nat) : Fld := if k = 0 then R.SAGGAR_CLR_CLRA else if k = 1 then R.SAGGAR_CLR_CLRB else R.SAGGAR_CLR_CLRDIS

/-- The Cone's write of CLR: the bit reads 1 until it is evaluated (R263, R278). -/
def State.askClear (s : State) (k : Nat) : State := s.raise (sagClr k)

/-- LATCH_CLEAR (R263). -/
def execLatchClear (v : Fin 2) (s : State) : Out :=
  .next (if s.coneUp && decide (v.val < s.nInv) then s.askClear v.val else s)

/-- DISCHARGE_LATCH_CLEAR (R263). -/
def execDischargeLatchClear (s : State) : Out :=
  .next (if s.coneUp then s.askClear 2 else s)

/-- A clear that waits is judged, with the inputs, the state and HOLD as they stand (R263). -/
def State.clearJudge (s : State) (k : Nat) : State :=
  if !s.on (sagClr k) then s
  else if k = 2 then (s.clear (sagClr k)).dischLatchClear
  else (s.clear (sagClr k)).latchClear k

/-- A TSCLK edge begins this cycle (R31, R460). -/
def State.tscEdge (s : State) : Bool := s.pll && s.clkUp 7 && decide (s.dev ≠ .banked) && decide (s.cycle % 6 = 0)

/-- On a TSCLK edge the Saggar evaluates the clears that wait, against the inputs as they stand at it (R263). -/
def State.clearTick (s : State) : State :=
  if s.tscEdge && [0, 1, 2].any (fun k => s.on (sagClr k)) then s.judgeAll.each [0, 1, 2] State.clearJudge else s

/-- LOCKSTEP_MISMATCH: the Cone halts, the Cone-fault input latches, the preselection becomes stale (R259, R267). -/
def execLockstepMismatch (s : State) : Out :=
  .next (
    if s.coneUp then
      (((s.clear R.CONE_STAT_RUNNING).raise R.CONE_STAT_LSERR).raise R.SAGGAR_STAT_PRESTALE).sync
    else s)

end Sys2Proof.Machine
end

