-- ==== Sys2Proof/Machine/Xwin.lean ====
section
/-! DEFINITION. Exchange windows (R25, R26, R74, R75, R100–R106, R512): the Wheel port, the interconnect port and the swap. -/

namespace Sys2Proof.Machine

open Sys2Proof

/-- The buffer of window w that the Wheel owns, and the interconnect's (R25). -/
def State.xwWheelBuf (s : State) (w : Nat) : Nat := if s.xwin.sel.testBit w then 1 else 0
def State.xwBusBuf (s : State) (w : Nat) : Nat := 1 - s.xwWheelBuf w

/-- Key of word `off` of buffer b of window w. -/
def xwKey (w b off : Nat) : Nat := 2048 * w + 1024 * b + off % 1024

/-- OUT window (R106). -/
def State.xwOut (s : State) (w : Nat) : Bool := s.on (R.XWIN_CFG_DIR w)

/-- Write a word with good parity. -/
def State.xwStore (s : State) (k : Nat) (v : Word) : State :=
  { s with xwin := { s.xwin with buf := Sparse.set 0#32 s.xwin.buf k v, bad := Sparse.set false s.xwin.bad k false } }

/-- A Wheel write; a schedule that writes an IN window is refused at load (R75). -/
def State.xwWheelWrite (s : State) (w off : Nat) (v : Word) : State :=
  if s.xwOut w then s.xwStore (xwKey w (s.xwWheelBuf w) off) v else s

/-- The word and its parity on the Wheel's side (R74). -/
def State.xwWheelRead (s : State) (w off : Nat) : Word × Bool :=
  let k := xwKey w (s.xwWheelBuf w) off
  (Sparse.get 0#32 s.xwin.buf k, Sparse.get false s.xwin.bad k)

/-- An interconnect read (R100, R512). -/
def State.xwBusRead (s : State) (w off : Nat) : Word × State :=
  let k := xwKey w (s.xwBusBuf w) off
  if Sparse.get false s.xwin.bad k then (0x7FC00000#32, s.raise (R.XWIN_STAT_IPOISON w))
  else (Sparse.get 0#32 s.xwin.buf k, s)

/-- An interconnect write: dropped into an OUT window or one whose COMMIT is pending (R102, R103). -/
def State.xwBusWrite (s : State) (w off : Nat) (v : Word) : State :=
  if s.xwOut w || s.on (R.XWIN_CTL_COMMIT w) then s.raise (R.XWIN_STAT_WDROP w)
  else s.xwStore (xwKey w (s.xwBusBuf w) off) v

/-- A COMMIT of an IN window; ignored for an OUT window (R102, R103). -/
def State.xwCommit (s : State) (w : Nat) : State := if s.xwOut w then s else s.raise (R.XWIN_CTL_COMMIT w)

/-- A write of HOLD; ignored for an IN window (R103). -/
def State.xwHold (s : State) (w : Nat) (v : Bool) : State := if s.xwOut w then s.putB (R.XWIN_CTL_HOLD w) v else s

/-- The swap decisions of a turn match (R101): IN windows with a COMMIT pending, OUT windows whose HOLD is clear; and the OUT windows held. -/
def State.xwDecide (s : State) : State :=
  let sw := bitsOf 8 fun w => if s.xwOut w then !s.on (R.XWIN_CTL_HOLD w) else s.on (R.XWIN_CTL_COMMIT w)
  let held := bitsOf 8 fun w => s.xwOut w && s.on (R.XWIN_CTL_HOLD w)
  { s with wheel := { s.wheel with swapMask := sw, heldMask := held } }

/-- A COMMIT or a HOLD accepted on the FABCLK edge of the turn match counts for its TURN_START (R101, R105). -/
def State.xwRedecide (s : State) : State :=
  if s.wheel.matched && decide (s.wheel.matchAt / 2 = s.fab) then s.xwDecide else s

/-- One window at TURN_START: swapped where decided, with SEQ, SWAPPED and HELD (R25, R102–R104). -/
def State.xwSwapOne (s : State) (w : Nat) : State :=
  let swap := s.wheel.swapMask.testBit w
  let s := (s.putB (R.XWIN_STAT_SWAPPED w) swap).putB (R.XWIN_STAT_HELD w) (s.wheel.heldMask.testBit w)
  if !swap then s
  else
    let s := { s with xwin := { s.xwin with sel := setBit s.xwin.sel w (!s.xwin.sel.testBit w) } }
    if s.xwOut w then s.put (R.XWIN_STAT_SEQ w) (s.turn + 0xFFFF)
    else (s.clear (R.XWIN_CTL_COMMIT w)).put (R.XWIN_STAT_SEQ w) s.turn

/-- The swaps of a TURN_START (R25). -/
def State.xwSwap (s : State) : State := s.each (List.range 8) State.xwSwapOne

/-- The requester may write window w: the challenge window has the Cone as its only writer (R273). -/
def State.mayWindow (s : State) (req : Requester) (w : Nat) : Bool :=
  s.mayWrite req && (decide (req = .cone) || decide (s.cone.chal = []) || decide (s.cone.chalWin ≠ w))

/-- COMMIT of window w (R26, R102). -/
def execXwCommit (req : Requester) (w : Fin 8) (s : State) : Out :=
  .next (if s.mayWindow req w.val then (s.xwCommit w.val).xwRedecide else s)

/-- HOLD of window w set or cleared (R26, R103). -/
def execXwHold (req : Requester) (w : Fin 8) (v : Bool) (s : State) : Out :=
  .next (if s.mayWindow req w.val then (s.xwHold w.val v).xwRedecide else s)

/-- XWIN_BUFFER_WRITE (R102, R103, R512). -/
def execXwinBufferWrite (req : Requester) (w : Fin 8) (off : Fin 1024) (v : Word) (s : State) : Out :=
  .next (if s.mayWindow req w.val then s.xwBusWrite w.val off.val v else s)

/-- XWIN_BUFFER_READ (R100, R512). -/
def execXwinBufferRead (w : Fin 8) (off : Fin 1024) (s : State) : Out :=
  .next (if s.busUp then let r := s.xwBusRead w.val off.val; { r.2 with rdata := r.1.toNat } else s)

end Sys2Proof.Machine
end

