-- ==== Sys2Proof/Machine/Cone.lean ====
section
/-! DEFINITION. The Cone's functions (R267–R277, R279): the monitoring cycle with its preselection, torque monitor, Wheel checks, cross-check and discharge monitor, and the clears it forwards. Its arithmetic is exact, rounded once where a register takes the result (assumption 11). -/

namespace Sys2Proof.Machine

open Sys2Proof

/-! ## Parameters and measurements (R268, R277) -/

/-- A parameter, as an integer, and as a number. -/
def State.cpar (s : State) (id : Nat) : Nat := Sparse.get 0 s.cone.par id
def State.cparQ (s : State) (id : Nat) : Rat2 := (qWord (BitVec.ofNat 32 (s.cpar id))).getD (0, 1)

/-- The scaled value of Cone input k: (raw − COFS) × CGAIN (R268). -/
def State.cain (s : State) (k : Nat) : Rat2 :=
  qMul (qSub (qInt (s.get (R.CONE_CRES_RAW k))) (s.cparQ (0x38 + k))) (s.cparQ (0x30 + k))

/-- The input of quantity q of inverter v: 0 ia, 1 ib, 2 Vdc (R277 CAINMAP). -/
def State.cainOf (s : State) (v q : Nat) : Rat2 := s.cain (slice (s.cpar (0x22 + v)) (4 * q) 4 % 8)

/-- Inverters in use. -/
def State.usedInvs (s : State) : List Nat := below 2 s.invInUse

/-- The Cone monitors (R269); an on-demand LBIST run stops it where its partition is selected (R445, R452). -/
def State.coneActs (s : State) : Bool :=
  s.on R.CONE_STAT_RUNNING && !s.scanPart 3 && s.clkUp 4 && !s.stopped 14 &&
  (match s.dev with
   | .ready => true
   | .run => true
   | .safeHold => true
   | _ => false)

/-! ## The start of a cycle (R268–R270, R273) -/

/-- The angle of inverter v in revolutions, none where its source is invalid (R270). -/
def State.coneAngle (s : State) (v : Nat) : Option Rat2 × State :=
  let src := s.cpar (0x1C + v)
  if src < 2 then (if s.posValid src then some ((s.encAngle src).1, (s.encAngle src).2) else none, s)
  else if src < 6 then
    (if s.posValid src then some ((s.hang (src - 4) (s.hallSet (src - 4)).last : Nat), 256) else none, s)
  else if src < 12 then (if s.posValid src then qWord (s.posValue src) else none, s)
  else
    let r := s.xwBusRead (src % 8) 0
    (qWord r.1, r.2)

/-- Read the angle of an inverter in use; another has none. -/
def State.readAngle (s : State) (v : Nat) : State :=
  let r := if s.invInUse v then s.coneAngle v else (none, s)
  { r.2 with cone := { r.2.cone with ang := Sparse.set none r.2.cone.ang v r.1 } }

/-- A conversion of CAINk in cycle n (R268). -/
def State.cainStore (s : State) (n k code : Nat) : State :=
  ((s.put (R.CONE_CRES_RAW k) code).put (R.CONE_CRES_SEQ k) n).raise (R.CONE_CRES_VALID k)

/-- The result register of the Wheel converter paired with quantity q (0 ia, 1 ib) of inverter v: the input that slot 0 of its Wheel group selects (R274). -/
def State.pairIndex (s : State) (v q : Nat) : Nat :=
  let c := slice (s.cpar (0x22 + v)) 12 4 + q
  let g := ((below 8 fun g => s.bit (R.ADC_GCFG_MEMBERS g) c && decide (s.get (R.ADC_GCFG_SRC g) = 1)).head?).getD 0
  3 * c + s.get (muxFld g 0 c)

/-- The converter paired with quantity q of inverter v (R277). -/
def State.pairConv (s : State) (v q : Nat) : Nat := slice (s.cpar (0x22 + v)) 12 4 + q

/-- The cross-check runs (R274). -/
def State.crossOn (s : State) : Bool := decide (s.dev = .run) && decide (s.cpar 0x41 = 1)

/-- SEQ of the paired results at t0 (R274). -/
def State.crossStart (s : State) : State :=
  if s.crossOn then
    s.each s.usedInvs fun s v => s.each [0, 1] fun s q =>
      { s with cone := { s.cone with
          seqT0 := Sparse.set 0 s.cone.seqT0 (2 * v + q) (s.get (R.ADC_RES_SEQ (s.pairIndex v q))) } }
  else s

/-- The number of challenge pairs, and the pair of cycle n (R273). -/
def State.challenge (s : State) (n : Nat) : Nat × Nat :=
  s.cone.chal.getD (n % max 1 s.cone.chal.length) (0, 0)

/-- Step 1 of the heartbeat check: challenge n into word 0 of its window, committed (R273). -/
def State.writeChallenge (s : State) (n : Nat) : State :=
  if s.dev = .run ∧ s.cone.chal ≠ [] then
    (s.xwBusWrite s.cone.chalWin 0 (BitVec.ofNat 32 (s.challenge n).1)).xwCommit s.cone.chalWin
  else s

/-- Runtime changes of parameters are in use from the start of the cycle (R292). -/
def State.takeParams (s : State) : State :=
  { s with cone := { s.cone with
      par := s.cone.pend.foldl (fun m e => Sparse.set 0 m e.1 e.2) s.cone.par, pend := [] } }

/-- t0: even inputs, angles, SEQ of the pairs, the challenge (R268, R269, R273, R274). -/
def State.coneStart (s : State) (codes : List Nat) : State :=
  let s := s.takeParams
  let n := s.get R.CONE_CYCLE_COUNT
  let s := { s.bumpWrap R.CONE_CYCLE_COUNT with cone := { s.cone with t0 := s.cycle, busy := true } }
  let s := [0, 1, 2, 3].foldl (fun s i => s.cainStore n (2 * i) (codes.getD i 0)) s
  ((s.each (List.range s.nInv) State.readAngle).crossStart).writeChallenge n

/-- t0 + 0.5 µs: odd inputs (R268). The cycle number is that of the start. -/
def State.coneOdd (s : State) (codes : List Nat) : State :=
  let n := s.get R.CONE_CYCLE_COUNT + 0xFFFFFFFF
  [0, 1, 2, 3].foldl (fun s i => s.cainStore n (2 * i + 1) (codes.getD i 0)) s

/-- t0 + 2 µs: the paired results whose SEQ advanced by exactly one; another pair is skipped and counted (R274). -/
def State.coneCross (s : State) : State :=
  if s.crossOn then
    s.each s.usedInvs fun s v => s.each [0, 1] fun s q =>
      let i := s.pairIndex v q
      let ok := decide (s.get (R.ADC_RES_SEQ i) = (Sparse.get 0 s.cone.seqT0 (2 * v + q) + 1) % 256)
      let x := if ok then some (toSigned 16 (s.get (R.ADC_RES_VALUE i)),
                                toSigned 4 (s.get (R.ADC_CCFG_RSH (s.pairConv v q)))) else none
      let s := { s with cone := { s.cone with iw := Sparse.set none s.cone.iw (2 * v + q) x } }
      if ok then s else s.bumpSat R.CONE_CHKSTAT_XSKIP
  else s

/-! ## Requests (R271–R274) -/

/-- Bit of check c (0 torque, 1 heartbeat, 2 cross-check) of inverter v. -/
def checkBit (v c : Nat) : Nat := 4 * v + c

/-- Note the outcome of check c of inverter v. -/
def State.noteCheck (s : State) (v c : Nat) (bad : Bool) : State :=
  { s with cone := { s.cone with lastBad := setBit s.cone.lastBad (checkBit v c) bad } }

/-- Check c raises the request of inverter v; the cause is the first that raised it (R271, R273, R274). -/
def State.raiseCheck (s : State) (v c : Nat) : State :=
  let first := slice s.cone.raised (4 * v) 4 = 0
  let s := { s with cone := { s.cone with raised := setBit s.cone.raised (checkBit v c) true } }
  let s := s.setSsreq v true
  if first then s.put (R.CONE_TMSTAT_CAUSE v) (c + 1) else s

/-! ## Preselection (R269) -/

/-- The angle change wrapped to [−0.5, +0.5) revolution (R269). -/
def wrapHalf (d : Rat2) : Rat2 :=
  let x := qAdd d (1, 2)
  qSub (qSub x (qInt (qFloor x))) (1, 2)

/-- |speed| in rev/s over one cycle of 100 µs, none where no speed can be formed (R269). -/
def State.coneSpeed (s : State) (v : Nat) : Option Rat2 :=
  match Sparse.get none s.cone.ang v, Sparse.get none s.cone.angPrev v with
  | some a, some b => some (qMul (qAbs (wrapHalf (qSub a b))) (qInt 10000))
  | _, _ => none

/-- The preselection of inverter v (R269). -/
def State.preselOf (s : State) (v : Nat) : Nat :=
  match s.coneSpeed v with
  | some w => if qLe (s.cparQ (0x1E + v)) w then s.cpar (0x20 + v) else 0
  | none =>
    match Sparse.get none s.cone.preLast v with
    | some p => p
    | none => s.get (sagDefault v)

/-- The preselection written in every cycle, for both inverters (R269). -/
def State.conePresel (s : State) : State :=
  let a := s.preselOf 0
  let b := if s.nInv = 2 then s.preselOf 1 else 0
  let s := s.each (List.range s.nInv) fun s v =>
    let s := s.putB (R.CONE_TMSTAT_ANGINV v) (Sparse.get none s.cone.ang v).isNone
    { s with cone := { s.cone with angPrev := Sparse.set none s.cone.angPrev v (Sparse.get none s.cone.ang v) } }
  (s.notePresel a b).preselTake a b

/-! ## Torque monitor (R270, R271) -/

/-- √3 to 60 binary places. -/
def sqrt3 : Rat2 := (1996918623117814387, 2 ^ 60)

/-- cos and sin of 2πθ to 60 binary places. -/
def coneCos (th : Rat2) : Rat2 := (Fp32.cosFx (qFloor (qMul th (qInt (2 ^ 60))) % 2 ^ 60), 2 ^ 60)
def coneSin (th : Rat2) : Rat2 := (Fp32.sinFx (qFloor (qMul th (qInt (2 ^ 60))) % 2 ^ 60), 2 ^ 60)

/-- (id, iq) of inverter v at angle θ (R270). -/
def State.coneDq (s : State) (v : Nat) (th : Rat2) : Rat2 × Rat2 :=
  let ia := qTrim (s.cainOf v 0)
  let ib := qTrim (s.cainOf v 1)
  let be := qTrim (qDiv (qAdd ia (qMul (qInt 2) ib)) sqrt3)
  let c := coneCos th
  let n := coneSin th
  (qTrim (qAdd (qMul ia c) (qMul be n)), qTrim (qSub (qMul be c) (qMul ia n)))

/-- A word of the flux table of inverter v as a number. -/
def State.fluxQ (s : State) (v i : Nat) : Option Rat2 := qWord (Sparse.get 0#32 s.cone.flux (4096 * v + i))

/-- Position of x in [lo, hi] on the 31 intervals of an axis: cell and fraction; none outside the range (R270). -/
def fluxAxis (x lo hi : Rat2) : Option (Nat × Rat2) :=
  if qLt lo hi && qLe lo x && qLe x hi then
    let p := qTrim (qMul (qDiv (qSub x lo) (qSub hi lo)) (qInt 31))
    let i := min (qFloor p).toNat 30
    some (i, qSub p (qInt i))
  else none

/-- Bilinear interpolation of the table that starts at word `base` (R270). -/
def State.fluxLerp (s : State) (v base i j : Nat) (fx fy : Rat2) : Option Rat2 :=
  match s.fluxQ v (base + 32 * i + j), s.fluxQ v (base + 32 * (i + 1) + j),
        s.fluxQ v (base + 32 * i + j + 1), s.fluxQ v (base + 32 * (i + 1) + j + 1) with
  | some a, some b, some c, some d =>
    let lo := qAdd a (qMul fx (qSub b a))
    let hi := qAdd c (qMul fx (qSub d c))
    some (qTrim (qAdd lo (qMul fy (qSub hi lo))))
  | _, _, _, _ => none

/-- ψd and ψq at (id, iq): none outside the table range (R270). -/
def State.flux (s : State) (v : Nat) (id iq : Rat2) : Option (Rat2 × Rat2) :=
  match s.fluxQ v 0, s.fluxQ v 1, s.fluxQ v 2, s.fluxQ v 3 with
  | some d0, some d1, some q0, some q1 =>
    match fluxAxis id d0 d1, fluxAxis iq q0 q1 with
    | some (i, fx), some (j, fy) =>
      match s.fluxLerp v 4 i j fx fy, s.fluxLerp v 1028 i j fx fy with
      | some a, some b => some (a, b)
      | _, _ => none
    | _, _ => none
  | _, _, _, _ => none

/-- The permitted band holds `t`; a stale request counts as 0 while an age limit is set (R271). -/
def State.inBand (s : State) (v : Nat) (t : Rat2) : Bool :=
  let req := if s.on (R.CONE_TMSTAT_REQSTALE v) && decide (s.cpar (0x18 + v) ≠ 0) then qInt 0 else (qWord (s.word (R.CONE_TREQ_VALUE v))).getD (0, 1)
  let tol := qAdd (s.cparQ (0x14 + v)) (qMul (s.cparQ (0x16 + v)) (qAbs req))
  qLe (qSub (qMin (qInt 0) req) tol) t && qLe t (qAdd (qMax (qInt 0) req) tol)

/-- One evaluation of the torque monitor: out of band, outside the table, delivered torque (R270, R271). -/
def State.torqueEval (s : State) (v : Nat) : Bool × Bool × Option Rat2 :=
  match Sparse.get none s.cone.ang v with
  | none => (true, false, none)
  | some th =>
    let i := s.coneDq v th
    match s.flux v i.1 i.2 with
    | none => (true, true, none)
    | some psi =>
      let t := qMul (qMul (3, 2) (qInt (s.cpar (0x1A + v)))) (qSub (qMul psi.1 i.2) (qMul psi.2 i.1))
      (!s.inBand v t, false, some t)

/-- The deviation count moves by one (R271). -/
def devNext (d : Nat) (bad : Bool) : Nat := if bad then min (d + 1) 255 else d - 1

/-- The torque monitor of inverter v (R270, R271). -/
def State.torqueCheck (s : State) (v : Nat) : State :=
  if s.cpar (0x10 + v) ≠ 1 then s
  else
    let r := s.torqueEval v
    let s := match r.2.2 with
      | some t => s.put (R.CONE_TDEL_VALUE v) (qPack t).toNat
      | none => s
    let s := (s.putB (R.CONE_TMSTAT_OUTTAB v) r.2.1).putB (R.CONE_TMSTAT_OUTBAND v) r.1
    let d := devNext (s.get (R.CONE_TMSTAT_DEVCNT v)) r.1
    let s := (s.put (R.CONE_TMSTAT_DEVCNT v) d).noteCheck v 0 r.1
    if s.cpar (0x12 + v) ≤ d then s.raiseCheck v 0 else s

/-! ## Wheel checks (R273, R274) -/

/-- a lies at or after b, modulo 2^16. -/
def turnAtOrAfter (a b : Nat) : Bool := decide ((a + 0x10000 - b % 0x10000) % 0x10000 < 0x8000)

/-- Step 3: the heartbeat in cycle n carries the checksum of the current pair, or of the previous one where its turn lies before the window's SEQ. Without a heartbeat since RUN entry it fails (R273). -/
def State.heartSum (s : State) (n : Nat) : Bool :=
  let cur := turnAtOrAfter (s.get R.SAGGAR_HBTURN_TURN) (s.get (R.XWIN_STAT_SEQ s.cone.chalWin))
  let len := max 1 s.cone.chal.length
  let want := if cur then (s.challenge n).2 else (s.challenge ((n % len) + len - 1)).2
  s.on R.SAGGAR_HBTURN_VALID && decide (s.get R.SAGGAR_HBSUM_SUM = want)

/-- Step 4: the turns advanced since the previous cycle (R273). -/
def State.heartAdvance (s : State) : Bool :=
  match s.cone.hbPrev with
  | none => true
  | some p =>
    let a := (s.get R.SAGGAR_HBTURN_TURN + 0x10000 - p) % 0x10000
    let lo := 60000 / max 1 s.contract.tpMax - 1
    let hi := (60000 + max 1 s.contract.tpMin - 1) / max 1 s.contract.tpMin + 1
    decide (lo ≤ a) && decide (a ≤ hi)

/-- The heartbeat check of cycle n (R273). -/
def State.heartCheck (s : State) (n : Nat) : State :=
  if s.cone.chal = [] then s
  else
    let ok := s.heartSum n && s.heartAdvance
    let s := { s with cone := { s.cone with
      hbPrev := if s.on R.SAGGAR_HBTURN_VALID then some (s.get R.SAGGAR_HBTURN_TURN) else none } }
    let s := (s.noteCheck 0 1 (!ok)).noteCheck 1 1 (!ok)
    if ok then s.clear R.CONE_CHKSTAT_HBMIS
    else
      let s := s.bumpSat R.CONE_CHKSTAT_HBMIS
      if s.cpar 0x40 ≤ s.get R.CONE_CHKSTAT_HBMIS then s.each (List.range s.nInv) fun s v => s.raiseCheck v 1 else s

/-- VALUE / 2^RSH (R274). -/
def wheelCurrent (x : Int × Int) : Rat2 :=
  if 0 ≤ x.2 then (x.1, 2 ^ x.2.toNat) else (x.1 * 2 ^ (-x.2).toNat, 1)

/-- A pair of inverter v misses (R274). -/
def State.pairMiss (s : State) (v q : Nat) : Bool :=
  match Sparse.get none s.cone.iw (2 * v + q) with
  | none => false
  | some x =>
    let iw := wheelCurrent x
    let tol := qAdd (s.cparQ 0x42) (qMul (s.cparQ 0x43) (qAbs iw))
    qLt tol (qAbs (qSub (s.cainOf v q) iw))

/-- The count of consecutive misses of inverter v. -/
def xcmis (v : Nat) : Fld := if v = 0 then R.CONE_CHKSTAT_XCMISA else R.CONE_CHKSTAT_XCMISB

/-- The cross-check of inverter v (R274). -/
def State.crossCheck (s : State) (v : Nat) : State :=
  let miss := s.pairMiss v 0 || s.pairMiss v 1
  let s := s.noteCheck v 2 miss
  if miss then
    let s := s.bumpSat (xcmis v)
    if s.get (xcmis v) < s.cpar 0x44 then s
    else if s.cone.raised.testBit (checkBit v 2) then s.raiseCheck v 2
    else (s.raiseCheck v 2).coneRecord
  else s.clear (xcmis v)

/-! ## Discharge and clears (R272, R276) -/

/-- Every monitored DC link is below 60 V (R276). -/
def State.dcLow (s : State) : Bool := s.usedInvs.all fun v => qLt (s.cainOf v 2) (qInt 60)

/-- The discharge monitor, from the cycle after the start of the discharge (R276). -/
def State.dischCheck (s : State) : State :=
  match s.cone.disAt with
  | some t => if t ≤ s.cone.t0 ∧ s.dcLow then s.raise R.CONE_DISCH_DONE else s
  | none => s

/-- Bit v of SCLR: where every check that raised the request was last in band, the request is withdrawn and the counts cleared; the clear is forwarded (R272). -/
def State.sclrInv (s : State) (v : Nat) : State :=
  let ok := slice s.cone.raised (4 * v) 4 &&& slice s.cone.lastBad (4 * v) 4 = 0
  let s := if ok then
      let s := { s with cone := { s.cone with raised := s.cone.raised - slice s.cone.raised (4 * v) 4 * 2 ^ (4 * v) } }
      let s := (((s.clear (R.CONE_TMSTAT_DEVCNT v)).clear R.CONE_CHKSTAT_HBMIS).clear (xcmis v)).setSsreq v false
      s.sync
    else s
  (s.putBit R.CONE_SCLR_REQ v false).askClear v

/-- Bit 2 of SCLR: forwarded once every monitored DC link is below 60 V (R272, R276). -/
def State.sclrDisch (s : State) : State :=
  if s.dcLow then (s.putBit R.CONE_SCLR_REQ 2 false).askClear 2
  else s.putBit R.CONE_SCLR_REQ 2 true

/-- Bit k of SCLR that waits is taken (R272, R279). -/
def State.sclrWaiting (s : State) (k : Nat) : State :=
  if !s.bit R.CONE_SCLR_REQ k then s else if k = 2 then s.sclrDisch else s.sclrInv k

/-- The Cone enters each feedback loss in the Shard log once, while its FBL is set (R174). -/
def State.fblRecord (s : State) (l : Nat) : State :=
  let fbl := s.on (R.LOOP_LSTAT_FBL l)
  let t := { s with cone := { s.cone with fblSeen := setBit s.cone.fblSeen l fbl } }
  if fbl && !s.cone.fblSeen.testBit l then t.coneRecord else t

/-- By t0 + 50 µs: preselection, torque monitor, Wheel checks, discharge, feedback losses, clears that wait (R174, R269, R272). -/
def State.coneEvaluate (s : State) : State :=
  let n := s.get R.CONE_CYCLE_COUNT + 0xFFFFFFFF
  let s := s.conePresel
  let s := if s.dev = .run then (s.each s.usedInvs State.torqueCheck).heartCheck (n % 2 ^ 32) else s
  let s := if s.crossOn then s.each s.usedInvs State.crossCheck else s
  let s := (s.dischCheck.each (List.range 8) State.fblRecord).sync
  let s := s.each [0, 1, 2] State.sclrWaiting
  { s with cone := { s.cone with busy := false } }

/-! ## Commands -/

/-- The offset of the cycle starts: CYOFS once it is fixed in RUN with XCEN = 1, otherwise 0 (R269). -/
def State.cycleOffset (s : State) : Nat := if s.crossOn && s.cone.cyset then s.cone.cyofs else 0

/-- A monitoring cycle starts at this TSC value (R269). -/
def State.cycleStarts (s : State) : Bool := decide (s.tsc % 10000 = s.cycleOffset)

/-- MONITORING_CYCLE: one of the instants of a cycle (R269). -/
def execMonitoringCycle (ph : ConePhase) (s : State) : Out :=
  .next (
    if !s.coneActs then s
    else match ph with
      | .start a b c d => if s.cycleStarts then s.coneStart [a.val, b.val, c.val, d.val] else s
      | .odd a b c d => s.coneOdd [a.val, b.val, c.val, d.val]
      | .cross => s.coneCross
      | .evaluate => s.coneEvaluate)

/-- 2.0 s have passed since the start of the discharge without DONE, and the slow discharge has not been noted (R276). -/
def State.dischLate (s : State) : Bool :=
  s.coneActs && s.dreq && !s.on R.CONE_DISCH_DONE && !s.cone.disSlow &&
  (match s.cone.disAt with
   | some t => decide (t + 1200000000 ≤ s.cycle)
   | none => false)

/-- The slow discharge is noted and enters the Shard log, once in each discharge (R276). -/
def State.dischTick (s : State) : State :=
  if s.dischLate then ({ s with cone := { s.cone with disSlow := true } }.raise R.CONE_DISCH_SLOW).coneRecord else s

/-- FLT_DISCH_SLOW: 2.0 s from the start of the discharge without DONE (R276). -/
def execFltDischSlow (s : State) : Out := .next s.dischTick

/-- SCLR_INVERTER: the bit reads 1 until the Cone has forwarded the clear (R272, R279). -/
def execSclrInverter (v : Fin 2) (s : State) : Out :=
  .next (
    if !s.busUp || decide (s.nInv ≤ v.val) then s
    else if s.coneActs then s.sclrInv v.val
    else s.putBit R.CONE_SCLR_REQ v.val true)

/-- SCLR_DISCHARGE (R272, R276, R279). -/
def execSclrDischarge (s : State) : Out :=
  .next (
    if !s.busUp then s
    else if s.coneActs then s.sclrDisch
    else s.putBit R.CONE_SCLR_REQ 2 true)

/-- TREQ_WRITE: the torque request and its age; NaN and infinities are refused (R271, R279). -/
def execTreqWrite (v : Fin 2) (w : Word) (s : State) : Out :=
  .next (
    if !s.busUp || decide (s.nInv ≤ v.val) then s
    else if Fp32.notFinite w then s.raise R.CONE_STAT_CFGREJ
    else
      let s := { s with cone := { s.cone with treqAt := Sparse.set 0 s.cone.treqAt v.val s.cycle } }
      (s.put (R.CONE_TREQ_VALUE v.val) w.toNat).clear (R.CONE_TMSTAT_REQSTALE v.val))

/-- TREQ of inverter v has not been written for REQTO ms (R271). -/
def State.treqLate (s : State) (v : Nat) : Bool :=
  s.coneActs && decide (v < s.nInv) && decide (s.cpar (0x18 + v) ≠ 0) &&
  decide (Sparse.get 0 s.cone.treqAt v + 600000 * s.cpar (0x18 + v) ≤ s.cycle)

/-- REQSTALE is set once the age limit is reached (R271). -/
def State.treqTick (s : State) (v : Nat) : State := if s.treqLate v then s.raise (R.CONE_TMSTAT_REQSTALE v) else s

/-- REQSTALE: no write of TREQ for REQTO ms (R271). -/
def execReqstale (v : Fin 2) (s : State) : Out := .next (s.treqTick v.val)

/-- What the Cone's timers bring: stale torque requests, the slow discharge (R271, R276). -/
def State.coneTick (s : State) : State := (s.each [0, 1] State.treqTick).dischTick

end Sys2Proof.Machine
end

