-- ==== Sys2Proof/Machine/Live.lean ====
section
/-! DEFINITION. Registers that other blocks read and whose value follows the present state: SAGGAR.APPLIED and CONE.DISCH (R256–R258, R276). -/

namespace Sys2Proof.Machine

open Sys2Proof

/-- STATEv, LATCHv, SRCv and SIDEv of inverter v (R256, R258). -/
def State.appliedOf (s : State) (v : Nat) : Nat :=
  if v < s.nInv then
    s.decision v + (if s.latched v then 4 else 0) + (if s.stale then 8 else 0)
      + (if s.decision v ≠ s.sagBase v then 16 else 0)
  else 0

/-- SAGGAR.APPLIED (R256, R258, R278). -/
def State.appliedWord (s : State) : Nat :=
  s.appliedOf 0 + 256 * s.appliedOf 1 + (if s.sag.dlatch then 2 ^ 16 else 0) + (if s.dreq then 2 ^ 17 else 0)

/-- CONE.DISCH: the elapsed milliseconds run from the discharge start (R276). -/
def State.dischWord (s : State) : Nat :=
  (match s.cone.disAt with
   | some t => min ((s.cycle - t) / 600000) 0xFFFF * 2 ^ 16 + (if s.dreq then 1 else 0)
   | none => s.get R.CONE_DISCH_ELAPSED * 2 ^ 16) +
  s.wordOf [R.CONE_DISCH_SLOW, R.CONE_DISCH_DONE]

/-- CONE.TMSTAT[v]. -/
def State.tmstatWord (s : State) (v : Nat) : Nat :=
  s.wordOf [R.CONE_TMSTAT_CAUSE v, R.CONE_TMSTAT_SSREQ v, R.CONE_TMSTAT_ANGINV v, R.CONE_TMSTAT_REQSTALE v,
    R.CONE_TMSTAT_OUTTAB v, R.CONE_TMSTAT_OUTBAND v, R.CONE_TMSTAT_DEVCNT v]

/-- SYS.HOLDCAUSE. -/
def State.holdcauseWord (s : State) : Nat := s.wordOf [R.SYS_HOLDCAUSE_TURN, R.SYS_HOLDCAUSE_CAUSE]

end Sys2Proof.Machine
end

