-- ==== Sys2Proof/Machine/Can.lean ====
section
/-! DEFINITION. The CAN controllers (R368–R389): transmit packets and their check, attempts, cancellation, bus-off, reception and filters, safety status frames, sleep and wake. -/

namespace Sys2Proof.Machine

open Sys2Proof

/-! ## State of a controller -/

/-- Change a controller; TXSTAT.FILL and STAGING follow (R389). -/
def State.modCan (s : State) (x : Nat) (f : Can → Can) : State :=
  let c := f (s.canx x)
  ((s.setCan x c).put (R.CAN_TXSTAT_FILL x) c.tx.length).putB (R.CAN_TXSTAT_STAGING x) (decide (c.staging ≠ []))

def State.canMode (s : State) (x : Nat) : Nat := s.get (R.CAN_CFG_MODE x)
def State.canAsleep (s : State) (x : Nat) : Bool := s.on (R.CAN_STAT_SLEEPING x)
def State.canEstate (s : State) (x : Nat) : Nat := s.get (R.CAN_STAT_ESTATE x)
def State.canAct (s : State) (x : Nat) : Bool := s.on (R.CAN_TXSTAT_HEADACT x)

/-- The controller has agreed to a BANKED entry in progress, and has stopped (R435, R436). -/
def State.canStopped (s : State) (x : Nat) : Bool := s.stopped (x + 2)

/-- The controller's plane runs: READY and RUN, and CAN0 in SAFE_HOLD (R372, R436, R445). -/
def State.canState (s : State) (x : Nat) : Bool :=
  !s.canStopped x && (s.dataUp || (decide (s.dev = .safeHold) && decide (x = 0) && s.clkUp 8))

/-- A command in a register of controller x: noted where it is absent, and without effect on one that has stopped for a BANKED entry, which keeps its state (R435, R504; DESIGN CHOICE, assumption 48). -/
def State.canCommand (s : State) (req : Requester) (x off : Nat) (f : State → State) : State :=
  s.unitWrite req (decide (x < s.nCan)) (0x40700000 + 0x10000 * x + off) fun s => if s.canStopped x then s else f s

/-- The controller is present, awake, not OFF, and its plane runs (R371, R372, R387). -/
def State.canRuns (s : State) (x : Nat) : Bool :=
  decide (x < s.nCan) && s.canState x && !s.canAsleep x && decide (s.canMode x ≠ 0)

/-- It exchanges frames with its queues: not in SAFE_HOLD (R372). -/
def State.canQueues (s : State) (x : Nat) : Bool := s.canRuns x && decide (s.dev ≠ .safeHold)

/-- It takes part in the bus: integrated and not bus-off (R371, R382). -/
def State.canOnBus (s : State) (x : Nat) : Bool :=
  s.canRuns x && (s.canx x).integrated && decide (s.canEstate x ≤ 1)

/-! ## Descriptors (R374, R375) -/

def d0Fmt (d0 : Nat) : Nat := slice d0 44 2
def d0Len (d0 : Nat) : Nat := slice d0 32 12
def d0Brs (d0 : Nat) : Bool := d0.testBit 31
def d0Rtr (d0 : Nat) : Bool := d0.testBit 30
def d0Ide (d0 : Nat) : Bool := d0.testBit 29
def d0Id (d0 : Nat) : Nat := slice d0 0 29
def d1Tag (d1 : Nat) : Nat := slice d1 32 16
def d1Echo (d1 : Nat) : Bool := d1.testBit 48

/-- Payload bytes of an FD frame by DLC (R374). -/
def fdBytes (dlc : Nat) : Nat :=
  if dlc ≤ 8 then dlc
  else match dlc with
  | 9 => 12
  | 10 => 16
  | 11 => 20
  | 12 => 24
  | 13 => 32
  | 14 => 48
  | _ => 64

/-- Payload bytes a D0 requires (R374). -/
def d0Bytes (d0 : Nat) : Nat :=
  match d0Fmt d0 with
  | 3 => d0Len d0
  | 2 => fdBytes (d0Len d0 % 16)
  | _ => if d0Rtr d0 then 0 else min (d0Len d0 % 16) 8

/-- The format is enabled on the controller (R377). -/
def State.fmtOn (s : State) (x fmt : Nat) : Bool :=
  match fmt with
  | 1 => true
  | 2 => s.on (R.CAN_CFG_FDEN x)
  | 3 => s.on (R.CAN_CFG_XLEN x)
  | _ => false

/-- The conditions of R377 on the bits of D0, both directions, but for ESI. -/
def State.d0Ok (s : State) (x d0 : Nat) : Bool :=
  let fmt := d0Fmt d0
  s.fmtOn x fmt &&
  !(d0Rtr d0 && decide (fmt ≠ 1)) && !(d0Brs d0 && decide (fmt ≠ 2)) && !(d0Ide d0 && decide (fmt = 3)) &&
  (d0Ide d0 || decide (d0Id d0 ≤ 0x7FF)) &&
  (if fmt = 3 then decide (1 ≤ d0Len d0) && decide (d0Len d0 ≤ 2048)
   else decide (d0Len d0 < 16) && decide (slice d0 48 16 = 0) && !d0.testBit 46)

/-- A transmit packet's words pass the check of R377. -/
def State.frameOk (s : State) (x : Nat) (ws : List Nat) : Bool :=
  match ws with
  | d0 :: d1 :: pl =>
    s.d0Ok x d0 && !d0.testBit 47 && decide (pl.length = (d0Bytes d0 + 7) / 8) &&
    decide (slice d1 49 15 = 0) && (decide (d0Fmt d0 = 3) || decide (slice d1 0 32 = 0))
  | _ => false

/-! ## Receive FIFO (R384, R385) -/

/-- The receive FIFO drains to its queue in arrival order, one record per packet (R373, R385). -/
def State.canDrain (s : State) (x : Nat) : State :=
  match s.prodQueue (5 + x) with
  | none => s
  | some q =>
    if s.canQueues x then ((s.canx x).rx.foldl (fun s r => s.qPacketPush q r) s).modCan x fun c => { c with rx := [] }
    else s

/-- A record enters the receive FIFO, or is dropped when it is full (R384, R385). -/
def State.canStore (s : State) (x : Nat) (r : List Nat) : State :=
  if 64 ≤ (s.canx x).rx.length then (s.raise (R.CAN_STAT_RXOVR x)).bumpSat (R.CAN_RXCNT_RXOVRCNT x)
  else (s.modCan x fun c => { c with rx := c.rx ++ [r] }).canDrain x

/-- The echo record of an own frame (R375). -/
def echoRec (d0 d1 : Nat) (data : List Nat) (estat stamp : Nat) : List Nat :=
  let d := d1Tag d1 * 2 ^ 48 + estat * 2 ^ 41 + 2 ^ 40 + 0xFF * 2 ^ 32 + stamp % 2 ^ 32
  d0 :: d :: (if d0Fmt d0 = 3 then [slice d1 0 32] else []) ++ data

/-- An echo where the frame asks for one; in SAFE_HOLD nothing is stored (R372, R375). -/
def State.canEcho (s : State) (x d0 d1 : Nat) (data : List Nat) (estat stamp : Nat) : State :=
  if d1Echo d1 && decide (s.dev ≠ .safeHold) then s.canStore x (echoRec d0 d1 data estat stamp) else s

/-! ## Transmit packets (R377) -/

/-- The packet staged is discarded as malformed. -/
def State.canBad (s : State) (x : Nat) (ws : List Nat) : State :=
  let s := ((s.raise (R.CAN_STAT_TXBAD x)).bumpSat (R.CAN_DISCNT_TXBADCNT x)).modCan x fun c => { c with staging := [] }
  match ws with
  | d0 :: d1 :: pl => s.canEcho x d0 d1 pl 3 s.tsc
  | _ => s

/-- The END of a packet has arrived: it is appended to the FIFO, or discarded. -/
def State.canCheck (s : State) (x : Nat) (ents : List QEntry) : State :=
  let pl := ents.filter fun e => decide (e.mark ≠ markHdr)
  let ws := pl.map fun e => e.word
  if pl.any (fun e => e.bad) || !s.frameOk x ws then s.canBad x ws
  else s.modCan x fun c => { c with
    staging := []
    tx := c.tx ++ [{ d0 := ws.getD 0 0, d1 := ws.getD 1 0, data := ws.drop 2, slot := none }] }

/-- Take the entries of one packet, as far as they can be delivered. -/
def State.canTake (s : State) (x q : Nat) : Nat → State
  | 0 => s
  | n + 1 =>
    match s.qPop q with
    | (none, s) => s
    | (some e, s) =>
      if e.mark = markHdr then
        if e.word.testBit 0 then s else (s.modCan x fun c => { c with staging := [e] }).canTake x q n
      else if !s.qPacket q then s.canBad x [e.word]
      else
        let st := (s.canx x).staging
        if e.mark = markAbort then s.canBad x ((st.filter fun e => decide (e.mark ≠ markHdr)).map fun e => e.word)
        else if e.mark = markEnd then s.canCheck x (st ++ [e])
        else (s.modCan x fun c => { c with staging := (c.staging ++ [e]).take 260 }).canTake x q n

/-- TRANSMIT_PACKET (R373, R377): the controller pops only while its FIFO has a free entry, never in LISTEN (R371). -/
def execTransmitPacket (x : Fin 4) (s : State) : Out :=
  .next (
    match s.consQueue (0x0E + x.val) with
    | none => s
    | some q =>
      if s.canQueues x.val && decide (s.canMode x.val ≠ 2) && decide ((s.canx x.val).tx.length < 32) then
        s.canTake x.val q ((s.queue q).ents.length)
      else s)

/-! ## Errors (R381, R382) -/

/-- Bus-off, with recovery at once under AUTOREC, and always in SAFE_HOLD (R372, R382). -/
def State.canBusOff (s : State) (x : Nat) : State :=
  (s.put (R.CAN_ERR_TEC x) 0xFF).put (R.CAN_STAT_ESTATE x)
    (if s.on (R.CAN_CFG_AUTOREC x) || decide (s.dev = .safeHold) then 3 else 2)

/-- Error state of the two counters. -/
def State.canCount (s : State) (x tec n : Nat) : State :=
  if 255 < tec then s.canBusOff x
  else ((s.put (R.CAN_ERR_TEC x) tec).put (R.CAN_ERR_REC x) n).put (R.CAN_STAT_ESTATE x)
    (if 127 < tec ∨ 127 < n then 1 else 0)

/-- A transmitter's error (ISO 11898-1, R381): an ACK error of an error-passive transmitter and a stuff error in arbitration count nothing. -/
def State.canTxError (s : State) (x : Nat) (e : CanErr) (arb : Bool) : State :=
  let s := s.put (R.CAN_ERR_LEC x) e.code
  let free := (decide (e = .ack) && decide (s.canEstate x = 1)) || (decide (e = .stuff) && arb)
  if free then s else s.canCount x (s.get (R.CAN_ERR_TEC x) + 8) (s.get (R.CAN_ERR_REC x))

/-- A clash: recessive sent and dominant seen after arbitration (R383). -/
def State.canClash (s : State) (x : Nat) (f : CanFrame) : State :=
  let s := s.bumpSat (R.CAN_DISCNT_CLASHCNT x)
  let s := ((s.raise (R.CAN_CLASHID_VALID x)).putB (R.CAN_CLASHID_IDE x) (d0Ide f.d0)).put (R.CAN_CLASHID_ID x) (d0Id f.d0)
  let n := s.get (R.CAN_LIMIT_CLASHN x)
  if n ≠ 0 ∧ n ≤ s.get (R.CAN_DISCNT_CLASHCNT x) then s.raise (R.CAN_STAT_ID_CLASH x) else s

/-! ## Attempts (R376, R378, R379) -/

/-- The head frame, unless the attempt in progress is that of a frame a data-plane reset has removed (R468). -/
def State.canHead (s : State) (x : Nat) : Option CanFrame :=
  if (s.canx x).orphan.isSome then none else (s.canx x).tx.head?

/-- The frame of the attempt: the head, or the frame a data-plane reset has removed (R468). -/
def State.canFrame (s : State) (x : Nat) : Option CanFrame :=
  match (s.canx x).orphan with
  | some f => some f
  | none => (s.canx x).tx.head?

/-- The controller goes to sleep (R387). -/
def State.canSleepNow (s : State) (x : Nat) : State :=
  ((s.raise (R.CAN_STAT_SLEEPING x)).clear (R.CAN_CMD_SLEEP x)).modCan x fun c =>
    { c with sleepReq := false, integrated := false }

/-- The enabled safety status slots fall due for the first time within 1 ms (R386). -/
def State.sfStart (s : State) : State :=
  s.each [0, 1, 2, 3] fun s k =>
    if s.get (R.CAN0_SFCFG_PERIOD k) = 0 then s
    else
      let r := s.draw 600000
      r.2.modCan 0 fun c => { c with sfDue := Sparse.set 0 c.sfDue k (s.cycle + 1 + r.1) }

/-- CAN0's FIFO is emptied in SAFE_HOLD, each entry counting as cancelled; then the slots send (R372, R386). -/
def State.canEmpty (s : State) : State :=
  let n := (s.canx 0).tx.length
  (((s.modCan 0 fun c => { c with tx := [] }).addSat (R.CAN_DISCNT_CANCELLED 0) n).clear (R.CAN_TXSTAT_NACKN 0)).sfStart

/-- An attempt has ended. Where SAFE_HOLD came in it nothing is retransmitted, and CAN0 drops what waits (R372); a waiting sleep takes effect (R387). -/
def State.canEnd (s : State) (x : Nat) : State :=
  let c := s.canx x
  let s := (s.clear (R.CAN_TXSTAT_HEADACT x)).modCan x fun c => { c with once := false, orphan := none }
  let s := if c.once && decide (x = 0) then s.canEmpty else s
  if c.sleepReq then s.canSleepNow x else s

/-- The head leaves the FIFO: NACKN counts for the next one (R381). -/
def State.canPopHead (s : State) (x : Nat) : State :=
  (s.modCan x fun c => { c with tx := c.tx.drop 1 }).clear (R.CAN_TXSTAT_NACKN x)

/-- The D0 of a frame sent, with the error state sent as ESI (R374). -/
def State.sentD0 (s : State) (x d0 : Nat) : Nat :=
  if decide (d0Fmt d0 ≠ 1) && decide (s.canEstate x = 1) then d0 ||| 2 ^ 47 else d0

/-- Filter element i decides on a frame (R384). -/
def State.elemMatch (s : State) (x i : Nat) (ide : Bool) (id : Nat) : Bool :=
  let id1 := s.get (R.CAN_FCFG_ID1 x i)
  let arg := s.get (R.CAN_FARG_ARG x i)
  (s.on (R.CAN_FCFG_IDE x i) == ide) &&
  (match s.get (R.CAN_FCFG_TYPE x i) with
   | 1 => decide (Nat.xor id id1 &&& arg = 0)
   | 2 => decide (id1 ≤ id) && decide (id ≤ arg)
   | 3 => decide (id = id1) || decide (id = arg)
   | _ => false)

/-- FILT of a frame, none where it is rejected (R384). -/
def State.canFilter (s : State) (x d0 : Nat) : Option Nat :=
  match (List.range 128).find? fun i => s.elemMatch x i (d0Ide d0) (d0Id d0) with
  | some i => if s.on (R.CAN_FARG_REJECT x i) then none else some i
  | none => if s.on (R.CAN_CFG_NOMATCH x) then some 0xFF else none

/-- A frame passes the filter and is stored as a record (R375, R384). -/
def State.canAccept (s : State) (x d0 af : Nat) (data : List Nat) (stamp : Nat) : State :=
  match s.canFilter x d0 with
  | none => s
  | some f =>
    let r := d0 :: (f * 2 ^ 32 + stamp % 2 ^ 32) :: (if d0Fmt d0 = 3 then [af] else []) ++ data
    (s.bumpSat (R.CAN_RXCNT_RXOK x)).canStore x r

/-- The frame of the attempt is sent (R379): in LOOPBACK it is also received (R371). -/
def State.canSent (s : State) (x : Nat) : State :=
  let c := s.canx x
  let s0 := s
  let s := (s.bumpSat (R.CAN_TXCNT_TXOK x)).canCount x (s.get (R.CAN_ERR_TEC x) - 1) (s.get (R.CAN_ERR_REC x))
  match s.canFrame x with
  | none => s.clear (R.CAN_TXSTAT_NACKN x)
  | some f =>
    let d0 := s0.sentD0 x f.d0
    let s := if c.orphan.isSome then s.clear (R.CAN_TXSTAT_NACKN x) else (s.canPopHead x).canEcho x d0 f.d1 f.data 0 c.stamp
    if s.canMode x = 3 ∧ s.dev ≠ .safeHold then s.canAccept x d0 (slice f.d1 0 32) f.data c.stamp else s

/-- An ACK error of the head (R381). -/
def State.canNoAck (s : State) (x : Nat) (f : CanFrame) : State :=
  let n := s.get (R.CAN_LIMIT_NOACK_LIMIT x)
  let s := s.bumpSat (R.CAN_TXSTAT_NACKN x)
  if n ≠ 0 ∧ n ≤ s.get (R.CAN_TXSTAT_NACKN x) then
    (((s.canPopHead x).raise (R.CAN_STAT_NOACK_STALL x)).bumpSat (R.CAN_DISCNT_NOACKDROP x)).canEcho x f.d0 f.d1 f.data 2 s.tsc
  else s

/-- An attempt ends in an error (R379, R381, R383). -/
def State.canError (s : State) (x : Nat) (e : CanErr) (arb : Bool) : State :=
  let s := s.canTxError x e arb
  match s.canFrame x with
  | none => s
  | some f =>
    let s := if e = .bit1 ∧ arb = false then s.canClash x f else s
    if e = .ack ∧ (s.canHead x).isSome = true then s.canNoAck x f else s

/-- The attempt uses transmitter delay compensation: an FD frame with BRS, or XL (R369). -/
def State.canTdc (s : State) (x : Nat) : Bool :=
  s.on (R.CAN_TDC_TDCEN x) &&
  (match s.canFrame x with
   | none => false
   | some f => (decide (d0Fmt f.d0 = 2) && d0Brs f.d0) || decide (d0Fmt f.d0 = 3))

/-- The delay measured at the data phase; above 127 it is a bit error of the frame, of the kind the spec leaves open (R369). -/
def State.canDelay (s : State) (x n : Nat) : State :=
  let s := s.put (R.CAN_TDC_TDCV x) (min n 255)
  if n ≤ 127 then s
  else
    let r := s.draw 2
    let s := r.2.canTxError x (if r.1 = 0 then .bit1 else .bit0) false
    s.canEnd x

/-- An attempt may start: the controller is on the bus, may transmit, and has a head frame (R371, R378, R379). -/
def State.canMayStart (s : State) (x : Nat) : Bool :=
  s.canOnBus x && decide (s.canMode x ≠ 2) && !s.canAct x && decide ((s.canx x).tx ≠ []) && !(s.canx x).sleepReq

/-- ATTEMPT: its SOF; that SOF seen back on CANx_RX, which gives the stamp; the delay measured in it; or its end. A frame is sent only after its SOF has come back; in LOOPBACK it is seen at once (R369, R371, R376, R379). -/
def execCanAttempt (x : Fin 4) (ph : CanPhase) (s : State) : Out :=
  .next (
    let x := x.val
    match ph with
    | .sof =>
      if s.canMayStart x then
        (s.raise (R.CAN_TXSTAT_HEADACT x)).modCan x fun c => { c with
          stamp := (s.tsc + 1) % 2 ^ 32, seen := decide (s.canMode x = 3) }
      else s
    | .seen =>
      if s.canAct x && !(s.canx x).seen then s.modCan x fun c => { c with stamp := (s.tsc + 1) % 2 ^ 32, seen := true } else s
    | .delay n => if s.canAct x && s.canTdc x then s.canDelay x n else s
    | .lost => if s.canAct x then (s.bumpSat (R.CAN_TXCNT_ARBLOST x)).canEnd x else s
    | .sent => if s.canAct x && (s.canx x).seen then (s.canSent x).canEnd x else s
    | .error e arb => if s.canAct x then (s.canError x e arb).canEnd x else s)

/-! ## Cancellation (R380) -/

/-- Remove the frames that `p` names but the one in its attempt, counting and echoing each. -/
def State.canDrop (s : State) (x : Nat) (p : CanFrame → Bool) : State :=
  let busy := s.canAct x && (s.canx x).orphan.isNone
  let l := (s.canx x).tx
  let held := if busy then l.take 1 else []
  let rest := if busy then l.drop 1 else l
  let gone := rest.filter p
  let s := s.modCan x fun c => { c with tx := held ++ rest.filter fun f => !p f }
  let s := if !busy && (l.take 1).any p then s.clear (R.CAN_TXSTAT_NACKN x) else s
  let s := gone.foldl (fun s f => (s.bumpSat (R.CAN_DISCNT_CANCELLED x)).canEcho x f.d0 f.d1 f.data 1 s.tsc) s
  if held.any p then s.raise (R.CAN_STAT_CANSKIP x) else s

/-- CANCEL: GO with a TAG (R380). -/
def execCanCancel (req : Requester) (x : Fin 4) (tag : BitVec 16) (s : State) : Out :=
  .next (s.canCommand req x.val 0x2C fun s =>
    (s.put (R.CAN_CANCEL_TAG x.val) tag.toNat).canDrop x.val fun f => decide (d1Tag f.d1 = tag.toNat))

/-- CANCELALL (R380). -/
def execCanCancelAll (req : Requester) (x : Fin 4) (s : State) : Out :=
  .next (s.canCommand req x.val 8 fun s => s.canDrop x.val fun _ => true)

/-! ## Bus-off and integration (R371, R381, R382) -/

/-- RECOVER (R381, R382). -/
def execCanRecover (req : Requester) (x : Fin 4) (s : State) : Out :=
  .next (s.canCommand req x.val 8 fun s =>
    let s := s.clear (R.CAN_TXSTAT_NACKN x.val)
    if s.canEstate x.val = 2 then s.put (R.CAN_STAT_ESTATE x.val) 3 else s)

/-- RECOVERY_COMPLETE (R382): the error counters and the error state return to zero. -/
def execRecoveryComplete (x : Fin 4) (s : State) : Out :=
  .next (if s.canRuns x.val && decide (s.canEstate x.val = 3) then s.canCount x.val 0 0 else s)

/-- INTEGRATION (R371). -/
def execIntegration (x : Fin 4) (s : State) : Out :=
  .next (if s.canRuns x.val then s.modCan x.val fun c => { c with integrated := true } else s)

/-! ## Reception (R384, R385) -/

/-- The receive error count after a valid frame (ISO 11898-1, R381); 119 to 127 is open above 127. -/
def State.canRxCount (s : State) (x : Nat) : State :=
  let n := s.get (R.CAN_ERR_REC x)
  if n ≤ 127 then s.canCount x (s.get (R.CAN_ERR_TEC x)) (n - 1)
  else
    let r := s.draw 9
    r.2.canCount x (s.get (R.CAN_ERR_TEC x)) (119 + r.1)

/-- A receiver's error (ISO 11898-1, R381): the receive error count rises by 1, or by 8 where the controller sees a dominant bit right after its error flag, or a bit error in an active error flag or overload flag; above 127 it is error passive. The register holds no more than 255. -/
def State.canRxError (s : State) (x : Nat) (e : CanErr) (heavy : Bool) : State :=
  (s.put (R.CAN_ERR_LEC x) e.code).canCount x (s.get (R.CAN_ERR_TEC x))
    (min (s.get (R.CAN_ERR_REC x) + if heavy then 8 else 1) 255)

/-- RECEIVE_FRAME: a frame whose SOF was stamped `ticks` TSC ticks ago; `err` is the error the receiver detects in it, and whether that error counts 8 (R376, R381, R384, R385). -/
def execReceiveFrame (x : Fin 4) (d0 : BitVec 64) (af : Word) (data : List (BitVec 8)) (ticks : Nat)
    (err : Option (CanErr × Bool)) (s : State) : Out :=
  .next (
    let x := x.val
    let d := d0.toNat
    match err with
    | some e => if s.canOnBus x && decide (s.canMode x ≠ 3) then s.canRxError x e.1 e.2 else s
    | none =>
    if s.canOnBus x && decide (s.canMode x ≠ 3) && s.d0Ok x d && !(d.testBit 47 && decide (d0Fmt d = 1)) &&
        decide (data.length = d0Bytes d) then
      let s := s.canRxCount x
      if s.dev = .safeHold then s
      else s.canAccept x d af.toNat (bytesToWords (data.map fun b => b.toNat)) (s.tsc + 2 ^ 32 - ticks % 2 ^ 32)
    else s)

/-! ## Safety status frames (R386) -/

/-- The value of a source. -/
def State.sfWord (s : State) (code data : Nat) : Nat :=
  match code with
  | 1 => s.appliedWord
  | 2 => s.holdcauseWord
  | 3 => s.tsc % 2 ^ 32
  | 4 => s.tmstatWord 0
  | 5 => s.tmstatWord 1
  | 6 => s.dischWord
  | _ => data

/-- The frame of slot k. -/
def State.sfFrame (s : State) (k : Nat) : CanFrame :=
  let dlc := s.get (R.CAN0_SFCFG_DLC k)
  let fmt := if s.on (R.CAN0_SFCFG_FD k) then 2 else 1
  let w := s.sfWord (s.get (R.CAN0_SFCFG_SRC0 k)) (s.get (R.CAN0_SFDAT0_DATA k))
    + 2 ^ 32 * s.sfWord (s.get (R.CAN0_SFCFG_SRC1 k)) (s.get (R.CAN0_SFDAT1_DATA k))
  { d0 := fmt * 2 ^ 44 + dlc * 2 ^ 32 + (if s.on (R.CAN0_SFCFG_IDE k) then 2 ^ 29 else 0) + s.get (R.CAN0_SFID_ID k)
    d1 := 0
    data := if dlc = 0 then [] else [w % 2 ^ (8 * dlc)]
    slot := some k }

/-- Slot k is due: in SAFE_HOLD, its time has come. -/
def State.sfReady (s : State) (k : Nat) : Bool :=
  let due := Sparse.get 0 (s.canx 0).sfDue k
  decide (s.dev = .safeHold) && s.canRuns 0 && decide (due ≠ 0) && decide (due ≤ s.cycle)

/-- A slot that is due appends its frame, or skips while its previous one is in the FIFO; it falls due again a PERIOD later (R386). -/
def State.sfSend (s : State) (k : Nat) : State :=
  if !s.sfReady k then s
  else
    let s := if (s.canx 0).tx.any (fun f => decide (f.slot = some k)) then s.raise (R.CAN_STAT_SFSKIP 0)
      else s.modCan 0 fun c => { c with tx := c.tx ++ [s.sfFrame k] }
    s.modCan 0 fun c => { c with
      sfDue := Sparse.set 0 c.sfDue k (Sparse.get 0 c.sfDue k + 600000 * s.get (R.CAN0_SFCFG_PERIOD k)) }

/-- SAFETY_STATUS_FRAME: slot k sends where it is due (R372, R386). -/
def execSafetyStatusFrame (k : Fin 4) (s : State) : Out := .next (s.sfSend k.val)

/-- The slots due in a cycle, in slot order (R386). -/
def State.canTick (s : State) : State := if s.dev = .safeHold then s.each [0, 1, 2, 3] State.sfSend else s

/-! ## Sleep and wake (R387, R388, R431) -/

/-- A sleep request: at once, or when the attempt in progress ends. -/
def State.canGoSleep (s : State) (x : Nat) : State :=
  if s.canAsleep x then s
  else if s.canAct x then (s.raise (R.CAN_CMD_SLEEP x)).modCan x fun c => { c with sleepReq := true }
  else s.canSleepNow x

/-- A wake, with its cause; the interface-sleep request clears (R387, R431). -/
def State.canWakeUp (s : State) (x cause : Nat) : State :=
  let s := ((s.clear (R.CAN_STAT_SLEEPING x)).raise (R.CAN_STAT_WAKEEV x)).put (R.CAN_WAKESTAT_CAUSE x) cause
  ((s.putBit R.PWR_ISLEEP_REQ x false).modCan x fun c => { c with sleepReq := false, integrated := false }).canDrain x

/-- SLEEP (R387). -/
def execCanSleep (req : Requester) (x : Fin 4) (s : State) : Out :=
  .next (s.canCommand req x.val 8 fun s => s.canGoSleep x.val)

/-- WAKE (R387). -/
def execCanWake (req : Requester) (x : Fin 4) (s : State) : Out :=
  .next (s.canCommand req x.val 8 fun s => if s.canAsleep x.val then s.canWakeUp x.val 0 else s)

/-- Wake detection runs: asleep under a WMODE, and in BANKED with the source enabled (R387, R441). -/
def State.canListens (s : State) (x wmode : Nat) : Bool :=
  decide (x < s.nCan) && s.canAsleep x && decide (s.get (R.CAN_WAKECFG_WMODE x) = wmode) &&
  decide (s.dev ≠ .off) && (!(decide (s.dev = .banked) || s.canStopped x) || s.bit R.PWR_WAKEEN_EN x)

/-- The bus wakes controller x: with cause `cause`; in BANKED, and where it has stopped for an entry, its wake source fires, and wakes the device or aborts the entry (R387, R438, R441). -/
def State.canBusWake (s : State) (x cause : Nat) : State :=
  if s.dev = .banked ∨ s.canStopped x = true then s.fire x else s.canWakeUp x cause

/-- DOMINANT_WAKE: a dominant level of `ns` nanoseconds on CANx_RX; one of at least WUPFILT × 0.25 µs wakes (R387). -/
def execDominantWake (x : Fin 4) (ns : Nat) (s : State) : Out :=
  .next (if s.canListens x.val 1 && decide (250 * s.get (R.CAN_WAKECFG_WUPFILT x.val) ≤ ns) then s.canBusWake x.val 1 else s)

/-- The wake condition on a decoded CC frame (R388). -/
def State.wakeMatch (s : State) (x : Nat) (ide : Bool) (id dlc : Nat) (data : List Nat) : Bool :=
  let m := s.get (R.CAN_WAKEMASK_ID x)
  let pat := s.get (R.CAN_WAKEDLO_PAT x) + 2 ^ 32 * s.get (R.CAN_WAKEDHI_PAT x)
  decide (id &&& m = s.get (R.CAN_WAKEID_ID x) &&& m) && (s.on (R.CAN_WAKECFG_WIDE x) == ide) &&
  decide (dlc = s.get (R.CAN_WAKECFG_WDLC x)) && (decide (pat = 0) || decide (ofBytesLE data &&& pat ≠ 0))

/-- WAKE_FRAME: a CC frame decoded without error (R388). -/
def execWakeFrame (x : Fin 4) (ide : Bool) (id : BitVec 29) (dlc : Fin 16) (data : List (BitVec 8)) (s : State) : Out :=
  .next (if s.canListens x.val 2 then
      let s := s.clear (R.CAN_WAKESTAT_FECNT x.val)
      if s.wakeMatch x.val ide id.toNat dlc.val ((data.map fun b => b.toNat).take 8) then s.canBusWake x.val 2 else s
    else s)

/-- FECNT_WAKE: a CC frame fails its check; the 32nd wakes (R388). -/
def execFecntWake (x : Fin 4) (s : State) : Out :=
  .next (if s.canListens x.val 2 then
      let s := s.bumpSat (R.CAN_WAKESTAT_FECNT x.val)
      if s.get (R.CAN_WAKESTAT_FECNT x.val) = 32 then s.canBusWake x.val 3 else s
    else s)

/-! ## Device states and resets -/

/-- SAFE_HOLD is entered: attempts finish without retransmission; CAN0 wakes, and drops its frames once no attempt is in progress (R372, R432). -/
def State.canHold (s : State) : State :=
  let s := s.each (List.range s.nCan) fun s x => s.modCan x fun c => { c with once := s.canAct x }
  let s := if s.canAsleep 0 then s.canWakeUp 0 0 else s
  let s := s.putBit R.PWR_ISLEEP_REQ 0 false
  let s := s.modCan 0 fun c => { c with sleepReq := false, sfDue := [] }
  let s := if s.canAct 0 then s else s.canEmpty
  if s.canEstate 0 = 2 then s.put (R.CAN_STAT_ESTATE 0) 3 else s

/-- A data-plane reset: a frame whose attempt is in progress is removed, but its attempt goes on (R468). -/
def State.canReset (s : State) : State :=
  s.each (List.range s.nCan) fun s x =>
    let n := (s.canx x).tx.length
    let f := if s.canAct x then s.canFrame x else none
    ((s.modCan x fun c => { c with staging := [], tx := [], rx := [], orphan := f }).addSat
      (R.CAN_DISCNT_CANCELLED x) n).clear (R.CAN_TXSTAT_NACKN x)

/-- An attempt in progress is given up (R371). -/
def State.canGiveUp (s : State) (x : Nat) : State := if s.canAct x then s.canEnd x else s

/-- MODE OFF: CANx_TX is recessive, the attempt is given up and the controller integrates again (R371). -/
def State.canOff (s : State) (x : Nat) : State := (s.canGiveUp x).modCan x fun c => { c with integrated := false }

/-! ## Configuration (R368, R370, R386, R388) -/

/-- A bit-timing register's word is accepted, with its least BRP × quanta (R368). -/
def btOk (v t1w t2w sjww least : Nat) : Bool :=
  let brp := slice v 0 6
  let t1 := slice v 8 t1w
  let t2 := slice v 16 t2w
  let sjw := slice v 24 sjww
  decide (1 ≤ brp) && decide (brp ≤ 32) && decide (1 ≤ t1) && decide (1 ≤ t2) && decide (1 ≤ sjw) && decide (sjw ≤ t2) &&
  decide (4 ≤ 1 + t1 + t2) && decide (least ≤ brp * (1 + t1 + t2))

/-- The XL data bit time in CANCLK cycles. -/
def State.xlBit (s : State) (x : Nat) : Nat :=
  s.get (R.CAN_XBT_BRP x) * (1 + s.get (R.CAN_XBT_TSEG1 x) + s.get (R.CAN_XBT_TSEG2 x))

/-- XPWM values fit FAST mode (R370). -/
def State.xpwmOk (s : State) (x pwms pwml pwmo : Nat) : Bool :=
  decide (pwms ≠ 0) && decide (pwml ≠ 0) && decide (pwmo ≠ 0) && decide (pwms + pwml = s.xlBit x)

/-- A write of a configuration register of controller x at offset `off` is accepted (R368, R370, R386, R388). -/
def State.canCfgOk (s : State) (x off v : Nat) : Bool :=
  let isOff := decide (s.canMode x = 0)
  match off with
  | 0x04 =>
    (!v.testBit 5 || s.hasXl x) &&
    (!v.testBit 6 || s.xpwmOk x (s.get (R.CAN_XPWM_PWMS x)) (s.get (R.CAN_XPWM_PWML x)) (s.get (R.CAN_XPWM_PWMO x)))
  | 0x14 => isOff && btOk v 8 7 7 80
  | 0x18 => isOff && btOk v 5 4 4 10
  | 0x1C =>
    isOff && btOk v 5 4 4 4 &&
    (!s.on (R.CAN_CFG_XMODE x) ||
      decide (s.get (R.CAN_XPWM_PWMS x) + s.get (R.CAN_XPWM_PWML x) = slice v 0 6 * (1 + slice v 8 5 + slice v 16 4)))
  | 0x24 => !s.on (R.CAN_CFG_XMODE x) || s.xpwmOk x (slice v 0 6) (slice v 8 6) (slice v 16 6)
  | 0x80 => decide (slice v 0 2 ≠ 3)
  | 0x84 => decide (40 ≤ slice v 0 12) && decide (slice v 0 12 ≤ 4000) && decide (1 ≤ slice v 16 12) && decide (slice v 16 12 < slice v 0 12)
  | _ =>
    if 0x100 ≤ off ∧ off < 0x140 ∧ off % 16 = 0 then
      decide (slice v 26 3 ≠ 7) && decide (slice v 29 3 ≠ 7) && decide (slice v 16 4 ≤ 8) && decide (slice v 0 10 ≤ 1000)
    else true

end Sys2Proof.Machine
end

