-- ==== Sys2Proof/Machine/Eth.lean ====
section
/-! DEFINITION. The Ethernet MAC (R401–R405): link state, MDIO, transmission and reception. -/

namespace Sys2Proof.Machine

open Sys2Proof

/-- The MAC works: enabled and awake, in READY and RUN (R43, R431, R436, R445). -/
def State.ethRuns (s : State) : Bool :=
  s.hasEth && s.on R.ETH_CFG_EN && !s.eth.asleep && !s.stopped 1 && s.dataUp

/-! ## Link (R401, R402) -/

/-- A link state: every change sets LINKEV and its interrupt source (R400, R402). -/
def State.setLink (s : State) (up : Bool) (speed : Nat) (hdx : Bool) : State :=
  let same := (s.on R.ETH_STAT_LINK == up) && decide (s.get R.ETH_STAT_SPEED = speed) && (s.on R.ETH_STAT_HDX == hdx)
  let s := ((s.putB R.ETH_STAT_LINK up).put R.ETH_STAT_SPEED speed).putB R.ETH_STAT_HDX hdx
  let s := if up then { s with eth := { s.eth with waitPoll := false } } else s
  if same then s else (s.raise R.ETH_STAT_LINKEV).raise R.HSPI_IRQ_LINK

/-- The first mode advertised by both sides: speed and half duplex (R402). -/
def phyMode (r4 r5 r9 r10 : Nat) : Option (Nat × Bool) :=
  let both := fun b => r4.testBit b && r5.testBit b
  if r9.testBit 9 && r10.testBit 11 then some (2, false)
  else if r9.testBit 8 && r10.testBit 10 then some (2, true)
  else if both 8 then some (1, false)
  else if both 7 then some (1, true)
  else if both 6 then some (0, false)
  else if both 5 then some (0, true)
  else none

/-- The manual access that GO asked for begins (R402). -/
def State.mdioManual (s : State) : State :=
  { s with eth := { s.eth with mdio :=
      [(s.on R.ETH_MDIO_RD, s.get R.ETH_MDIO_PHYAD, s.get R.ETH_MDIO_REG, s.get R.ETH_MDIO_DATA)] } }

/-- The poll begins: five reads of the PHY at PHYAD (R402). In SGMII, for which the spec names no registers, it makes the same reads (DESIGN CHOICE, assumption 42). -/
def State.pollStart (s : State) : State :=
  { (s.raise R.ETH_STAT_MDIOBUSY) with eth := { s.eth with
      polling := true, pollAt := some (s.cycle + 600000 * s.get R.ETH_CFG_POLLMS)
      mdio := [1, 4, 5, 9, 10].map fun r => (true, s.get R.ETH_CFG_PHYAD, r, 0) } }

/-- No PHY access runs any more: a sleep that waited for it begins (R402, R431). -/
def State.mdioIdle (s : State) : State :=
  let s := s.clear R.ETH_STAT_MDIOBUSY
  { s with eth := { s.eth with mdio := [], asleep := s.eth.asleep || s.eth.sleepReq, sleepReq := false } }

/-- The MAC goes to sleep: at once, or when the PHY access in progress ends (R431). -/
def State.ethGoSleep (s : State) : State :=
  if s.on R.ETH_STAT_MDIOBUSY then { s with eth := { s.eth with sleepReq := true } }
  else { s with eth := { s.eth with asleep := true } }

/-- The poll has ended; a manual access requested in it runs now (R402). -/
def State.pollEnd (s : State) : State :=
  let s := { s with eth := { s.eth with polling := false } }
  if s.on R.ETH_MDIO_GO then s.mdioManual else s.mdioIdle

/-- The MDIO master polls: the MAC runs with POLLMS set (R402). -/
def State.polls (s : State) : Bool := s.ethRuns && decide (s.get R.ETH_CFG_POLLMS ≠ 0)

/-- A poll begins every POLLMS ms; the first at an instant within that time which the spec leaves open (R402). In SAFE_HOLD the MAC stands (R43). -/
def State.ethTick (s : State) : State :=
  if s.dev = .safeHold then s
  else if !s.polls then
    let s := if s.eth.polling then s.pollEnd else s
    { s with eth := { s.eth with pollAt := none } }
  else match s.eth.pollAt with
    | none =>
      let r := s.draw (600000 * s.get R.ETH_CFG_POLLMS)
      { r.2 with eth := { r.2.eth with pollAt := some (s.cycle + r.1) } }
    | some n => if n ≤ s.cycle ∧ s.eth.polling = false ∧ s.on R.ETH_MDIO_GO = false ∧ s.eth.sleepReq = false then s.pollStart else s

/-- POLL: the poll in progress has read registers 1, 4, 5, 9 and 10; in RGMII they give the link (R402). With the link up and no mode in common, speed and duplex are open. -/
def execEthPoll (r1 r4 r5 r9 r10 : BitVec 16) (s : State) : Out :=
  .next (
    if s.polls && s.eth.polling then
      let s := (s.pollEnd.put R.ETH_PHYRES_R1 r1.toNat).put R.ETH_PHYRES_R10 r10.toNat
      if s.get R.ETH_CFG_IF ≠ 1 then s
      else if r1.toNat.testBit 2 && r1.toNat.testBit 5 then
        match phyMode r4.toNat r5.toNat r9.toNat r10.toNat with
        | some m => s.setLink true m.1 m.2
        | none => let r := s.draw 6; r.2.setLink true (r.1 / 2) (decide (r.1 % 2 = 1))
      else s.setLink false (s.get R.ETH_STAT_SPEED) (s.on R.ETH_STAT_HDX)
    else s)

/-- SGMII_CONTROL_WORD: link, speed and duplex as the PHY sends them in SGMII. With POLLMS = 0, in either interface, `up` says whether the interface is receiving: the link is then up at FSPEED, full duplex (R402). -/
def execSgmiiControlWord (up : Bool) (speed : Fin 3) (hdx : Bool) (s : State) : Out :=
  .next (
    if !s.ethRuns then s
    else if s.get R.ETH_CFG_POLLMS = 0 then s.setLink up (s.get R.ETH_CFG_FSPEED) false
    else if s.get R.ETH_CFG_IF = 2 then s.setLink up speed.val hdx
    else s)

/-- With POLLMS = 0 the link is up at FSPEED while the interface receives (R402). -/
def State.ethReceiving (s : State) : State :=
  if s.get R.ETH_CFG_POLLMS = 0 then s.setLink true (s.get R.ETH_CFG_FSPEED) false else s

/-- CFG has been written: with POLLMS = 0 a standing link is at FSPEED, full duplex, at once (R402). -/
def State.ethConfigured (s : State) : State :=
  if s.ethRuns && decide (s.get R.ETH_CFG_POLLMS = 0) && s.on R.ETH_STAT_LINK then s.setLink true (s.get R.ETH_CFG_FSPEED) false else s

/-! ## MDIO (R402) -/

/-- MDIO_ACCESS: the write with GO, and its end with the data read; requested in a poll it runs after it; the MAC has stopped in SAFE_HOLD (R43, R402). -/
def execMdioAccess (req : Requester) (ph : MdioPhase) (s : State) : Out :=
  .next (
    match ph with
    | .start rd phyad reg data =>
      s.unitWrite req s.hasEth 0x40780020 fun s =>
        if s.dev = .safeHold || s.on R.ETH_MDIO_GO || s.stopped 1 then s
        else
          let s := (((s.putB R.ETH_MDIO_RD rd).put R.ETH_MDIO_PHYAD phyad.val).put R.ETH_MDIO_REG reg.val).put R.ETH_MDIO_DATA data.toNat
          let s := (s.raise R.ETH_MDIO_GO).raise R.ETH_STAT_MDIOBUSY
          if s.eth.polling then s else s.mdioManual
    | .done data =>
      if s.on R.ETH_MDIO_GO && !s.eth.polling && decide (s.dev ≠ .safeHold) then
        let s := if s.on R.ETH_MDIO_RD then s.put R.ETH_MDIO_DATA data.toNat else s
        (s.clear R.ETH_MDIO_GO).mdioIdle
      else s)

/-! ## Transmission (R403) -/

/-- The bytes of TPL. -/
def State.tplBytes (s : State) : List Nat :=
  ((List.range 4).flatMap fun k => bytesLE 4 (s.get (R.ETH_TPL_BYTES k))).take 14

/-- The frame a packet asks for, none where it is malformed (R403). -/
def State.ethFrame (s : State) (ws : List Nat) : Option (List Nat) :=
  match ws with
  | [] => none
  | d0 :: pl =>
    let len := d0 % 2 ^ 16
    let tpl := d0.testBit 16
    if (if tpl then decide (len ≤ 1500) else decide (14 ≤ len) && decide (len ≤ 1514)) &&
        decide (d0 / 2 ^ 17 = 0) && decide (pl.length = (len + 7) / 8) then
      let f := (if tpl then s.tplBytes else []) ++ (pl.flatMap fun w => bytesLE 8 w).take len
      some (f ++ List.replicate (60 - f.length) 0)
    else none

/-- A discarded packet. -/
def State.ethBad (s : State) : State :=
  { (s.raise R.ETH_STAT_TXBAD) with eth := { s.eth with txPart := [] } }

/-- A frame with its FCS: the CRC-32 over its bytes, low byte first (R403). -/
def withFcs (f : List Nat) : List Nat := f ++ bytesLE 4 (crc32 f)

/-- The end of a packet: the frame is sent with its FCS, or discarded (R403). -/
def State.ethSend (s : State) (ents : List QEntry) : State :=
  let pl := ents.filter fun e => decide (e.mark ≠ markHdr)
  match (if pl.any (fun e => e.bad) then none else s.ethFrame (pl.map fun e => e.word)) with
  | none => s.ethBad
  | some f =>
    { (s.bumpSat R.ETH_CNT_TXOK) with
      eth := { s.eth with txPart := [], lastTx := withFcs f, octets := (s.eth.octets + (withFcs f).length) % 2 ^ 64 } }

/-- Take the entries of one packet, as far as they can be delivered. -/
def State.ethTake (s : State) (q : Nat) : Nat → State
  | 0 => s
  | n + 1 =>
    match s.qPop q with
    | (none, s) => s
    | (some e, s) =>
      let add := fun (s : State) => { s with eth := { s.eth with txPart := (s.eth.txPart ++ [e]).take 200 } }
      if e.mark = markHdr then (if e.word.testBit 0 then s else (add s).ethTake q n)
      else if !s.qPacket q then s.ethBad
      else if e.mark = markAbort then s.ethBad
      else if e.mark = markEnd then s.ethSend (s.eth.txPart ++ [e])
      else (add s).ethTake q n

/-- ETH_TRANSMIT: with the link up in full duplex the MAC takes a packet of its queue and sends its frame (R401–R403). -/
def execEthTransmit (s : State) : Out :=
  .next (
    match s.consQueue 0x0C with
    | none => s
    | some q =>
      if s.ethRuns && s.on R.ETH_STAT_LINK && !s.on R.ETH_STAT_HDX && !s.eth.waitPoll then
        s.ethTake q ((s.queue q).ents.length)
      else s)

/-! ## Reception (R403) -/

/-- The destination is accepted. -/
def State.ethMine (s : State) (da : Nat) : Bool :=
  decide (da = s.get R.ETH_MACLO_ADDR + 2 ^ 32 * s.get R.ETH_MACHI_ADDR) ||
  (s.on R.ETH_CFG_BCAST && decide (da = 2 ^ 48 - 1)) || s.on R.ETH_CFG_PROMISC

/-- A frame whose SFD came `ticks` TSC ticks ago was being received at the last data-plane reset, which discards it (R468). -/
def State.ethCut (s : State) (ticks : Nat) : Bool :=
  match s.eth.rxCut with
  | some t => decide (s.tsc ≤ t + ticks)
  | none => false

/-- ETH_RECEIVE: a frame without its FCS, whether the FCS is good, and how many TSC ticks ago its SFD came (R403). -/
def execEthReceive (bytes : List (BitVec 8)) (fcsOk : Bool) (ticks : Nat) (s : State) : Out :=
  .next (
    if !s.ethRuns || s.ethCut ticks then s
    else
      let s := s.ethReceiving
      let b := bytes.map fun x => x.toNat
      if !fcsOk then s.bumpSat R.ETH_ERRCNT_RXFCS
      else if 1518 < b.length + 4 ∨ s.ethMine (ofBytesLE (b.take 6)) = false then s.bumpSat R.ETH_ERRCNT_RXDROP
      else
        let s := s.bumpSat R.ETH_CNT_RXOK
        match s.prodQueue 0x09 with
        | none => s
        | some q => s.qPacketPush q ((b.length + 2 ^ 32 * ((s.tsc + 2 ^ 32 - ticks % 2 ^ 32) % 2 ^ 32)) :: bytesToWords b))

/-! ## Device states -/

/-- A data-plane reset: the frame in progress is discarded in each direction (R468). -/
def State.ethReset (s : State) : State := { s with eth := { s.eth with txPart := [], rxCut := some s.tsc } }

/-- CFG is accepted: no reserved IF or FSPEED (R405). -/
def ethCfgOk (v : Nat) : Bool :=
  (decide (slice v 1 2 = 1) || decide (slice v 1 2 = 2)) && decide (slice v 25 2 ≠ 3)

end Sys2Proof.Machine
end

