-- ==== Sys2Proof/Machine/Nor.lean ====
section
/-! DEFINITION. The NOR flash (R300–R304, R323, R325): reading, programming and erasing its bytes, the status words of a slot, and what an interrupted update leaves. -/

namespace Sys2Proof.Machine

open Sys2Proof

/-- A byte of the NOR; an erased byte reads 0xFF (R304). -/
def State.norByte (s : State) (a : Nat) : Nat := Sparse.get 0xFF s.nor.bytes a

/-- `len` bytes of the NOR from `a`. -/
def State.norRead (s : State) (a len : Nat) : List Nat := (List.range len).map fun i => s.norByte (a + i)

/-- A 32-bit word of the NOR. -/
def State.norWord (s : State) (a : Nat) : Nat := ofBytesLE (s.norRead a 4)

/-- Program bytes from `a`: a bit is only ever programmed from 1 to 0. -/
def State.norProgram (s : State) (a : Nat) (l : List Nat) : State :=
  (l.foldl (fun (p : State × Nat) b =>
    ({ p.1 with nor := { p.1.nor with bytes := Sparse.set 0xFF p.1.nor.bytes p.2 (Nat.land (p.1.norByte p.2) (b % 256)) } },
      p.2 + 1)) (s, a)).1

/-- Erase the bytes in [lo, hi). -/
def State.norErase (s : State) (lo hi : Nat) : State :=
  { s with nor := { s.nor with bytes := Sparse.keep (fun a => decide (a < lo) || decide (hi ≤ a)) s.nor.bytes } }

/-- NOR offset of slot A (0) or B (1), and of its status sector (R304). -/
def slotBase (k : Nat) : Nat := 0x01000000 * k
def statusBase (k : Nat) : Nat := slotBase k + 0x00FFF000

/-- The slot is live; and superseded as well (R304). -/
def State.slotLive (s : State) (k : Nat) : Bool := decide (s.norWord (statusBase k) = 0)
def State.slotSuperseded (s : State) (k : Nat) : Bool := s.slotLive k && decide (s.norWord (statusBase k + 4) = 0)

/-- The slot an update writes: the one that did not start (R322); TARGET holds 1 for A and 2 for B. -/
def State.target (s : State) : Nat := s.get R.WEDGE_USTAT_TARGET - 1

/-- USTATE. -/
def State.ustate (s : State) : Nat := s.get R.WEDGE_USTAT_USTATE

/-- E: the largest declared erase size of at most 64 KiB; 0 for none. -/
def State.eraseUnit (s : State) : Nat :=
  if s.on R.WEDGE_XSPI_SFDP then (s.nor.info.erase.filter fun e => decide (e ≤ 65536)).foldl max 0 else 0

/-- The first addresses of the erase units of an update: those that hold the image, and the one of the status sector. -/
def State.updUnits (s : State) : List Nat :=
  let e := s.eraseUnit
  let n := (s.get R.WEDGE_ULEN_LEN + e - 1) / e
  (List.range n).map (fun i => slotBase s.target + i * e) ++ [statusBase s.target / e * e]

/-- Erase whole units. -/
def State.eraseUnits (s : State) (l : List Nat) : State :=
  l.foldl (fun s a => s.norErase a (a + s.eraseUnit)) s

/-- Bytes the spec leaves open, `n` of them. -/
def State.freeBytes (s : State) (n : Nat) : List Nat × State :=
  ((List.range n).map fun i => Config.freeNat (s.free + i) % 256, { s with free := s.free + n })

/-- An erase that fails: some units are erased, and the bytes of the one that failed are open (R323, assumption 5). -/
def State.eraseFails (s : State) : State :=
  let l := s.updUnits
  let d := s.draw (max 1 l.length)
  let s := d.2.eraseUnits (l.take (d.1 + 1))
  let f := s.freeBytes s.eraseUnit
  f.2.norProgram (l.getD d.1 0) f.1

/-- Up to 256 of the gathered bytes are programmed, behind those programmed before; a program that fails leaves each bit still 1 or programmed, which is open. -/
def State.pageWrite (s : State) (ok : Bool) : State :=
  let l := s.nor.page.take 256
  let a := slotBase s.target + (s.get R.WEDGE_UADDR_COUNT - s.nor.page.length)
  let s := if ok then s.norProgram a l
    else
      let f := s.freeBytes l.length
      f.2.norProgram a (l.zipWith Nat.lor f.1)
  { s with nor := { s.nor with page := s.nor.page.drop 256, programming := false } }

/-- A commit interrupted by a reset, SAFE_HOLD or a failure: LIVE of the target not programmed, partly programmed, programmed, or programmed with SUPERSEDED partly programmed (R325, assumption 5). -/
def State.commitCut (s : State) : State :=
  if s.get R.WEDGE_USTAT_USTATE = 5 then
    let d := s.draw 4
    let w := d.2.draw (2 ^ 32 - 2)
    let part := bytesLE 4 (w.1 + 1)
    let zero := bytesLE 4 0
    if d.1 = 0 then d.2
    else if d.1 = 1 then w.2.norProgram (statusBase s.target) part
    else if d.1 = 2 then d.2.norProgram (statusBase s.target) zero
    else (w.2.norProgram (statusBase s.target) zero).norProgram (statusBase (1 - s.target) + 4) part
  else s

/-- What an operation of the NOR that is cut short leaves: an erase or a program in what it worked on, a commit in the status words (R322, R325, assumption 5). -/
def State.norCut (s : State) : State :=
  if s.ustate = 1 then s.eraseFails
  else if s.ustate = 3 ∨ (s.ustate = 2 ∧ s.nor.programming = true) then s.pageWrite false
  else s.commitCut

/-- The update returns to IDLE; the target stays not live unless its LIVE was programmed (R323). -/
def State.updIdle (s : State) : State :=
  let s := { s with nor := { s.nor with page := [], programming := false } }
  (s.clear R.WEDGE_USTAT_USTATE).clear R.WEDGE_USTAT_UBUSY

/-- SAFE_HOLD aborts an update; the end of an erase, a verify or a commit that runs is an interrupt source (R322, R400). -/
def State.updHold (s : State) : State :=
  if s.ustate = 0 ∨ s.ustate = 6 then s
  else
    let s := if s.ustate = 1 ∨ s.ustate = 3 ∨ s.ustate = 5 then s.raise R.HSPI_IRQ_UPD else s
    let s := { s with sec := { s.sec with jobs := s.sec.jobs.filter fun j => decide (j ≠ SecJob.verify) } }
    s.norCut.updIdle

end Sys2Proof.Machine
end

