-- ==== Sys2Proof/Machine/SafeOut.lean ====
section
/-! DEFINITION. The safe outputs SO0–SO3 (R280–R288): demand, switches, test pulses and overcurrent. -/

namespace Sys2Proof.Machine

open Sys2Proof

def State.so (s : State) (x : Nat) : So := Sparse.get {} s.safe.so x
def State.setSo (s : State) (x : Nat) (v : So) : State :=
  { s with safe := { s.safe with so := Sparse.set {} s.safe.so x v } }

/-! ## Demand (R281–R284, R287) -/

/-- The source of output x, SO3's being the discharge request (R281). -/
def State.soSource (s : State) (x : Nat) : Bool :=
  if x = 3 then s.dreq
  else match s.get (R.SAFEOUT_CFG_SRC x) with
  | 1 => s.bit R.SAFEOUT_CMD_SO x
  | 2 => s.latched 0
  | 3 => s.latched 1
  | 4 => s.latched 0 || s.latched 1
  | 5 => decide (s.dev = .run) && !s.latched 0 && !s.latched 1
  | _ => false

/-- The demand of output x (R281). -/
def State.soDemand (s : State) (x : Nat) : Bool :=
  if x = 3 then s.soSource 3
  else if s.get (R.SAFEOUT_CFG_SRC x) = 0 then false
  else s.soSource x != s.on (R.SAFEOUT_CFG_POL x)

/-- The outputs operate in the state: they are open in OFF, WEDGING and NOIMAGE (R283). -/
def State.soWorks (s : State) : Bool := s.sagActs

/-- The level of both switches outside a test (R283, R284, R287). -/
def State.soLevel (s : State) (x : Nat) : Bool :=
  s.soWorks && s.soDemand x && !s.on (R.SAFEOUT_OSTAT_OC x) &&
  !(s.on (R.SAFEOUT_OSTAT_SOFLT x) && s.on (R.SAFEOUT_CFG_FLTOFF x))

/-- Set the switches of output x. -/
def State.soSwitch (s : State) (x : Nat) (hs ls : Bool) : State :=
  (s.putB (R.SAFEOUT_OSTAT_HSON x) hs).putB (R.SAFEOUT_OSTAT_LSON x) ls

/-- Both switches follow the output's level (R282). -/
def State.soFollow (s : State) (x : Nat) : State :=
  let lv := s.soLevel x
  (s.setSo x { s.so x with demand := s.soDemand x }).soSwitch x lv lv

/-- End the pulse of output x without a result (R288). -/
def State.soEndTest (s : State) (x : Nat) : State :=
  (s.setSo x { s.so x with test := none }).clear (R.SAFEOUT_OSTAT_TESTING x)

/-- A running test is aborted and counted (R288). -/
def State.soAbort (s : State) (x : Nat) : State :=
  if (s.so x).test.isSome then (s.soEndTest x).bumpSat (R.SAFEOUT_TCNT_ABORTCNT x) else s

/-- The failure cause of a test (R286). -/
def testCause (t : SoTest) : Nat :=
  match t.on, t.high with
  | false, true => 1
  | false, false => 2
  | true, true => 3
  | true, false => 4

/-- A completed test advances its alternation (R285). -/
def So.advance (o : So) (t : SoTest) : So := if t.on then { o with onLow := t.high } else { o with offLow := t.high }

/-- The result of a completed test; the Cone enters a new fault in the Shard log (R286, R287). -/
def State.soResult (s : State) (x : Nat) (t : SoTest) (pass : Bool) : State :=
  let s := s.setSo x ((s.so x).advance t)
  if pass then s.bumpSat (R.SAFEOUT_TCNT_PASSCNT x)
  else
    let s := s.bumpSat (R.SAFEOUT_TCNT_FAILCNT x)
    if s.on (R.SAFEOUT_OSTAT_SOFLT x) then s
    else ((s.raise (R.SAFEOUT_OSTAT_SOFLT x)).put (R.SAFEOUT_OSTAT_FCAUSE x) (testCause t)).coneRecord

/-- A test that ended in an earlier PERCLK cycle is counted (R286, R288). -/
def State.soSettle (s : State) (x : Nat) : State :=
  match (s.so x).ended with
  | some (p, t, pass) => if p < s.cycle / 4 then (s.setSo x { s.so x with ended := none }).soResult x t pass else s
  | none => s

/-- The demand changes: its PERCLK cycle is noted, and a test that ended in that cycle counts as aborted (R288). -/
def State.soChange (s : State) (x : Nat) : State :=
  let t := s.setSo x { s.so x with chg := some (s.cycle / 4), ended := none }
  if (s.so x).ended.isSome then t.bumpSat (R.SAFEOUT_TCNT_ABORTCNT x) else t

/-- The output takes its demand and its level as they are now: a change of the demand aborts a test, which otherwise goes on (R282, R287, R288). -/
def State.soTrack (s : State) (x : Nat) : State :=
  if !s.soWorks then s
  else
  let s := s.soSettle x
  if s.soDemand x ≠ (s.so x).demand then ((s.soChange x).soAbort x).soFollow x
  else if (s.so x).test.isSome then s
  else s.soFollow x

/-- DEMAND_CHANGE: the switches follow the new demand; a test is aborted (R282, R288). -/
def execDemandChange (x : Fin 4) (s : State) : Out := .next (s.soTrack x.val)

/-- The outputs at the entry to READY: both switches follow demand (R283). -/
def State.soEnter (s : State) : State := s.each [0, 1, 2, 3] State.soTrack

/-! ## Test pulses (R285–R288) -/

/-- Tests run in READY, RUN and SAFE_HOLD (R283). -/
def State.soTests (s : State) : Bool := s.soWorks && decide (s.dev ≠ .banked) && !s.scanning && !s.stopped 15

/-- Start a test of one switch (R285, R286). -/
def State.soStart (s : State) (x : Nat) (t : SoTest) : State :=
  let s := (s.setSo x { s.so x with test := some t }).raise (R.SAFEOUT_OSTAT_TESTING x)
  if t.on then s.soSwitch x t.high (!t.high) else s.soSwitch x (!t.high) t.high

/-- TEST_PULSE: a test instant of output x (R285); a demand change in the same cycle cancels the pulse and counts as an abort (R288). -/
def execTestPulse (x : Fin 4) (s : State) : Out :=
  .next (
    let x := x.val
    let s := s.soSettle x
    if !s.soTests || (s.so x).test.isSome then s
    else
      let on := s.on (R.SAFEOUT_OSTAT_HSON x) && s.on (R.SAFEOUT_OSTAT_LSON x)
      let w := if on then s.get (R.SAFEOUT_CFG_OFFW x) else s.get (R.SAFEOUT_CFG_ONW x)
      if w = 0 then s
      else if s.soDemand x ≠ (s.so x).demand then ((s.soChange x).bumpSat (R.SAFEOUT_TCNT_ABORTCNT x)).soFollow x
      else if (s.so x).chg = some (s.cycle / 4) then s.bumpSat (R.SAFEOUT_TCNT_ABORTCNT x)
      else s.soStart x { on := !on, high := if on then !(s.so x).offLow else !(s.so x).onLow })

/-- The criterion of a test: land voltages and VSO in mV (R286). -/
def testPass (t : SoTest) (vh vl vso : Nat) : Bool :=
  match t.on, t.high with
  | false, true => decide (vh < 2000)
  | false, false => decide (vso < vl + 2000)
  | true, true => decide (vso < vh + 2000)
  | true, false => decide (vl < 2000)

/-- TEST_PULSE_END: the lands are read back, and the result counts once the PERCLK cycle is over; a demand change in that cycle makes it an abort (R286, R288). -/
def execTestPulseEnd (x : Fin 4) (vh vl vso : Nat) (s : State) : Out :=
  .next (
    let x := x.val
    match (s.so x).test with
    | none => s
    | some t =>
      if s.soDemand x ≠ (s.so x).demand then ((s.soChange x).soAbort x).soFollow x
      else if !s.soTests then (s.soEndTest x).soFollow x
      else
        let s := s.soEndTest x
        (s.setSo x { s.so x with ended := some (s.cycle / 4, t, testPass t vh vl vso) }).soFollow x)

/-! ## Overcurrent (R284) -/

/-- OC: a switch in limit for 100 µs opens both; a running test ends without a result. -/
def execSoOc (x : Fin 4) (s : State) : Out :=
  .next (if s.soWorks && (s.on (R.SAFEOUT_OSTAT_HSON x.val) || s.on (R.SAFEOUT_OSTAT_LSON x.val)) then
      ((s.raise (R.SAFEOUT_OSTAT_OC x.val)).soAbort x.val).soFollow x.val
    else s)

/-- OC_CLEAR: the output returns to its demand; where that closes its switches, a running test is aborted. -/
def execSoOcClear (x : Fin 4) (s : State) : Out :=
  .next (
    if !s.busUp then s
    else
      let s := s.clear (R.SAFEOUT_OSTAT_OC x.val)
      if s.soLevel x.val then (s.soAbort x.val).soFollow x.val
      else if (s.so x.val).test.isSome then s
      else s.soFollow x.val)

/-- Write check of CFG[x] (R281, R285). -/
def soCfgOk (x v : Nat) : Bool :=
  let w := fun n => decide (n = 0) || (decide (10 ≤ n) && decide (n ≤ 80))
  decide (slice v 24 8 ≠ 0) && w (slice v 16 7) && w (slice v 8 7) && (decide (x = 3) || decide (slice v 0 3 ≤ 5))

/-- Every output opens: OFF, WEDGING, NOIMAGE (R283). -/
def State.soOpenAll (s : State) : State :=
  s.each [0, 1, 2, 3] fun s x => ((s.soEndTest x).setSo x {}).soSwitch x false false

end Sys2Proof.Machine
end

