-- ==== Sys2Proof/Machine/SafeCfg.lean ====
section
/-! DEFINITION. The safety configuration (R289–R295): unlock, runtime parameter changes, RWP writes and the change log. -/

namespace Sys2Proof.Machine

open Sys2Proof

/-! ## The change log (R294, R295) -/

/-- SRC of an entry (R294). -/
def logSrc : Requester → Nat
  | .hspi => 1
  | .cone => 2
  | .debug => 3

/-- The 32 bytes of an entry, its CRC included (R294). -/
def LogEntry.bytes (e : LogEntry) : List Nat :=
  let b := bytesLE 8 e.tsc ++ bytesLE 4 e.pid ++ bytesLE 4 e.old ++ bytesLE 4 e.new ++ bytesLE 2 e.seq ++ [e.src] ++ [0, 0, 0, 0, 0]
  b ++ bytesLE 4 (crc32 b)

/-- The slot of the next entry is free (R295). -/
def State.logFree (s : State) : Bool :=
  match s.safe.log[255]? with
  | none => true
  | some e => e.mirrored

/-- The change-log queue, where entries are mirrored: one is named, and it takes the log's pushes (R295, R352). -/
def State.logQueue (s : State) : Option Nat :=
  if s.safe.clq < 32 ∧ s.hasShard ∧ s.get (R.QUE_QCFG_PROD s.safe.clq) = 4 then some s.safe.clq else none

/-- The queue has room for a 4-word packet (R356). -/
def State.logRoom (s : State) (q : Nat) : Bool := s.dprDue.isNone && decide ((if s.qPacket q then 5 else 4) ≤ s.qRoom q)

/-- Offer an entry to its queue: the packet is pushed, and whether it was accepted whole (R295, R350). -/
def State.offer (s : State) (e : LogEntry) : Bool × State :=
  match s.logQueue with
  | none => (false, s)
  | some q => (s.logRoom q, s.qPacketPush q (bytesToWords e.bytes))

/-- Write an entry (R294, R295). -/
def State.logWrite (s : State) (req : Requester) (pid old new : Nat) : State :=
  let e : LogEntry := { tsc := s.tsc, pid := pid, old := old, new := new, seq := s.get R.SAFECFG_STAT_NCHG, src := logSrc req, mirrored := false }
  let r := s.offer e
  let s := r.2.bumpWrap R.SAFECFG_STAT_NCHG
  { s with safe := { s.safe with log := ({ e with mirrored := r.1 } :: s.safe.log).take 256 } }

/-- Offer every unmirrored entry again, oldest first. -/
def State.reoffer : List LogEntry → State → List LogEntry × State
  | [], s => ([], s)
  | e :: t, s =>
    let r := State.reoffer t s
    if e.mirrored then (e :: r.1, r.2)
    else let o := r.2.offer e; ({ e with mirrored := o.1 } :: r.1, o.2)

/-- CHANGE_LOG_REOFFER: 100 µs after an offer that found no room (R295, R350). -/
def execChangeLogReoffer (s : State) : Out :=
  .next (if s.busUp then
      let r := State.reoffer s.safe.log s
      { r.2 with safe := { r.2.safe with log := r.1 } }
    else s)

/-! ## Unlock and lock (R289–R291) -/

/-- Write RESULT. -/
def State.cfgResult (s : State) (r : Nat) : State := s.put R.SAFECFG_STAT_RESULT r

/-- The PW registers clear to zero (R289). -/
def State.clearPw (s : State) : State := [0, 1, 2, 3].foldl (fun s k => s.clear (R.SAFECFG_PW_BYTES k)) s

/-- The password bytes written (R289). -/
def State.pwBytes (s : State) : List Nat := (List.range 4).flatMap fun k => bytesLE 4 (s.get (R.SAFECFG_PW_BYTES k))

/-- The attempt matches the image's hash (R289). -/
def State.pwRight (s : State) : Bool :=
  decide (Config.sha512 (bytesLE 16 s.safe.salt ++ s.pwBytes) = s.safe.hash)

/-- A wrong attempt is counted; the third locks out, and is logged where the log has a free slot (R290, R294, R295). -/
def State.pwWrong (s : State) (req : Requester) : State :=
  let n := s.get R.SAFECFG_STAT_TRIES + 1
  let s := (s.put R.SAFECFG_STAT_TRIES n).cfgResult 2
  if n < 3 then s
  else
    let s := s.raise R.SAFECFG_STAT_LOCKOUT
    if s.logFree then s.logWrite req 2 0 0 else s

/-- UNLOCK (R289, R290, R293). -/
def execUnlock (req : Requester) (s : State) : Out :=
  .next (
    if !s.mayWrite req then s
    else
      let s' :=
        if s.dev ≠ .ready then s.cfgResult 1
        else if s.on R.SAFECFG_STAT_BUSY then s.cfgResult 4
        else if s.on R.SAFECFG_STAT_LOCKOUT || decide (s.safe.hash = 0) then s.cfgResult 3
        else if !s.pwRight then s.pwWrong req
        else if !s.logFree then s.cfgResult 6
        else ((s.raise R.SAFECFG_STAT_UNLOCKED).cfgResult 0).logWrite req 1 0 0
      s'.clearPw)

/-- The safety configuration is locked (R291). -/
def State.relock (s : State) : State := s.clear R.SAFECFG_STAT_UNLOCKED

/-- RELOCK (R291). -/
def execRelock (s : State) : Out := .next (if s.busUp then s.relock else s)

/-! ## Cone parameters (R277, R292) -/

/-- A known parameter ID (R277). -/
def parKnown (id : Nat) : Bool :=
  (decide (0x10 ≤ id) && decide (id ≤ 0x23)) || (decide (0x30 ≤ id) && decide (id ≤ 0x45))

/-- A finite number with a condition on its value. -/
def parQ (v : Nat) (f : Rat2 → Bool) : Bool :=
  match qWord (BitVec.ofNat 32 v) with
  | some q => f q
  | none => false

/-- The range of a parameter (R277). -/
def State.parOk (s : State) (id v : Nat) : Bool :=
  let nonneg := parQ v fun q => qLe (qInt 0) q
  let unit := parQ v fun q => qLe (qInt 0) q && qLe q (qInt 1)
  let within := fun lo hi => decide (lo ≤ v) && decide (v ≤ hi)
  if id = 0x10 ∨ id = 0x11 then within 0 1
  else if id = 0x12 ∨ id = 0x13 then within 1 255
  else if id = 0x14 ∨ id = 0x15 then nonneg
  else if id = 0x16 ∨ id = 0x17 then unit
  else if id = 0x18 ∨ id = 0x19 then within 0 255
  else if id = 0x1A ∨ id = 0x1B then within 1 32
  else if id = 0x1C ∨ id = 0x1D then within 0 1 || within 4 5 || within 8 11 || within 0x20 0x27
  else if id = 0x1E ∨ id = 0x1F then nonneg
  else if id = 0x20 ∨ id = 0x21 then within 1 2
  else if id = 0x22 ∨ id = 0x23 then
    decide (slice v 16 16 = 0) && decide (slice v 0 4 ≤ 7) && decide (slice v 4 4 ≤ 7) && decide (slice v 8 4 ≤ 7) &&
    decide (slice v 12 4 + 2 ≤ s.nConv)
  else if id < 0x38 then parQ v fun q => decide (q.1 ≠ 0)
  else if id < 0x40 then parQ v fun _ => true
  else if id = 0x40 then within 1 255
  else if id = 0x41 then within 0 1
  else if id = 0x42 then nonneg
  else if id = 0x43 then unit
  else if id = 0x44 then within 1 255
  else within 0 9999

/-- The value a parameter has, or will have at the start of the next cycle. -/
def State.parNow (s : State) (id : Nat) : Nat :=
  match s.cone.pend.reverse.find? fun e => decide (e.1 = id) with
  | some e => e.2
  | none => s.cpar id

/-- The parameter change of PID and PVAL: range-checked by the Cone, logged, and in use from the next cycle (R292–R294). -/
def State.pset (s : State) (req : Requester) : State :=
  let id := s.get R.SAFECFG_PID_ID
  let v := s.get R.SAFECFG_PVAL_VALUE
  if !parKnown id then s.cfgResult 8
  else if !s.parOk id v then s.cfgResult 7
  else
    let s := (s.logWrite req id (s.parNow id) v).cfgResult 0
    { s with cone := { s.cone with pend := s.cone.pend ++ [(id, v)] } }

/-- PSET (R292, R293); without a running Cone the check never ends and BUSY stays 1. -/
def execPset (req : Requester) (s : State) : Out :=
  .next (
    if !s.mayWrite req then s
    else if s.dev ≠ .ready then s.cfgResult 1
    else if s.on R.SAFECFG_STAT_BUSY then s.cfgResult 4
    else if !s.on R.SAFECFG_STAT_UNLOCKED then s.cfgResult 5
    else if !s.logFree then s.cfgResult 6
    else if !s.on R.CONE_STAT_RUNNING then s.raise R.SAFECFG_STAT_BUSY
    else s.pset req)

/-! ## RWP fields (R12, R292, R293) -/

/-- A register that holds RWP fields. -/
def isRwp (l : List Fld) : Bool := l.any fun f => decide (f.acc = .rwp)

/-- Index of an address in an array. -/
def idx (addr base stride : Nat) : Nat := (addr - base) / stride

/-- The block accepts the value of an RWP register (R254, R260, R278, R281, R285). -/
def State.rwpOk (s : State) (addr v : Nat) : Bool :=
  if addr = 0x4040000C then decide (slice v 0 2 ≠ 3) && decide (slice v 2 2 ≠ 3)
  else if 0x40400100 ≤ addr ∧ addr < 0x40400160 then
    if addr % 8 = 0 then decide (s.nInv = 2) || !v.testBit 1
    else decide (slice v 0 12 < slice v 16 12)
  else if 0x40400180 ≤ addr ∧ addr < 0x40400190 then
    if addr % 8 = 0 then decide (slice v 0 6 < 24 * s.nInv)
    else decide (slice v 0 12 < slice v 16 12)
  else if 0x40420100 ≤ addr ∧ addr < 0x40420140 then soCfgOk (idx addr 0x40420100 0x10) v
  else true

/-- The reject flag of the block of an RWP register. -/
def rwpRej (addr : Nat) : Fld := if addr < 0x40410000 then R.SAGGAR_STAT_CFGREJ else R.SAFEOUT_STAT_CFGREJ

/-- The fields of an RWP register that a write changes: SO3 has a fixed source and polarity (R281, R296). -/
def rwpWritten (addr : Nat) (l : List Fld) : List Fld :=
  l.filter fun f => decide (f.acc = .rwp) && !(decide (addr = 0x40420130) && decide (f.lo < 4))

/-- Put the fields of an RWP register; a safe output follows its new configuration (R281, R287). -/
def State.rwpPut (s : State) (addr v : Nat) (l : List Fld) : State :=
  let s := ((rwpWritten addr l).foldl (fun s f => s.put f (slice v f.lo f.width)) s).sync
  if 0x40420100 ≤ addr ∧ addr < 0x40420140 ∧ addr % 0x10 = 0 then s.soTrack (idx addr 0x40420100 0x10) else s

/-- The word of an RWP register; SO3's source reads 0b110 (R281). -/
def State.rwpWord (s : State) (addr : Nat) (l : List Fld) : Nat :=
  s.wordOf l + if addr = 0x40420130 then 6 else 0

/-- A write to an RWP register: judged by unlock, log and block on its accepting edge (R293). -/
def State.rwpWrite (s : State) (req : Requester) (addr v : Nat) : State :=
  let l := regFieldsIn addr (RegMap.window addr)
  if !isRwp l || !s.mayWrite req then s
  else if s.dev ≠ .ready ∨ !s.on R.SAFECFG_STAT_UNLOCKED then s
  else if !s.logFree then s.cfgResult 6
  else if !s.rwpOk addr v then s.raise (rwpRej addr)
  else
    let old := s.rwpWord addr l
    let s := s.rwpPut addr v l
    s.logWrite req addr old (s.rwpWord addr l)

/-- RWP_WRITE (R293). -/
def execRwpWrite (req : Requester) (addr v : Word) (s : State) : Out :=
  .next (s.rwpWrite req addr.toNat v.toNat)

/-- LOGDATA word w: of the entry in slot IDX, zero in a slot never used (R294, R296). -/
def State.logData (s : State) (w : Nat) : Nat :=
  match s.safe.log.find? fun e => decide (e.seq % 256 = s.get R.SAFECFG_LOGPTR_IDX) with
  | some e => ofBytesLE ((e.bytes.drop (4 * w)).take 4)
  | none => 0

end Sys2Proof.Machine
end

