-- ==== Sys2Proof/Machine/Nand.lean ====
section
/-! DEFINITION. The NAND medium of the Shard log (R406–R411, R420–R425): chip enables and LUNs, interface, blocks, page maps of commit units, allocation, reclaim, wear levelling and refresh. -/

namespace Sys2Proof.Machine

open Sys2Proof

/-! ## Interface and geometry (R406–R408, R411) -/

/-- LUNs behind the chip enables that answer, those of nCE0 first (R406, R407). -/
def NandInfo.found (n : NandInfo) : Nat := n.luns0 + if n.onfi1 then n.luns1 else 0

/-- LUNs used: at most four (R406). -/
def NandInfo.lunCount (n : NandInfo) : Nat := min n.found 4

/-- The chip enable of LUN L and its LUN address there: the LUN index counts those of nCE0 first (R406). -/
def NandInfo.select (n : NandInfo) (l : Nat) : Fin 2 × Nat := if l < n.luns0 then (0, l) else (1, l - n.luns0)

/-- Bytes of the spare area that parity and header take: 70 for each codeword of 1,024 data bytes, and the 32 of the header, which come first (R409). -/
def NandInfo.spareUsed (n : NandInfo) : Nat := 32 + 70 * n.pageKiB

/-- The NAND is one the device accepts (R407). -/
def NandInfo.ok (n : NandInfo) : Bool :=
  n.onfi0 && n.paramOk && decide (n.bpc = 1) && !n.wide &&
  (decide (n.pageKiB = 2) || decide (n.pageKiB = 4) || decide (n.pageKiB = 8) || decide (n.pageKiB = 16)) &&
  decide (n.spareUsed ≤ n.spare) && decide (n.tprog ≤ 650)

/-- Blocks used of a LUN: no capacity beyond 4 GiB (R406). -/
def NandInfo.usedBlocks (n : NandInfo) : Nat := min n.blocks (4194304 / max 1 (n.pageKiB * n.ppb))

/-- Data bytes of a page. -/
def NandInfo.pageBytes (n : NandInfo) : Nat := n.pageKiB * 1024

/-- The rates of an interface, by timing mode; NV-DDR3 reaches at most 800 MT/s (R408). -/
def NandInfo.rates (n : NandInfo) (code : Nat) : List Nat :=
  match n.ifs.find? fun e => decide (e.1 = code) with
  | some e => if code = 4 then e.2.takeWhile fun r => decide (r ≤ 800) else e.2
  | none => []

/-- SDR timing mode 0, where the selection ends after three failures (R408). -/
def NandInfo.sdr0 (n : NandInfo) : Nat × Nat × Nat := (1, 0, (n.rates 1).getD 0 10)

/-- The largest k whose unit time is at most 1.4 ms, for the LUNs left (R411): (k + 1) page transfers and two programs in 1,380 µs. -/
def NandInfo.unitK (n : NandInfo) (mts luns : Nat) : Nat :=
  let bytes := n.pageBytes + n.spare
  (below (luns + 1) fun k => decide ((k + 1) * bytes + 2 * n.tprog * mts ≤ 1380 * mts)).foldl Nat.max 0

/-- The number of a block. -/
def blockKey (l b : Nat) : Nat := 65536 * l + b

/-- LUNs whose block 0 carries the factory marker, as a mask (R421). -/
def NandInfo.badLun (n : NandInfo) : Nat := bitsOf 4 fun l => n.marked.contains (blockKey l 0)

/-- All LUNs found, as a mask. -/
def NandInfo.allLuns (n : NandInfo) : Nat := 2 ^ n.lunCount - 1

/-- Factory bad blocks of LUN l (R429 BB). -/
def NandInfo.factory (n : NandInfo) (l : Nat) : Nat :=
  (n.marked.filter fun k => decide (k / 65536 = l) && decide (k % 65536 < n.usedBlocks)).length

/-! ## Pages and codewords (R409) -/

/-- A codeword can be corrected: at most 40 bit errors (R409). -/
def eccGood (n : Nat) : Bool := decide (n ≤ 40)

/-- The page header in the first 32 bytes of the spare area: unit sequence, place in the unit, erase count of the block and the CRC-32 over them; the places of the fields are the model's (R409, assumption 43). -/
def pageHeader (unit place erases : Nat) : List Nat :=
  let h := bytesLE 8 unit ++ bytesLE 2 place ++ bytesLE 4 erases ++ List.replicate 14 0
  h ++ bytesLE 4 (crc32 h)

/-! ## Blocks (R420, R423, R424) -/

def Medium.block (m : Medium) (k : Nat) : NandBlock := Sparse.get {} m.blocks k
def Medium.modBlock (m : Medium) (k : Nat) (f : NandBlock → NandBlock) : Medium :=
  { m with blocks := Sparse.set {} m.blocks k (f (m.block k)) }

/-- Block b of LUN l may hold tables or records: it is not block 0, nor bad (R420, R421). -/
def Medium.good (m : Medium) (l b : Nat) : Bool :=
  decide (b ≠ 0) && decide (b < m.info.usedBlocks) && !m.info.marked.contains (blockKey l b) && !(m.block (blockKey l b)).grown

/-- The blocks of LUN l reserved for the copies of its bad-block table: the first two good ones after block 0 (R420). -/
def Medium.tables (m : Medium) (l : Nat) : List Nat := ((List.range m.info.usedBlocks).filter (m.good l)).take 2

/-- Blocks of LUN l that may hold records. -/
def Medium.usable (m : Medium) (l : Nat) : List Nat :=
  (List.range m.info.usedBlocks).filter fun b => m.good l b && !(m.tables l).contains b

/-- The erased pool of LUN l (R423). -/
def Medium.pool (m : Medium) (l : Nat) : List Nat := (m.usable l).filter fun b => decide ((m.block (blockKey l b)).used = 0)

/-- The first of a list with the least measure. -/
def leastOf (f : Nat → Nat) : List Nat → Option Nat
  | [] => none
  | a :: t =>
    match leastOf f t with
    | none => some a
    | some b => if f a ≤ f b then some a else some b

/-- The block allocated next on LUN l: of the erased pool the one erased least often (R423). -/
def Medium.fresh (m : Medium) (l : Nat) : Option Nat := leastOf (fun b => (m.block (blockKey l b)).erases) (m.pool l)

/-- A block is erased: its count of reads starts again (R424); a bad block is not. -/
def Medium.erase (m : Medium) (k : Nat) : Medium :=
  m.modBlock k fun b => if b.grown then b else { erases := b.erases + 1 }

/-- Block b of LUN l is allocated, with its first `n` pages programmed. -/
def Medium.allocate (m : Medium) (l b n : Nat) : Medium :=
  { m.modBlock (blockKey l b) fun x => { x with used := n, stamp := m.stamp } with stamp := m.stamp + 1 }

/-- The next erased page of LUN l: in its open block, else in a block freshly allocated (R410, R423). -/
def Medium.nextPage (m : Medium) (l : Nat) : Option PageAt × Medium :=
  let o := Sparse.get 0 m.openBlk l
  let x := m.block (blockKey l o)
  if o ≠ 0 ∧ x.used < m.info.ppb then
    (some { lun := l, block := o, page := x.used }, m.modBlock (blockKey l o) fun x => { x with used := x.used + 1 })
  else
    match m.fresh l with
    | none => (none, m)
    | some b => (some { lun := l, block := b, page := 0 }, { m.allocate l b 1 with openBlk := Sparse.set 0 m.openBlk l b })

/-- Block b of LUN l is not programmed any more. -/
def Medium.close (m : Medium) (l b : Nat) : Medium :=
  if Sparse.get 0 m.openBlk l = b then { m with openBlk := Sparse.set 0 m.openBlk l 0 } else m

/-! ## Commit units and records (R410, R414) -/

/-- Committed records that can be read, newest first. -/
def Medium.recs (m : Medium) : List Rec := m.log.flatMap fun u => u.recs.reverse

/-- Bytes common to [a, a + n) and [b, b + k). -/
def overlap (a n b k : Nat) : Nat := min (a + n) (b + k) - max a b

/-- The body bytes that the data page at place `p` of a unit carries. -/
def CommitUnit.pageSpan (u : CommitUnit) (bytes p : Nat) : Nat × Nat :=
  (u.first + p * bytes, min bytes (u.count - p * bytes))

/-- A record has bytes in the page at place `p` of the unit: of its body in a data page, its descriptor in the metadata page. -/
def CommitUnit.holds (u : CommitUnit) (bytes p : Nat) (r : Rec) : Bool :=
  if p < u.k then
    let w := u.pageSpan bytes p
    r.spans.any fun e => decide (overlap w.1 w.2 e.1 e.2 ≠ 0)
  else u.recs.contains r

/-- Bytes of a record's body that a unit's page map reaches. -/
def CommitUnit.bodyBytes (u : CommitUnit) (bytes : Nat) (r : Rec) : Nat :=
  (u.pages.filter fun e => decide (e.1 < u.k)).foldl (fun a e =>
    let w := u.pageSpan bytes e.1
    r.spans.foldl (fun a x => a + overlap w.1 w.2 x.1 x.2) a) 0

/-- The unit has its metadata page. -/
def CommitUnit.hasMeta (u : CommitUnit) : Bool := u.pages.any fun e => decide (e.1 = u.k)

/-- Every page of a record is there: that of its descriptor, and every one that carries bytes of its body (R410, R414). -/
def Medium.whole (m : Medium) (u : CommitUnit) (r : Rec) : Bool :=
  u.hasMeta && decide ((m.log.foldl (fun a v => a + v.bodyBytes m.info.pageBytes r) 0) = 8 * r.body.length)

/-- Records that lack a page are lost, and units without a page are gone. -/
def Medium.prune (m : Medium) : Medium :=
  { m with log := (m.log.map fun u => { u with recs := u.recs.filter (m.whole u) }).filter fun u => !u.pages.isEmpty }

/-- A record is KEEP and still current: the newest RCU record of its channel, the newest BOOT record (R423). -/
def Medium.current (m : Medium) (r : Rec) : Bool :=
  (r.flags.testBit 3 || decide (r.type = 4)) &&
  !m.recs.any fun n => decide (r.seq < n.seq) && decide (n.type = r.type) && (decide (r.type ≠ 3) || decide (n.body.getD 0 0 = r.body.getD 0 0))

/-- The page is in block b of LUN l. -/
def PageAt.within (p : PageAt) (l b : Nat) : Bool := decide (p.lun = l) && decide (p.block = b)

/-- A unit whose pages go where `f` says, or are gone. -/
def CommitUnit.redirect (u : CommitUnit) (f : PageAt → Option PageAt) : CommitUnit :=
  { u with pages := u.pages.filterMap fun e => (f e.2).map fun p => (e.1, p) }

/-- The pages of block b of LUN l that a unit's map names, as far as `keep` says. -/
def CommitUnit.pagesIn (u : CommitUnit) (l b : Nat) (keep : CommitUnit → Nat → Bool) : List PageAt :=
  (u.pages.filter fun e => e.2.within l b && keep u e.1).map fun e => e.2

/-! ## Moving and reclaiming blocks (R423–R425) -/

/-- Change the medium. -/
def Shard.modMed (x : Shard) (f : Medium → Medium) : Shard := { x with med := f x.med }

/-- The pages of block b of LUN l that `keep` names are copied to a fresh block; the others are gone, and the block is closed. False where the LUN has no erased block. -/
def Shard.copyOut (x : Shard) (l b : Nat) (keep : CommitUnit → Nat → Bool) : Bool × Shard :=
  let ps := (x.med.log ++ x.units).flatMap fun u => u.pagesIn l b keep
  let go := fun (d : Nat) (m : Medium) =>
    let f := fun (p : PageAt) =>
      if !p.within l b then some p
      else if ps.contains p then some { lun := l, block := d, page := ps.idxOf p } else none
    { x with units := x.units.map fun (u : CommitUnit) => u.redirect f,
             med := ({ m with log := m.log.map fun (u : CommitUnit) => u.redirect f }).close l b }
  if ps.isEmpty then (true, go 0 x.med)
  else match x.med.fresh l with
  | none => (false, x)
  | some d => (true, go d (x.med.allocate l d ps.length))

/-- Block b of LUN l is moved whole, and erased (R423, R424). -/
def Shard.moveBlock (x : Shard) (l b : Nat) : Shard :=
  let r := x.copyOut l b fun _ _ => true
  if r.1 then r.2.modMed fun m => m.erase (blockKey l b) else x

/-- Where the bodies lie of captures and records that no committed unit holds whole yet. -/
def Shard.openSpans (x : Shard) : List (Nat × Nat) :=
  (x.streams.flatMap fun e => e.2.spans) ++ (x.wbuf.flatMap fun e => e.2.spans) ++ x.units.flatMap fun u => u.recs.flatMap fun r => r.spans

/-- A page that a reclaim copies forward: of a unit in flight, of a KEEP record that is still current, of a record still open (R423). -/
def Shard.keepsPage (x : Shard) (u : CommitUnit) (p : Nat) : Bool :=
  let n := x.med.info.pageBytes
  let w := u.pageSpan n p
  x.units.contains u || (x.med.recs.filter x.med.current).any (u.holds n p) ||
    (decide (p < u.k) && x.openSpans.any fun e => decide (overlap w.1 w.2 e.1 e.2 ≠ 0))

/-- Block b of LUN l is reclaimed: KEEP records that are still current are copied forward; the other records with a page there are lost (R423). -/
def Shard.reclaim (x : Shard) (l b : Nat) : Shard :=
  let keep := x.keepsPage
  let r := x.copyOut l b keep
  if r.1 then r.2.modMed fun m => (m.erase (blockKey l b)).prune else x

/-- Blocks of LUN l that hold data, but for the one still open. -/
def Medium.holding (m : Medium) (l : Nat) : List Nat :=
  (m.usable l).filter fun b => decide ((m.block (blockKey l b)).used ≠ 0) && decide (Sparse.get 0 m.openBlk l ≠ b)

/-- While an allocation would leave fewer than 4 erased blocks on LUN l, the block with the oldest data is reclaimed; at most `n` of them (R423). -/
def Shard.makeRoom (x : Shard) (l : Nat) : Nat → Shard
  | 0 => x
  | n + 1 =>
    if 4 < (x.med.pool l).length then x
    else match leastOf (fun b => (x.med.block (blockKey l b)).stamp) (x.med.holding l) with
    | none => x
    | some b => (x.reclaim l b).makeRoom l n

/-- LUN l has room for an allocation. -/
def Shard.room (x : Shard) (l : Nat) : Shard := x.makeRoom l x.med.info.usedBlocks

/-- Pages for the places and LUNs listed; a page for which its LUN has no erased block is missing. -/
def Shard.placeAll (x : Shard) : List (Nat × Nat) → List (Nat × PageAt) × Shard
  | [] => ([], x)
  | (p, l) :: t =>
    let x := x.room l
    let r := x.med.nextPage l
    let y := Shard.placeAll { x with med := r.2 } t
    (match r.1 with
     | some a => (p, a) :: y.1
     | none => y.1, y.2)

/-- The LUNs of a mask, ascending. -/
def lunsOf (mask : Nat) : List Nat := below 4 fun l => mask.testBit l

/-- The LUNs of the k data pages and of the metadata page of the next unit: the LUNs in use in turn, so that the data pages lie on k different ones (R410, R411). -/
def Medium.unitSlots (m : Medium) (used k : Nat) : List (Nat × Nat) :=
  let l := lunsOf used
  (List.range (k + 1)).map fun p => (p, l.getD ((m.slot + p) % max 1 l.length) 0)

/-- Erase counts of the good blocks of the LUNs in use. -/
def Medium.counts (m : Medium) (used : Nat) : List Nat :=
  (lunsOf used).flatMap fun l => ((List.range m.info.usedBlocks).filter (m.good l)).map fun b => (m.block (blockKey l b)).erases

/-- Lowest and highest erase count (R429). -/
def Medium.wear (m : Medium) (used : Nat) : Nat × Nat :=
  match m.counts used with
  | [] => (0, 0)
  | a :: t => (t.foldl Nat.min a, t.foldl Nat.max a)

/-- Blocks that hold data, with their LUNs. -/
def Medium.dataBlocks (m : Medium) (used : Nat) : List (Nat × Nat) := (lunsOf used).flatMap fun l => (m.holding l).map fun b => (l, b)

/-- Static wear levelling: once the highest erase count exceeds the lowest of a block with data by `delta`, that block is copied and released (R423). -/
def Shard.level (x : Shard) (used delta : Nat) : Shard :=
  let m := x.med
  let count := fun (k : Nat) => (m.block k).erases
  match leastOf count ((m.dataBlocks used).map fun e => blockKey e.1 e.2) with
  | none => x
  | some k => if delta ≠ 0 ∧ count k + delta ≤ (m.wear used).2 then x.moveBlock (k / 65536) (k % 65536) else x

/-- A block is refreshed: its data moves to a fresh block, and it is erased; block 0 never is (R421, R424). -/
def Shard.refresh (x : Shard) (k : Nat) : Shard :=
  let y := if k % 65536 = 0 then x else (x.room (k / 65536)).moveBlock (k / 65536) (k % 65536)
  y.modMed fun m => { m with refresh := m.refresh.filter fun j => decide (j ≠ k) }

/-- A block becomes grown bad: it is in both copies of its LUN's table and is not programmed any more (R420). -/
def Medium.growBad (m : Medium) (l b : Nat) : Medium :=
  let m := m.modBlock (blockKey l b) fun x => { x with grown := true }
  { m.close l b with tabBad := setBit (setBit m.tabBad (2 * l) false) (2 * l + 1) false, refresh := m.refresh.filter fun j => decide (j ≠ blockKey l b) }

/-- Grown bad blocks of LUN l. -/
def Medium.grownOf (m : Medium) (l : Nat) : Nat := (m.blocks.filter fun e => decide (e.1 / 65536 = l) && e.2.grown).length

/-- A block is retired: its data moves, and it is grown bad; block 0 never is (R420, R421, R425). -/
def Shard.retire (x : Shard) (l b : Nat) : Shard :=
  if b = 0 then x else (((x.room l).copyOut l b fun _ _ => true).2).modMed fun m => m.growBad l b

/-! ## Format and mount (R407, R420, R421) -/

/-- A valid format header is somewhere on the medium. -/
def Medium.formatted (m : Medium) : Bool := m.headers.any fun e => decide (e.2.1 ≠ 0)

/-- Sequence and LUN set of the newest header among the LUNs of a mask (R421). -/
def Medium.newestHeader (m : Medium) (luns : Nat) : Nat × Nat :=
  (m.headers.filter fun e => luns.testBit e.1).foldl (fun a e => if a.1 ≤ e.2.1 then e.2 else a) (0, 0)

/-- The LUNs a mount uses: block 0 without the factory marker, its header good (not in `bad`), in the LUN set of the newest good header, not dropped before (R421). -/
def Medium.mountSet (m : Medium) (bad : Nat) : Nat :=
  let good := bitsOf m.info.lunCount fun l =>
    !m.info.badLun.testBit l && !bad.testBit l && decide ((Sparse.get (0, 0) m.headers l).1 ≠ 0)
  let set := (m.newestHeader good).2
  bitsOf m.info.lunCount fun l => good.testBit l && set.testBit l && !m.dropped.testBit l

/-- Some LUN in use has no copy of its bad-block table that reads (R420, assumption 43). -/
def Medium.noTable (m : Medium) (used : Nat) : Bool :=
  (lunsOf used).any fun l => m.tabBad.testBit (2 * l) && m.tabBad.testBit (2 * l + 1)

/-- The LUNs a format uses: none where the NAND is refused; all found but those whose block 0 carries the marker or failed (R407, R421). -/
def Medium.formatSet (m : Medium) (bad : Nat) : Nat :=
  if !m.info.ok then 0 else bitsOf m.info.lunCount fun l => !m.info.badLun.testBit l && !bad.testBit l

/-- The blocks after a format: every good block of the LUNs in use is erased; a bad one stays bad (R420). -/
def Medium.erasedBlocks (m : Medium) (set : Nat) : Sparse NandBlock :=
  (List.range 4).flatMap fun l => (List.range m.info.usedBlocks).filterMap fun b =>
    let k := blockKey l b
    let x := m.block k
    let y := if set.testBit l && !m.info.marked.contains k && !x.grown then { erases := x.erases + 1 } else x
    if y = {} then none else some (k, y)

/-- The medium after a format: no records, tables and then headers written on the LUNs of the set (R420, R421). -/
def Medium.format (m : Medium) (bad : Nat) : Medium :=
  let set := m.formatSet bad
  let seq := (m.newestHeader 15).1 + 1
  { m with
    headers := (lunsOf set).foldl (fun h l => Sparse.set (0, 0) h l (seq, set)) m.headers
    dropped := 0, tabBad := 0, blocks := m.erasedBlocks set, openBlk := [], log := [], torn := [], refresh := [] }

/-- A record has a data page on a LUN outside `used`. -/
def Medium.onDropped (m : Medium) (used : Nat) (r : Rec) : Bool :=
  m.log.any fun u => u.pages.any fun e => decide (e.1 < u.k) && !used.testBit e.2.lun && u.holds m.info.pageBytes e.1 r

/-- The unit's metadata page reads back good: it is on a LUN in use and not among the pages that failed (R410, R421). -/
def CommitUnit.metaReads (u : CommitUnit) (used : Nat) (failed : List PageAt) : Bool :=
  u.pages.any fun e => decide (e.1 = u.k) && used.testBit e.2.lun && !failed.contains e.2

/-- Torn units that a mount finds: those power loss left, and those whose metadata page does not read back good (R410, R421). -/
def Medium.tornAt (m : Medium) (used : Nat) (failed : List PageAt) : Nat :=
  m.torn.length + (m.log.filter fun u => !u.metaReads used failed).length

/-- A page of a unit of the log is in block b of LUN l. -/
def Medium.inUse (m : Medium) (l b : Nat) : Bool := m.log.any fun u => u.pages.any fun e => e.2.within l b

/-- The medium as a mount leaves it: only committed units with pages on LUNs in use; blocks that hold none of their pages, those of torn units among them, are erased before reuse; no block is open (R410, R421). -/
def Medium.mount (m : Medium) (used : Nat) (failed : List PageAt) : Medium :=
  let log := (m.log.filter fun u => u.metaReads used failed).map fun u =>
    u.redirect fun p => if used.testBit p.lun then some p else none
  let m := ({ m with log := log, torn := [], openBlk := [], dropped := m.info.allLuns - used }).prune
  (lunsOf used).foldl (fun m l => ((m.holding l).filter fun b => !m.inUse l b).foldl (fun m b => m.erase (blockKey l b)) m) m

end Sys2Proof.Machine
end

