-- ==== Sys2Proof/Machine/Shard.lean ====
section
/-! DEFINITION. The Shard log (R406–R429): records and snapshots, commit units under hold-up energy, inputs, mount, format, scrub and readout. -/

namespace Sys2Proof.Machine

open Sys2Proof

/-! ## Recorder states (R428 STATE) -/

def recIdle : Nat := 0
def recMounting : Nat := 1
def recFormatting : Nat := 2
def recActive : Nat := 3
def recParked : Nat := 4
def recStalled : Nat := 5
def recNoFmt : Nat := 6
def recNoNand : Nat := 7

def State.recState (s : State) : Nat := s.get R.REC_STAT_STATE
def State.setRec (s : State) (n : Nat) : State := s.put R.REC_STAT_STATE n

/-- Change the recorder's hidden state. -/
def State.modShard (s : State) (f : Shard → Shard) : State := { s with shard := f s.shard }
/-- Change the medium. -/
def State.modMed (s : State) (f : Medium → Medium) : State := s.modShard fun x => x.modMed f

/-- The recorder works in READY and RUN, unless it has stopped for a BANKED entry (R427, R435). -/
def State.recRuns (s : State) : Bool := s.dataUp && !s.stopped 7

/-- What the NAND does goes on: in READY and RUN, and in SAFE_HOLD (R419, R427). -/
def State.recAlive (s : State) : Bool := s.recRuns || decide (s.dev = .safeHold)

/-- LUNs in use, as a mask (R421). -/
def State.lunsUsed (s : State) : Nat := s.get R.NANDIF_LUNST_USED

/-- Data bytes of a full unit. -/
def State.unitBytes (s : State) : Nat := s.get R.NANDIF_STAT_K * s.shard.med.info.pageBytes

/-- Interface, timing mode and rate selected (R408). -/
def State.nandSelect (s : State) : Nat × Nat × Nat :=
  let n := s.shard.med.info
  let maxif := s.get R.NANDIF_CFG_MAXIF
  match [4, 3, 2, 1].find? fun c => decide (c ≤ maxif) && decide (n.rates c ≠ []) with
  | none => n.sdr0
  | some c =>
    let l := n.rates c
    let top := if c = maxif then min (l.length - 1) (s.get R.NANDIF_CFG_MAXTM) else l.length - 1
    if 3 ≤ n.mism ∨ top < n.mism then n.sdr0
    else (c, top - n.mism, l.getD (top - n.mism) 0)

/-! ## Records (R414) -/

/-- The 32-byte descriptor of a record, with its CRC over the body and its first 28 bytes. -/
def Rec.descriptor (r : Rec) : List Nat :=
  let h := bytesLE 2 0x5253 ++ [r.type, r.flags] ++ bytesLE 4 (8 * r.body.length) ++ bytesLE 8 r.seq ++ bytesLE 8 r.tsc
    ++ bytesLE 2 r.bootno ++ [0, 0]
  h ++ bytesLE 4 (crc32 ((r.body.flatMap fun w => bytesLE 8 w) ++ h))

/-- What a unit's metadata page holds: the page map, the descriptors of the records that closed in it, and a CRC-32 over both; how the map is laid out is the model's (R410, assumption 43). -/
def CommitUnit.metaBytes (u : CommitUnit) : List Nat :=
  let h := (u.pages.flatMap fun e => bytesLE 2 e.1 ++ bytesLE 1 e.2.lun ++ bytesLE 2 e.2.block ++ bytesLE 2 e.2.page) ++ u.recs.flatMap Rec.descriptor
  h ++ bytesLE 4 (crc32 h)

/-- Body bytes enter the write buffer (R416, R417). -/
def State.recBytes (s : State) (n : Nat) : State := s.modShard fun x => { x with inBytes := x.inBytes + n }

/-- A record closes: SEQ, TSC and BOOTNO as at close; `rest` bytes of its body enter the write buffer now, ahead in the body of those at `early` (R414, R417). -/
def State.recClose (s : State) (type flags : Nat) (body : List Nat) (rest : Nat) (early : List (Nat × Nat)) : State :=
  let x := s.shard
  let r : Rec := { type := type, flags := flags, body := body, seq := x.nextSeq, tsc := s.tsc, bootno := x.bootno, spans := (x.inBytes, rest) :: early }
  (s.recBytes rest).modShard fun x => { x with
    wbuf := x.wbuf ++ [(x.inBytes, r)], nextSeq := x.nextSeq + 1, closedAt := x.closedAt <|> some s.cycle }

/-! ## Commit units (R410, R411, R418) -/

/-- Body bytes waiting in the write buffer. -/
def Shard.waiting (x : Shard) : Nat := x.inBytes - x.outBytes

/-- INUNIT follows the units in flight (R428). -/
def State.recFlags (s : State) : State := s.putB R.REC_STAT_INUNIT (decide (s.shard.units ≠ []))

/-- Energy above Vmin in units of 10^-6 µJ (R418). -/
def State.holdEnergy (s : State) (mv : Nat) : Nat :=
  let vm := s.get R.REC_HOLD_HVMIN
  if mv ≤ vm then 0 else 5 * s.get R.REC_HOLD_HCAP * (mv * mv - vm * vm)

/-- ECMIN and ECMAX follow the medium (R429). -/
def State.wear (s : State) : State :=
  let w := s.shard.med.wear s.lunsUsed
  (s.put R.NANDIF_ECMIN_COUNT w.1).put R.NANDIF_ECMAX_COUNT w.2

/-- Static wear levelling, and the erase counts (R423, R429). -/
def State.levelWear (s : State) : State :=
  (s.modShard fun x => x.level s.lunsUsed (s.get R.NANDIF_WL_WLDELTA)).wear

/-- The unit that starts now: the bytes it takes from the front of the write buffer, the records that end in them, the pages it is to fill (R410, R411). -/
def State.unitNext (s : State) (pages : List (Nat × PageAt)) : CommitUnit :=
  let x := s.shard
  let n := min x.waiting s.unitBytes
  { seq := x.med.unitSeq, k := s.get R.NANDIF_STAT_K, first := x.outBytes, count := n
    recs := (x.wbuf.filter fun e => decide (e.1 ≤ x.outBytes + n)).map fun e => e.2
    pages := pages, meta_ := false, retries := 0, start := s.cycle }

/-- A unit starts: its pages are allocated in turn on the LUNs in use, and it leaves the write buffer (R410, R411, R423). -/
def State.unitTake (s : State) : State :=
  let r := s.shard.placeAll (s.shard.med.unitSlots s.lunsUsed (s.get R.NANDIF_STAT_K))
  let u := s.unitNext r.1
  let s := { s with shard := { r.2 with
    wbuf := r.2.wbuf.filter fun e => decide (u.first + u.count < e.1), outBytes := u.first + u.count, due := false, closedAt := none
    units := r.2.units ++ [u]
    med := { r.2.med with unitSeq := r.2.med.unitSeq + 1, slot := r.2.med.slot + u.k + 1 } } }
  ((s.clear R.REC_STAT_DEFER).recFlags).levelWear

/-- 100 µs in CORECLK cycles. -/
def recheckCycles : Nat := 60000

/-- The energy that R418 asks for a unit beside those in flight is there. -/
def State.unitPowered (s : State) (mv : Nat) : Bool :=
  decide (s.get R.REC_EREQ_EREQ * (1 + s.shard.units.length) * 1000000 ≤ s.holdEnergy mv)

/-- The hold-up check before a unit: it starts, or is deferred and checked again after 100 µs (R418). -/
def State.unitCheck (s : State) (mv : Nat) : State :=
  let s := (s.put R.REC_VHOLD_MV mv).put R.REC_EAVAIL_UJ (min (s.holdEnergy mv / 1000000) (2 ^ 32 - 1))
  if s.unitPowered mv then s.unitTake
  else
    let first := !s.on R.REC_STAT_DEFER
    let s := ((s.modShard fun x => { x with due := true, recheckAt := s.cycle + recheckCycles }).raise R.REC_STAT_DEFER).raise R.REC_STAT_DEFEV
    if first then s.bumpSat R.REC_CNT_DEFERCNT else s

/-- The recorder starts units: with a medium, in READY and RUN and in the drain window of SAFE_HOLD, unless it is to park (R419, R427, R431). One that is not enabled still commits what its buffer holds, the BOOT record among it. -/
def State.recStarts (s : State) : Bool :=
  (decide (s.recState = recActive) || (decide (s.recState = recIdle) && decide (s.get R.NANDIF_STAT_K ≠ 0))) && !s.shard.parking &&
  (s.recRuns || (decide (s.dev = .safeHold) && s.shard.draining))

/-- A unit may start beside those in flight: none, or one whose metadata page programs (R411). -/
def Shard.unitFree (x : Shard) : Bool :=
  match x.units with
  | [] => true
  | [u] => u.meta_
  | _ => false

/-- A unit is due: it is checked now where it may start; else it waits (R411). -/
def State.unitDue (s : State) (mv : Nat) : State :=
  if !s.recStarts then s
  else if s.shard.unitFree then s.unitCheck mv
  else s.modShard fun x => { x with due := true }

/-- k pages are full. -/
def State.unitFull (s : State) : Bool := decide (s.get R.NANDIF_STAT_K ≠ 0) && decide (s.unitBytes ≤ s.shard.waiting)

/-- A full unit is due once k pages are full (R411). -/
def State.unitIfFull (s : State) (mv : Nat) : State := if !s.shard.due && s.unitFull then s.unitDue mv else s

/-- A unit that waited for another one is checked, or a full one starts (R411). -/
def State.unitGoOn (s : State) (mv : Nat) : State :=
  if s.shard.due && !s.on R.REC_STAT_DEFER then s.unitDue mv else s.unitIfFull mv

/-- 2 ms have passed since a record closed with no unit started since (R411). -/
def State.unitLate (s : State) : Bool :=
  match s.shard.closedAt with
  | some c => decide (c + 1200000 ≤ s.cycle) && decide (s.shard.wbuf ≠ [])
  | none => false

/-- UNIT_TIMER: 2 ms after a record closed with no full unit since, its partial pages padded; VHOLD as measured (R411, R418). -/
def execUnitTimer (vhold : BitVec 16) (s : State) : Out :=
  .next (if s.unitLate && !s.shard.due then s.unitDue vhold.toNat else s)

/-- DEFER_RECHECK: 100 µs after the last check of a unit that is due; once one has started, the next full one is checked after 100 µs again (R418, its worked example). -/
def execDeferRecheck (vhold : BitVec 16) (s : State) : Out :=
  .next (
    if s.shard.due && decide (s.shard.recheckAt ≤ s.cycle) then
      let s := s.unitDue vhold.toNat
      if !s.shard.due && s.unitFull then s.modShard fun x => { x with due := true, recheckAt := s.cycle + recheckCycles } else s
    else s)

/-! ## Parking (R419, R427, R431) -/

/-- A state from which the recorder parks: not while it mounts or formats. -/
def State.recParks (s : State) : Bool :=
  decide (s.recState ≠ recMounting) && decide (s.recState ≠ recFormatting) && decide (s.recState ≠ recParked)

/-- No unit is in flight that could complete: none at all, or held in STALLED (R422). -/
def State.unitsOver (s : State) : Bool := s.shard.units.isEmpty || decide (s.recState = recStalled)

/-- The recorder parks once its units in flight have completed: interface sleep, BANKED entry, the end of the drain window (R419, R427, R431). -/
def State.recPark (s : State) : State :=
  if s.recParks && s.unitsOver && (s.shard.parking || (decide (s.dev = .safeHold) && !s.shard.draining)) then
    (s.modShard fun x => { x with parking := false, parkedFrom := s.recState }).setRec recParked
  else s

/-- The state a parked recorder returns to; one that was active or idle follows EN (R428). -/
def State.unparkState (s : State) : Nat :=
  let n := s.shard.parkedFrom
  if n = recActive ∨ n = recIdle then (if s.on R.REC_CFG_EN && decide (s.get R.NANDIF_STAT_K ≠ 0) then recActive else recIdle) else n

/-- The recorder is parked no more, nor to be. -/
def State.recUnpark (s : State) : State :=
  let s := s.modShard fun x => { x with parking := false }
  if s.recState = recParked then s.setRec s.unparkState else s

/-- A FORMAT that waited begins, in READY (R420, assumption 43). -/
def State.fmtStart (s : State) : State :=
  if s.shard.fmtWait then
    let s := s.modShard fun x => { x with fmtWait := false }
    if s.dev = .ready then (s.setRec recFormatting).clear R.REC_STAT_SCRUBBUSY else s
  else s

/-! ## Units in flight (R410, R411) -/

/-- Every page of a unit is placed. -/
def CommitUnit.placed (u : CommitUnit) : Bool := decide (u.pages.length = u.k + 1)

/-- The units in flight go on: not while the recorder is stalled (R422). -/
def State.unitsGo (s : State) : Bool := s.recAlive && decide (s.recState ≠ recStalled)

/-- The oldest unit whose data pages program has them all passed. -/
def dataPassed : List CommitUnit → List CommitUnit
  | [] => []
  | u :: t => if u.meta_ then u :: dataPassed t else if u.placed then { u with meta_ := true } :: t else u :: t

/-- DATA_PAGES_DONE: every data page of the oldest unit still writing its data has passed; the next unit may start (R410, R411). -/
def execDataPagesDone (vhold : BitVec 16) (s : State) : Out :=
  .next (
    if s.unitsGo && decide (s.shard.units ≠ []) then (s.modShard fun x => { x with units := dataPassed x.units }).unitGoOn vhold.toNat
    else s)

/-- UNIT_COMMITTED: the oldest unit's metadata page passes; it joins the log, and a unit that waited is due (R410, R411). -/
def execUnitCommitted (vhold : BitVec 16) (s : State) : Out :=
  .next (match s.shard.units with
    | [] => s
    | u :: t =>
      if u.meta_ && s.unitsGo then
        let s := (s.modShard fun x => { x with units := t, med := { x.med with log := u :: x.med.log } }).recFlags
        s.recPark.unitGoOn vhold.toNat
      else s)

/-! ## Failures (R420, R422) -/

/-- BBHIGH: a LUN's bad blocks exceed 5 % of its blocks (R420). -/
def State.bbHigh (s : State) : State :=
  s.putB R.REC_STAT_BBHIGH ((List.range s.shard.med.info.lunCount).any fun l =>
    decide (s.shard.med.info.usedBlocks < 20 * (s.get (R.NANDIF_BB_FACTORY l) + s.get (R.NANDIF_BB_GROWN l))))

/-- BB.GROWN of LUN l follows the medium (R429). -/
def State.grownReg (s : State) (l : Nat) : State := s.put (R.NANDIF_BB_GROWN l) (min (s.shard.med.grownOf l) 0xFFFF)

/-- Block b of LUN l becomes grown bad (R420). -/
def State.growBad (s : State) (l b : Nat) : State := ((s.modMed fun m => m.growBad l b).grownReg l).bbHigh

/-- The place of the page that a unit programs on LUN l: a data page, then the metadata page (R410). -/
def CommitUnit.programs (u : CommitUnit) (l : Nat) : Option (Nat × PageAt) :=
  u.pages.find? fun e => decide (e.2.lun = l) && (if u.meta_ then decide (e.1 = u.k) else decide (e.1 < u.k))

/-- The page at place `p` of unit `i` goes to the next erased block of its LUN (R422). -/
def Shard.relocate (x : Shard) (i p l : Nat) : Shard :=
  let x := x.room l
  let r := x.med.nextPage l
  { x with
    med := r.2
    units := x.units.modify i fun u => { u with
      retries := u.retries + 1
      pages := (u.pages.filter fun e => decide (e.1 ≠ p)) ++ (match r.1 with | some a => [(p, a)] | none => []) } }

/-- PROGRAM_FAIL of LUN l in the oldest or the second unit: its block is grown bad, and the page goes to the next erased block, at most PRETRY times per unit; beyond, the recorder stalls with it (R420, R422). -/
def execProgramFail (l : Fin 4) (second : Bool) (s : State) : Out :=
  .next (
    let i := if second then 1 else 0
    match s.shard.units[i]? with
    | none => s
    | some u =>
      match u.programs l.val with
      | none => s
      | some (p, a) =>
        if !s.unitsGo then s
        else
          let s := ((s.growBad l.val a.block).modShard fun x => x.relocate i p l.val).wear
          if s.get R.NANDIF_CFG_PRETRY ≤ u.retries then (s.setRec recStalled).recPark else s)

/-- ERASE_FAIL of a block of LUN l that an erase left: the block is retired and another one erased; with PRETRY = 0 the recorder stalls (R422). -/
def execEraseFail (l : Fin 4) (block : Nat) (s : State) : Out :=
  .next (
    let m := s.shard.med
    if !s.hasShard || !s.recAlive || !m.good l.val block || decide ((m.block (blockKey l.val block)).used ≠ 0) ||
        !(s.lunsUsed.testBit l.val || decide (s.recState = recFormatting)) then s
    else
      let s := ((s.growBad l.val block).modShard fun x => x.room l.val).wear
      if s.get R.NANDIF_CFG_PRETRY = 0 ∧ (s.recState = recActive ∨ s.recState = recIdle) then s.setRec recStalled else s)

/-- RESUME: leaves STALLED in READY or RUN (R422). -/
def execRecResume (req : Requester) (s : State) : Out :=
  .next (if s.mayWrite req && s.hasShard && s.recRuns && decide (s.recState = recStalled) then
      s.setRec (if s.on R.REC_CFG_EN then recActive else recIdle) else s)

/-! ## Reads of the medium (R409, R421, R424) -/

/-- The page that a read names. -/
def pageAt (r : PageRead) : PageAt := { lun := r.lun.val, block := r.block, page := r.page }

/-- The reads made of a page: again while a codeword is uncorrectable, at most `n` more times (R422). -/
def readAttempts : List (List Nat) → Nat → List (List Nat)
  | [], _ => []
  | e :: _, 0 => [e]
  | e :: t, n + 1 => if e.all eccGood then [e] else e :: readAttempts t n

/-- The reads made of a page under RRETRY. -/
def State.attempts (s : State) (r : PageRead) : List (List Nat) := readAttempts r.tries (s.get R.NANDIF_CFG_RRETRY)

/-- Bit errors by codeword in the last read made of a page. -/
def State.lastRead (s : State) (r : PageRead) : List Nat := (s.attempts r).getLast?.getD []

/-- A codeword of the page stays uncorrectable (R422). -/
def State.readFails (s : State) (r : PageRead) : Bool := !(s.lastRead r).all eccGood

/-- The page is programmed: an erased one reads as erased, without an error (R409). -/
def State.programmed (s : State) (p : PageAt) : Bool := decide (p.page < (s.shard.med.block (blockKey p.lun p.block)).used) || decide (p.block = 0)

/-- Reads of a block count (R424). -/
def State.countReads (s : State) (k n : Nat) : State := s.modMed fun m => m.modBlock k fun b => { b with reads := b.reads + n }

/-- A page is read: corrected and uncorrectable codewords count, and its block counts every read (R409, R422, R424). -/
def State.pageCount (s : State) (r : PageRead) : State :=
  let e := if s.programmed (pageAt r) then s.lastRead r else []
  let s := (s.addSat R.NANDIF_ECC_CORRCNT (e.filter fun n => decide (n ≠ 0) && eccGood n).length).addSat
    R.NANDIF_ECC_UECNT (e.filter fun n => !eccGood n).length
  s.countReads (blockKey r.lun.val r.block) (s.attempts r).length

/-- The count of a block has reached RDLIM; block 0 is never refreshed (R421, R424). -/
def State.readWorn (s : State) (k : Nat) : Bool :=
  let lim := s.get R.NANDIF_RDLIM_LIMIT
  decide (k % 65536 ≠ 0) && decide (lim ≠ 0) && decide (lim ≤ (s.shard.med.block k).reads)

/-- A read of the page corrected REFTH or more bits of one codeword (R424). -/
def State.readWeak (s : State) (r : PageRead) : Bool :=
  decide (r.block ≠ 0) && (s.attempts r).any fun e => e.any fun n => decide (s.get R.NANDIF_CFG_REFTH ≤ n) && eccGood n

/-- A block is refreshed, and the erase counts follow (R424, R429). -/
def State.refreshBlock (s : State) (k : Nat) : State := (s.modShard fun x => x.refresh k).wear

/-- A page is read, for a readout or the mount: at RDLIM its block is refreshed, at REFTH it is scheduled for refresh (R424). -/
def State.pageRead (s : State) (r : PageRead) : State :=
  let s := s.pageCount r
  let k := blockKey r.lun.val r.block
  if s.readWorn k then s.refreshBlock k
  else if s.readWeak r && !s.shard.med.refresh.contains k then s.modMed fun m => { m with refresh := m.refresh ++ [k] }
  else s

/-- The drain window ends: no further unit starts; the recorder parks once those in flight have committed (R419, R427). -/
def State.drainOver (s : State) : State :=
  if s.dev = .safeHold ∧ s.shard.draining = true ∧ s.shard.drainEnd ≤ s.cycle then
    ((s.modShard fun x => { x with draining := false, due := false }).clear R.REC_STAT_DEFER).recPark
  else s

/-- A scheduled refresh takes place once no unit is due or in flight (R424, assumption 43); the drain window runs (R427). -/
def State.shardTick (s : State) : State :=
  let s := match s.shard.med.refresh with
    | k :: _ => if s.recRuns && s.shard.units.isEmpty && !s.shard.due && decide (s.recState ≠ recParked) then s.refreshBlock k else s
    | [] => s
  s.drainOver

/-! ## Inputs (R412) -/

def State.inOn (s : State) (j : Nat) : Bool := s.on (R.REC_IN_EN j)
def State.inKind (s : State) (j : Nat) : Nat := s.get (R.REC_IN_KIND j)
def State.inQueue (s : State) (j : Nat) : Nat := s.get (R.REC_IN_QUEUE j)
def State.inStream (s : State) (j : Nat) : Nat := s.get (R.REC_IN_STREAM j)

/-- An input's queue names the recorder as consumer and is in packet mode. -/
def State.recQueueOk (s : State) (q : Nat) : Bool :=
  decide (s.get (R.QUE_QCFG_CONS q) = 0x0D) && s.qPacket q

/-- Input j clashes with another enabled input: same queue, or snapshot inputs of one stream. -/
def State.inClash (s : State) (j queue kind stream : Nat) : Bool :=
  (List.range 8).any fun i => decide (i ≠ j) && s.inOn i &&
    (decide (s.inQueue i = queue) || (decide (kind = 1) && decide (s.inKind i = 1) && decide (s.inStream i = stream)))

/-- A write of IN[j] is accepted; its queue and stream are checked once a mount has ended, which checks every input itself (R412, R428). -/
def State.inOk (s : State) (j v : Nat) : Bool :=
  let kind := slice v 8 3
  let q := slice v 16 5
  decide (kind ≤ 3) && (!s.shard.mounted || !v.testBit 31 || (s.recQueueOk q && !s.inClash j q kind (slice v 0 2)))

/-- An input that breaks a rule is disabled (R412). -/
def State.inDisable (s : State) (j : Nat) : State := (s.clear (R.REC_IN_EN j)).raise R.REC_STAT_CFGREJ

/-- At mount every enabled input is checked (R412): of two that clash both are disabled. -/
def State.inCheckAll (s : State) : State :=
  let bad := (List.range 8).filter fun j => s.inOn j &&
    (!s.recQueueOk (s.inQueue j) || s.inClash j (s.inQueue j) (s.inKind j) (s.inStream j))
  bad.foldl State.inDisable s

/-- After a QCFG write that follows a mount, inputs whose queue no longer fits are disabled (R412). -/
def State.inAfterQcfg (s : State) (q : Nat) : State :=
  (List.range 8).foldl (fun s j => if s.shard.mounted && s.inOn j && decide (s.inQueue j = q) && !s.recQueueOk q then s.inDisable j else s) s

/-! ## Snapshots (R415, R416) -/

def State.stream (s : State) (n : Nat) : Stream := Sparse.get {} s.shard.streams n

/-- The stream is enabled: an enabled snapshot input names it. -/
def State.streamOn (s : State) (n : Nat) : Bool :=
  (List.range 8).any fun j => s.inOn j && decide (s.inKind j = 1) && decide (s.inStream j = n)

/-- Set a stream; SNAPST.FILL and CAPT follow (R428). -/
def State.setStream (s : State) (n : Nat) (x : Stream) : State :=
  ((s.modShard fun y => { y with streams := Sparse.set {} y.streams n x }).put (R.REC_SNAPST_FILL n) x.ring.length).putB
    (R.REC_SNAPST_CAPT n) x.capturing

/-- Bytes of a stored row: meta, control and channel words (R415). -/
def rowBytes (nch : Nat) : Nat := 16 + 8 * ((nch + 1) / 2)

/-- The meta word of a row: header TSC[39:0], SEQ, DROPPED, POISON and GAP (R415); their places are the model's. -/
def rowMeta (hdr : Nat) (poison gap : Bool) : Nat :=
  slice hdr 24 40 + slice hdr 16 8 * 2 ^ 40 + (if hdr.testBit 1 then 2 ^ 48 else 0)
    + (if poison then 2 ^ 49 else 0) + (if gap then 2 ^ 50 else 0)

/-- A row's POISON and GAP as record flags (R414). -/
def rowFlags (rows : List (List Nat)) : Nat :=
  (if rows.any (fun r => (r.getD 0 0).testBit 49) then 1 else 0) + (if rows.any (fun r => (r.getD 0 0).testBit 50) then 2 else 0)

/-- The capture closes: its record, and an empty ring (R416). -/
def State.snapClose (s : State) (n : Nat) (trunc : Nat) : State :=
  let x := s.stream n
  let nch := s.get (R.REC_SNAP_NCH n)
  let post := x.cap.length - x.preact - 1
  let b0 := n + nch * 2 ^ 8 + x.preact * 2 ^ 16 + post * 2 ^ 32 + x.src * 2 ^ 48
  let s := s.recClose 1 (rowFlags x.cap + trunc) (b0 :: 0 :: x.cap.flatten) 16 x.spans
  (s.setStream n { x with ring := [], cap := [], spans := [], capturing := false, preact := 0, src := 0, waitRow := none }).clear
    (R.REC_SNAPST_POSTLEFT n)

/-- `n` bytes that enter the write buffer now follow the spans listed. -/
def addSpan (at_ n : Nat) : List (Nat × Nat) → List (Nat × Nat)
  | [] => [(at_, n)]
  | [(a, k)] => if a + k = at_ then [(a, k + n)] else [(a, k), (at_, n)]
  | e :: t => e :: addSpan at_ n t

/-- A row of a capturing stream goes to the page buffers (R416). -/
def State.snapRow (s : State) (n : Nat) (row : List Nat) : State :=
  let x := s.stream n
  let left := s.get (R.REC_SNAPST_POSTLEFT n) - 1
  let bytes := 8 * row.length
  let s := ((s.setStream n { x with cap := x.cap ++ [row], spans := addSpan s.shard.inBytes bytes x.spans }).put
    (R.REC_SNAPST_POSTLEFT n) left).recBytes bytes
  if left = 0 then s.snapClose n 0 else s

/-- The trigger row: it and the rows of the ring go to the page buffers (R416). -/
def State.snapStart (s : State) (n src : Nat) (row : List Nat) : State :=
  let x := s.stream n
  let post := s.get (R.REC_SNAP_POST n)
  let bytes := 8 * (x.ring.flatten.length + row.length)
  let s := (s.setStream n { x with
    ring := [], cap := x.ring ++ [row], spans := [(s.shard.inBytes, bytes)], capturing := true, preact := x.ring.length, src := src, waitRow := none }).put
    (R.REC_SNAPST_POSTLEFT n) post
  let s := s.recBytes bytes
  if post = 0 then s.snapClose n 0 else s

/-- A trigger of stream s by the Cone or the register: the next row becomes the trigger row; while capturing it is skipped (R416). -/
def State.snapTrig (s : State) (n src : Nat) : State :=
  let x := s.stream n
  if x.capturing then s.raise (R.REC_SNAPST_TRIGSKIP n)
  else if s.streamOn n && decide (x.waitRow = none) then s.setStream n { x with waitRow := some src }
  else s

/-- A dropped packet or row (R412, R415). -/
def State.recGap (s : State) : State := (s.raise R.REC_STAT_GAP).bumpSat R.REC_CNT_GAPCNT

/-- The next row of stream n carries GAP. -/
def State.streamGap (s : State) (n : Nat) : State := s.recGap.setStream n { s.stream n with gap := true }

/-- A row packet of stream n (R415, R416). -/
def State.takeRow (s : State) (n hdr : Nat) (ws : List Nat) (poison : Bool) : State :=
  if ws.length ≠ 1 + (s.get (R.REC_SNAP_NCH n) + 1) / 2 then (s.raise (R.REC_SNAPST_ROWBAD n)).streamGap n
  else
    let x := s.stream n
    let row := rowMeta hdr poison x.gap :: ws
    let s := s.setStream n { x with gap := false }
    let trig := (ws.getD 0 0).testBit 0
    if x.capturing then (if trig then s.raise (R.REC_SNAPST_TRIGSKIP n) else s).snapRow n row
    else match x.waitRow with
    | some c => s.snapStart n c row
    | none =>
      if trig then s.snapStart n 1 row
      else
        let r := x.ring ++ [row]
        s.setStream n { x with gap := false, ring := r.drop (r.length - s.get (R.REC_SNAP_PRE n)) }

/-- TRIG: a write of REC.CMD.TRIG (R416). -/
def execRecTrig (req : Requester) (mask : BitVec 4) (s : State) : Out :=
  .next (
    if s.mayWrite req && s.hasShard && s.recRuns then
      (below 4 fun n => mask.toNat.testBit n).foldl (fun s n => s.snapTrig n 3) s
    else s)

/-! ## Input packets (R412, R413, R417) -/

/-- GAP of input j's next record. -/
def State.inputGap (s : State) (j : Nat) : State :=
  s.recGap.modShard fun x => { x with gapIn := setBit x.gapIn j true }

/-- Record flags of a packet of input j; the pending GAP is taken. -/
def State.inputRec (s : State) (j type keep : Nat) (body : List Nat) (poison : Bool) : State :=
  let g := s.shard.gapIn.testBit j
  let s := s.modShard fun x => { x with gapIn := setBit x.gapIn j false }
  s.recClose type ((if poison then 1 else 0) + (if g then 2 else 0) + keep) body (8 * body.length) []

/-- A Cone event packet (R413). -/
def State.coneEvent (s : State) (j w0 : Nat) (pl : List Nat) (poison : Bool) : State :=
  let t := w0 % 256
  if t = 0 then s.inputGap j
  else if t = 0x10 then s.snapTrig (slice w0 8 2) 2
  else if t = 0x20 then
    if pl.length = 1025 ∧ pl.getD 0 8 < 8 then s.inputRec j 3 8 pl poison else s.inputGap j
  else s.inputRec j 5 0 pl poison

/-- A whole packet of input j: its header word, its payload. A row stores header and payload, so that a poisoned word of either sets its POISON (R412, R415). -/
def State.takePacket (s : State) (j : Nat) (ents : List QEntry) : State :=
  let hdr := match ents with | e :: _ => e.word | [] => 0
  let pl := ents.filter fun e => decide (e.mark = markData) || decide (e.mark = markEnd)
  let aborted := ents.any fun e => decide (e.mark = markAbort)
  let ws := pl.map fun e => e.word
  let poison := pl.any fun e => e.bad
  match s.inKind j with
  | 1 => if aborted then s.streamGap (s.inStream j) else s.takeRow (s.inStream j) hdr ws (ents.any fun e => e.bad)
  | 2 => if aborted || decide (ws.length ≠ 4) then s.inputGap j else s.inputRec j 2 0 ws poison
  | 3 => (match ws with
    | [] => s.inputGap j
    | w0 :: t => if aborted then s.inputGap j else s.coneEvent j w0 t poison)
  | _ => s

/-- Bytes that no unit has taken, descriptors included. -/
def Shard.heldBytes (x : Shard) : Nat := x.waiting + 32 * x.wbuf.length

/-- Bytes in the write buffer (R417). -/
def Shard.bufBytes (x : Shard) : Nat := min x.heldBytes 524288

/-- Bytes of a ring whose trigger has come that still stand in the ring's SRAM: they follow as units make room in the buffer, and REC pops nothing until they have (R416, R417, assumption 43). -/
def Shard.ringBytes (x : Shard) : Nat := x.heldBytes - 524288

/-- What the largest packet of an input adds to the write buffer (R417): a row, with the head and the descriptor of the record it may close; a change-log entry; what a Cone event's queue can hold. -/
def State.inLargest (s : State) (j : Nat) : Nat :=
  match s.inKind j with
  | 1 => rowBytes (s.get (R.REC_SNAP_NCH (s.inStream j))) + 48
  | 2 => 64
  | _ => 8 * s.qCap (s.inQueue j) + 32

/-- Input j is served: enabled, with something deliverable and room; in the drain window only change log and Cone events (R412, R417, R427). -/
def State.inReady (s : State) (j : Nat) : Bool :=
  s.inOn j && decide (s.inKind j ≠ 0) && s.deliverable (s.inQueue j) &&
  decide (s.shard.heldBytes + s.inLargest j ≤ 524288) && (decide (s.dev ≠ .safeHold) || decide (s.inKind j ≠ 1))

/-- Take the entries of one packet of input j, as far as they can be delivered; an empty packet is one of no words. -/
def State.recTake (s : State) (j : Nat) : Nat → State
  | 0 => s
  | n + 1 =>
    match s.qPop (s.inQueue j) with
    | (none, s) => s
    | (some e, s) =>
      let p := Sparse.get [] s.shard.part j ++ [e]
      let put := fun (l : List QEntry) => s.modShard fun x => { x with part := Sparse.set [] x.part j l }
      if e.mark = markHdr then (if e.word.testBit 0 then s.takePacket j [e] else (put [e]).recTake j n)
      else if e.mark = markData then (put p).recTake j n
      else (put []).takePacket j p

/-- INPUT_PACKET: the next input in round-robin order gives a packet; a full unit starts (R411, R412). -/
def execInputPacket (vhold : BitVec 16) (s : State) : Out :=
  .next (
    if s.hasShard && decide (s.recState = recActive) && s.on R.REC_CFG_EN && s.recStarts then
      match ((List.range 8).map fun i => (s.shard.rr + 1 + i) % 8).find? s.inReady with
      | none => s
      | some j =>
        ((s.modShard fun x => { x with rr := j }).recTake j ((s.queue (s.inQueue j)).ents.length)).unitIfFull vhold.toNat
    else s)

/-! ## Mount and format (R407, R420, R421) -/

/-- READY is entered from WEDGING: the mount begins (R407). -/
def State.recMount (s : State) : State := if s.hasShard then s.setRec recMounting else s

/-- LUNs in use and dropped (R421, R429). -/
def State.setLuns (s : State) (used dropped : Nat) : State :=
  ((s.put R.NANDIF_LUNST_USED used).put R.NANDIF_LUNST_DROP dropped).put R.NANDIF_STAT_NLUN (popCount used)

/-- The interface that R408 selects, k over the LUNs of `used`, and the geometry (R411, R429). -/
def State.nandRegs (s : State) (used : Nat) : State :=
  let n := s.shard.med.info
  let sel := s.nandSelect
  let pg := if n.pageKiB = 2 then 1 else if n.pageKiB = 4 then 2 else if n.pageKiB = 8 then 3 else 4
  let s := ((s.put R.NANDIF_STAT_IFACE sel.1).put R.NANDIF_STAT_TMODE sel.2.1).put R.NANDIF_STAT_MTS sel.2.2
  let s := s.put R.NANDIF_STAT_K (n.unitK sel.2.2 (popCount used))
  ((s.put R.NANDIF_GEOM_PGSZ pg).put R.NANDIF_GEOM_PPB n.ppb).put R.NANDIF_GEOM_BLKS n.usedBlocks

/-- The bad blocks of the tables (R429). -/
def State.badRegs (s : State) : State :=
  ((List.range 4).foldl (fun s l => (s.put (R.NANDIF_BB_FACTORY l) (s.shard.med.info.factory l)).grownReg l) s).bbHigh

/-- The registers with the LUNs of `used` in use, the others dropped. -/
def State.lunRegs (s : State) (used : Nat) : State :=
  ((s.setLuns used (s.shard.med.info.allLuns - used)).nandRegs used).badRegs.wear

/-- A capture that a format ends: its rows are dropped, which sets GAP (R412, assumption 43). -/
def State.captureDrop (s : State) (n : Nat) : State :=
  let x := s.stream n
  if x.capturing then
    ((s.streamGap n).setStream n { gap := true }).clear (R.REC_SNAPST_POSTLEFT n)
  else s

/-- The medium is formatted: no records, those of the write buffer dropped with it, SEQ from 1 (R414, R420, R421). -/
def State.formatted (s : State) (bad : Nat) : State :=
  let set := s.shard.med.formatSet bad
  let s := (List.range 4).foldl State.captureDrop s
  let s := s.modShard fun x => { x with
    med := x.med.format bad, units := [], wbuf := [], outBytes := x.inBytes, due := false, closedAt := none, nextSeq := 1 }
  ((s.clear R.REC_STAT_DEFER).lunRegs set).recFlags

/-- No LUN is left, or no unit fits in 1.4 ms (R411, R421). -/
def State.noNand (s : State) : Bool :=
  decide (s.get R.NANDIF_STAT_NLUN = 0) || decide (s.get R.NANDIF_STAT_K = 0)

/-- Where the recorder goes once the medium is ready. -/
def State.recReady (s : State) : State :=
  if s.noNand then s.setRec recNoNand else s.setRec (if s.on R.REC_CFG_EN then recActive else recIdle)

/-- The BOOT record (R414): interface and mode, torn units, grown bad blocks, LUNs dropped. -/
def State.bootRecord (s : State) (torn : Nat) : State :=
  let grown := (List.range 4).foldl (fun n l => n + s.get (R.NANDIF_BB_GROWN l)) 0
  let im := s.get R.NANDIF_STAT_IFACE * 2 ^ 28 + s.get R.NANDIF_STAT_TMODE * 2 ^ 24
  s.recClose 4 8 [im + torn * 2 ^ 32, grown + s.get R.NANDIF_LUNST_DROP * 2 ^ 32] 16 []

/-- The newest committed SEQ and boot count. -/
def Medium.newest (m : Medium) : Nat × Nat :=
  match m.recs with
  | [] => (0, 0)
  | r :: _ => (r.seq, r.bootno)

/-! ## Readout (R426) -/

/-- The records that can be read: none without a formatted medium that serves. -/
def State.readable (s : State) : List Rec :=
  if s.recState = recNoFmt ∨ s.recState = recNoNand ∨ s.recState = recFormatting then [] else s.shard.med.recs

/-- The record that RDSEL and RDARG select. -/
def State.rdFind (s : State) : Option Rec :=
  if s.get R.REC_RDSEL_MODE = 1 then s.readable.find? fun r => decide (r.seq % 2 ^ 32 = s.get R.REC_RDARG_SEQ)
  else (s.readable.filter fun r => decide (r.type = s.get R.REC_RDSEL_TYPE))[s.get R.REC_RDSEL_BACK]?

/-- A readout begins, or ends at once with its result. -/
def State.rdStart (s : State) : State :=
  match s.prodQueue 0x0A with
  | none => s.put R.REC_RDSTAT_RESULT 3
  | some _ =>
    match s.rdFind with
    | none => s.put R.REC_RDSTAT_RESULT 1
    | some r =>
      let s := ((s.put R.REC_RDSTAT_RESULT 0).put R.REC_RDSTAT_PKTS 0).put R.REC_RDLEN_LEN (8 * r.body.length)
      (s.raise R.REC_STAT_RDBUSY).modShard fun x => { x with rd := some (r, 0) }

/-- READ: REC.CMD.READ; during the mount it waits for its end (R426). -/
def execShardRead (req : Requester) (s : State) : Out :=
  .next (
    if s.mayWrite req && s.hasShard && s.recRuns then
      if s.on R.REC_STAT_RDBUSY || s.shard.rdWait then s.put R.REC_RDSTAT_RESULT 2
      else if s.recState = recMounting then s.modShard fun x => { x with rdWait := true }
      else s.rdStart
    else s)

/-- The readout is over. -/
def State.rdEnd (s : State) (result : Nat) : State :=
  ((s.put R.REC_RDSTAT_RESULT result).clear R.REC_STAT_RDBUSY).modShard fun x => { x with rd := none }

/-- The words of a record as a readout pushes them: descriptor, body (R426). -/
def Rec.words (r : Rec) : List Nat := bytesToWords r.descriptor ++ r.body

/-- The words still to be pushed. -/
def Shard.rdWords (x : Shard) : List Nat :=
  match x.rd with
  | some (r, n) => r.words.drop n
  | none => []

/-- The byte at which body byte `n` of a record entered the write buffer. -/
def spanByte : List (Nat × Nat) → Nat → Nat
  | [], n => n
  | (a, k) :: t, n => if n < k then a + n else spanByte t (n - k)

/-- The page and the codeword of a byte that a committed unit took from the write buffer (R409, R410). -/
def Medium.byteAt (m : Medium) (p : Nat) : Option (PageAt × Nat) :=
  match m.log.find? fun u => decide (u.first ≤ p) && decide (p < u.first + u.count) with
  | none => none
  | some u =>
    let o := p - u.first
    (u.pages.find? fun e => decide (e.1 < u.k) && decide (e.1 = o / m.info.pageBytes)).map fun e => (e.2, o % m.info.pageBytes / 1024)

/-- The metadata page that holds a record's descriptor. -/
def Medium.descriptorAt (m : Medium) (r : Rec) : Option PageAt :=
  match m.log.find? fun u => u.recs.contains r with
  | none => none
  | some u => (u.pages.find? fun e => decide (e.1 = u.k)).map fun e => e.2

/-- Word `i` of a record cannot be read: its page is gone, or its codeword stays uncorrectable in one of the page reads; a metadata page serves only whole (R410, R422). -/
def State.wordBad (s : State) (reads : List PageRead) (r : Rec) (i : Nat) : Bool :=
  let m := s.shard.med
  if i < 4 then
    match m.descriptorAt r with
    | none => true
    | some p => reads.any fun q => decide (pageAt q = p) && s.readFails q
  else
    match m.byteAt (spanByte r.spans (8 * (i - 4))) with
    | none => true
    | some (p, c) => reads.any fun q => decide (pageAt q = p) && !eccGood ((s.lastRead q).getD c 0)

/-- The first of the next packet's words that cannot be read (R426). -/
def State.rdBad (s : State) (reads : List PageRead) (n : Nat) : Option Nat :=
  match s.shard.rd with
  | none => none
  | some (r, k) => (List.range n).find? fun i => s.wordBad reads r (k + i)

/-- The free entries a packet of `n` words needs: its header besides, and under DROP_WORD what its opening takes (R350, R356). -/
def State.rdNeed (s : State) (q n : Nat) : Nat :=
  if !s.qPacket q then n else if s.qDropPacket q then n + 1 else max (n + 1) 3

/-- A packet that ends in ABORT after the words listed; one that breaks off at its first word is a header and an ABORT (R354, R426). -/
def State.abortPacket (s : State) (q : Nat) (ws : List Nat) : State :=
  if !s.qPacket q then ws.foldl (fun s w => s.qPush q w false) s
  else if ws = [] then
    let h := entry (s.hdrWord q false) markHdr
    (s.modQueue q fun x => { x with
      ents := x.ents ++ [h, entry 0 markAbort], seq := (x.seq + 1) % 256, dropped := false }).bumpSat R.REC_RDSTAT_PKTS
  else ((ws.foldl (fun s w => s.qPush q w false) s).qAbort q).bumpSat R.REC_RDSTAT_PKTS

/-- A readout makes progress: it works on the NAND, which is neither parked nor being mounted or formatted (R426, R431). -/
def State.rdRuns (s : State) : Bool :=
  s.on R.REC_STAT_RDBUSY && s.recRuns && decide (s.recState ≠ recParked) && decide (s.recState ≠ recFormatting)

/-- READOUT_PUSH: the next packet of at most 512 words, once the queue has room; `reads` are the pages read for it. At a word that cannot be read the packet ends in ABORT (R422, R424, R426). -/
def execReadoutPush (reads : List PageRead) (s : State) : Out :=
  .next (
    if !s.rdRuns then s
    else match s.prodQueue 0x0A with
    | none => s.rdEnd 3
    | some q =>
      let ws := s.shard.rdWords.take 512
      if s.qRoom q < s.rdNeed q ws.length || s.dprDue.isSome then s
      else
      let bad := s.rdBad reads ws.length
      let s := reads.foldl State.pageRead s
      match bad with
      | some i => (s.abortPacket q (ws.take i)).rdEnd 4
      | none =>
        let s := (s.qPacketPush q ws).put R.REC_RDSTAT_PKTS (s.get R.REC_RDSTAT_PKTS + 1)
        let s := s.modShard fun x => { x with rd := x.rd.map fun e => (e.1, e.2 + 512) }
        if s.shard.rdWords = [] then s.rdEnd 0 else s)

/-! ## End of mount, format, scrub -/

/-- A mount has ended, whatever its state: the inputs are checked, a waiting readout proceeds, a waiting FORMAT begins; where the drain window is over or sleep was asked, the recorder parks (R412, R426, R427). -/
def State.mountEnd (s : State) : State :=
  let wait := s.shard.rdWait
  let s := (s.modShard fun x => { x with mounted := true, rdWait := false }).inCheckAll
  let s := if wait then s.rdStart else s
  s.fmtStart.recPark

/-- The mount reads block 0 of each LUN once, and the pages in `reads` (R421, R424). -/
def State.mountReads (s : State) (reads : List PageRead) : State :=
  let s := s.each (below s.shard.med.info.lunCount fun l => !reads.any fun r => decide (r.lun.val = l) && decide (r.block = 0)) fun s l =>
    s.countReads (blockKey l 0) 1
  reads.foldl State.pageRead s

/-- The medium serves: records follow the newest SEQ, the boot count rises, the BOOT record is written, the scrub begins (R414, R425). -/
def State.mountServes (s : State) (torn : Nat) : State :=
  if s.noNand then s
  else
    let top := s.shard.med.newest
    let s := s.modShard fun x => { x with nextSeq := max x.nextSeq (top.1 + 1), bootno := (top.2 + 1) % 2 ^ 16 }
    let s := s.bootRecord torn
    if s.on R.REC_CFG_SCRUBEN then s.raise R.REC_STAT_SCRUBBUSY else s

/-- The mount of a formatted medium: LUNs that cannot serve are dropped, with the records that have a page there; torn units are counted (R410, R421). -/
def State.mountLog (s : State) (used : Nat) (reads : List PageRead) : State :=
  let m := s.shard.med
  let failed := (reads.filter s.readFails).map pageAt
  let gone := (m.recs.filter (m.onDropped used)).length
  let s := (s.modMed fun m => m.mount used failed).lunRegs used
  let s := if s.get R.NANDIF_LUNST_DROP ≠ 0 then s.put R.NANDIF_SCRUB_LOST (min gone 0xFFFF) else s
  s.recReady.mountServes (m.tornAt used failed)

/-- MOUNT_COMPLETE: `bad` names the LUNs whose header is not good (or, where the mount formats, whose block 0 fails), `tabs` the copies of bad-block tables that do not read, `reads` the pages that the mount read (R407, R412, R414, R420, R421, R425, R426). -/
def execMountComplete (bad : BitVec 4) (tabs : BitVec 8) (reads : List PageRead) (s : State) : Out :=
  .next (
    let n := s.shard.med.info
    if !s.hasShard ∨ s.recState ≠ recMounting ∨ s.recAlive = false then s
    else if !n.ok ∨ n.found = 0 then (s.setRec recNoNand).mountEnd
    else
      let s := s.modMed fun m => { m with tabBad := Nat.lor m.tabBad tabs.toNat }
      let s := s.mountReads reads
      let m := s.shard.med
      let used := m.mountSet bad.toNat
      if m.formatted && !m.noTable used then (s.mountLog used reads).mountEnd
      else if s.on R.REC_CFG_AUTOFMT then (((s.formatted bad.toNat).recReady).mountServes 0).mountEnd
      else
        let all := n.allLuns - Nat.land n.allLuns n.badLun
        (((s.setLuns all (n.allLuns - all)).nandRegs all).setRec recNoFmt).mountEnd)

/-- FORMAT: its start, in READY only, held while the mount runs or the recorder sleeps; and its end with the LUNs whose block 0 failed. A readout that ran finds its record no more (R420, R421, R426, assumption 43). -/
def execNandFormat (req : Requester) (ph : FormatPhase) (s : State) : Out :=
  .next (
    match ph with
    | .start =>
      if s.mayWrite req && s.hasShard && s.recRuns && decide (s.dev = .ready) && decide (s.recState ≠ recFormatting) then
        let s := s.modShard fun x => { x with fmtWait := true }
        if s.recState = recMounting ∨ s.recState = recParked then s else s.fmtStart
      else s
    | .done bad =>
      if s.recState = recFormatting ∧ s.recAlive = true then
        let s := (s.formatted bad.toNat).recReady
        (if s.on R.REC_STAT_RDBUSY then s.rdEnd 1 else s).recPark
      else s)

/-- Pages of committed units. -/
def Medium.logPages (m : Medium) : List PageAt := m.log.flatMap fun u => u.pages.map fun e => e.2

/-- A record holds a word that a page read cannot give. -/
def State.recBad (s : State) (reads : List PageRead) (r : Rec) : Bool := (List.range (4 + r.body.length)).any (s.wordBad reads r)

/-- Every committed page is read once by the scrub, those in `reads` with the errors they show (R425). -/
def State.scrubReads (s : State) (reads : List PageRead) : State :=
  let clean := s.shard.med.logPages.filter fun p => !reads.any fun r => decide (pageAt r = p)
  reads.foldl State.pageCount (clean.foldl (fun s p => s.countReads (blockKey p.lun p.block) 1) s)

/-- SCRUB: the retention scrub ends; it never runs while a unit is due. `reads` are its reads of committed pages that showed errors: records with an uncorrectable codeword are lost and its block retired; a block at RDLIM or with REFTH corrections is refreshed, once (R424, R425). -/
def execNandScrub (reads : List PageRead) (s : State) : Out :=
  .next (
    if s.on R.REC_STAT_SCRUBBUSY && s.recRuns && !s.shard.due && (decide (s.recState = recActive) || decide (s.recState = recIdle)) then
      let reads := reads.filter fun r => s.shard.med.logPages.contains (pageAt r)
      let lost := s.shard.med.recs.filter (s.recBad reads)
      let s := s.scrubReads reads
      let bad := ((reads.filter fun r => s.readFails r && decide (r.block ≠ 0)).map fun r => blockKey r.lun.val r.block).eraseDups
      let keys := (s.shard.med.logPages.map fun p => blockKey p.lun p.block).eraseDups
      let weak := keys.filter fun k => !bad.contains k &&
        (s.readWorn k || reads.any fun r => decide (blockKey r.lun.val r.block = k) && s.readWeak r)
      let s := s.modMed fun m => { m with log := m.log.map fun u => { u with recs := u.recs.filter fun r => !lost.contains r } }
      let s := s.modShard fun x => weak.foldl Shard.refresh (bad.foldl (fun x k => x.retire (k / 65536) (k % 65536)) x)
      let s := (s.put R.NANDIF_SCRUB_REFRESHED (min weak.length 0xFFFF)).put R.NANDIF_SCRUB_LOST (min lost.length 0xFFFF)
      (s.badRegs.levelWear).clear R.REC_STAT_SCRUBBUSY
    else s)

/-! ## Device states (R419, R427, R468) -/

/-- Captures close truncated in ascending input order (R414, R427). -/
def State.closeCaptures (s : State) : State :=
  let order := (below 8 fun j => s.inOn j && decide (s.inKind j = 1)).map s.inStream ++ List.range 4
  s.each order fun s n => if (s.stream n).capturing then s.snapClose n 4 else s

/-- SAFE_HOLD is entered: captures close truncated, rings clear, the drain window begins, out of interface sleep (R427, R432). -/
def State.recHold (s : State) : State :=
  if !s.hasShard then s
  else
    let s := s.closeCaptures.each (List.range 4) fun s n => s.setStream n { s.stream n with ring := [], waitRow := none }
    let s := (s.putBit R.PWR_ISLEEP_REQ 5 false).recUnpark
    (s.modShard fun x => { x with
      draining := decide (s.get R.REC_CFG_HOLDWIN ≠ 0), drainEnd := s.cycle + 600000 * s.get R.REC_CFG_HOLDWIN, fmtWait := false }).recPark

/-- HOLDWIN_EXPIRY: the drain window ends where its HOLDWIN ms are over (R419, R427). -/
def execHoldwinExpiry (s : State) : Out := .next s.drainOver

/-- NF_nWP is low: the NAND is parked or its lands are in reset (R419). -/
def State.nfNwpLow (s : State) : Bool := decide (s.dev = .off) || decide (s.recState = recParked)

/-- The recorder goes to sleep: its units complete and it parks (R419, R431). -/
def State.recSleep (s : State) : State :=
  if s.recState = recParked then s else (s.modShard fun x => { x with parking := true }).recPark

/-- The recorder wakes; a FORMAT that waited begins (R431). -/
def State.recWake (s : State) : State :=
  let s := s.recUnpark
  if s.recState = recMounting then s else s.fmtStart

/-- The units in flight that a power loss tears: the newest `torn`, where the hold-up energy falls short; all that a stalled recorder holds (R419, R422). -/
def State.tornUnits (s : State) (torn : Nat) : Nat :=
  let n := s.shard.units.length
  if s.recState = recStalled ∨ (s.recState = recParked ∧ s.shard.parkedFrom = recStalled) then n else min torn n

/-- The medium at a power loss: units in flight complete, but for the torn ones; a format that was running leaves no valid header (R410, R419, assumption 43). -/
def State.medDown (s : State) (torn : Nat) : Medium :=
  let x := s.shard
  let n := x.units.length - s.tornUnits torn
  if s.recState = recFormatting then { x.med with headers := [], log := [], torn := [], openBlk := [], refresh := [] }
  else { x.med with log := (x.units.take n).reverse ++ x.med.log, torn := x.units.drop n ++ x.med.torn }

/-- The latest instant at which the units in flight complete: within 1.4 ms of the newest one's start (R419). -/
def Shard.flightLeft (x : Shard) (now : Nat) : Nat :=
  match x.units.getLast? with
  | some u => u.start + 840000 - now
  | none => 0

/-- Power or nRST goes: units in flight complete on the hold-up energy, or are torn where it falls short, and the NAND parks at an instant the spec bounds; everything not taken is lost (R419, assumption 5). -/
def State.recPowerDown (s : State) (torn : Nat) : State :=
  let x := s.shard
  let d := s.draw (x.flightLeft s.cycle + 1)
  { d.2 with shard := {
      med := s.medDown torn, inBytes := x.inBytes, outBytes := x.inBytes
      parkEnd := if x.units = [] then x.parkEnd else s.cycle + d.1 } }

/-- A data-plane reset: a running readout ends without a result, partial packets drop with GAP (R468). -/
def State.recReset (s : State) : State :=
  let s := (List.range 8).foldl (fun s j =>
    if Sparse.get [] s.shard.part j = [] then s
    else
      let s := s.modShard fun x => { x with part := Sparse.set [] x.part j [] }
      if s.inKind j = 1 then s.streamGap (s.inStream j) else s.inputGap j) s
  (s.clear R.REC_STAT_RDBUSY).modShard fun x => { x with rd := none, rdWait := false }

/-! ## Configuration (R416, R418, R428, R429) -/

/-- A write of REC.SNAP[n] is accepted (R416, R428). -/
def State.snapOk (s : State) (n v : Nat) : Bool :=
  let nch := slice v 0 7
  let sum := (List.range 4).foldl (fun a k =>
    a + if k = n then slice v 20 12 * rowBytes nch else s.get (R.REC_SNAP_PRE k) * rowBytes (s.get (R.REC_SNAP_NCH k))) 0
  decide (1 ≤ nch) && decide (nch ≤ 64) && decide (sum ≤ 524288)

/-- After a write of SNAP[n] the ring holds at most PRE rows of the new width. -/
def State.snapAfter (s : State) (n oldNch : Nat) : State :=
  let x := s.stream n
  let keep := s.get (R.REC_SNAP_PRE n)
  if s.get (R.REC_SNAP_NCH n) ≠ oldNch then s.setStream n { x with ring := [] }
  else s.setStream n { x with ring := x.ring.drop (x.ring.length - keep) }

/-- A write of a NANDIF.CFG word is accepted (R429). -/
def nandCfgOk (v : Nat) : Bool :=
  decide (1 ≤ slice v 28 4) && decide (slice v 28 4 ≤ 4) && decide (1 ≤ slice v 8 6) && decide (slice v 8 6 ≤ 40)

/-- REC.CFG.EN changed after the mount. -/
def State.recEnable (s : State) : State :=
  if s.on R.REC_CFG_EN && decide (s.recState = recIdle) && decide (s.get R.NANDIF_STAT_K ≠ 0) then s.setRec recActive
  else if !s.on R.REC_CFG_EN && decide (s.recState = recActive) then s.setRec recIdle
  else s

end Sys2Proof.Machine
end

