-- ==== Sys2Proof/Machine/Hold.lean ====
section
/-! DEFINITION. Entry into SAFE_HOLD (R35, R38, R43–R45, R77), and the priority of causes of a state change that arrive together. -/

namespace Sys2Proof.Machine

open Sys2Proof

/-! ## Causes in one FABCLK cycle (R38): 0 reset, 1 SAFE_HOLD, 2 stop, 3 run, 4 BANKED entry and wake -/

/-- A cause of higher priority has been taken in this FABCLK cycle. -/
def State.preempted (s : State) (p : Nat) : Bool :=
  match s.cause with
  | some (t, q) => decide (t = s.fab) && decide (q < p)
  | none => false

/-- A write of this requester arrives in the FABCLK cycle in which the device has left READY or RUN for SAFE_HOLD, or READY for BANKED: it loses to that cause, but it was taken on the same edge (R38). -/
def State.overtaken (s : State) (req : Requester) : Bool :=
  decide (req ≠ .debug) && s.reqActs req &&
  ((decide (s.dev = .safeHold) && decide (s.cause = some (s.fab, 1)) && !s.mayWrite req) ||
   (decide (s.dev = .banked) && decide (s.pwr.since / 2 = s.fab)))

/-- A START of an on-demand self-test accepted on this FABCLK edge loses to a run request or an ENTER accepted on it (R452). -/
def State.bistLost (s : State) : State :=
  if s.bist.startDue then { s.raise R.BIST_STAT_BUSY_REJ with bist := { s.bist with startDue := false } } else s

/-- A BANKED entry accepted in this FABCLK cycle. -/
def State.enteredNow (s : State) : Bool := s.entering && decide (s.cause = some (s.fab, 4))

/-- An entry accepted in this cycle is discarded: the block asked first, which has not begun its preparation, keeps running (R38, R438). -/
def State.dropEntry (s : State) : State :=
  if s.enteredNow then
    { (s.clear R.PWR_BSTAT_STEP).clear R.PWR_BSTAT_BUSY with pwr := { s.pwr with agreed := [], fired := 0, prep := false } }
  else s

/-- A run request accepted in this FABCLK cycle is discarded; the device has not left READY (R38). -/
def State.dropRun (s : State) : State :=
  if s.runDue then { s with runDue := false }.put R.SYS_RUNCTL_REFUSE 0xA else s

/-- Take a cause; a request of lower priority taken in the same cycle is discarded and reports PREEMPTED. -/
def State.takeCause (s : State) (p : Nat) : State :=
  let s := match s.cause with
    | some (t, q) =>
      if t = s.fab ∧ p < q then
        (if q = 4 then s.dropEntry.put R.PWR_BSTAT_REJ 5 else if q = 3 then s.dropRun else s.put R.SYS_RUNCTL_REFUSE 0xA)
      else s
    | none => s
  { s with cause := some (s.fab, p) }

/-! ## The Wheel halted by a SAFE_HOLD cause (R77) -/

/-- At SP the active slow sections run first, in ascending order (R90). -/
def State.enterSlow (s : State) : State :=
  match s.wheel.inSlow, s.wheel.slowTodo with
  | none, j :: t =>
    if s.wheel.pc = s.contract.spAddr then
      { s with wheel := { s.wheel with
          inSlow := some j, slowTodo := t, pc := ((s.contract.slow[j]?).getD {}).base } }
    else s
  | _, _ => s

/-- HALTPC at the halt: the bundle that would issue in this cycle, at SP the first of a slow section that is due; in idle time the TEND of the turn that ended; outside RUN, and before the first turn, unchanged (R77, R90). -/
def State.haltPc (s : State) : State :=
  if s.dev ≠ .run then s
  else if s.wheel.turning then
    ((s.raise R.WHEEL_HALTPC_VALID).clear R.WHEEL_HALTPC_IDLE).put R.WHEEL_HALTPC_PC s.enterSlow.wheel.pc
  else if s.wheel.idle then
    ((s.raise R.WHEEL_HALTPC_VALID).raise R.WHEEL_HALTPC_IDLE).put R.WHEEL_HALTPC_PC s.wheel.lastTend
  else s

/-- The poisoned reads noted in the cycle of the halt (R74). -/
def State.notePoison (s : State) : State :=
  let n := (s.wheel.inflight.filter fun e => decide (e.2 = .xpoison)).length
  if n = 0 then s else (s.raise R.WHEEL_XSTAT_XPOISON).addSat R.WHEEL_XPOISONCNT_COUNT n

/-- The Wheel halts: nothing in flight takes place any more (R77). -/
def State.wheelHalt (s : State) : State :=
  let s := s.haltPc.notePoison
  { s with wheel := { s.wheel with
      turning := false, idle := false, halted := true, dbgHalted := false, stepping := false, matched := false,
      jump := none, loops := [], inSlow := none, slowTodo := [], inflight := [] } }

/-! ## Entry (R43, R44) -/

/-- A BANKED entry that a SAFE_HOLD cause overtakes ends as aborted; the islands it parked carry on (R432, assumption 22). -/
def State.holdEntry (s : State) : State :=
  if s.entering then
    let s := ((s.clear R.PWR_BSTAT_STEP).clear R.PWR_BSTAT_BUSY).put R.PWR_BSTAT_RESULT 4
    let s := { s with pwr := { s.pwr with agreed := [], fired := 0, prep := false } }
    s.each (List.range s.nIsl) fun s i => s.modIsl i fun x => { x with parked := false }
  else s

/-- The units R43 stops, and the state change; an inverter that had no safe state applied takes one now (R44, R207). -/
def State.enterHold (s : State) (cause : Nat) : State :=
  if s.dev ≠ .ready ∧ s.dev ≠ .run then s
  else
    let s := ((s.takeCause 1).dropRun.holdEntry).each (List.range s.nInv) fun s v =>
      if s.safeApplied v then s else s.pwmTrip v
    let s := (s.put R.SYS_HOLDCAUSE_CAUSE cause).put R.SYS_HOLDCAUSE_TURN (s.get R.SAGGAR_HBTURN_TURN)
    let s := s.wheelHalt.wheelPacketsEnd
    let s := { s with adc := { s.adc with trigs := [], runs := [] } }.clear R.ADC_CAL_BUSY
    let s := (s.clear R.SYS_RUNCTL_STOP).relock.updHold
    let s := (s.setDev .safeHold).loopsLeaveRun
    ((s.pwmOff.canHold).recHold).sync

end Sys2Proof.Machine
end

