-- ==== Sys2Proof/Machine/Turns.lean ====
section
/-! DEFINITION. Entering and leaving RUN (R36–R42, R54, R78), the turn (R76, R81, R82, R89, R90, R101, R109), the turn-missing detector (R107, R108) and the debug halt (R79). The time-driven rows arrive at their instant (assumption 3). -/

namespace Sys2Proof.Machine

open Sys2Proof

/-! ## RUN entry (R39, R40, R54) -/

/-- Both islands of every present leg in use are trained. -/
def State.legsTrained (s : State) : Bool :=
  (List.range s.nIsl).all fun i => s.legUnused (legOfIsl i) || s.on (R.ISL_LSTAT_TRAINED i)

/-- A converter of a Wheel group failed its last calibration (R127). -/
def State.wheelConvFailed (s : State) : Bool :=
  (List.range 8).any fun g => decide (s.get (R.ADC_GCFG_SRC g) = 1) &&
    (List.range s.nConv).any fun k => s.bit (R.ADC_GCFG_MEMBERS g) k && s.bit R.ADC_CAL_FAIL k

/-- The first condition of R39 that fails, 0 for none. -/
def State.runRefusal (s : State) : Nat :=
  if s.dev ≠ .ready then 1
  else if s.entering && !s.enteredNow then 7
  else if !s.legsTrained then 2
  else if !s.on R.ADC_CAL_DONE || s.wheelConvFailed then 3
  else if s.usedInvs.any s.latched then 4
  else if s.stale && !s.usedInvs.isEmpty then 5
  else if s.on R.SAGGAR_REQ_SSREQA || s.on R.SAGGAR_REQ_SSREQB then 6
  else 0

/-- A result in flight to a register that RUN entry clears (R54). -/
def Effect.isRegister : Effect → Bool
  | .setG _ _ _ => true
  | .setP _ _ => true
  | .setAr _ _ => true
  | .setCp _ _ => true
  | _ => false

/-- The Wheel's own state at RUN entry; what is in flight to a place that is kept goes on. -/
def Wheel.cleared (w : Wheel) : Wheel :=
  { w with
    g := [], p := [], ar := [], cp := [], turning := false, idle := false, halted := false, dbgHalted := false,
    stepping := false, pc := 0, jump := none, loops := [], slowTodo := [], inSlow := none, phase := [],
    matched := false, swapMask := 0, heldMask := 0, divCnt := 0, overrun := false,
    inflight := w.inflight.filter fun e => !e.2.isRegister }

/-- A locked exciter runs on its own again. -/
def State.excUnlock (s : State) (x : Nat) : State := s.setExc x { s.exc x with locked := false, restart := false, since := 0 }

/-- The Wheel at RUN entry: registers, pointers, loops and the turn counter cleared (R54, R80, R89). -/
def State.wheelRunEntry (s : State) : State :=
  let s := (({ s with wheel := s.wheel.cleared }.clear R.WHEEL_TURNCNT_COUNT).clear R.WHEEL_TLENMAX_CYCLES).clear R.WHEEL_NANDROPCNT_COUNT
  let s := ((s.clear R.WHEEL_XPOISONCNT_COUNT).clear R.SAGGAR_HBTURN_VALID).clear R.ADC_STAT_OVRCNT
  let s := s.each (List.range 8) fun s w => s.clear (R.XWIN_STAT_SEQ w)
  let s := s.each [0, 1] State.excUnlock
  { s with cone := { s.cone with hbPrev := none, cyset := false }, wheel := { s.wheel with matchAt := s.cycle } }

/-- Entry into RUN (R40); the outputs are formed with the loops OPEN and their holds set (R167, R201), and the configuration locks (R291). -/
def State.enterRun (s : State) : State :=
  let s := (({ s with runDue := false }.relock.wheelRunEntry).setDev .run).pwmRunEntry.loopsRunEntry
  (s.outputs 0).sync

/-- A run request that is taken; a START of an on-demand self-test accepted on the same FABCLK edge is refused with BUSY_REJ (R39, R452). -/
def State.runTaken (s : State) : State := { (s.takeCause 3).bistLost.clear R.SYS_RUNCTL_REFUSE with runDue := true }

/-- RUN_REQUEST: a write of RUNCTL with RUN = 1, and STOP as given, from the HSPI or the Cone; accepted, it takes effect as its FABCLK cycle ends (R38, R39, R42). One that the SAFE_HOLD cause of its own FABCLK cycle, or the last agreement to a BANKED entry, has overtaken reports so. One of an open debug port, which R330 lets reach the register and R39 does not name, does nothing (DEDUCED, assumption 30). -/
def execRunRequest (req : Requester) (stop : Bool) (s : State) : Out :=
  .next (
    if s.overtaken req then (if stop then s.put R.SYS_RUNCTL_REFUSE 8 else s.put R.SYS_RUNCTL_REFUSE (if s.dev = .banked then 7 else 0xA))
    else if !s.mayWrite req then s
    else if stop then s.put R.SYS_RUNCTL_REFUSE 8
    else if req = .debug then s
    else if s.preempted 3 then s.put R.SYS_RUNCTL_REFUSE 0xA
    else
      let c := s.runRefusal
      if c ≠ 0 then s.put R.SYS_RUNCTL_REFUSE c else s.runTaken)

/-- A run request accepted in the FABCLK cycle that has ended: RUN is entered in the cycle after it (R38, R39, R40). -/
def State.runTick (s : State) : State :=
  if s.runDue && decide (s.dev = .ready) && decide (s.cycle % 2 = 0) then s.enterRun else s

/-! ## Stop (R41, R78) -/

/-- STOP_REQUEST: a write of RUNCTL with STOP = 1, and RUN as given (R38, R41, R42). A stop means something in RUN; in READY it is a cause of its FABCLK cycle that outranks a run request and an ENTER of the same cycle (DEDUCED, assumption 30). -/
def execStopRequest (req : Requester) (run : Bool) (s : State) : Out :=
  .next (
    if s.overtaken req then s.put R.SYS_RUNCTL_REFUSE (if run then 8 else 0xA)
    else if !s.mayWrite req then s
    else if run then s.put R.SYS_RUNCTL_REFUSE 8
    else if s.preempted 2 then s.put R.SYS_RUNCTL_REFUSE 0xA
    else if s.dev = .ready then s.takeCause 2
    else if s.dev ≠ .run then s
    else
      let s := ((s.takeCause 2).clear R.SYS_RUNCTL_REFUSE)
      if s.stopping then s else { s.raise R.SYS_RUNCTL_STOP with stopAt := s.cycle })

/-- RUN is left for READY: the Wheel takes no further TURN_START, loops read OPEN, PWM outputs are off; an open Wheel packet ends after the last push (R41, R78, R355). -/
def State.runToReady (s : State) : State :=
  let s := { s with wheel := { s.wheel with
      turning := false, idle := false, dbgHalted := false, stepping := false, matched := false,
      jump := none, loops := [], slowTodo := [], inSlow := none } }
  let s := s.later (max s.cycle s.wheel.pushDue) .packetsEnd
  let s := ((s.clear R.SYS_RUNCTL_STOP).clear R.WHEEL_DBG_STEP).clear R.WHEEL_DBG_HALTED
  ((s.setDev .ready).loopsLeaveRun.pwmOff).sync

/-- 1 ms has passed since the stop request and some loop is not OPEN (R41). -/
def State.stopLate (s : State) : Bool :=
  decide (s.dev = .run) && s.stopping && !s.allOpen && decide (s.stopAt + 600000 ≤ s.cycle)

/-- A stop is forced: the preselected safe state for both inverters (input 28), READY, STOP_FORCED (R41). -/
def State.stopTick (s : State) : State :=
  if s.stopLate then
    let s := s.each (List.range s.nInv) fun s v => s.latchBits v (2 ^ 28)
    (s.runToReady).put R.SYS_RUNCTL_REFUSE 9
  else s

/-- STOP_FORCED: 1 ms after a stop request some loop is not OPEN (R41). -/
def execStopForced (s : State) : Out := .next s.stopTick

/-! ## The turn -/

/-- The turn source counts through TSCMP in a direction EVSEL selects, a turning point counting for both (R81). -/
def State.atTscmp (s : State) : Bool :=
  s.tbAt s.contract.tbsel s.contract.tscmp (s.contract.evsel.testBit 0) (s.contract.evsel.testBit 1)

/-- A match falls in this cycle and has not been taken yet. -/
def State.matchDue (s : State) : Bool :=
  decide (s.dev = .run) && s.atTscmp && decide (s.wheel.compared ≠ s.cycle + 1)

/-- A match: every DIVth, the first of RUN included, is a turn match; it is taken unless the Wheel still turns or is halted for debug (R79, R81, R101, R109, R142, R148). -/
def State.turnMatch (s : State) : State :=
  let hit := decide (s.wheel.divCnt = 0)
  let s := { s with wheel := { s.wheel with divCnt := (s.wheel.divCnt + 1) % max 1 s.contract.div, compared := s.cycle + 1 } }
  let s := if hit then { s with pos := { s.pos with capture := true } } else s
  if !hit then s
  else if s.wheel.turning then { s with wheel := { s.wheel with overrun := true } }
  else if s.wheel.dbgHalted && !s.on R.WHEEL_DBG_STEP then s
  else
    let s := (s.each [0, 1] State.excMatch).xwDecide
    { s with wheel := { s.wheel with matched := true, matchAt := s.cycle } }

/-- TURN_MATCH (R81). -/
def execTurnMatch (s : State) : Out := .next (if s.matchDue then s.turnMatch else s)

/-- Section j is active in the turn that starts (R89). -/
def State.slowActive (s : State) (j : Nat) : Bool :=
  match s.contract.slow[j]? with
  | some r => decide (Sparse.get 0 s.wheel.phase j = r.phase)
  | none => false

/-- The Cone fixes CYOFS at the first turn with XCEN = 1 (R269, R274). -/
def State.fixCycle (s : State) : State :=
  if !s.cone.cyset && decide (s.cpar 0x41 = 1) then
    { s with cone := { s.cone with cyset := true, cyofs := (s.wheel.stamp + s.cpar 0x45) % 10000 } }
  else s

/-- TURN_START falls in this cycle: four cycles after the match taken (R82). -/
def State.startDue (s : State) : Bool :=
  decide (s.dev = .run) && s.wheel.matched && decide (s.cycle = s.wheel.matchAt + 4)

/-- The turn starts: the stamp, the swaps, the loop block, and bundle 0 issues in this cycle; DBG.HALTED falls (R25, R32, R79, R82, R89, R162). -/
def State.turnStart (s : State) : State :=
  let s := { s with wheel := { s.wheel with matched := false, stamp := s.tsc }, pwm := { s.pwm with dark := false } }
  let s := ((s.xwSwap.loopTurnStart.outputs 0).fixCycle).clear R.WHEEL_DBG_HALTED
  { s with wheel := { s.wheel with
      turning := true, idle := false, dbgHalted := false, stepping := s.on R.WHEEL_DBG_STEP, pc := 0, jump := none,
      loops := [], inSlow := none, slowTodo := below 8 s.slowActive, start := s.cycle } }

/-- TURN_START (R82). -/
def execTurnStart (s : State) : Out := .next (if s.startDue then s.turnStart else s)

/-- The match and the start that fall in this cycle and have not been taken. -/
def State.turnEvents (s : State) : State :=
  let s := if s.matchDue then s.turnMatch else s
  if s.startDue then s.turnStart else s

/-- The phase counters advance modulo N (R89). -/
def State.advancePhases (s : State) : State :=
  s.each (List.range 8) fun s j =>
    match s.contract.slow[j]? with
    | some r => { s with wheel := { s.wheel with
        phase := Sparse.set 0 s.wheel.phase j ((Sparse.get 0 s.wheel.phase j + 1) % max 1 r.n) } }
    | none => s

/-- The Wheel is halted for debug at this TEND; a STEP written while the turn ran stands for the next one, and a stepped turn has used its own (R79, R80). With a STEP standing no freeze begins (DESIGN CHOICE, assumption 29); with FREEZE_EN = 0 the generators are not live all the same (R216). -/
def State.debugStop (s : State) : State :=
  let s := if s.wheel.stepping then s.clear R.WHEEL_DBG_STEP else s
  let s := { s with wheel := { s.wheel with dbgHalted := true, stepping := false } }.raise R.WHEEL_DBG_HALTED
  let s := ((s.raise R.WHEEL_HALTPC_VALID).clear R.WHEEL_HALTPC_IDLE).put R.WHEEL_HALTPC_PC s.wheel.lastTend
  if s.on R.WHEEL_DBG_STEP && s.on R.PWM_DBG_FREEZE_EN then s else s.pwmDebugHalt

/-- TEND: the turn ends after this cycle; the turn counter and the phase counters advance; a stop completes, a debug halt takes effect (R41, R76, R79, R80, R89). -/
def execTend (s : State) : Out :=
  .next (
    if !s.wheel.turning then s
    else
      let len := s.cycle - s.wheel.start + 1
      let s := { s with wheel := { s.wheel with
          turning := false, idle := true, lastTend := s.wheel.pc, jump := none, loops := [], slowTodo := [], inSlow := none } }
      let s := (s.put R.WHEEL_TLEN_CYCLES len).put R.WHEEL_TLENMAX_CYCLES (max len (s.get R.WHEEL_TLENMAX_CYCLES))
      let s := (s.bumpWrap R.WHEEL_TURNCNT_COUNT).advancePhases
      if s.dev = .run ∧ s.stopping = true ∧ s.allOpen = true then s.runToReady
      else if s.on R.WHEEL_DBG_HALT || s.wheel.stepping then s.debugStop
      else s)

/-! ## The turn-missing detector (R107, R108) -/

/-- A missing turn: Saggar input 24, then SAFE_HOLD with cause 0x04. -/
def State.missingTurn (s : State) : State := ((s.setCond 0 24 true).sync).enterHold 0x04

/-- CORECLK cycle that begins with the `ticks`th TSCLK edge after the first one at or after cycle `c` (R107, R460). -/
def tsEdgeAfter (c ticks : Nat) : Nat := (c + 5) / 6 * 6 + 6 * ticks

/-- No TEND within TMWIN ticks of TURN_START (R107). -/
def State.tendLate (s : State) : Bool :=
  decide (s.dev = .run) && s.wheel.turning &&
  decide (tsEdgeAfter s.wheel.start (s.get R.SAGGAR_TMWIN_TICKS) ≤ s.cycle)

/-- No turn match taken within TSWIN ticks of the previous one taken, or of RUN entry; not while the Wheel is halted for debug (R107). -/
def State.matchLate (s : State) : Bool :=
  decide (s.dev = .run) && !s.wheel.dbgHalted &&
  decide (tsEdgeAfter s.wheel.matchAt (s.get R.SAGGAR_TSWIN_TICKS) ≤ s.cycle) && !s.matchDue

/-- The detector signals a missing turn in this cycle (R107, R108). -/
def State.missTick (s : State) : State := if s.tendLate || s.matchLate then s.missingTurn else s

/-- TMWIN_EXPIRY: no TEND within TMWIN ticks of TURN_START. -/
def execTmwinExpiry (s : State) : Out := .next (if s.tendLate then s.missingTurn else s)

/-- TSWIN_EXPIRY: no turn match taken within TSWIN ticks. -/
def execTswinExpiry (s : State) : Out := .next (if s.matchLate then s.missingTurn else s)

/-! ## Debug (R79, R215) -/

/-- A write of WHEEL.DBG is taken: in DEVELOP with debug unlocked only. -/
def State.dbgWrite (s : State) (req : Requester) : Bool := s.mayWrite req && s.debugOpen

/-- DEBUG_HALT: HALT set; it takes effect at the next TEND. -/
def execDebugHalt (req : Requester) (s : State) : Out :=
  .next (if s.dbgWrite req then s.raise R.WHEEL_DBG_HALT else s)

/-- DEBUG_STEP: one turn from the next TURN_START, then halted again. -/
def execDebugStep (req : Requester) (s : State) : Out :=
  .next (
    if !s.dbgWrite req then s
    else
      let s := s.raise R.WHEEL_DBG_STEP
      if s.wheel.dbgHalted then s.pwmDebugResume else s)

/-- DEBUG_RESUME: HALT cleared; the Wheel takes the next turn match. -/
def execDebugResume (req : Requester) (s : State) : Out :=
  .next (
    if !s.dbgWrite req then s
    else
      let s := s.clear R.WHEEL_DBG_HALT
      if s.wheel.dbgHalted then
        ({ s with wheel := { s.wheel with dbgHalted := false, matchAt := s.cycle } }.clear R.WHEEL_DBG_HALTED).pwmDebugResume
      else s)

end Sys2Proof.Machine
end

