-- ==== Sys2Proof/Machine/RegWrite.lean ====
section
/-! DEFINITION. A write of a register whose fields have no row of their own (R10–R13, R16): which fields are open under their access codes, what each block accepts, and what follows an accepted write. The same rules, with the RWB, RWL and RWP conditions met, judge an image's register records (R318). -/

namespace Sys2Proof.Machine

open Sys2Proof

/-! ## Words and fields -/

/-- The stored word of the register at an address. -/
def State.regWord (s : State) (addr : Nat) : Nat := s.wordOf (regFieldsIn addr (RegMap.window addr))

/-- A word with the bits of a list of fields taken from `v`. -/
def mergeWord (l : List Fld) (old v : Nat) : Nat :=
  l.foldl (fun a f => a - slice a f.lo f.width * 2 ^ f.lo + slice v f.lo f.width * 2 ^ f.lo) old

/-- The bits written as 1 clear in a W1C field (R12). -/
def State.w1cField (s : State) (f : Fld) (v : Nat) : State :=
  s.put f (bitsOf f.width fun i => s.bit f i && !v.testBit (f.lo + i))

/-! ## Access codes (R12, R13, R171, R175, R180) -/

/-- The ramp unit, or RCU channel, of an RWL field is bound to a loop. -/
def State.rwlBound (s : State) (addr : Nat) : Bool :=
  if addr < 0x40510000 then s.on (R.LOOP_RCFG_BOUND ((addr - 0x40500400) / 0x20))
  else s.on (R.RCU_CFG_BOUND ((addr - 0x40510100) / 0x40))

/-- An RWL field is open: its loop is OPEN, or it is unbound and the device in READY. -/
def State.rwlOpen (s : State) (addr : Nat) : Bool :=
  if addr < 0x40510000 then
    let u := (addr - 0x40500400) / 0x20
    decide (s.dev ≠ .safeHold) &&
    (if s.on (R.LOOP_RCFG_BOUND u) then decide (s.loopState (s.get (R.LOOP_RCFG_LOOPSEL u)) = 0)
     else decide (s.dev = .ready))
  else s.rcuOpen ((addr - 0x40510100) / 0x40)

/-- A field that software stores into. -/
def Fld.stored (f : Fld) : Bool :=
  match f.acc with
  | .rw => true
  | .rwb => true
  | .rwl => true
  | _ => false

/-- The field takes a write now; `force` counts its conditions as met (R318). -/
def State.fldOpen (s : State) (force : Bool) (f : Fld) : Bool :=
  match f.acc with
  | .rw => true
  | .rwb => force || decide (s.dev = .ready)
  | .rwl => force || s.rwlOpen f.addr
  | _ => false

/-! ## What each block accepts: the register's word as the write would leave it -/

/-- A gain: finite, neither zero nor subnormal (R123, R156). -/
def gainOk (m : Nat) : Bool := plainFinite (BitVec.ofNat 32 m) && decide (m % 2 ^ 31 ≠ 0)
/-- A finite value. -/
def finiteOk (m : Nat) : Bool := !Fp32.notFinite (BitVec.ofNat 32 m)
/-- A value that is zero or positive, neither subnormal nor NaN nor infinite (R175, R184). -/
def nonnegOk (m : Nat) : Bool := plainFinite (BitVec.ofNat 32 m) && (decide (m < 2 ^ 31) || decide (m % 2 ^ 31 = 0))

/-- Converters of Wheel groups. -/
def State.wheelConvs (s : State) : Nat :=
  (List.range 8).foldl (fun a g => if s.get (R.ADC_GCFG_SRC g) = 1 then Nat.lor a (s.get (R.ADC_GCFG_MEMBERS g)) else a) 0

/-- Group configuration (R115, R117). -/
def State.gcfgOk (s : State) (force : Bool) (m : Nat) : Bool :=
  decide (slice m 28 3 ≤ 4) && decide (1 ≤ slice m 24 2) && decide (5 ≤ slice m 16 7) && decide (slice m 16 7 ≤ 100) &&
  (force || (decide (slice m 28 3 ≠ 1) && decide (Nat.land (slice m 0 16) s.wheelConvs = 0)))

/-- Input selections: code 3 never, input 2 only for a single-ended converter (R111). -/
def State.gmuxOk (s : State) (m : Nat) : Bool :=
  (List.range 16).all fun k =>
    decide (slice m (2 * k) 2 ≠ 3) && !(decide (slice m (2 * k) 2 = 2) && s.on (R.ADC_CCFG_PDIFF k))

/-- Some multiplexer register selects input 2 of converter k, which its pseudo-differential mode takes as the reference (R111). R111 refuses the multiplexer write; a write, or an image record, of CCFG.PDIFF = 1 that meets such a selection in any of the eight groups, k a member or not, is refused with CFGREJ too (DESIGN CHOICE, assumption 46). -/
def State.inputTwo (s : State) (k : Nat) : Bool :=
  (List.range 8).any fun g => [0, 1, 2].any fun slot => decide (s.get (muxFld g slot k) = 2)

/-- The ADC block (R111, R117, R123, R129, R132). -/
def State.adcOk (s : State) (force : Bool) (addr m : Nat) : Bool :=
  let off := addr - 0x40200000
  if 0x100 ≤ off ∧ off < 0x200 then
    let g := (off - 0x100) / 0x20
    let k := off % 0x20
    if k = 0x18 then true
    else if !force && decide (s.get (R.ADC_GCFG_SRC g) = 1) then decide (m = s.regWord addr)
    else if k = 0 then s.gcfgOk force m
    else if k ≤ 0xC then s.gmuxOk m
    else true
  else if 0x1000 ≤ off ∧ off < 0x1100 then
    if off % 0x10 = 4 then
      decide (slice m 16 8 ≠ 1) && !(decide (m % 2 = 1) && s.inputTwo ((off - 0x1000) / 0x10))
    else if off % 0x10 = 8 then finiteOk m
    else gainOk m
  else if 0x2000 ≤ off then
    if off % 0x20 = 0 then decide (16 ≤ slice m 4 9) && decide (slice m 4 9 ≤ 256)
    else if off % 0x20 = 4 then finiteOk m
    else if off % 0x20 = 8 then gainOk m
    else true
  else true

/-- The position block (R140–R157). ZPOS is held below CPR where EZPOS is written; a write of ECPR that leaves ZPOS at or above CPR is accepted (DESIGN CHOICE, assumption 12). -/
def State.posOk (s : State) (addr m : Nat) : Bool :=
  let off := addr - 0x40210000
  let k := off % 0x20
  if off < 0x100 then true
  else if off < 0x200 then
    if k = 0 then
      decide (1 ≤ slice m 8 8) && (decide (slice m 16 15 = 0) || (decide (7500 ≤ slice m 16 15) && decide (slice m 16 15 ≤ 30000)))
    else if k = 4 then decide (1 ≤ slice m 24 8)
    else finiteOk m
  else if off < 0x300 then
    if k = 0 then decide (1 ≤ slice m 16 6) && decide (slice m 16 6 ≤ 32)
    else if k = 4 then decide (4 ≤ m)
    else if k = 8 then
      let cpr := s.get (R.POS_ECPR_CPR ((off - 0x200) / 0x20))
      decide (cpr = 0) || decide (m < cpr)
    else true
  else if off < 0x400 then
    if k = 0 then decide (1 ≤ slice m 24 7) && decide (slice m 24 7 ≤ 64) else true
  else
    let k := off % 0x40
    if k = 0 then decide (1 ≤ slice m 16 8) && decide (1 ≤ slice m 4 3) && decide (slice m 4 3 ≤ 6)
    else if k = 4 then decide (30 ≤ m) && decide (m ≤ 900)
    else if k = 0xC ∨ k = 0x14 then finiteOk m
    else if k = 0x10 ∨ k = 0x18 then gainOk m
    else true

/-- The loop block (R168, R169, R175). -/
def State.loopOk (s : State) (addr m : Nat) : Bool :=
  let off := addr - 0x40500000
  let k := off % 0x20
  if off = 0x10 ∨ off = 0x14 then decide (slice m 0 2 ≠ 3)
  else if 0x100 ≤ off ∧ off < 0x200 then
    if k = 0xC then s.cregOk ((off - 0x100) / 0x20) (slice m 0 14) (slice m 16 15) else true
  else if 0x400 ≤ off then
    let u := (off - 0x400) / 0x20
    let w := BitVec.ofNat 32 m
    if k = 0 then s.rcfgOk u (m.testBit 4) (slice m 0 3)
    else if k = 4 then plainFinite w && !Fp32.lt (s.word (R.LOOP_RTMAX_VALUE u)) w
    else if k = 8 then plainFinite w && !Fp32.lt w (s.word (R.LOOP_RTMIN_VALUE u))
    else nonnegOk m
  else true

/-- The RCU (R184, R188). -/
def rcuOk (addr m : Nat) : Bool :=
  let k := (addr - 0x40510100) % 0x40
  if addr < 0x40510100 then true
  else if k = 0 then
    decide (slice m 16 5 = 2) || decide (slice m 16 5 = 3) || decide (slice m 16 5 = 6) || decide (slice m 16 5 = 7)
  else if k = 4 then decide (0x3F666666 ≤ m) && decide (m ≤ 0x3F7FFFFF)
  else if k = 8 ∨ k = 0xC then nonnegOk m
  else if k = 0x10 then nonnegOk m && decide (m % 2 ^ 31 ≠ 0)
  else true

/-- DTMIN, DTMAX and DTINIT fit together (R208): every intermediate set stays valid. -/
def deadTimesOk (dmin dmax init : Nat) : Bool :=
  decide (dmax ≠ 0) && decide (dmax ≤ 38400) && decide (max dmin 384 ≤ dmax) &&
  decide (init ≠ 0) && decide (max dmin 384 ≤ init) && decide (init ≤ dmax)

/-- The PWM block (R193, R197, R199, R208–R210, R214). -/
def State.pwmOk (s : State) (addr m : Nat) : Bool :=
  let off := addr - 0x40300000
  let n := (off - 0x100) / 0x40
  let k := off % 0x40
  if off = 0x14 then decide (slice m 0 16 ≤ 3840)
  else if 0x40 ≤ off ∧ off < 0x80 then
    let t := (off - 0x40) / 0x10
    s.tbWriteOk ((off % 0x10) / 4) t m
  else if 0x100 ≤ off ∧ off < 0x300 then
    if k = 0 then
      let rld := slice m 4 2
      decide (rld ≠ 0) && !(rld.testBit 1 && !s.tbUd (slice m 8 2)) && !(m.testBit 0 && s.legBoot n)
    else if k = 4 ∨ k = 8 then !s.on (R.PWM_GCFG_WHEEL n)
    else if k = 0x14 then decide (1 ≤ slice m 24 7) && decide (slice m 24 7 ≤ 64)
    else if k = 0x18 then deadTimesOk (slice m 0 16) (slice m 16 16) (s.get (R.PWM_DTINIT_INIT n))
    else if k = 0x1C then deadTimesOk (s.get (R.PWM_DTLIM_DTMIN n)) (s.get (R.PWM_DTLIM_DTMAX n)) (slice m 0 16)
    else if k = 0x28 then decide (slice m 0 16 ≠ 0)
    else true
  else true

/-- The queues (R348, R349, R351). -/
def State.queOk (s : State) (addr m : Nat) : Bool :=
  let off := addr - 0x40600000
  let q := (off - 0x100) / 0x40
  if off < 0x100 then true
  else if off % 0x40 = 0 then s.qcfgOk q m
  else if off % 0x40 = 4 then s.qlvlOk q (slice m 0 16) (slice m 16 16)
  else true

/-- The recorder (R412, R416, R418, R428). -/
def State.recOk (s : State) (addr m : Nat) : Bool :=
  let off := addr - 0x40800000
  if off = 0x10 then decide (slice m 16 16 ≠ 0)
  else if off = 0x14 then decide (slice m 0 24 ≠ 0)
  else if 0x40 ≤ off ∧ off < 0x60 then s.inOk ((off - 0x40) / 4) m
  else if 0x60 ≤ off ∧ off < 0x80 ∧ off % 8 = 0 then s.snapOk ((off - 0x60) / 8) m
  else if off = 0x80 then decide (slice m 28 4 = 1) || decide (slice m 28 4 = 2)
  else true

/-- The controller of a CAN address. -/
def canOf (addr : Nat) : Nat := (addr - 0x40700000) / 0x10000

/-- The block of a register accepts its word. -/
def State.blockOk (s : State) (force : Bool) (addr m : Nat) : Bool :=
  match addr / 0x10000 with
  | 0x4020 => s.adcOk force addr m
  | 0x4021 => s.posOk addr m
  | 0x4030 => s.pwmOk addr m
  | 0x4031 =>
    if addr = 0x40310004 then decide (slice m 8 2 ≠ 0)
    else islCfgOk ((addr - 0x40310100) % 0x40 / 4) ((addr - 0x40310100) / 0x40) m
  | 0x4050 => s.loopOk addr m
  | 0x4051 => rcuOk addr m
  | 0x4060 => s.queOk addr m
  | 0x4070 => s.canCfgOk 0 (addr % 0x10000) m
  | 0x4071 => s.canCfgOk 1 (addr % 0x10000) m
  | 0x4072 => s.canCfgOk 2 (addr % 0x10000) m
  | 0x4073 => s.canCfgOk 3 (addr % 0x10000) m
  | 0x4078 => decide (addr ≠ 0x40780000) || ethCfgOk m
  | 0x4080 => s.recOk addr m
  | 0x4081 => decide (addr ≠ 0x40810008) || nandCfgOk m
  | _ => true

/-- The flag that reports a refused write. A block without one refuses nothing here. -/
def rejFlag (addr : Nat) : Fld :=
  match addr / 0x10000 with
  | 0x4020 => R.ADC_STAT_CFGREJ
  | 0x4021 => R.POS_STAT_CFGREJ
  | 0x4030 => R.PWM_STAT_CFGREJ
  | 0x4031 => R.ISL_STAT_CFGREJ
  | 0x4050 => R.LOOP_STAT_CFGREJ
  | 0x4051 => R.RCU_STAT_CFGREJ
  | 0x4060 => R.QUE_STAT_CFGREJ
  | 0x4078 => R.ETH_STAT_CFGREJ
  | 0x4080 => R.REC_STAT_CFGREJ
  | 0x4081 => R.REC_STAT_CFGREJ
  | _ => R.CAN_STAT_CFGREJ (canOf addr)

/-! ## What follows an accepted write -/

/-- CANx.CFG has been written: MODE OFF, or another mode, in which an attempt of the mode before does not go on, and what waits to be delivered (R371, R385, assumption 41). -/
def State.canReconfigured (s : State) (x old : Nat) : State :=
  if s.canMode x = 0 then s.canOff x else (if s.canMode x = old then s else s.canGiveUp x).canDrain x

/-- A one-bit field has gone from 0 to 1. -/
def rose (old s : State) (f : Fld) : Bool := !old.on f && s.on f

/-- Consequences of the new configuration (R112, R131, R141, R146, R157, R371, R412, R416, R428). -/
def State.afterWrite (old s : State) (addr : Nat) : State :=
  let off := addr % 0x10000
  match addr / 0x10000 with
  | 0x4020 =>
    if off = 4 then
      (if old.get R.ADC_CTL_VREFSEL = s.get R.ADC_CTL_VREFSEL then s else (s.clear R.ADC_CAL_DONE).sync)
    else if 0x2000 ≤ off ∧ off % 0x20 = 0 then
      let j := (off - 0x2000) / 0x20
      if rose old s (R.ADC_SDCFG_EN j) then s.sdStart j else s
    else s
  | 0x4021 =>
    if 0x100 ≤ off ∧ off < 0x200 ∧ off % 0x20 = 0 then
      let x := (off - 0x100) / 0x20
      if old.get (R.POS_RXCFG_PER x) = s.get (R.POS_RXCFG_PER x) then s else s.setExc x {}
    else if 0x200 ≤ off ∧ off < 0x300 ∧ off % 0x20 = 0 then
      let e := (off - 0x200) / 0x20
      if rose old s (R.POS_ECFG_EN e) then s.encStart e else s
    else if 0x300 ≤ off ∧ off < 0x400 ∧ off % 0x20 = 0 then
      let h := (off - 0x300) / 0x20
      if rose old s (R.POS_HCFG_EN h) then s.hallStart h else s
    else if 0x400 ≤ off ∧ off % 0x40 = 0 then
      let j := (off - 0x400) / 0x40
      if rose old s (R.POS_SCFG_EN j) then (s.setSent j {}).clear (R.POS_SSTAT_CRCCNT j) else s
    else s
  | 0x4030 =>
    if 0x40 ≤ off ∧ off < 0x80 then { s with pwm := { s.pwm with restart := true } } else s
  | 0x4060 => if 0x100 ≤ off ∧ off % 0x40 = 0 then (s.inAfterQcfg ((off - 0x100) / 0x40)).each (List.range s.nCan) State.canDrain else s
  | 0x4078 => if off = 0 then s.ethConfigured else s
  | 0x4080 =>
    if off = 4 then s.recEnable
    else if 0x60 ≤ off ∧ off < 0x80 ∧ off % 8 = 0 then
      let n := (off - 0x60) / 8
      s.snapAfter n (old.get (R.REC_SNAP_NCH n))
    else s
  | 0x4070 => if off = 4 then s.canReconfigured 0 (old.canMode 0) else s
  | 0x4071 => if off = 4 then s.canReconfigured 1 (old.canMode 1) else s
  | 0x4072 => if off = 4 then s.canReconfigured 2 (old.canMode 2) else s
  | 0x4073 => if off = 4 then s.canReconfigured 3 (old.canMode 3) else s
  | _ => s

/-! ## The write -/

/-- Store into the open fields of a register, and whether its block took it. -/
def State.storeReg (s : State) (force : Bool) (addr v : Nat) : Bool × State :=
  let cfg := (regFieldsIn addr (RegMap.window addr)).filter Fld.stored
  let opn := cfg.filter (s.fldOpen force)
  if opn = [] then (true, s)
  else
    let m := mergeWord opn (s.wordOf cfg) v
    if s.blockOk force addr m then (true, s.afterWrite (s.putFields opn m) addr)
    else (false, s.raise (rejFlag addr))

/-- A closed RWL field of a bound unit was written (R12). -/
def State.rwlRejected (s : State) (addr : Nat) : Bool :=
  (regFieldsIn addr (RegMap.window addr)).any fun f =>
    decide (f.acc = .rwl) && !s.rwlOpen addr && s.rwlBound addr

/-- Clear the W1C bits written as 1; a CAN clash flag takes its count with it (R12, R383). -/
def State.clearW1c (s : State) (addr v : Nat) : State :=
  let l := (regFieldsIn addr (RegMap.window addr)).filter fun f => decide (f.acc = .w1c)
  let t := l.foldl (fun s f => s.w1cField f v) s
  if 0x40700000 ≤ addr ∧ addr < 0x40740000 ∧ addr % 0x10000 = 0xC ∧ v.testBit 9 = true then
    t.clear (R.CAN_DISCNT_CLASHCNT (canOf addr))
  else t

/-- A register write with no row of its own (R12). In SAFE_HOLD nothing of the LOOP and RCU windows is written, and a discarded RWL field sets COEF_REJ there too (R171, R187). -/
def State.plainWrite (s : State) (addr v : Nat) : State :=
  let s := if s.rwlRejected addr then s.raise R.LOOP_STAT_COEF_REJ else s
  if s.dev = .safeHold ∧ (addr / 0x10000 = 0x4050 ∨ addr / 0x10000 = 0x4051) then s
  else
    let s := s.clearW1c addr v
    let s := if s.wheelQcfg addr v then s.raise R.QUE_STAT_CFGREJ else s
    (s.storeReg false addr v).2

/-! ## Register records (R318) -/

/-- The record's address names a register a record may hold: present, aligned, outside WEDGE and SEC, and with no field but RW, RWB, RWL and RWP ones. -/
def State.recAddrOk (s : State) (addr : Nat) : Bool :=
  let l := regFieldsIn addr (RegMap.window addr)
  decide (addr % 4 = 0) && !s.absentAddr addr && decide (addr / 0x10000 ≠ 0x4001) && decide (addr / 0x10000 ≠ 0x4002) &&
  decide (l ≠ []) && l.all fun f => f.stored || decide (f.acc = .rwp)

/-- Write one record; whether its block takes it. ISLEEP and the BIST registers take no write from the Wedge (R430, R451). -/
def State.recStore (s : State) (addr v : Nat) : Bool × State :=
  if addr = 0x40900018 then (false, s.raise R.PWR_BSTAT_CFGREJ)
  else if addr / 0x10000 = 0x40A0 then (false, s.raise R.BIST_STAT_CFGREJ)
  else if addr = 0x4050000C then
    let a := s.get R.LOOP_CWADDR_ADDR
    let s := { s with mem := { s.mem with
      cmem := Sparse.set 0#32 s.mem.cmem a (BitVec.ofNat 32 v), cerr := Sparse.set 0 s.mem.cerr a 0 } }
    (true, if s.on R.LOOP_CWADDR_AINC then s.put R.LOOP_CWADDR_ADDR (a + 1) else s)
  else if addr / 0x10000 = 0x4051 ∧ 0x40510100 ≤ addr ∧ addr % 0x40 = 0x24 then
    let ch := (addr - 0x40510100) / 0x40
    (true, (s.rcuStore ch (s.get (R.RCU_TPTR_BIN ch)) (BitVec.ofNat 32 v)).rcuAdvance ch)
  else if (addr = 0x40410010 ∨ addr = 0x40410014) ∧ finiteOk v = false then (false, s)
  else
    let l := regFieldsIn addr (RegMap.window addr)
    if isRwp l then
      (if s.rwpOk addr v then (true, s.rwpPut addr v l) else (false, s))
    else s.storeReg true addr v

/-- Write the records in order: the code and index of the first one refused (R318). -/
def State.recApply (s : State) : Nat → List (Nat × Nat) → Option (Nat × Nat) × State
  | _, [] => (none, s)
  | k, (addr, v) :: t =>
    if !s.recAddrOk addr then (some (0x61, k), s)
    else
      let r := s.recStore addr v
      if r.1 then State.recApply r.2 (k + 1) t else (some (0x62, k), r.2)

end Sys2Proof.Machine
end

