-- ==== Sys2Proof/Machine/Reset.lean ====
section
/-! DEFINITION. Taking a reset into OFF (R35, R457, R459, R464–R468), the supply windows (R455, R456) and the clock monitor (R463, R464). A reset is one step: the device is in OFF when it ends, and leaves it by the command that releases the last thing holding it there (assumption 3). -/

namespace Sys2Proof.Machine

open Sys2Proof

/-! ## OFF (R35, R466) -/

/-- Registers kept through every reset but power-on, and the live supply windows (R455, R466). -/
def keptAddr (addr : Nat) : Bool :=
  decide (addr = 0x40000080) || decide (addr = 0x40000088) || decide (addr = 0x40000090) || decide (addr = 0x400000A0)

/-- The device enters OFF: everything but what R466 keeps returns to its reset value; the islands see the edge channel off and their new symbol. `internal` is an internal reset, which counts in RSTCNT and holds OFF for its 20 µs; `torn` is how many of the newest units in flight the hold-up energy fell short for (R419); `bist` keeps the BIST registers. -/
def State.enterOff (s : State) (causes : List Fld) (internal : Bool) (torn : Nat) (bist : Bool) : State :=
  let s := (s.norCut.burnCut.acceptCut).recPowerDown torn
  let prev := if s.dev = .off then s.get R.SYS_RSTCAUSE_PREV else s.dev.code
  let s := (causes.foldl State.raise s).put R.SYS_RSTCAUSE_PREV prev
  let s := if internal then s.bumpSat R.SYS_RSTCNT_COUNT else s
  let s := s.each (List.range s.nIsl) fun s i => (s.edgeTo i false).modIsl i fun x => { x with offMark := none, avgMark := none }
  let t : State := {
    pending := s.pending, variant := s.variant, cycle := s.cycle, free := s.free, otp := s.otp, isl := s.isl,
    cause := some (s.fab, 0),
    nor := { bytes := s.nor.bytes, info := s.nor.info },
    pins := { s.pins with
      hold := s.pins.hold || internal, holdEnd := if internal then s.cycle + 12000 else s.pins.holdEnd },
    shard := s.shard,
    regs := Sparse.keep (fun k => keptAddr (k / 32) || (bist && between 0x40A00000 0x40A10000 (k / 32))) s.regs,
    sag := { cond := Nat.land s.sag.cond (2 ^ 20 + 2 ^ 52) } }
  t.sync

/-- nRST has been low for `ns` nanoseconds and is taken: below 1 µs never, from 10 µs always; in between the spec leaves it open (R465). -/
def State.nrstTaken (s : State) (ns : Nat) : Bool × State :=
  if ns < 1000 then (false, s)
  else if 10000 ≤ ns then (true, s)
  else let d := s.draw 2; (decide (d.1 = 1), d.2)

/-- NRST_ASSERT: nRST has been low for `ns` nanoseconds (R465). -/
def execNrstAssert (ns : Nat) (s : State) : Out :=
  .next (
    if !s.pins.nrst then s
    else
      let r := s.nrstTaken ns
      if r.1 then { r.2 with pins := { r.2.pins with nrst := false } }.enterOff [R.SYS_RSTCAUSE_NRST] false 0 false
      else r.2)

/-! ## Supplies (R455–R458) -/

/-- VSYS stands at `mv`: above its rising level of 5.2 V the OFF-channel carrier is there again (R238 row 1, R455). -/
def State.vsysBack (s : State) (mv : Nat) : State :=
  if 5200 < mv then { s with pins := { s.pins with noVsys := false } } else s

/-- The condition of SUPSTAT that a rail at `mv` meets: below or above its window (R455). -/
def railCond (r : Fin 5) (mv : Nat) : Option Nat :=
  if mv < (railWindow r).1 then some (2 * r.val)
  else if (railWindow r).2 < mv then some (2 * r.val + 1)
  else none

/-- SUPPLY_WINDOW: a rail has stood at `mv` for the window filter (R455, R456). -/
def execSupplyWindow (rail : Fin 5) (mv : Nat) (s : State) : Out :=
  .next (
    match railCond rail mv with
    | none => s
    | some b =>
      let s := if rail = 0 then s.vsysBack mv else s
      let s := s.putBit R.SYS_SUPSTAT_WIN b true
      (if s.dev = .off then s else s.putBit R.SYS_SUPLAT_WIN b true).sync)

/-- Cause bit of a rail: VSYS, VCORE, VIO33, VIO18 (R469). -/
def railCause (r : Fin 4) : Fld :=
  match r with
  | 0 => R.SYS_RSTCAUSE_VSYS
  | 1 => R.SYS_RSTCAUSE_VCORE
  | 2 => R.SYS_RSTCAUSE_VIO33
  | 3 => R.SYS_RSTCAUSE_VIO18

/-- Falling reset level of a rail in mV (R455). -/
def railReset (r : Fin 4) : Nat :=
  match r with
  | 0 => 4800
  | 1 => 720
  | 2 => 2700
  | 3 => 1500

/-- SUPPLY_RESET: a rail has stood at `mv` for the reset filter; below its reset level the device resets, and a device that is in OFF for its supplies already notes the cause (R457); below the level of VSYS no carrier is left (R238 row 1), and above its rising level it is back. -/
def execSupplyReset (rail : Fin 4) (mv : Nat) (torn : Fin 3) (s : State) : Out :=
  .next (
    if railReset rail ≤ mv then (if rail = 0 ∧ 5200 < mv ∧ s.pins.noVsys = true then (s.vsysBack mv).sync else s)
    else
      let s := if rail = 0 then { s with pins := { s.pins with noVsys := true } } else s
      if s.pins.supOk then { s with pins := { s.pins with supOk := false } }.enterOff [railCause rail] true torn.val false
      else (s.raise (railCause rail)).sync)

/-! ## A run of the self-test (R446–R448) -/

/-- The key-on test runs (R450). -/
def State.keyRun (s : State) : Bool := s.on R.BIST_STAT_RUNNING && decide (s.dev = .wedging)

/-- Patterns, partition mask, seed and expected signature of a run: the registers' as they stand at its start, or the key-on profile (R446, R450). -/
def State.runProfile (s : State) (keyOn : Bool) : Bist :=
  if keyOn then
    { s.bist with count := s.get R.BIST_KPROF_PATCNT, mask := 15, seed := Config.keyOnSeed, expect := Config.keyOnSignature % 2 ^ 64 }
  else
    { s.bist with
      count := s.get R.BIST_CFG_PATCNT, mask := s.get R.BIST_CFG_MASK, seed := s.get R.BIST_SEED_VALUE
      expect := s.get R.BIST_EXPSIG_LO_VALUE + 2 ^ 32 * s.get R.BIST_EXPSIG_HI_VALUE }

/-- A run begins (R446, R448). -/
def State.bistBegin (s : State) (keyOn : Bool) : State :=
  let b := s.runProfile keyOn
  let s := (s.raise R.BIST_STAT_RUNNING).putB R.BIST_STAT_KEYON keyOn
  { s with bist := { b with since := s.cycle, restore := none, stopped := false, broken := 0, startDue := false } }

/-- Patterns applied by now: one takes 432 CORECLK cycles, after 30 µs of load and flush (R446). -/
def State.patterns (s : State) : Nat := min s.bist.count ((s.cycle - s.bist.since - 18000) / 432)

/-- No further pattern is applied: PATDONE and the MISR stand, and the restore ends 400 µs after `wait` cycles (R446, R448). -/
def State.bistRestore (s : State) (wait : Nat) : State :=
  let n := s.patterns
  let sig := Config.lbistSignature s.bist.mask n s.bist.seed
  let s := ((s.put R.BIST_PATDONE_COUNT n).put R.BIST_SIG_LO_VALUE sig).put R.BIST_SIG_HI_VALUE (sig / 2 ^ 32)
  { s with bist := { s.bist with restore := some (s.cycle + wait + 240000) } }

/-- The run applies patterns. -/
def State.patterning (s : State) : Bool := s.on R.BIST_STAT_RUNNING && s.bist.restore.isNone && decide (s.patterns < s.bist.count)

/-- A run condition breaks: the run stops within 2 µs (R447). -/
def State.bistBreak (s : State) (cause : Nat) : State :=
  if !s.patterning then s
  else
    let d := s.draw 1201
    let s := d.2.bistRestore d.1
    { s with bist := { s.bist with broken := cause } }

/-- The end of a run: the first row of R448 that applies. -/
def State.bistFinish (s : State) : State :=
  let r :=
    if s.bist.broken ≠ 0 then (4, s.bist.broken)
    else if s.bist.stopped then (3, 0)
    else if s.get R.BIST_SIG_LO_VALUE + 2 ^ 32 * s.get R.BIST_SIG_HI_VALUE = s.bist.expect then (1, 0)
    else (2, 0)
  ((s.put R.BIST_STAT_RESULT r.1).put R.BIST_STAT_INVCAUSE r.2).clear R.BIST_STAT_RUNNING

/-- The restore of the run has ended. -/
def State.bistOver (s : State) : Bool :=
  s.on R.BIST_STAT_RUNNING &&
  (match s.bist.restore with
   | some t => decide (t ≤ s.cycle)
   | none => false)

/-- An on-demand run ends: the device takes an internal reset, the BIST registers kept (R452, R464). -/
def State.bistEnd (s : State) : State :=
  let causes := if s.bist.broken = 6 then [R.SYS_RSTCAUSE_CLOCK, R.SYS_RSTCAUSE_BIST] else [R.SYS_RSTCAUSE_BIST]
  s.bistFinish.enterOff causes true 0 true

/-- The run goes on: after the last pattern it restores; an on-demand one ends with its restore (R446, R452). -/
def State.bistTick (s : State) : State :=
  let s := if s.on R.BIST_STAT_RUNNING && s.bist.restore.isNone && decide (s.patterns = s.bist.count) then s.bistRestore 0 else s
  if s.scanning && s.bistOver then s.bistEnd else s

/-! ## Clock monitor (R462–R464) -/

/-- Nominal count of a clock in a window of 1 µs, by check: crystal, PLL lock (none), CORECLK, IFCLK, FABCLK, ADCCLK, PERCLK, TSCLK, CANCLK (R460, R462). -/
def clockNominal (check : Fin 9) : Nat :=
  match check with
  | 0 => 40
  | 1 => 0
  | 2 => 600
  | 3 => 400
  | 4 => 300
  | 5 => 200
  | 6 => 150
  | 7 => 100
  | 8 => 80

/-- A count deviates: by more than 12 % for the crystal, 4 % for a divided clock (R462). -/
def clockDeviates (check : Fin 9) (n : Nat) : Bool :=
  let m := clockNominal check
  decide ((if check = 0 then 12 else 4) * m < 100 * (max m n - min m n))

/-- A fault is declared: the clock stopped, PLL lock was lost, or two consecutive windows deviate (R463). -/
def clockBad (check : Fin 9) (stopped : Bool) (w1 w2 : Nat) : Bool :=
  stopped || decide (check = 1) || (clockDeviates check w1 && clockDeviates check w2)

/-- A clock fault is recorded: CLKFLT, FAULT, the live bits of crystal and PLL, and the Saggar input (R463, R469). -/
def State.noteClock (s : State) (check : Nat) : State :=
  let s := (s.putBit R.SYS_CLKSTAT_CLKFLT check true).raise R.SYS_CLKSTAT_FAULT
  let s := if check = 0 then s.clear R.SYS_CLKSTAT_XTALOK else if check = 1 then s.clear R.SYS_CLKSTAT_PLLLOCK else s
  s.setCond 0 25 true

/-- A declared fault while an on-demand run is in progress: INVALID with INVCAUSE 6, whatever stopped it before; with FABCLK stopped there is no restore (R464). -/
def State.scanClockFault (s : State) (fabStopped : Bool) : State :=
  let s := s.bistBreak 6
  let s := { s with bist := { s.bist with broken := 6 } }
  if fabStopped then s.bistEnd else s

/-- CLOCK_FAULT: the counts of two consecutive windows, or a clock without an edge for 250 ns; checks in the bit order of CLKFLT. In BANKED the checks of the gated clocks are suspended (R462, R463). The reaction by state is R464's. -/
def execClockFault (check : Fin 9) (stopped : Bool) (w1 w2 : Nat) (s : State) : Out :=
  .next (
    if !clockBad check stopped w1 w2 then s
    else
      let dead := fun (s : State) => { s with clkDead := setBit s.clkDead check.val true }
      match s.dev with
      | .off => s
      | .banked =>
        if 2 ≤ check.val then s else (s.noteClock check.val).enterOff [R.SYS_RSTCAUSE_CLOCK] true 0 false
      | .safeHold => dead (s.noteClock check.val).sync
      | .run => dead (((s.noteClock check.val).sync).enterHold 5)
      | _ =>
        let t := (s.noteClock check.val).sync
        if s.scanning then t.scanClockFault (decide (check = 4) && stopped)
        else if s.dev = .ready ∧ s.entering = false then dead (t.enterHold 5)
        else t.enterOff [R.SYS_RSTCAUSE_CLOCK] true 0 false)

/-- A running data-plane reset completes (R468). -/
def State.dprTick (s : State) : State :=
  match s.dprDue with
  | some d => if d ≤ s.cycle then { s.clear R.SYS_RSTCTL_DPBUSY with dprDue := none } else s
  | none => s

/-! ## Requests in RSTCTL (R467, R468) -/

/-- SWRST: a software reset requested with a key (R467); in SAFE_HOLD from the Cone only, and never in RUN. It outranks a SAFE_HOLD cause or a last BANKED agreement that has taken the device out of READY in the same FABCLK cycle (R38). -/
def execSwrst (req : Requester) (key : BitVec 8) (s : State) : Out :=
  .next (
    if s.overtaken req then
      (if key = 0xA5#8 ∧ s.get R.SYS_STATE_PREV = 3 then
        ({ s with dev := .ready }).enterOff [R.SYS_RSTCAUSE_SWRST] true 0 false
      else s.raise R.SYS_RSTCTL_RSTREJ)
    else if !s.busUp || !s.mayWrite req then s
    else if key = 0xA5#8 ∧ req ≠ .debug ∧ (s.dev = .noimage ∨ s.dev = .ready ∨ (s.dev = .safeHold ∧ req = .cone)) then
      s.enterOff [R.SYS_RSTCAUSE_SWRST] true 0 false
    else s.raise R.SYS_RSTCTL_RSTREJ)

/-- What a data-plane reset does (R364, R468). -/
def State.dataPlaneReset (s : State) : State :=
  let s := s.queuesReset.canReset
  let s := if s.hasEth then s.ethReset else s
  if s.hasShard then s.recReset else s

/-- DPRST: a data-plane reset requested with a key; it runs for up to 2 µs, DPBUSY reading 1, to an instant the spec leaves open (R468, assumption 5). -/
def execDprst (req : Requester) (key : BitVec 8) (s : State) : Out :=
  .next (
    if !s.busUp || !s.mayWrite req then s
    else if key = 0xA5#8 ∧ req ≠ .debug ∧ (s.dev = .ready ∨ s.dev = .run) ∧ s.entering = false ∧ s.stopping = false then
      let d := s.dataPlaneReset.draw 1200
      { d.2.raise R.SYS_RSTCTL_DPBUSY with dprDue := some (s.cycle + 1 + d.1) }
    else s.raise R.SYS_RSTCTL_RSTREJ)

end Sys2Proof.Machine
end

