-- ==== Sys2Proof/Machine/Bist.lean ====
section
/-! DEFINITION. Built-in self-test (R445–R453): the on-demand run and the key-on test. -/

namespace Sys2Proof.Machine

open Sys2Proof

/-- Who may write BIST registers (R451). -/
def State.bistWriter (s : State) (req : Requester) : Bool :=
  match s.sec.lc with
  | .manufacture => decide (req = .hspi) || decide (req = .debug)
  | .rma => decide (req = .hspi) || decide (req = .debug)
  | .develop => decide (req = .debug) && s.on R.SEC_DBGSTAT_UNLOCKED
  | _ => false

/-- A run request or a BANKED ENTER has been accepted on this FABCLK edge (R452). -/
def State.bistClash (s : State) : Bool :=
  match s.cause with
  | some (t, p) => decide (t = s.fab) && (decide (p = 3) || decide (p = 4))
  | none => false

/-- A run that does not begin (R448). -/
def State.bistInvalid (s : State) (cause : Nat) : State :=
  (((s.put R.BIST_STAT_RESULT 4).put R.BIST_STAT_INVCAUSE cause).clear R.BIST_STAT_KEYON).clear R.BIST_PATDONE_COUNT

/-- LBIST_START (R448, R451, R452): accepted, the run begins as the FABCLK cycle ends, unless a run request or an ENTER is accepted in it. -/
def execLbistStart (req : Requester) (s : State) : Out :=
  .next (
    if !s.busUp || !s.mayWrite req then s
    else if !s.bistWriter req then s.raise R.BIST_STAT_CFGREJ
    else if s.bistClash then s.raise R.BIST_STAT_BUSY_REJ
    else if s.dev ≠ .ready ∧ s.dev ≠ .noimage then s.raise R.BIST_STAT_CFGREJ
    else if s.entering then s.raise R.BIST_STAT_BUSY_REJ
    else if s.get R.BIST_CFG_PATCNT = 0 then s.bistInvalid 1
    else if s.get R.BIST_CFG_MASK = 0 then s.bistInvalid 2
    else
      { s with bist := { s.bist with startDue := true } })

/-- A START accepted in the FABCLK cycle that has ended: the run begins, and a running safe-output test ends without a result (R452). -/
def State.bistStart (s : State) : State :=
  if s.bist.startDue && decide (s.cycle % 2 = 0) then
    if s.dev = .ready ∨ s.dev = .noimage then
      let s := s.each (List.range 4) fun s x => if s.on (R.SAFEOUT_OSTAT_TESTING x) then (s.soAbort x).soFollow x else s
      s.bistBegin false
    else { s.raise R.BIST_STAT_CFGREJ with bist := { s.bist with startDue := false } }
  else s

/-- LBIST_STOP: the debug port, which reaches the controller directly, cuts the run short (R449). -/
def execLbistStop (req : Requester) (s : State) : Out :=
  .next (
    if s.scanning || s.keyRun then
      (if req = .debug ∧ s.bistWriter req = true ∧ s.patterning = true then
        let s := s.bistRestore 0
        { s with bist := { s.bist with stopped := true } }
      else s)
    else if !s.mayWrite req then s
    else if !s.bistWriter req || decide (req ≠ .debug) then s.raise R.BIST_STAT_CFGREJ
    else s)

/-- The run condition that a FABCLK at `khz` and a VCORE sample of `mv` break, as INVCAUSE (R447, R453). -/
def runBroken (khz mv : Nat) : Option Nat :=
  if khz < 297000 ∨ 303000 < khz then some 3
  else if mv < 780 then some 4
  else if 840 < mv then some 5
  else none

/-- RUN_CONDITION_BROKEN: what the monitors see of FABCLK, in kHz, and VCORE, in mV; a broken condition stops a run in progress (R447). -/
def execRunConditionBroken (khz mv : Nat) (s : State) : Out :=
  .next (match runBroken khz mv with
    | some c => s.bistBreak c
    | none => s)

/-- LBIST_RUN_END: where restore has ended the result stands and the device takes an internal reset (R448, R452, R464). -/
def execLbistRunEnd (s : State) : Out := .next (if s.scanning && s.bistOver then s.bistEnd else s)

/-- A BIST register written (R451). -/
def State.bistWrite (s : State) (req : Requester) (addr v : Nat) : State :=
  if s.bistWriter req then (s.clearW1c addr v).storeReg false addr v |>.2 else s.raise R.BIST_STAT_CFGREJ

end Sys2Proof.Machine
end

