-- ==== Sys2Proof/Machine/Syllables.lean ====
section
/-! DEFINITION. Syllables (R47, R48, R508–R511): the operation a 32-bit syllable holds in each slot of a bundle; none where the encoding is undefined, which refuses a schedule with ENCODING (R99). -/

namespace Sys2Proof.Machine

open Sys2Proof

/-- Bits [lo + k − 1 : lo] of a syllable. -/
def sylBits (w lo k : Nat) : Fin (2 ^ k) := ⟨slice w lo k, Nat.mod_lt _ (Nat.two_pow_pos k)⟩

/-- OP, the guard, and the fields D, A, B (R48). -/
def sylOp (w : Nat) : Nat := slice w 26 6
def sylGuard (w : Nat) : Guard := { psel := sylBits w 23 3, pinv := w.testBit 22 }
def sylD (w : Nat) : Fin 128 := sylBits w 15 7
def sylA (w : Nat) : Fin 128 := sylBits w 8 7
def sylB (w : Nat) : Fin 128 := sylBits w 1 7

/-- The bits of the given ranges (lowest bit, width) are zero (R48: an operand bit that an operation does not use is zero). -/
def sylClear (w : Nat) (unused : List (Nat × Nat)) : Bool := unused.all fun r => decide (slice w r.1 r.2 = 0)

/-- An operation, where the bits of [21:0] it does not use are zero. -/
def sylIf (w : Nat) (unused : List (Nat × Nat)) (i : Instr) : Option Instr :=
  if sylClear w unused then some i else none

/-- F0–F3 (R508). -/
def decodeF (w : Nat) : Option Instr :=
  let gd := sylGuard w
  let d := sylD w
  let a := sylA w
  let b := sylB w
  let pd : Fin 8 := sylBits w 15 3
  let pa : Fin 8 := sylBits w 8 3
  let pb : Fin 8 := sylBits w 1 3
  let amt : Fin 32 := sylBits w 1 5
  match sylOp w with
  | 0x00 => sylIf w [(0, 22)] .nop
  | 0x01 => sylIf w [(0, 1)] (.fadd gd d a b)
  | 0x02 => sylIf w [(0, 1)] (.fsub gd d a b)
  | 0x03 => sylIf w [(0, 1)] (.fmul gd d a b)
  | 0x04 => sylIf w [(0, 1)] (.fma gd d a b)
  | 0x05 => sylIf w [(0, 1)] (.fms gd d a b)
  | 0x06 => sylIf w [(0, 1)] (.fnms gd d a b)
  | 0x07 => sylIf w [(0, 1)] (.fmin gd d a b)
  | 0x08 => sylIf w [(0, 1)] (.fmax gd d a b)
  | 0x09 => sylIf w [(0, 8)] (.fabs gd d a)
  | 0x0A => sylIf w [(0, 8)] (.fneg gd d a)
  | 0x10 => sylIf w [(0, 1)] (.add gd d a b)
  | 0x11 => sylIf w [(0, 1)] (.sub gd d a b)
  | 0x12 => sylIf w [(0, 1)] (.mul gd d a b)
  | 0x13 => sylIf w [(0, 1)] (.and gd d a b)
  | 0x14 => sylIf w [(0, 1)] (.or gd d a b)
  | 0x15 => sylIf w [(0, 1)] (.xor gd d a b)
  | 0x16 => sylIf w [(0, 1)] (.shl gd d a b)
  | 0x17 => sylIf w [(0, 1)] (.shr gd d a b)
  | 0x18 => sylIf w [(0, 1)] (.sra gd d a b)
  | 0x19 => sylIf w [(0, 1), (6, 2)] (.shli gd d a amt)
  | 0x1A => sylIf w [(0, 1), (6, 2)] (.shri gd d a amt)
  | 0x1B => sylIf w [(0, 1), (6, 2)] (.srai gd d a amt)
  | 0x1C => sylIf w [(0, 1)] (.min gd d a b)
  | 0x1D => sylIf w [(0, 1)] (.max gd d a b)
  | 0x20 => sylIf w [(0, 1)] (.qadd gd d a b)
  | 0x21 => sylIf w [(0, 1)] (.qsub gd d a b)
  | 0x22 => sylIf w [(0, 1)] (.qmul gd d a b)
  | 0x23 => sylIf w [(0, 1)] (.qshl gd d a b)
  | 0x24 => sylIf w [(0, 8)] (.fcvtS32 gd d a)
  | 0x25 => sylIf w [(0, 8)] (.fcvtU32 gd d a)
  | 0x26 => sylIf w [(0, 8)] (.icvtS32 gd d a)
  | 0x27 => sylIf w [(0, 8)] (.icvtU32 gd d a)
  | 0x28 => sylIf w [(0, 1), (18, 4)] (.fcmpEq gd pd a b)
  | 0x29 => sylIf w [(0, 1), (18, 4)] (.fcmpNe gd pd a b)
  | 0x2A => sylIf w [(0, 1), (18, 4)] (.fcmpLt gd pd a b)
  | 0x2B => sylIf w [(0, 1), (18, 4)] (.fcmpLe gd pd a b)
  | 0x2C => sylIf w [(0, 1), (18, 4)] (.fcmpGt gd pd a b)
  | 0x2D => sylIf w [(0, 1), (18, 4)] (.fcmpGe gd pd a b)
  | 0x30 => sylIf w [(0, 1), (18, 4)] (.icmpEq gd pd a b)
  | 0x31 => sylIf w [(0, 1), (18, 4)] (.icmpNe gd pd a b)
  | 0x32 => sylIf w [(0, 1), (18, 4)] (.icmpLt gd pd a b)
  | 0x33 => sylIf w [(0, 1), (18, 4)] (.icmpLe gd pd a b)
  | 0x34 => sylIf w [(0, 1), (18, 4)] (.icmpGt gd pd a b)
  | 0x35 => sylIf w [(0, 1), (18, 4)] (.icmpGe gd pd a b)
  | 0x36 => sylIf w [(0, 1), (18, 4)] (.icmpLtu gd pd a b)
  | 0x37 => sylIf w [(0, 1), (18, 4)] (.icmpLeu gd pd a b)
  | 0x38 => sylIf w [(0, 1), (18, 4)] (.icmpGtu gd pd a b)
  | 0x39 => sylIf w [(0, 1), (18, 4)] (.icmpGeu gd pd a b)
  | 0x3A => sylIf w [(0, 1), (4, 4), (11, 4), (18, 4)] (.pand gd pd pa pb)
  | 0x3B => sylIf w [(0, 1), (4, 4), (11, 4), (18, 4)] (.por gd pd pa pb)
  | 0x3C => sylIf w [(0, 1), (4, 4), (11, 4), (18, 4)] (.pxor gd pd pa pb)
  | 0x3D => sylIf w [(0, 8), (11, 4), (18, 4)] (.pnot gd pd pa)
  | 0x3E => sylIf w [(0, 8)] (.mov gd d a)
  | 0x3F => some (.movi gd d (BitVec.ofNat 15 (w % 2 ^ 15)))
  | _ => none

/-- T0 and T1 (R509); SINCOS needs an even D (R55). -/
def decodeT (w : Nat) : Option Instr :=
  let gd := sylGuard w
  let d := sylD w
  let a := sylA w
  match sylOp w with
  | 0x00 => sylIf w [(0, 22)] .nop
  | 0x01 => sylIf w [(0, 8)] (.sin gd d a)
  | 0x02 => sylIf w [(0, 8)] (.cos gd d a)
  | 0x03 => if d.val % 2 = 0 then sylIf w [(0, 8)] (.sincos gd d a) else none
  | 0x04 => sylIf w [(0, 1)] (.atan2 gd d a (sylB w))
  | 0x05 => sylIf w [(0, 8)] (.sqrt gd d a)
  | 0x06 => sylIf w [(0, 8)] (.rcp gd d a)
  | 0x07 => sylIf w [(0, 8)] (.rsqrt gd d a)
  | _ => none

/-- M (R510): the single forms, coefficient with data, and the dual data forms. -/
def decodeM (w : Nat) : Option Instr :=
  let gd := sylGuard w
  let op := sylOp w
  let g := sylD w
  let g2 := sylA w
  let k : Fin 16 := sylBits w 0 4
  let inc : Fin 4 := sylBits w 4 2
  let cj : Fin 4 := sylBits w 6 2
  let dj : Fin 16 := sylBits w 4 4
  let op1 : Fin 4 := sylBits w 28 2
  let op0 : Fin 4 := sylBits w 26 2
  if op = 0x00 then sylIf w [(0, 22)] .nop
  else if op = 0x01 then sylIf w [(6, 9)] (.ld gd g k inc)
  else if op = 0x02 then sylIf w [(6, 9)] (.st gd g k inc)
  else if op = 0x03 then sylIf w [(0, 4), (8, 7)] (.ldc gd g cj inc)
  else if op = 0x04 then sylIf w [(4, 4), (15, 7)] (.setar gd k g2)
  else if op = 0x05 then sylIf w [(0, 6), (15, 7)] (.setcp gd cj g2)
  else if 0x08 ≤ op ∧ op ≤ 0x0B then some (.ldcLd gd g g2 cj inc k op0)
  else if 0x0C ≤ op ∧ op ≤ 0x0F then some (.ldcSt gd g g2 cj inc k op0)
  else if 0x10 ≤ op ∧ op ≤ 0x1F then some (.ld2 gd g g2 dj k op1 op0)
  else if 0x20 ≤ op ∧ op ≤ 0x2F then some (.st2 gd g g2 dj k op1 op0)
  else if 0x30 ≤ op then some (.ldst gd g g2 dj k op1 op0)
  else none

/-- X (R511); HB, TEND and HLOOP are never guarded (R51). -/
def decodeX (w : Nat) : Option Instr :=
  let gd := sylGuard w
  let d := sylD w
  let a := sylA w
  let b := sylB w
  let a3 : Fin 8 := sylBits w 8 3
  let pv : Fin 8 := sylBits w 1 3
  let free := decide (slice w 22 4 = 0)
  match sylOp w with
  | 0x00 => sylIf w [(0, 22)] .nop
  | 0x01 => sylIf w [(0, 8), (11, 11)] (.adcTrig gd a3)
  | 0x02 => sylIf w [(0, 1), (4, 4), (12, 3)] (.adcRd gd d (sylBits w 8 4) pv)
  | 0x03 =>
    if h : slice w 8 3 < 6 then sylIf w [(0, 1), (4, 4), (11, 4)] (.sdRd gd d ⟨slice w 8 3, h⟩ pv) else none
  | 0x04 =>
    if h : slice w 8 5 < 20 then sylIf w [(0, 1), (4, 4), (13, 2)] (.posRd gd d ⟨slice w 8 5, h⟩ pv) else none
  | 0x05 =>
    match slice w 15 2 with
    | 0 => sylIf w [(0, 1), (11, 4), (17, 5)] (.pwmWr gd a3 false b)
    | 1 => sylIf w [(0, 1), (11, 4), (17, 5)] (.pwmWr gd a3 true b)
    | 2 => sylIf w [(0, 1), (11, 4), (17, 5)] (.pwmWrForce gd a3 b)
    | _ => none
  | 0x06 => sylIf w [(0, 1)] (.pwmGrpa gd d a b)
  | 0x07 => sylIf w [(0, 1)] (.pwmGrpb gd d a b)
  | 0x08 => if slice w 8 2 = 0 then none else sylIf w [(0, 8), (10, 12)] (.comm gd (sylBits w 8 2))
  | 0x09 => sylIf w [(0, 1), (11, 11)] (.rampTgt gd a3 b)
  | 0x0A => sylIf w [(0, 8), (11, 4)] (.rampRd gd d a3)
  | 0x0B =>
    match slice w 1 2 with
    | 1 => sylIf w [(0, 1), (3, 5), (11, 11)] (.loopCmdClose gd a3)
    | 2 => sylIf w [(0, 1), (3, 5), (11, 11)] (.loopCmdOpen gd a3)
    | 3 => sylIf w [(0, 1), (3, 5), (11, 11)] (.loopCmdFbloss gd a3)
    | _ => none
  | 0x0C => sylIf w [(0, 1), (11, 11)] (.loopMeas gd a3 b)
  | 0x0D => sylIf w [(0, 8), (11, 4)] (.loopRd gd d a3)
  | 0x0E => sylIf w [(0, 1), (11, 4)] (.rcuRd gd d a3 b)
  | 0x0F => sylIf w [(0, 1), (11, 11)] (.rcuLrn gd a3 b)
  | 0x10 => sylIf w [(0, 1), (20, 2)] (.qPush gd (sylBits w 15 5) a b)
  | 0x11 => sylIf w [(0, 1), (20, 2)] (.qPushe gd (sylBits w 15 5) a b)
  | 0x12 => sylIf w [(0, 2)] (.xwRd gd d (sylBits w 12 3) (sylBits w 2 10))
  | 0x13 => sylIf w [(0, 1), (11, 4)] (.xwRdx gd d a3 b)
  | 0x14 => sylIf w [(0, 2)] (.xwWr gd d (sylBits w 12 3) (sylBits w 2 10))
  | 0x15 => sylIf w [(0, 1), (11, 4)] (.xwWrx gd d a3 b)
  | 0x16 => sylIf w [(0, 8), (9, 6)] (.tsRd gd d (w.testBit 8))
  | 0x17 => sylIf w [(0, 15)] (.tcRd gd d)
  | 0x18 => if free then sylIf w [(0, 8), (15, 7)] (.hb a) else none
  | 0x19 => if free then some (.hloop (w.testBit 21) (sylBits w 9 12) (sylBits w 0 9)) else none
  | 0x1A => if free then sylIf w [(0, 22)] .tend else none
  | _ => none

/-- The operation of a syllable in slot 0–7 (R47): F0–F3, T0, T1, M, X. -/
def decodeSyl (slot w : Nat) : Option Instr :=
  if slot < 4 then decodeF w
  else if slot < 6 then decodeT w
  else if slot = 6 then decodeM w
  else decodeX w

/-! ## The syllable of an operation (R48, R508–R511) -/

/-- OP in [31:26], PSEL in [25:23], PINV in [22], the operand fields below (R48). -/
def sylWord (op : Nat) (gd : Guard) (rest : Nat) : Nat :=
  op * 2 ^ 26 + gd.psel.val * 2 ^ 23 + (if gd.pinv then 2 ^ 22 else 0) + rest

/-- A syllable whose PSEL and PINV are zero. -/
def plainGuard : Guard := { psel := 0, pinv := false }

/-- The F-slot syllable of an operation; none where the slot has none (R508). -/
def encodeF (i : Instr) : Option Nat :=
  match i with
  | .nop => some 0
  | .fadd gd d a b => some (sylWord 0x01 gd (d.val * 2 ^ 15 + a.val * 2 ^ 8 + b.val * 2))
  | .fsub gd d a b => some (sylWord 0x02 gd (d.val * 2 ^ 15 + a.val * 2 ^ 8 + b.val * 2))
  | .fmul gd d a b => some (sylWord 0x03 gd (d.val * 2 ^ 15 + a.val * 2 ^ 8 + b.val * 2))
  | .fma gd d a b => some (sylWord 0x04 gd (d.val * 2 ^ 15 + a.val * 2 ^ 8 + b.val * 2))
  | .fms gd d a b => some (sylWord 0x05 gd (d.val * 2 ^ 15 + a.val * 2 ^ 8 + b.val * 2))
  | .fnms gd d a b => some (sylWord 0x06 gd (d.val * 2 ^ 15 + a.val * 2 ^ 8 + b.val * 2))
  | .fmin gd d a b => some (sylWord 0x07 gd (d.val * 2 ^ 15 + a.val * 2 ^ 8 + b.val * 2))
  | .fmax gd d a b => some (sylWord 0x08 gd (d.val * 2 ^ 15 + a.val * 2 ^ 8 + b.val * 2))
  | .fabs gd d a => some (sylWord 0x09 gd (d.val * 2 ^ 15 + a.val * 2 ^ 8))
  | .fneg gd d a => some (sylWord 0x0A gd (d.val * 2 ^ 15 + a.val * 2 ^ 8))
  | .add gd d a b => some (sylWord 0x10 gd (d.val * 2 ^ 15 + a.val * 2 ^ 8 + b.val * 2))
  | .sub gd d a b => some (sylWord 0x11 gd (d.val * 2 ^ 15 + a.val * 2 ^ 8 + b.val * 2))
  | .mul gd d a b => some (sylWord 0x12 gd (d.val * 2 ^ 15 + a.val * 2 ^ 8 + b.val * 2))
  | .and gd d a b => some (sylWord 0x13 gd (d.val * 2 ^ 15 + a.val * 2 ^ 8 + b.val * 2))
  | .or gd d a b => some (sylWord 0x14 gd (d.val * 2 ^ 15 + a.val * 2 ^ 8 + b.val * 2))
  | .xor gd d a b => some (sylWord 0x15 gd (d.val * 2 ^ 15 + a.val * 2 ^ 8 + b.val * 2))
  | .shl gd d a b => some (sylWord 0x16 gd (d.val * 2 ^ 15 + a.val * 2 ^ 8 + b.val * 2))
  | .shr gd d a b => some (sylWord 0x17 gd (d.val * 2 ^ 15 + a.val * 2 ^ 8 + b.val * 2))
  | .sra gd d a b => some (sylWord 0x18 gd (d.val * 2 ^ 15 + a.val * 2 ^ 8 + b.val * 2))
  | .shli gd d a amt => some (sylWord 0x19 gd (d.val * 2 ^ 15 + a.val * 2 ^ 8 + amt.val * 2))
  | .shri gd d a amt => some (sylWord 0x1A gd (d.val * 2 ^ 15 + a.val * 2 ^ 8 + amt.val * 2))
  | .srai gd d a amt => some (sylWord 0x1B gd (d.val * 2 ^ 15 + a.val * 2 ^ 8 + amt.val * 2))
  | .min gd d a b => some (sylWord 0x1C gd (d.val * 2 ^ 15 + a.val * 2 ^ 8 + b.val * 2))
  | .max gd d a b => some (sylWord 0x1D gd (d.val * 2 ^ 15 + a.val * 2 ^ 8 + b.val * 2))
  | .qadd gd d a b => some (sylWord 0x20 gd (d.val * 2 ^ 15 + a.val * 2 ^ 8 + b.val * 2))
  | .qsub gd d a b => some (sylWord 0x21 gd (d.val * 2 ^ 15 + a.val * 2 ^ 8 + b.val * 2))
  | .qmul gd d a b => some (sylWord 0x22 gd (d.val * 2 ^ 15 + a.val * 2 ^ 8 + b.val * 2))
  | .qshl gd d a b => some (sylWord 0x23 gd (d.val * 2 ^ 15 + a.val * 2 ^ 8 + b.val * 2))
  | .fcvtS32 gd d a => some (sylWord 0x24 gd (d.val * 2 ^ 15 + a.val * 2 ^ 8))
  | .fcvtU32 gd d a => some (sylWord 0x25 gd (d.val * 2 ^ 15 + a.val * 2 ^ 8))
  | .icvtS32 gd d a => some (sylWord 0x26 gd (d.val * 2 ^ 15 + a.val * 2 ^ 8))
  | .icvtU32 gd d a => some (sylWord 0x27 gd (d.val * 2 ^ 15 + a.val * 2 ^ 8))
  | .fcmpEq gd pd a b => some (sylWord 0x28 gd (pd.val * 2 ^ 15 + a.val * 2 ^ 8 + b.val * 2))
  | .fcmpNe gd pd a b => some (sylWord 0x29 gd (pd.val * 2 ^ 15 + a.val * 2 ^ 8 + b.val * 2))
  | .fcmpLt gd pd a b => some (sylWord 0x2A gd (pd.val * 2 ^ 15 + a.val * 2 ^ 8 + b.val * 2))
  | .fcmpLe gd pd a b => some (sylWord 0x2B gd (pd.val * 2 ^ 15 + a.val * 2 ^ 8 + b.val * 2))
  | .fcmpGt gd pd a b => some (sylWord 0x2C gd (pd.val * 2 ^ 15 + a.val * 2 ^ 8 + b.val * 2))
  | .fcmpGe gd pd a b => some (sylWord 0x2D gd (pd.val * 2 ^ 15 + a.val * 2 ^ 8 + b.val * 2))
  | .icmpEq gd pd a b => some (sylWord 0x30 gd (pd.val * 2 ^ 15 + a.val * 2 ^ 8 + b.val * 2))
  | .icmpNe gd pd a b => some (sylWord 0x31 gd (pd.val * 2 ^ 15 + a.val * 2 ^ 8 + b.val * 2))
  | .icmpLt gd pd a b => some (sylWord 0x32 gd (pd.val * 2 ^ 15 + a.val * 2 ^ 8 + b.val * 2))
  | .icmpLe gd pd a b => some (sylWord 0x33 gd (pd.val * 2 ^ 15 + a.val * 2 ^ 8 + b.val * 2))
  | .icmpGt gd pd a b => some (sylWord 0x34 gd (pd.val * 2 ^ 15 + a.val * 2 ^ 8 + b.val * 2))
  | .icmpGe gd pd a b => some (sylWord 0x35 gd (pd.val * 2 ^ 15 + a.val * 2 ^ 8 + b.val * 2))
  | .icmpLtu gd pd a b => some (sylWord 0x36 gd (pd.val * 2 ^ 15 + a.val * 2 ^ 8 + b.val * 2))
  | .icmpLeu gd pd a b => some (sylWord 0x37 gd (pd.val * 2 ^ 15 + a.val * 2 ^ 8 + b.val * 2))
  | .icmpGtu gd pd a b => some (sylWord 0x38 gd (pd.val * 2 ^ 15 + a.val * 2 ^ 8 + b.val * 2))
  | .icmpGeu gd pd a b => some (sylWord 0x39 gd (pd.val * 2 ^ 15 + a.val * 2 ^ 8 + b.val * 2))
  | .pand gd pd pa pb => some (sylWord 0x3A gd (pd.val * 2 ^ 15 + pa.val * 2 ^ 8 + pb.val * 2))
  | .por gd pd pa pb => some (sylWord 0x3B gd (pd.val * 2 ^ 15 + pa.val * 2 ^ 8 + pb.val * 2))
  | .pxor gd pd pa pb => some (sylWord 0x3C gd (pd.val * 2 ^ 15 + pa.val * 2 ^ 8 + pb.val * 2))
  | .pnot gd pd pa => some (sylWord 0x3D gd (pd.val * 2 ^ 15 + pa.val * 2 ^ 8))
  | .mov gd d a => some (sylWord 0x3E gd (d.val * 2 ^ 15 + a.val * 2 ^ 8))
  | .movi gd d imm => some (sylWord 0x3F gd (d.val * 2 ^ 15 + imm.toNat))
  | _ => none

/-- The T-slot syllable (R509). -/
def encodeT (i : Instr) : Option Nat :=
  match i with
  | .nop => some 0
  | .sin gd d a => some (sylWord 0x01 gd (d.val * 2 ^ 15 + a.val * 2 ^ 8))
  | .cos gd d a => some (sylWord 0x02 gd (d.val * 2 ^ 15 + a.val * 2 ^ 8))
  | .sincos gd d a => some (sylWord 0x03 gd (d.val * 2 ^ 15 + a.val * 2 ^ 8))
  | .atan2 gd d a b => some (sylWord 0x04 gd (d.val * 2 ^ 15 + a.val * 2 ^ 8 + b.val * 2))
  | .sqrt gd d a => some (sylWord 0x05 gd (d.val * 2 ^ 15 + a.val * 2 ^ 8))
  | .rcp gd d a => some (sylWord 0x06 gd (d.val * 2 ^ 15 + a.val * 2 ^ 8))
  | .rsqrt gd d a => some (sylWord 0x07 gd (d.val * 2 ^ 15 + a.val * 2 ^ 8))
  | _ => none

/-- The M-slot syllable (R510). -/
def encodeM (i : Instr) : Option Nat :=
  match i with
  | .nop => some 0
  | .ld gd g k inc => some (sylWord 0x01 gd (g.val * 2 ^ 15 + inc.val * 2 ^ 4 + k.val))
  | .st gd g k inc => some (sylWord 0x02 gd (g.val * 2 ^ 15 + inc.val * 2 ^ 4 + k.val))
  | .ldc gd g j inc => some (sylWord 0x03 gd (g.val * 2 ^ 15 + j.val * 2 ^ 6 + inc.val * 2 ^ 4))
  | .setar gd k g => some (sylWord 0x04 gd (g.val * 2 ^ 8 + k.val))
  | .setcp gd j g => some (sylWord 0x05 gd (g.val * 2 ^ 8 + j.val * 2 ^ 6))
  | .ldcLd gd g g2 j incC k incA =>
    some (sylWord (0x08 + incA.val) gd (g.val * 2 ^ 15 + g2.val * 2 ^ 8 + j.val * 2 ^ 6 + incC.val * 2 ^ 4 + k.val))
  | .ldcSt gd g g2 j incC k incA =>
    some (sylWord (0x0C + incA.val) gd (g.val * 2 ^ 15 + g2.val * 2 ^ 8 + j.val * 2 ^ 6 + incC.val * 2 ^ 4 + k.val))
  | .ld2 gd g g2 j k inc1 inc2 =>
    some (sylWord (0x10 + inc1.val * 4 + inc2.val) gd (g.val * 2 ^ 15 + g2.val * 2 ^ 8 + j.val * 2 ^ 4 + k.val))
  | .st2 gd g g2 j k inc1 inc2 =>
    some (sylWord (0x20 + inc1.val * 4 + inc2.val) gd (g.val * 2 ^ 15 + g2.val * 2 ^ 8 + j.val * 2 ^ 4 + k.val))
  | .ldst gd g g2 j k inc1 inc2 =>
    some (sylWord (0x30 + inc1.val * 4 + inc2.val) gd (g.val * 2 ^ 15 + g2.val * 2 ^ 8 + j.val * 2 ^ 4 + k.val))
  | _ => none

/-- The X-slot syllable (R511). -/
def encodeX (i : Instr) : Option Nat :=
  match i with
  | .nop => some 0
  | .adcTrig gd grp => some (sylWord 0x01 gd (grp.val * 2 ^ 8))
  | .adcRd gd g conv pv => some (sylWord 0x02 gd (g.val * 2 ^ 15 + conv.val * 2 ^ 8 + pv.val * 2))
  | .sdRd gd g ch pv => some (sylWord 0x03 gd (g.val * 2 ^ 15 + ch.val * 2 ^ 8 + pv.val * 2))
  | .posRd gd g src pv => some (sylWord 0x04 gd (g.val * 2 ^ 15 + src.val * 2 ^ 8 + pv.val * 2))
  | .pwmWr gd gen isB g => some (sylWord 0x05 gd ((if isB then 2 ^ 15 else 0) + gen.val * 2 ^ 8 + g.val * 2))
  | .pwmWrForce gd gen g => some (sylWord 0x05 gd (2 * 2 ^ 15 + gen.val * 2 ^ 8 + g.val * 2))
  | .pwmGrpa gd g1 g2 g3 => some (sylWord 0x06 gd (g1.val * 2 ^ 15 + g2.val * 2 ^ 8 + g3.val * 2))
  | .pwmGrpb gd g1 g2 g3 => some (sylWord 0x07 gd (g1.val * 2 ^ 15 + g2.val * 2 ^ 8 + g3.val * 2))
  | .comm gd mask => some (sylWord 0x08 gd (mask.val * 2 ^ 8))
  | .rampTgt gd u g => some (sylWord 0x09 gd (u.val * 2 ^ 8 + g.val * 2))
  | .rampRd gd g u => some (sylWord 0x0A gd (g.val * 2 ^ 15 + u.val * 2 ^ 8))
  | .loopCmdClose gd l => some (sylWord 0x0B gd (l.val * 2 ^ 8 + 1 * 2))
  | .loopCmdOpen gd l => some (sylWord 0x0B gd (l.val * 2 ^ 8 + 2 * 2))
  | .loopCmdFbloss gd l => some (sylWord 0x0B gd (l.val * 2 ^ 8 + 3 * 2))
  | .loopMeas gd l g => some (sylWord 0x0C gd (l.val * 2 ^ 8 + g.val * 2))
  | .loopRd gd g l => some (sylWord 0x0D gd (g.val * 2 ^ 15 + l.val * 2 ^ 8))
  | .rcuRd gd g ch ga => some (sylWord 0x0E gd (g.val * 2 ^ 15 + ch.val * 2 ^ 8 + ga.val * 2))
  | .rcuLrn gd ch g => some (sylWord 0x0F gd (ch.val * 2 ^ 8 + g.val * 2))
  | .qPush gd q gl gh => some (sylWord 0x10 gd (q.val * 2 ^ 15 + gl.val * 2 ^ 8 + gh.val * 2))
  | .qPushe gd q gl gh => some (sylWord 0x11 gd (q.val * 2 ^ 15 + gl.val * 2 ^ 8 + gh.val * 2))
  | .xwRd gd g w off => some (sylWord 0x12 gd (g.val * 2 ^ 15 + w.val * 2 ^ 12 + off.val * 2 ^ 2))
  | .xwRdx gd g w go => some (sylWord 0x13 gd (g.val * 2 ^ 15 + w.val * 2 ^ 8 + go.val * 2))
  | .xwWr gd g w off => some (sylWord 0x14 gd (g.val * 2 ^ 15 + w.val * 2 ^ 12 + off.val * 2 ^ 2))
  | .xwWrx gd g w go => some (sylWord 0x15 gd (g.val * 2 ^ 15 + w.val * 2 ^ 8 + go.val * 2))
  | .tsRd gd g half => some (sylWord 0x16 gd (g.val * 2 ^ 15 + if half then 2 ^ 8 else 0))
  | .tcRd gd g => some (sylWord 0x17 gd (g.val * 2 ^ 15))
  | .hb g => some (sylWord 0x18 plainGuard (g.val * 2 ^ 8))
  | .hloop inner count len =>
    some (sylWord 0x19 plainGuard ((if inner then 2 ^ 21 else 0) + count.val * 2 ^ 9 + len.val))
  | .tend => some (sylWord 0x1A plainGuard 0)
  | _ => none

/-- The syllable of an operation in a slot (R47). -/
def encodeSyl (slot : Nat) (i : Instr) : Option Nat :=
  if slot < 4 then encodeF i
  else if slot < 6 then encodeT i
  else if slot = 6 then encodeM i
  else encodeX i

end Sys2Proof.Machine
end

