-- ==== Sys2Proof/Machine/Contract.lean ====
section
/-! DEFINITION. The schedule contract (R81–R99, R514): the resource table, what a schedule uses cycle by cycle, and the checks 0x40 to 0x54 in their order. -/

namespace Sys2Proof.Machine

open Sys2Proof

/-- Why a slot is refused (R98, R327): code, REPADDR, REPCYC, SSEC and SIDX. -/
structure SlotRefusal where
  code : Nat
  addr : Nat := 0xFFFFFFFF
  cyc : Nat := 0xFFFFFFFF
  sec : Nat := 0xF
  sidx : Nat := 0xFF
  deriving DecidableEq, Repr

/-- Refuse with a code where a condition holds. -/
def refuseIf (b : Bool) (r : SlotRefusal) : Option SlotRefusal := if b then some r else none

/-- The first refusal of a list of checks in their order (R98). -/
def firstRefusal : List (Option SlotRefusal) → Option SlotRefusal
  | [] => none
  | some r :: _ => some r
  | none :: t => firstRefusal t

/-! ## The resource table (R94–R96) -/

/-- A little-endian field of `n` bytes at an offset; bytes beyond the section read zero. -/
def fieldAt (l : List Nat) (ofs n : Nat) : Nat := ofBytesLE ((List.range n).map fun i => l.getD (ofs + i) 0)

/-- Slow record j (R96). -/
def slowAt (l : List Nat) (j : Nat) : SlowRec :=
  let o := 64 + 16 * j
  { base := fieldAt l o 2, bundles := fieldAt l (o + 2) 2, len := fieldAt l (o + 4) 4,
    n := fieldAt l (o + 8) 1, phase := fieldAt l (o + 9) 1 }

/-- Offset of the group records, of the queue records. -/
def groupOfs (l : List Nat) : Nat := 64 + 16 * fieldAt l 0x28 1
def queueOfs (l : List Nat) : Nat := groupOfs l + 64

/-- The table a RESTAB section holds. -/
def parseTable (l : List Nat) : Contract :=
  { tlenMain := fieldAt l 0x08 4, occMax := fieldAt l 0x0C 4, mainBundles := fieldAt l 0x10 2,
    tendAddr := fieldAt l 0x12 2, spAddr := fieldAt l 0x14 2, tbsel := fieldAt l 0x18 1, evsel := fieldAt l 0x19 1,
    div := fieldAt l 0x1A 1, tscmp := fieldAt l 0x1C 4, tpMin := fieldAt l 0x20 4, tpMax := fieldAt l 0x24 4,
    lockmask := fieldAt l 0x2A 1, xwdir := fieldAt l 0x2C 1, xwcrit := fieldAt l 0x2D 1, rampmask := fieldAt l 0x2E 1,
    loopmask := fieldAt l 0x2F 1, rcumask := fieldAt l 0x30 1, wqmask := fieldAt l 0x34 4,
    slow := (List.range (min (fieldAt l 0x28 1) 8)).map (slowAt l),
    groups := (List.range 8).map fun g => { members := fieldAt l (groupOfs l + 8 * g) 2, nacq := fieldAt l (groupOfs l + 8 * g + 2) 2, src := fieldAt l (groupOfs l + 8 * g + 4) 1 },
    queues := (List.range (min (fieldAt l 0x29 1) 32)).map fun q => { queue := fieldAt l (queueOfs l + 4 * q) 1, policy := fieldAt l (queueOfs l + 4 * q + 1) 1 } }

/-- Some reserved byte or bit of the table is set (R94–R96). -/
def tableReserved (l : List Nat) : Bool :=
  let header := [(0x16, 2), (0x1B, 1), (0x2B, 1), (0x31, 3), (0x38, 8)]
  let slow := (List.range (fieldAt l 0x28 1)).map fun j => (64 + 16 * j + 0xA, 6)
  let groups := (List.range 8).map fun g => (groupOfs l + 8 * g + 5, 3)
  let queues := (List.range (fieldAt l 0x29 1)).map fun q => (queueOfs l + 4 * q + 2, 2)
  (header ++ slow ++ groups ++ queues).any (fun f => decide (fieldAt l f.1 f.2 ≠ 0)) || decide (16 ≤ fieldAt l 0x2A 1)

/-- A group record outside R96. -/
def groupBad (g : GroupRec) : Bool :=
  if g.members = 0 then decide (g.src ≠ 0) || decide (g.nacq ≠ 0)
  else decide (g.src = 0) || decide (2 < g.src) || decide (g.nacq < 5) || decide (100 < g.nacq)

/-- A slow record outside R96. -/
def slowBad (r : SlowRec) : Bool :=
  decide (r.bundles = 0) || decide (r.n < 2) || decide (64 < r.n) || decide (r.n ≤ r.phase)

/-- TAB_FORMAT (R99 0x40). -/
def tabFormat (l : List Nat) : Bool :=
  let c := parseTable l
  let ns := fieldAt l 0x28 1
  let nq := fieldAt l 0x29 1
  decide (fieldAt l 0 4 / 0x10000 ≠ 1) || decide (fieldAt l 4 4 ≠ l.length) ||
  decide (fieldAt l 4 4 ≠ 64 + 16 * ns + 64 + 4 * nq) || decide (8 < ns) || decide (32 < nq) ||
  decide (c.div = 0) || decide (16 < c.div) || c.slow.any slowBad || c.groups.any groupBad ||
  c.queues.any (fun q => decide (31 < q.queue)) || tableReserved l

/-! ## The image's register records (R97, R318) -/

/-- The last record of an address, else a reset word. -/
def recWord (recs : List (Nat × Nat)) (addr rst : Nat) : Nat :=
  match (recs.filter fun r => decide (r.1 = addr)).getLast? with
  | some r => r.2
  | none => rst

/-- A field as the records leave it. -/
def recField (recs : List (Nat × Nat)) (f : Fld) : Nat := slice (recWord recs f.addr (f.rst * 2 ^ f.lo)) f.lo f.width

/-- Mode and period of timebase t in the records. -/
def tbOf (recs : List (Nat × Nat)) (t : Nat) : Nat × Nat := (recField recs (R.PWM_TBCFG_MODE t), recField recs (R.PWM_TBPER_P t))

/-- The turn source has a period, and EVSEL and TSCMP are allowed for its mode (R83, R84). -/
def sourceOk (c : Contract) (recs : List (Nat × Nat)) : Bool :=
  let m := tbOf recs c.tbsel
  decide (c.tbsel ≤ 3) && decide (m.2 ≠ 0) &&
  (if m.1 = 0 then decide (c.evsel = 1) && decide (c.tscmp < m.2)
   else decide (1 ≤ c.evsel) && decide (c.evsel ≤ 3) && decide (c.tscmp ≤ m.2))

/-- TP_min and TP_max (R83). -/
def turnPeriods (c : Contract) (recs : List (Nat × Nat)) : Nat × Nat :=
  let m := tbOf recs c.tbsel
  let p := m.2
  if m.1 = 0 then (c.div * p, c.div * p)
  else if c.evsel = 3 ∧ 1 ≤ c.tscmp ∧ c.tscmp < p then
    let a := 2 * (p - c.tscmp)
    let b := 2 * c.tscmp
    if c.div % 2 = 0 then (c.div / 2 * (a + b), c.div / 2 * (a + b))
    else ((c.div - 1) / 2 * (a + b) + min a b, (c.div - 1) / 2 * (a + b) + max a b)
  else (c.div * (2 * p), c.div * (2 * p))

/-- TMWIN and TSWIN (R107). -/
def tmWindow (tpMin : Nat) : Nat := (tpMin - 32) / 6
def tsWindow (tpMax : Nat) : Nat := (tpMax + 5) / 6 + 2

/-! ## What an operation uses (R50, R86) -/

/-- A predicate as a result: p0 takes none (R49). -/
def predKey (p : Fin 8) : List Nat := if p = 0 then [] else [128 + p.val]

/-- The registers an operation writes (predicates as 128 + p), and the cycle of the result after its issue (R52, R55, R68). -/
def opResults : Instr → List Nat × Nat
  | .fadd _ d _ _ | .fsub _ d _ _ | .fmul _ d _ _ | .fma _ d _ _ | .fms _ d _ _ | .fnms _ d _ _
  | .fmin _ d _ _ | .fmax _ d _ _ | .add _ d _ _ | .sub _ d _ _ | .mul _ d _ _ | .and _ d _ _ | .or _ d _ _
  | .xor _ d _ _ | .shl _ d _ _ | .shr _ d _ _ | .sra _ d _ _ | .shli _ d _ _ | .shri _ d _ _ | .srai _ d _ _
  | .min _ d _ _ | .max _ d _ _ | .qadd _ d _ _ | .qsub _ d _ _ | .qmul _ d _ _ | .qshl _ d _ _
  | .fabs _ d _ | .fneg _ d _ | .fcvtS32 _ d _ | .fcvtU32 _ d _ | .icvtS32 _ d _ | .icvtU32 _ d _
  | .mov _ d _ | .movi _ d _ => ([d.val], 3)
  | .fcmpEq _ p _ _ | .fcmpNe _ p _ _ | .fcmpLt _ p _ _ | .fcmpLe _ p _ _ | .fcmpGt _ p _ _ | .fcmpGe _ p _ _
  | .icmpEq _ p _ _ | .icmpNe _ p _ _ | .icmpLt _ p _ _ | .icmpLe _ p _ _ | .icmpGt _ p _ _ | .icmpGe _ p _ _
  | .icmpLtu _ p _ _ | .icmpLeu _ p _ _ | .icmpGtu _ p _ _ | .icmpGeu _ p _ _
  | .pand _ p _ _ | .por _ p _ _ | .pxor _ p _ _ | .pnot _ p _ => (predKey p, 3)
  | .sin _ d _ | .cos _ d _ | .sqrt _ d _ | .rcp _ d _ | .rsqrt _ d _ | .atan2 _ d _ _ => ([d.val], 11)
  | .sincos _ d _ => ([d.val, d.val + 1], 11)
  | .ld _ g _ _ | .ldc _ g _ _ => ([g.val], 2)
  | .ldcLd _ g g2 _ _ _ _ | .ld2 _ g g2 _ _ _ _ => ([g.val, g2.val], 2)
  | .ldcSt _ g _ _ _ _ _ | .ldst _ g _ _ _ _ _ => ([g.val], 2)
  | .adcRd _ g _ pv => (g.val :: predKey pv, 2)
  | .sdRd _ g _ pv => (g.val :: predKey pv, 2)
  | .posRd _ g _ pv => (g.val :: predKey pv, 2)
  | .rampRd _ g _ | .loopRd _ g _ => ([g.val], 2)
  | .rcuRd _ g _ _ => ([g.val], 5)
  | .xwRd _ g _ _ | .xwRdx _ g _ _ | .tsRd _ g _ | .tcRd _ g => ([g.val], 1)
  | _ => ([], 0)

/-- The retire cycle of an operation after its issue, given the acquisition time of each group (R86). -/
def opRetire (nacq : Nat → Nat) : Instr → Nat
  | .adcTrig _ g => 3 * nacq g.val + 67
  | .pwmWr _ _ _ _ | .pwmWrForce _ _ _ | .pwmGrpa _ _ _ _ | .pwmGrpb _ _ _ _ | .comm _ _ | .rampTgt _ _ _
  | .loopCmdClose _ _ | .loopCmdOpen _ _ | .loopCmdFbloss _ _ | .loopMeas _ _ _ | .qPush _ _ _ _ | .qPushe _ _ _ _
  | .xwWr _ _ _ _ | .xwWrx _ _ _ _ => 1
  | .rcuLrn _ _ _ => 3
  | .hb _ => 2
  | i => (opResults i).2

/-- Two data accesses to one bank (R64). -/
def opBankClash : Instr → Bool
  | .ld2 _ _ _ j k _ _ | .st2 _ _ _ j k _ _ | .ldst _ _ _ j k _ _ => decide (j = k)
  | _ => false

/-- Operations that keep out of slow sections and of the main schedule from SP on (R92). -/
def opTimed : Instr → Bool
  | .adcTrig _ _ | .pwmWr _ _ _ _ | .pwmWrForce _ _ _ | .pwmGrpa _ _ _ _ | .pwmGrpb _ _ _ _ | .comm _ _ => true
  | _ => false

def opIsHb : Instr → Bool
  | .hb _ => true
  | _ => false
def opIsTend : Instr → Bool
  | .tend => true
  | _ => false

/-- The queue an operation pushes to. -/
def opPushes : Instr → Option Nat
  | .qPush _ q _ _ | .qPushe _ q _ _ => some q.val
  | _ => none

/-- The generators a PWM write names. -/
def opGenerators : Instr → List Nat
  | .pwmWr _ g _ _ => [g.val]
  | .pwmWrForce _ g _ => [g.val]
  | .pwmGrpa _ _ _ _ => [0, 1, 2]
  | .pwmGrpb _ _ _ _ => [3, 4, 5]
  | _ => []

/-- The OUT window a write names. -/
def opWindow : Instr → Option Nat
  | .xwWr _ _ w _ | .xwWrx _ _ w _ => some w.val
  | _ => none

/-! ## The program (R47, R514) -/

/-- Syllable k of bundle b. -/
def State.syl (s : State) (b k : Nat) : Nat := (Sparse.get 0#32 s.mem.imem (8 * b + k)).toNat

/-- The operations of a bundle, the undefined syllables left out. -/
def State.bundleOps (s : State) (b : Nat) : List Instr := (List.range 8).filterMap fun k => decodeSyl k (s.syl b k)

/-- COUNT and LENGTH of a bundle's HLOOP, from the code alone. -/
def State.hloopAt (s : State) (b : Nat) : Option (Nat × Nat × Bool) :=
  let w := s.syl b 7
  if sylOp w = 0x19 then some (slice w 9 12, slice w 0 9, w.testBit 21) else none

/-- The bundle carries a TEND, from the code alone. -/
def State.tendAt (s : State) (b : Nat) : Bool := decide (sylOp (s.syl b 7) = 0x1A)

/-- Bundle b lies in the body of a slow record. -/
def Contract.inSection (c : Contract) (b : Nat) : Bool := c.slow.any fun r => decide (r.base ≤ b) && decide (b < r.base + r.bundles)

/-- Address of the main schedule's TEND (R514). -/
def State.mainTend (s : State) (c : Contract) : Option Nat :=
  (List.range 16384).find? fun b => s.tendAt b && !c.inSection b

/-- The bundles issued from `lo` up to `hi`, loops expanded (R59, R60). -/
def State.expand (s : State) : Nat → Nat → Nat → List Nat
  | 0, _, _ => []
  | f + 1, lo, hi =>
    if hi ≤ lo then []
    else match s.hloopAt lo with
    | some (n, len, _) =>
      let e := min (lo + 1 + len) hi
      lo :: ((List.replicate n (s.expand f (lo + 1) e)).flatten ++ s.expand f e hi)
    | none => lo :: s.expand f (lo + 1) hi

/-- A body expanded. -/
def State.run (s : State) (lo hi : Nat) : List Nat := s.expand (hi - lo + 1) lo hi

/-- The main schedule up to and from SP, and the sections in order, each bundle with its section number (R90). -/
def State.pieces (s : State) (c : Contract) : List (Nat × List Nat) :=
  let m := match s.mainTend c with
    | some t => s.run 0 (t + 1)
    | none => []
  if c.slow = [] then [(0xF, m)]
  else
    (0xF, m.takeWhile fun b => decide (b ≠ c.spAddr)) ::
      ((List.range 8).zip c.slow).map (fun e => (e.1, s.run e.2.base (e.2.base + e.2.bundles))) ++
      [(0xF, m.dropWhile fun b => decide (b ≠ c.spAddr))]

/-- One issue of a bundle: turn cycle, address, section (0xF the main schedule). -/
structure Issue where
  cyc : Nat
  addr : Nat
  sec : Nat
  deriving DecidableEq, Repr

/-- Number the bundles of the pieces by turn cycle. -/
def numberPieces : Nat → List (Nat × List Nat) → List Issue
  | _, [] => []
  | c, (sec, l) :: t =>
    l.zipIdx.map (fun e => { cyc := c + e.2, addr := e.1, sec := sec }) ++ numberPieces (c + l.length) t

/-- The longest turn: every section active (R87, R97). -/
def State.longTurn (s : State) (c : Contract) : List Issue := numberPieces 0 (s.pieces c)

/-- The first issue of the longest turn at which a condition on its operations holds, as a refusal. -/
def State.firstIssue (s : State) (l : List Issue) (code : Nat) (bad : Issue → Instr → Bool) : Option SlotRefusal :=
  match l.find? fun e => (s.bundleOps e.addr).any (bad e) with
  | some e => some { code := code, addr := e.addr, cyc := e.cyc, sec := e.sec }
  | none => none

/-! ## The checks -/

/-- Acquisition time of a group. -/
def Contract.nacq (c : Contract) (g : Nat) : Nat := ((c.groups[g]?).map fun x => x.nacq).getD 0
/-- A group of the Wheel. -/
def Contract.wheelGroup (c : Contract) (g : Nat) : Bool := ((c.groups[g]?).map fun x => decide (x.src = 1)).getD false
def Contract.members (c : Contract) (g : Nat) : Nat := ((c.groups[g]?).map fun x => x.members).getD 0

/-- Occupancy of the longest turn (R86). -/
def State.occupancy (s : State) (c : Contract) : Nat :=
  (s.longTurn c).foldl (fun m e => (s.bundleOps e.addr).foldl (fun m i => max m (e.cyc + opRetire c.nacq i + 1)) (max m (e.cyc + 1))) 0

/-- Group g disagrees with the ADC register records (R99 0x41, R117). -/
def groupMismatch (c : Contract) (recs : List (Nat × Nat)) (g : Nat) : Bool :=
  let rs := recs.filter fun r => decide (r.1 = (R.ADC_GCFG_SRC g).addr)
  let src := fun (r : Nat × Nat) => slice r.2 28 3
  if c.wheelGroup g then
    rs.isEmpty || rs.any fun r => decide (src r ≠ 1) || decide (slice r.2 0 16 ≠ c.members g) ||
      decide (slice r.2 16 7 ≠ c.nacq g) || decide (slice r.2 24 2 ≠ 1)
  else rs.any fun r => decide (src r = 1)

/-- TAB_MISMATCH (0x41); what cannot be recomputed is left to the later check that refuses it. -/
def State.tabMismatch (s : State) (c : Contract) (recs : List (Nat × Nat)) : Option SlotRefusal :=
  let tp := turnPeriods c recs
  let main := match s.mainTend c with
    | some t =>
      decide (c.mainBundles ≠ t + 1) || decide (c.tendAddr ≠ t) || decide (c.tlenMain ≠ (s.run 0 (t + 1)).length) ||
      decide (c.occMax ≠ s.occupancy c)
    | none => false
  firstRefusal [
    refuseIf main { code := 0x41 },
    refuseIf (sourceOk c recs && (decide (c.tpMin ≠ tp.1) || decide (c.tpMax ≠ tp.2))) { code := 0x41 },
    ((List.range 8).zip c.slow).findSome? fun e =>
      refuseIf (decide (e.2.len ≠ (s.run e.2.base (e.2.base + e.2.bundles)).length)) { code := 0x41, sec := e.1 },
    refuseIf ((List.range 8).any (groupMismatch c recs)) { code := 0x41 }]

/-- TURN_SOURCE (0x42). -/
def turnSource (c : Contract) (recs : List (Nat × Nat)) : Bool :=
  !sourceOk c recs || !c.lockmask.testBit c.tbsel ||
  (List.range 4).any fun k => c.lockmask.testBit k && decide (tbOf recs k ≠ tbOf recs c.tbsel)

/-- The bodies: the main schedule and each section, as section number and bounds. -/
def State.bodies (s : State) (c : Contract) : List (Nat × Nat × Nat) :=
  (0xF, 0, match s.mainTend c with | some t => t + 1 | none => 0) ::
    ((List.range 8).zip c.slow).map fun e => (e.1, e.2.base, e.2.base + e.2.bundles)

/-- IMEM (0x45). -/
def State.imemOver (s : State) (c : Contract) : Bool :=
  let b := s.bodies c
  decide (16384 < (b.map fun x => x.2.2 - x.2.1).foldl (· + ·) 0) || b.any (fun x => decide (16384 < x.2.2)) ||
  b.zipIdx.any fun x => b.zipIdx.any fun y =>
    decide (x.2 < y.2) && decide (x.1.2.1 < y.1.2.2) && decide (y.1.2.1 < x.1.2.2)

/-- An X syllable whose POS.RD source or SD.RD channel does not exist: UNIT, not ENCODING (R69, R138). -/
def noSuchSource (w : Nat) : Bool :=
  (decide (sylOp w = 0x04) && sylClear w [(0, 1), (4, 4), (13, 2)] && decide (20 ≤ slice w 8 5)) ||
  (decide (sylOp w = 0x03) && sylClear w [(0, 1), (4, 4), (11, 4)] && decide (6 ≤ slice w 8 3))

/-- A bundle with an undefined syllable. -/
def State.badCode (s : State) (b : Nat) : Bool :=
  (List.range 8).any fun k => (decodeSyl k (s.syl b k)).isNone && !(decide (k = 7) && noSuchSource (s.syl b 7))

/-- Turn cycle of the first issue of a bundle, where it is issued. -/
def cycleOf (l : List Issue) (sec b : Nat) : Nat :=
  match l.find? fun e => decide (e.addr = b) && decide (e.sec = sec) with
  | some e => e.cyc
  | none => 0xFFFFFFFF

/-- The first bundle of the bodies, in address order, that is bad. -/
def State.firstBundle (s : State) (c : Contract) (code : Nat) (bad : Nat → Nat → Nat → Bool) : Option SlotRefusal :=
  (s.bodies c).findSome? fun x =>
    match (List.range (x.2.2 - x.2.1)).find? fun k => bad (x.2.1 + k) x.2.1 x.2.2 with
    | some k => some { code := code, addr := x.2.1 + k, cyc := cycleOf (s.longTurn c) x.1 (x.2.1 + k), sec := x.1 }
    | none => none

/-- The HLOOP bundles of [lo, hi) whose body holds bundle b. -/
def State.loopsAround (s : State) (lo b : Nat) : List (Nat × Nat) :=
  (List.range (b - lo)).filterMap fun k =>
    match s.hloopAt (lo + k) with
    | some (_, len, _) => if b ≤ lo + k + len then some (lo + k, len) else none
    | none => none

/-- The HLOOP at b breaks R60 or R61, in the body [lo, hi). -/
def State.hloopBad (s : State) (b lo hi : Nat) : Bool :=
  match s.hloopAt b with
  | none => false
  | some (_, len, inner) =>
    let around := s.loopsAround lo b
    decide (len = 0) || decide (hi < b + 1 + len) || (List.range len).any (fun k => s.tendAt (b + 1 + k)) ||
    (match around with
     | [] => inner
     | [o] => !inner || decide (o.1 + o.2 ≤ b + len)
     | _ => true)

/-- RETIRE (0x49): the first bundle, in issue order, one of whose results retires with another into one register. -/
def State.retireClash (s : State) : List Issue → List (Nat × Nat) → Option SlotRefusal
  | [], _ => none
  | e :: t, live =>
    let new := (s.bundleOps e.addr).flatMap fun i => (opResults i).1.map fun k => (e.cyc + (opResults i).2, k)
    let live := live.filter fun x => decide (e.cyc ≤ x.1)
    if new.any (fun x => live.contains x) || !decide new.Nodup then
      some { code := 0x49, addr := e.addr, cyc := e.cyc, sec := e.sec }
    else s.retireClash t (live ++ new)

/-- The sensor of a POS source is enabled in the records (R138). -/
def posEnabled (recs : List (Nat × Nat)) (src : Nat) : Bool :=
  if src < 4 then decide (recField recs (R.POS_ECFG_EN (src % 2)) = 1)
  else if src < 8 then decide (recField recs (R.POS_HCFG_EN (src % 2)) = 1)
  else if src < 16 then decide (recField recs (R.POS_SCFG_EN (src % 4)) = 1)
  else decide (recField recs (R.POS_RXCFG_PER (src % 2)) ≠ 0)

/-- Converters named by a member mask that the variant does not have (R4, R6). -/
def State.absentConv (s : State) (members : Nat) : Bool := decide (members / 2 ^ s.nConv ≠ 0)

/-- A field of the table names a unit that CAP0 does not show: a converter of a group, a channel of the RCU (R6, R97 step 1). R99 gives this no code of its own; UNIT is the model's choice (DESIGN CHOICE, assumption 31). -/
def State.tableAbsent (s : State) (c : Contract) : Bool :=
  c.groups.any (fun g => s.absentConv g.members) || (!s.hasRcu && decide (c.rcumask ≠ 0))

/-- An X target that is absent or not the Wheel's (R69, R138, R211). A push to a queue missing from WQMASK falls under UNIT (R69 names queues) and under Q_POLICY; the earlier code of R99's order is reported, so Q_POLICY answers for a missing queue record alone (DEDUCED, assumption 31). -/
def State.unitBad (s : State) (c : Contract) (recs : List (Nat × Nat)) : Instr → Bool
  | .adcTrig _ g => s.absentConv (c.members g.val)
  | .adcRd _ _ k _ => decide (s.nConv ≤ k.val)
  | .posRd _ _ p _ => !posEnabled recs p.val
  | .pwmWr _ g _ _ => decide (g.val < 6) && decide (s.nLeg ≤ g.val)
  | .pwmWrForce _ g _ =>
    decide (s.nLeg ≤ g.val) ||
    decide (recField recs (if invOfLeg g.val = 0 then R.PWM_COMMCFG_FSRCA else R.PWM_COMMCFG_FSRCB) = 0)
  | .pwmGrpb _ _ _ _ => decide (s.nInv < 2)
  | .comm _ m => m.val.testBit 1 && decide (s.nInv < 2)
  | .rampTgt _ u _ => !c.rampmask.testBit u.val
  | .rampRd _ _ u => !c.rampmask.testBit u.val
  | .loopCmdClose _ l => !c.loopmask.testBit l.val
  | .loopCmdOpen _ l => !c.loopmask.testBit l.val
  | .loopCmdFbloss _ l => !c.loopmask.testBit l.val
  | .loopMeas _ l _ => !c.loopmask.testBit l.val
  | .loopRd _ _ l => !c.loopmask.testBit l.val
  | .rcuRd _ _ ch _ => !s.hasRcu || !c.rcumask.testBit ch.val
  | .rcuLrn _ ch _ => !s.hasRcu || !c.rcumask.testBit ch.val
  | .qPush _ q _ _ => !c.wqmask.testBit q.val
  | .qPushe _ q _ _ => !c.wqmask.testBit q.val
  | _ => false

/-- A bundle holds an operation with an X target that is absent or not the Wheel's. -/
def State.unitBundle (s : State) (c : Contract) (recs : List (Nat × Nat)) (b : Nat) : Bool :=
  noSuchSource (s.syl b 7) || (s.bundleOps b).any (s.unitBad c recs)

/-- UNIT (0x4A): the first such bundle that issues, then one that never does, in the body of a loop of COUNT 0 (R69, R138). -/
def State.unitCheck4A (s : State) (c : Contract) (recs : List (Nat × Nat)) (l : List Issue) : Option SlotRefusal :=
  match l.find? fun e => s.unitBundle c recs e.addr with
  | some e => some { code := 0x4A, addr := e.addr, cyc := e.cyc, sec := e.sec }
  | none => firstRefusal [s.firstBundle c 0x4A (fun b _ _ => s.unitBundle c recs b), refuseIf (s.tableAbsent c) { code := 0x4A }]

/-- The Wheel triggers of converter k at or before a cycle, latest first: cycle and NACQ. -/
def State.triggersOf (s : State) (c : Contract) (l : List Issue) (k : Nat) : List (Nat × Nat) :=
  (l.flatMap fun e => (s.bundleOps e.addr).filterMap fun i => match i with
    | .adcTrig _ g => if c.wheelGroup g.val && (c.members g.val).testBit k then some (e.cyc, c.nacq g.val) else none
    | _ => none).reverse

/-- ADC_EARLY (0x4B). -/
def State.adcEarly (s : State) (c : Contract) (l : List Issue) (e : Issue) : Instr → Bool
  | .adcRd _ _ k _ =>
    match (s.triggersOf c l k.val).find? fun t => decide (t.1 ≤ e.cyc) with
    | some t => decide (e.cyc < t.1 + 3 * t.2 + 68)
    | none => false
  | _ => false

/-- ADC_BUSY (0x4C): the trigger follows another of one of its converters too soon. -/
def State.adcBusy (s : State) (c : Contract) (l : List Issue) (e : Issue) : Instr → Bool
  | .adcTrig _ g =>
    c.wheelGroup g.val && (List.range 16).any fun k =>
      (c.members g.val).testBit k &&
      (s.triggersOf c l k).any fun t => decide (t.1 < e.cyc) && decide (e.cyc < t.1 + 3 * (t.2 + 15))
  | _ => false

/-- ADC_SOURCE (0x4D): a shared converter, or a trigger of another group. -/
def sharedConverter (c : Contract) (recs : List (Nat × Nat)) : Bool :=
  (List.range 8).any fun g => c.wheelGroup g && (List.range 8).any fun h =>
    !c.wheelGroup h &&
    decide (Nat.land (c.members g) (Nat.lor (c.members h)
      (if recField recs (R.ADC_GCFG_SRC h) = 0 then 0 else recField recs (R.ADC_GCFG_MEMBERS h))) ≠ 0)
def badTrigger (c : Contract) : Instr → Bool
  | .adcTrig _ g => !c.wheelGroup g.val
  | _ => false

/-- Q_POLICY (0x4E). -/
def queueUndeclared (c : Contract) (i : Instr) : Bool :=
  match (opPushes i) with
  | some q => !c.wqmask.testBit q || !(c.queues.any fun r => decide (r.queue = q))
  | none => false

/-- The pushes of a piece: its first, its last bundle, and two bundles in a row. -/
def State.pushesAt (s : State) (b : Nat) : Bool := (s.bundleOps b).any fun i => (opPushes i).isSome
def State.pushPair (s : State) : List Issue → Option SlotRefusal
  | e :: f :: t =>
    if s.pushesAt e.addr && s.pushesAt f.addr then some { code := 0x4F, addr := f.addr, cyc := f.cyc, sec := f.sec }
    else s.pushPair (f :: t)
  | _ => none

/-- Q_SPACING (0x4F): inside the longest turn, and at every join that a set of active sections makes (R73, R99). -/
def State.qSpacing (s : State) (c : Contract) (l : List Issue) : Option SlotRefusal :=
  let ps := ((s.pieces c).filter fun p => p.2 ≠ []).zipIdx
  let join := fun (a b : (Nat × List Nat) × Nat) =>
    decide (a.2 < b.2) && ((a.1.2.getLast?).map s.pushesAt).getD false && ((b.1.2.head?).map s.pushesAt).getD false
  match s.pushPair l with
  | some r => some r
  | none =>
    ps.findSome? fun a => ps.findSome? fun b =>
      if join a b then
        let f := (b.1.2.head?).getD 0
        some { code := 0x4F, addr := f, cyc := cycleOf l b.1.1 f, sec := b.1.1 }
      else none

/-- HB_TEND (0x51): the main schedule issues one HB, and one TEND, its last bundle. An HB inside a slow section beside that of the main schedule is left to SLOW_FORM (R92): the HBs counted here are those of the main schedule (DEDUCED, assumption 31). -/
def State.hbTend (s : State) (l : List Issue) : Option SlotRefusal :=
  let main := l.filter fun e => decide (e.sec = 0xF)
  let hbs := main.filter fun e => (s.bundleOps e.addr).any opIsHb
  let tends := main.filter fun e => (s.bundleOps e.addr).any opIsTend
  match hbs, tends with
  | [_], [_] => none
  | _ :: x :: _, _ => some { code := 0x51, addr := x.addr, cyc := x.cyc }
  | _, _ :: x :: _ => some { code := 0x51, addr := x.addr, cyc := x.cyc }
  | _, _ => some { code := 0x51 }

/-- SLOW_FORM (0x52). -/
def State.slowForm (s : State) (c : Contract) (l : List Issue) : Option SlotRefusal :=
  let sp := (cycleOf l 0xF c.spAddr)
  firstRefusal [
    refuseIf (c.slow.isEmpty && decide (c.spAddr ≠ 0xFFFF)) { code := 0x52 },
    refuseIf (!c.slow.isEmpty && (decide (c.tendAddr < c.spAddr) || !(s.loopsAround 0 c.spAddr).isEmpty))
      { code := 0x52, addr := c.spAddr },
    if c.slow.isEmpty then none
    else s.firstIssue l 0x52 fun e i =>
      if e.sec = 0xF then (opTimed i) && decide (sp ≤ e.cyc) else (opTimed i) || (opIsHb i) || (opIsTend i)]

/-- SLOW_DRAIN (0x53): in a piece before SP or a section, an operation that retires after its end (R91). -/
def State.slowDrain (s : State) (c : Contract) (l : List Issue) : Option SlotRefusal :=
  if c.slow.isEmpty then none
  else
    let sp := (cycleOf l 0xF c.spAddr)
    let last := fun (e : Issue) =>
      if e.sec = 0xF then (l.filter fun x => decide (x.sec = 0xF) && decide (x.cyc < sp)).length
      else (l.filter fun x => decide (x.sec < e.sec)).length +
        (l.filter fun x => decide (x.sec = e.sec)).length + (l.filter fun x => decide (x.sec = 0xF) && decide (x.cyc < sp)).length
    s.firstIssue l 0x53 fun e i => (decide (e.sec ≠ 0xF) || decide (e.cyc < sp)) && decide (last e ≤ e.cyc + opRetire c.nacq i)

/-- TB_UNLOCKED (0x54). -/
def unlockedWrite (c : Contract) (recs : List (Nat × Nat)) (i : Instr) : Bool :=
  (opGenerators i).any fun g => !c.lockmask.testBit (recField recs (R.PWM_GCFG_TBSEL g))

/-- The contract checker: the first failing check in the order of R99, given the RESTAB bytes and the register records. -/
def State.contractCheck (s : State) (table : List Nat) (recs : List (Nat × Nat)) : Option SlotRefusal :=
  let c := parseTable table
  let tp := turnPeriods c recs
  if tabFormat table then some { code := 0x40 }
  else
    let l := s.longTurn c
    firstRefusal [
      s.tabMismatch c recs,
      refuseIf (turnSource c recs) { code := 0x42 },
      refuseIf (decide (tp.1 < 2000) || decide (600000 < tp.2)) { code := 0x43 },
      refuseIf (decide (tp.1 < c.occMax + 64)) { code := 0x44 },
      refuseIf (s.imemOver c) { code := 0x45 },
      s.firstBundle c 0x46 (fun b _ _ => s.badCode b),
      s.firstBundle c 0x47 s.hloopBad,
      s.firstIssue l 0x48 (fun _ i => (opBankClash i)),
      s.retireClash l [],
      s.unitCheck4A c recs l,
      s.firstIssue l 0x4B (s.adcEarly c l),
      s.firstIssue l 0x4C (s.adcBusy c l),
      refuseIf (sharedConverter c recs) { code := 0x4D },
      s.firstIssue l 0x4D (fun _ i => badTrigger c i),
      refuseIf (c.queues.any fun q => decide (q.policy ≠ 1) && decide (q.policy ≠ 2)) { code := 0x4E },
      s.firstIssue l 0x4E (fun _ i => queueUndeclared c i),
      s.qSpacing c l,
      s.firstIssue l 0x50 (fun _ i => match (opWindow i) with
        | some w => !c.xwdir.testBit w
        | none => false),
      s.hbTend l,
      s.slowForm c l,
      s.slowDrain c l,
      s.firstIssue l 0x54 (fun _ i => unlockedWrite c recs i)]

end Sys2Proof.Machine
end

