-- ==== Sys2Proof/Machine/Image.lean ====
section
/-! DEFINITION. The image in a NOR slot (R301–R316, R326, R327): the selected read mode, the fields of the header and section table, and the checks of phases 3 and 4 in their order. -/

namespace Sys2Proof.Machine

open Sys2Proof

/-! ## Capabilities (R6, R501) -/

/-- SYS.CAP0 and SYS.CAP1 of the variant. -/
def State.cap0 (s : State) : Nat :=
  match s.variant with
  | .vz6840 => 0x00FFFFFF
  | .vz6832 => 0x00F1FEFF
  | .vz6821 => 0x00D07EB7
def cap1 : Nat := 0x3F

/-! ## The read mode (R300–R302) -/

/-- Bits per clock of a mode code; 0 for a code R301 does not list. -/
def modeBits (c : Nat) : Nat :=
  if c = 1 then 1 else if c = 2 ∨ c = 3 then 2 else if 4 ≤ c ∧ c ≤ 6 then 4 else if 7 ≤ c ∧ c ≤ 9 then 8
  else if c = 10 then 16 else 0

/-- Frequency in MHz a mode runs at: declared and capped, or the default of its data rate. -/
def modeFreq (c f : Nat) : Nat :=
  if f = 0 then (if c = 7 ∨ c = 8 ∨ c = 10 then 50 else 100) else min f 200

/-- The NOR answers and shows a valid SFDP signature. -/
def State.norSfdp (s : State) : Bool := s.nor.info.present && s.nor.info.sfdp

/-- Mode a is preferred to mode b: throughput, then no configuration write, then the lower code. -/
def modeBefore (need : List Nat) (a b : Nat × Nat) : Bool :=
  let ta := a.2 * modeBits a.1
  let tb := b.2 * modeBits b.1
  if ta ≠ tb then decide (tb < ta)
  else if need.contains a.1 ≠ need.contains b.1 then !need.contains a.1
  else decide (a.1 < b.1)

/-- Insert a mode in order of preference. -/
def insertMode (need : List Nat) (m : Nat × Nat) : List (Nat × Nat) → List (Nat × Nat)
  | [] => [m]
  | x :: t => if modeBefore need m x then m :: x :: t else x :: insertMode need m t

/-- The declared modes in the order in which they are tried. -/
def State.norModes (s : State) : List (Nat × Nat) :=
  let l := (s.nor.info.modes.filter fun m => decide (modeBits m.1 ≠ 0)).map fun m => (m.1, modeFreq m.1 m.2)
  l.foldr (insertMode s.nor.info.needCfg) []

/-- The first mode that passes its check, with the failures before it; after three failures 1S-1S-1S at 25 MHz (R302). -/
def pickMode (bad : List Nat) : Nat → List (Nat × Nat) → (Nat × Nat) × Nat
  | n, [] => ((1, 25), n)
  | n, m :: t =>
    if 3 ≤ n then ((1, 25), 3)
    else if bad.contains m.1 then pickMode bad (n + 1) t
    else (m, n)

/-- Mode, frequency and mode-check failures (R301, R302). -/
def State.norMode (s : State) : (Nat × Nat) × Nat :=
  if s.norSfdp then pickMode s.nor.info.badModes 0 s.norModes else ((1, 25), 0)

/-- Phase 2: discovery (R300–R303). -/
def State.discover (s : State) : State :=
  let m := s.norMode
  let s := ((s.put R.WEDGE_XSPI_MODE m.1.1).put R.WEDGE_XSPI_FREQ m.1.2).put R.WEDGE_XSPI_CHKFAIL m.2
  (s.putB R.WEDGE_XSPI_SFDP s.norSfdp).putB R.WEDGE_XSPI_ADDR4 (s.norSfdp && s.nor.info.addr4)

/-- The read limit of the selected mode in bytes (R301). -/
def State.readLimit (s : State) : Nat :=
  min (s.get R.WEDGE_XSPI_FREQ * modeBits (s.get R.WEDGE_XSPI_MODE) * 2000) 6291456

/-! ## Reading a slot (R303, R304) -/

/-- Bytes of slot k can be read: the NOR answers, has the bytes, and slot B has 4-byte addressing. -/
def State.slotReadable (s : State) (k ofs len : Nat) : Bool :=
  s.nor.info.present && (decide (k = 0) || s.on R.WEDGE_XSPI_ADDR4) && decide (slotBase k + ofs + len ≤ s.nor.info.size)

/-- Bytes of slot k, and a little-endian number in it. -/
def State.slotBytes (s : State) (k ofs len : Nat) : List Nat := s.norRead (slotBase k + ofs) len
def State.slotNum (s : State) (k ofs n : Nat) : Nat := ofBytesLE (s.slotBytes k ofs n)

/-! ## The header (R306) -/

def State.imgLen (s : State) (k : Nat) : Nat := s.slotNum k 0x08 4
def State.sigOfs (s : State) (k : Nat) : Nat := s.slotNum k 0x0C 4
def State.nSect (s : State) (k : Nat) : Nat := s.slotNum k 0x10 2
def State.imgRollback (s : State) (k : Nat) : Nat := s.slotNum k 0x14 1
def State.imgRevoke (s : State) (k : Nat) : Nat := s.slotNum k 0x15 1
def State.imgFlags (s : State) (k : Nat) : Nat := s.slotNum k 0x16 2
def State.imgRequires (s : State) (k : Nat) : Nat := s.slotNum k 0x18 8
/-- End of the section table. -/
def State.tableEnd (s : State) (k : Nat) : Nat := 0x100 + 112 * s.nSect k

/-- A read, magic or header refusal, at the offset of the failing item (R327). -/
def refuseAt (b : Bool) (code ofs : Nat) : Option SlotRefusal := refuseIf b { code := code, addr := ofs }

/-- READ, MAGIC, HEADER and READ_SLOW (R326 0x03–0x06). -/
def State.headerCheck (s : State) (k : Nat) : Option SlotRefusal :=
  firstRefusal [
    refuseAt (!s.slotReadable k 0 256) 0x03 0,
    refuseAt (decide (s.slotNum k 0 4 ≠ 0x4D495A56)) 0x04 0,
    refuseAt (decide (s.slotNum k 4 4 / 0x10000 ≠ 1)) 0x04 4,
    refuseAt (decide (s.imgLen k = 0) || decide (0x00600000 < s.imgLen k)) 0x05 0x08,
    refuseAt (decide (s.sigOfs k + 0x1500 ≠ s.imgLen k) || decide (s.sigOfs k % 64 ≠ 0)) 0x05 0x0C,
    refuseAt (decide (128 < s.imgRollback k)) 0x05 0x14,
    refuseAt (decide (s.nSect k = 0) || decide (64 < s.nSect k)) 0x05 0x10,
    refuseAt (!s.slotReadable k 0x100 (112 * s.nSect k)) 0x03 0x100,
    refuseAt (!s.slotReadable k (s.sigOfs k) 0x1500) 0x03 (s.sigOfs k),
    refuseAt (decide (s.slotNum k (s.sigOfs k) 4 ≠ 0x47535A56)) 0x05 (s.sigOfs k),
    refuseAt (decide (s.slotNum k (s.sigOfs k + 4) 4 ≠ 0x00010000)) 0x05 (s.sigOfs k + 4),
    refuseAt (decide (s.slotNum k 0x12 2 ≠ 0)) 0x05 0x12,
    refuseAt (decide (8 ≤ s.imgRevoke k)) 0x05 0x15,
    refuseAt (decide (2 ≤ s.imgFlags k)) 0x05 0x16,
    refuseAt (decide (s.slotNum k 0x24 12 ≠ 0)) 0x05 0x24,
    refuseAt (decide (s.slotNum k 0x40 192 ≠ 0)) 0x05 0x40,
    refuseAt (decide (s.readLimit < s.imgLen k)) 0x06 0x08]

/-! ## The section table (R307–R309) -/

/-- An entry of the section table. -/
structure Sect where
  type : Nat
  index : Nat
  flags : Nat
  ofs : Nat
  len : Nat
  iv : List Nat
  tag : List Nat
  hash : Nat
  rsv : Nat
  /-- Bytes 0x00 to 0x0F of the entry, the additional authenticated data (R316). -/
  aad : List Nat
  deriving DecidableEq, Repr

/-- Entry j of slot k. -/
def State.sect (s : State) (k j : Nat) : Sect :=
  let o := 0x100 + 112 * j
  { type := s.slotNum k o 2, index := s.slotNum k (o + 2) 2, flags := s.slotNum k (o + 4) 4, ofs := s.slotNum k (o + 8) 4,
    len := s.slotNum k (o + 0xC) 4, iv := s.slotBytes k (o + 0x10) 12, tag := s.slotBytes k (o + 0x1C) 16,
    hash := s.slotNum k (o + 0x2C) 64, rsv := s.slotNum k (o + 0x6C) 4, aad := s.slotBytes k o 16 }

/-- The entries in table order. -/
def State.sects (s : State) (k : Nat) : List Sect := (List.range (s.nSect k)).map (s.sect k)

def Sect.encrypted (e : Sect) : Bool := e.flags.testBit 0

/-- The length is allowed for the type (R95, R308). -/
def Sect.lenOk (e : Sect) : Bool :=
  let upTo := fun m n => decide (e.len % m = 0) && decide (0 < e.len) && decide (e.len ≤ n)
  match e.type with
  | 0x1 => upTo 4 384 && decide (128 ≤ e.len)
  | 0x2 => upTo 32 524288
  | 0x3 => upTo 4 524288
  | 0x4 => upTo 4 65536
  | 0x5 => upTo 8 65536
  | 0x6 => upTo 4 1048576
  | 0x7 => decide (80 ≤ e.len) && decide ((e.len - 80) % 8 = 0)
  | 0x8 => decide (e.len = 8208)
  | 0x9 => upTo 8 2048
  | 0xA => upTo 4 4096
  | 0xB => decide (e.len = 16)
  | _ => false

/-- The greatest INDEX of the type. -/
def Sect.maxIndex (e : Sect) : Nat := if e.type = 0x8 then 1 else if e.type = 0xA then 7 else 0

/-- The entry breaks a rule of its own (R307–R309). -/
def Sect.bad (e : Sect) (tableEnd sigOfs : Nat) : Bool :=
  decide (e.maxIndex < e.index) || !e.lenOk || decide (e.ofs % 64 ≠ 0) || decide (e.ofs < tableEnd) ||
  decide (sigOfs < e.ofs + e.len) || decide (2 ≤ e.flags) || decide (e.rsv ≠ 0) ||
  (!e.encrypted && (e.iv ++ e.tag).any fun b => decide (b ≠ 0))

/-- Two sections overlap. -/
def Sect.overlaps (a b : Sect) : Bool := decide (a.ofs < b.ofs + b.len) && decide (b.ofs < a.ofs + a.len)

/-- Entry j breaks R309: itself, as a repeat of an earlier entry, or by overlapping another. -/
def sectBad (l : List Sect) (tableEnd sigOfs : Nat) (e : Sect × Nat) : Bool :=
  e.1.bad tableEnd sigOfs ||
  l.zipIdx.any fun x =>
    (decide (x.2 < e.2) && decide (x.1.type = e.1.type) && decide (x.1.index = e.1.index)) ||
    (decide (x.2 ≠ e.2) && x.1.overlaps e.1)

/-- Section types an image must hold (R308). -/
def requiredSects : List Nat := [0x1, 0x2, 0x5, 0x6, 0x7, 0x9, 0xB]

/-- SECT_TABLE (R326 0x07). -/
def State.tableCheck (s : State) (k : Nat) : Option SlotRefusal :=
  let l := s.sects k
  match l.zipIdx.find? (sectBad l (s.tableEnd k) (s.sigOfs k)) with
  | some e => some { code := 0x07, sidx := e.2 }
  | none => refuseIf (requiredSects.any fun t => !(l.any fun e => decide (e.type = t))) { code := 0x07 }

/-- The section of a type and index. -/
def State.findSect (s : State) (k type index : Nat) : Option Sect :=
  (s.sects k).find? fun e => decide (e.type = type) && decide (e.index = index)

/-! ## Signatures and conditions (R310–R315) -/

/-- The signed message M, the image hash, the key bundle and the slot it matches (R311, R312). -/
def State.imgMessage (s : State) (k : Nat) : List Nat := s.slotBytes k 0 (s.tableEnd k)
def State.imgHash (s : State) (k : Nat) : Nat := Config.sha512 (s.imgMessage k)
def State.imgBundle (s : State) (k : Nat) : List Nat := s.slotBytes k (s.sigOfs k + 0x8) 1984
def State.imgKeySlot (s : State) (k : Nat) : Option Nat := s.otp.slotOf (s.imgBundle k)

/-- The context string of an image signature (R311). -/
def imgContext : List Nat := [0x56, 0x5A, 0x49, 0x4D, 0x47]

/-- KEY to REQUIRES (R326 0x08–0x0D), against the present OTP state and capabilities. -/
def State.signCheck (s : State) (k : Nat) : Option SlotRefusal :=
  let b := s.imgBundle k
  let sg := s.sigOfs k
  match s.imgKeySlot k with
  | none => some { code := 0x08 }
  | some ks =>
    firstRefusal [
      refuseIf (!Config.ed25519Ok (b.take 32) (s.imgMessage k) (s.slotBytes k (sg + 0x7C8) 64)) { code := 0x09 },
      refuseIf (!Config.mldsaOk (b.drop 32) imgContext (s.imgMessage k) (s.slotBytes k (sg + 0x808) 3309)) { code := 0x0A },
      refuseIf ((s.imgRevoke k).testBit ks) { code := 0x0B },
      refuseIf (decide (s.imgRollback k < s.otp.rollback)) { code := 0x0C },
      refuseIf ((List.range 64).any fun i => (s.imgRequires k).testBit i && !(s.cap0 + cap1 * 2 ^ 32).testBit i) { code := 0x0D }]

/-- Phase 3: every check of the header, table and signatures, in order (R297, R326). -/
def State.phase3 (s : State) (k : Nat) : Option SlotRefusal :=
  match s.headerCheck k with
  | some r => some r
  | none => match s.tableCheck k with
    | some r => some r
    | none => s.signCheck k

/-! ## The sections (R316) -/

/-- The stored bytes of a section. -/
def State.stored (s : State) (k : Nat) (e : Sect) : List Nat := s.slotBytes k e.ofs e.len

/-- The plaintext of a section; none where the tag fails or no image key is programmed. -/
def State.sectPlain (s : State) (k : Nat) (e : Sect) : Option (List Nat) :=
  if !e.encrypted then some (s.stored k e)
  else if !s.otp.imgKeyOk then none
  else Config.aesGcmOpen s.otp.imgKey e.iv e.aad (s.stored k e) e.tag

/-- SECT_HASH, then DECRYPT, of one section (R326 0x0E, 0x0F). -/
def State.sectCheck (s : State) (k : Nat) (e : Sect × Nat) : Option SlotRefusal :=
  if Config.sha512 (s.stored k e.1) ≠ e.1.hash then some { code := 0x0E, sidx := e.2 }
  else refuseIf (s.sectPlain k e.1).isNone { code := 0x0F, sidx := e.2 }

/-- Phase 4's checks, in table order. -/
def State.phase4 (s : State) (k : Nat) : Option SlotRefusal := (s.sects k).zipIdx.findSome? (s.sectCheck k)

/-- The checks of phases 3 and 4, as VERIFY runs them (R323). -/
def State.imageCheck (s : State) (k : Nat) : Option SlotRefusal :=
  match s.phase3 k with
  | some r => some r
  | none => s.phase4 k

/-- The plaintext of the section of a type and index, empty where there is none. -/
def State.sectBytes (s : State) (k type index : Nat) : List Nat :=
  match s.findSect k type index with
  | some e => (s.sectPlain k e).getD []
  | none => []

end Sys2Proof.Machine
end

