-- ==== Sys2Proof/Machine/Wedge.lean ====
section
/-! DEFINITION. Start-up (R37, R297–R321): loading an image, the schedule contract, the key-on self-test, the records, the parameter checks, acceptance and training, from the release that lets the device leave OFF to READY or NOIMAGE. The device rests in WEDGING while its phases run: a phase does its work when it ends, at an instant within its maximum that the spec leaves open (assumption 15). -/

namespace Sys2Proof.Machine

open Sys2Proof

/-! ## Phase 4: loading (R308, R317) -/

/-- 32-bit words of a byte string, the last padded with zeros. -/
def bytesToWords32 (l : List Nat) : List Nat :=
  (List.range ((l.length + 3) / 4)).map fun i => ofBytesLE ((l.drop (4 * i)).take 4)

/-- Write words into a table from a key on. -/
def loadWords (m : Sparse Word) (base : Nat) (l : List Nat) : Sparse Word :=
  l.zipIdx.foldl (fun m e => Sparse.set 0#32 m (base + e.2) (BitVec.ofNat 32 e.1)) m

/-- Pairs of 32-bit words: register records, challenges. -/
def wordPairs : List Nat → List (Nat × Nat)
  | a :: b :: t => (a, b) :: wordPairs t
  | _ => []

/-- One section into its destination. -/
def State.loadSect (s : State) (k : Nat) (e : Sect) : State :=
  let w := bytesToWords32 ((s.sectPlain k e).getD [])
  match e.type with
  | 0x2 => { s with mem := { s.mem with imem := loadWords s.mem.imem 0 w } }
  | 0x3 => { s with mem := { s.mem with dmem := loadWords s.mem.dmem 0 w } }
  | 0x4 => { s with mem := { s.mem with cmem := loadWords s.mem.cmem 0 w } }
  | 0x6 => { s with cone := { s.cone with sram := loadWords s.cone.sram 0 w } }
  | 0x8 => { s with cone := { s.cone with flux := loadWords s.cone.flux (4096 * e.index) w } }
  | 0x9 => { s with cone := { s.cone with chal := wordPairs w } }
  | 0xA => { s with xwin := { s.xwin with buf := loadWords s.xwin.buf (xwKey e.index (s.xwWheelBuf e.index) 0) w } }
  | _ => s

/-- The memories cleared with good check bits (R317). -/
def State.clearMems (s : State) : State :=
  { s with mem := {}, xwin := { s.xwin with buf := [], bad := [] }, cone := { s.cone with sram := [] } }

/-- Every section in table order into its destination. -/
def State.load (s : State) (k : Nat) : State := (s.sects k).foldl (fun s e => s.loadSect k e) s.clearMems

/-- The register records of slot k (R318). -/
def State.regRecs (s : State) (k : Nat) : List (Nat × Nat) := wordPairs (bytesToWords32 (s.sectBytes k 0x5 0))

/-! ## Phase 7: the fields the Wedge owns (R319 step 2) -/

/-- The generators whose compare values the schedule writes (R197, R319). -/
def State.wheelGens (s : State) (c : Contract) : Nat :=
  (s.longTurn c).foldl (fun m e => (s.bundleOps e.addr).foldl (fun m i =>
    match i with
    | .pwmWrForce _ _ _ => m
    | i => (opGenerators i).foldl (fun m g => Nat.lor m (2 ^ g)) m) m) 0

/-- Turn generator, windows, generators, unused legs, turn-missing windows and Wheel-fed queues. -/
def State.ownFields (s : State) (c : Contract) (decl : List Nat) : State :=
  let s := { s with contract := c, unused := fieldAt decl 0 1 % 64, safe := { s.safe with clq := fieldAt decl 1 1 },
                    cone := { s.cone with chalWin := fieldAt decl 2 1 } }
  let s := s.each (List.range 8) fun s w =>
    (s.putB (R.XWIN_CFG_DIR w) (c.xwdir.testBit w)).putB (R.XWIN_CFG_CRIT w) (c.xwcrit.testBit w)
  let gens := s.wheelGens c
  let s := s.each (List.range 8) fun s n => s.putB (R.PWM_GCFG_WHEEL n) (gens.testBit n)
  let s := s.put R.ISL_CTL_UNUSED s.unused
  let s := (s.put R.SAGGAR_TMWIN_TICKS (tmWindow c.tpMin)).put R.SAGGAR_TSWIN_TICKS (tsWindow c.tpMax)
  s.each (below 32 fun q => c.wqmask.testBit q) fun s q =>
    let s := s.put (R.QUE_QCFG_PROD q) 1
    match c.queues.find? fun r => decide (r.queue = q) with
    | some r => s.put (R.QUE_QCFG_POLICY q) r.policy
    | none => s

/-! ## Parameters (R319 step 3) -/

/-- The parameter records of SAFEPAR: ID and value. -/
def parRecords (l : List Nat) : List (Nat × Nat) :=
  (wordPairs (bytesToWords32 (l.drop 80))).map fun p => (p.1 % 2 ^ 16, p.2)

/-- How often an ID occurs. -/
def parCount (l : List (Nat × Nat)) (id : Nat) : Nat := (l.filter fun p => decide (p.1 = id)).length

/-- The value of an ID. -/
def parValue (l : List (Nat × Nat)) (id : Nat) : Nat := ((l.find? fun p => decide (p.1 = id)).map fun p => p.2).getD 0

/-- The cross-check's conditions at load (R274). -/
def State.crossBad (s : State) (l : List (Nat × Nat)) : Bool :=
  let c := s.contract
  decide (parValue l 0x41 = 1) &&
  (decide (c.tpMin ≠ c.tpMax) || decide (c.tpMin % 6 ≠ 0) || decide (60000 % c.tpMin ≠ 0) ||
   s.usedInvs.any fun v =>
    let p := slice (parValue l (0x22 + v)) 12 4
    !(s.wheelConvs.testBit p && s.wheelConvs.testBit (p + 1)))

/-- PARAM (R319 step 3). -/
def State.paramBad (s : State) (l : List (Nat × Nat)) (k : Nat) : Bool :=
  l.any (fun p => !parKnown p.1 || !s.parOk p.1 p.2) ||
  (List.range 0x16).any (fun i => decide (parCount l (0x30 + i) ≠ 1)) ||
  (List.range 0x14).any (fun i =>
    let n := parCount l (0x10 + i)
    if s.invInUse (i % 2) then decide (n ≠ 1) else decide (1 < n)) ||
  s.usedInvs.any (fun v => decide (parValue l (0x10 + v) = 1) && (s.findSect k 0x8 v).isNone) ||
  s.crossBad l ||
  (List.range 6).any (fun n => s.legBoot n && s.on (R.PWM_GCFG_MODE n)) ||
  decide (7 < s.cone.chalWin) || s.contract.xwdir.testBit s.cone.chalWin ||
  (decide (s.variant = .vz6821) && decide (s.unused / 8 ≠ 7))

/-! ## Acceptance (R313, R314, R319 steps 4 and 5) -/

/-- What the acceptance of slot k burns: the revocations, and the level the counter is raised to in PRODUCTION. -/
def State.burnOf (s : State) (k : Nat) : Nat × Nat :=
  (s.imgRevoke k, if s.sec.lc = .production then s.imgRollback k else 0)

/-- The image is accepted in pass `pass` (0 or 1) from slot k: OTP, image registers, ADC calibration, Cone. -/
def State.accept (s : State) (k pass : Nat) : State :=
  let h := s.imgHash k
  let s := { s with otp := s.otp.acceptBurn (s.burnOf k) burnAll }
  let s := (List.range 16).foldl (fun s i => s.put (R.WEDGE_IHASH_BYTES i) (slice h (32 * i) 32)) s
  let s := (s.put R.WEDGE_IMG_KEYSLOT ((s.imgKeySlot k).getD 0)).put R.WEDGE_IMG_ROLLBACK (s.imgRollback k)
  let s := s.put R.WEDGE_IMGVER_VERSION (s.slotNum k 0x20 4)
  let s := (s.put R.WEDGE_STAT_BOOTSLOT (k + 1)).put R.WEDGE_STAT_PASS pass
  ((s.raise R.ADC_CAL_BUSY).clear R.ADC_CAL_DONE).raise R.CONE_STAT_RUNNING

/-! ## One slot (R298, R326, R327) -/

/-- The result of the last attempt at slot k. -/
def State.report (s : State) (k : Nat) (r : SlotRefusal) : State :=
  ((((s.put (R.WEDGE_REP_CODE k) r.code).put (R.WEDGE_REP_SSEC k) r.sec).put (R.WEDGE_REP_SIDX k) r.sidx).put
    (R.WEDGE_REPADDR_VALUE k) r.addr).put (R.WEDGE_REPCYC_VALUE k) r.cyc

/-- Phase 7 after the contract and the self-test: records, owned fields, parameters. -/
def State.apply (s : State) (k : Nat) (c : Contract) : Option SlotRefusal × State :=
  let r := s.recApply 0 (s.regRecs k)
  match r.1 with
  | some (code, i) => (some { code := code, addr := i }, r.2)
  | none =>
    let s := r.2.ownFields c (s.sectBytes k 0xB 0)
    let sp := s.sectBytes k 0x7 0
    let l := parRecords sp
    if s.paramBad l k then (some { code := 0x63 }, s)
    else
      (none, { s with
        safe := { s.safe with salt := fieldAt sp 0 16, hash := fieldAt sp 16 64 },
        cone := { s.cone with par := l.foldl (fun m p => Sparse.set 0 m p.1 p.2) [] } })

/-- How many register records were written before a refusal: all but where one of them is refused; one its block refuses has reached it, but a BIST record, whose block keeps the self-test's result (R318, R320). -/
def State.recsWritten (s : State) (k : Nat) (r : SlotRefusal) : List (Nat × Nat) :=
  let l := s.regRecs k
  if r.code = 0x61 then l.take r.addr
  else if r.code = 0x62 then (l.take (r.addr + 1)).filter fun p => decide (p.1 / 0x10000 ≠ 0x40A0)
  else l

/-- The blocks the Wedge has written for slot k when it is refused: the memories of phase 4; in phase 7 the blocks of the records written, and once all are, of its own fields too (R317–R319). -/
def State.wroteWins (s : State) (k : Nat) (r : SlotRefusal) : List Nat :=
  [0x4010, 0x4011, 0x4041, 0x4050] ++
  (if s.get R.WEDGE_STAT_PHASE = 7 then
    (if r.code = 0x61 ∨ r.code = 0x62 then [] else [0x4030, 0x4031, 0x4040, 0x4060]) ++
      (s.recsWritten k r).map fun p => p.1 / 0x10000
  else [])

/-- The state beside the registers of the block at a window returns to its reset value; conditions at the lands stay. -/
def State.resetBlock (s : State) (w : Nat) : State :=
  match w with
  | 0x4010 => { s with wheel := {}, mem := { s.mem with imem := [], dmem := [], ierr := [], derr := [] }, contract := {} }
  | 0x4011 => { s with xwin := {} }
  | 0x4020 => { s with adc := {} }
  | 0x4021 => { s with pos := {} }
  | 0x4030 => { s with pwm := {} }
  | 0x4031 => { s with unused := 0 }
  | 0x4040 => { s with sag := { cond := s.sag.cond } }
  | 0x4041 => { s with cone := {} }
  | 0x4042 => { s with safe := {} }
  | 0x4050 => { s with loops := [], mem := { s.mem with cmem := [], cerr := [] } }
  | 0x4051 => { s with rcu := {} }
  | 0x4060 => { s with queues := [] }
  | 0x4070 => s.setCan 0 {}
  | 0x4071 => s.setCan 1 {}
  | 0x4072 => s.setCan 2 {}
  | 0x4073 => s.setCan 3 {}
  | 0x4078 => { s with eth := {} }
  | _ => s

/-- Registers that show the present of a unit that runs in WEDGING, and so are no part of what a refused slot wrote: the delay line (R196). -/
def liveReg (addr : Nat) : Bool := decide (addr = R.PWM_STAT_DLLLOCK.addr)

/-- Every block written for a refused slot returns to its reset values (R298). -/
def State.revert (s : State) (k : Nat) (r : SlotRefusal) : State :=
  let wins := s.wroteWins k r
  let s := { s with
    regs := Sparse.keep (fun a => liveReg (a / 32) || !wins.contains (a / 32 / 0x10000)) s.regs
    safe := { s.safe with clq := 255 } }
  s.each wins State.resetBlock

/-! ## The key-on test's restore (R446) -/

/-- Windows whose registers belong to scanned logic and hold no part of the Wedge's or the security block's own sequence (R445, assumption 35). -/
def scannedWins : List Nat :=
  [0x4010, 0x4011, 0x4020, 0x4021, 0x4030, 0x4031, 0x4041, 0x4042, 0x4050, 0x4051, 0x4060, 0x4070, 0x4071, 0x4072, 0x4073,
   0x4078, 0x4079, 0x4080, 0x4081]

/-- Every scanned flip-flop returns to its reset value; memory contents are kept (R320, R445, R446). -/
def State.scanReset (s : State) : State :=
  { s with
    regs := Sparse.keep (fun a => liveReg (a / 32) || !scannedWins.contains (a / 32 / 0x10000)) s.regs
    wheel := {}, adc := {}, pos := {}, pwm := {}, loops := [], queues := [], can := [], eth := {}, hspi := {}, safe := {}
    xwin := { s.xwin with sel := 0 }
    rcu := { s.rcu with angle := [] }
    cone := { sram := s.cone.sram, flux := s.cone.flux, chal := s.cone.chal } }

/-! ## The sequence (R297, R299) -/

/-- Phase `ph` begins; it ends within `us` µs, at an instant the spec leaves open (assumptions 5 and 15). -/
def State.phaseBegin (s : State) (ph us : Nat) : State :=
  let d := s.draw (600 * us + 1)
  { d.2 with wedge := { d.2.wedge with due := s.cycle + d.1, limit := s.cycle + 600 * us } }.put R.WEDGE_STAT_PHASE ph

/-- WEDGING ends: its time, and PHASE 0xF (R328). -/
def State.wedgeEnded (s : State) : State :=
  (s.put R.WEDGE_TIME_US ((s.cycle - s.wedge.since) / 600)).put R.WEDGE_STAT_PHASE 0xF

/-- No slot is accepted: NOIMAGE (R305, R35). -/
def State.noImage (s : State) : State := (s.wedgeEnded.setDev .noimage).sync

/-- Training has ended: READY, with the timebases, the mount and the safe outputs (R35, R191, R283, R321, R407). -/
def State.wedgeReady (s : State) : State := (((s.wedgeEnded.setDev .ready).tbBegin).recMount).sync.soEnter

/-! ## The passes (R304, R305) -/

/-- The status words of slot k can be read. -/
def State.statusReadable (s : State) (k : Nat) : Bool := s.slotReadable k 0xFFF000 8

/-- Pass 1 skips slot k: not live, or superseded. -/
def State.slotSkipped (s : State) (k : Nat) : Bool := s.statusReadable k && (!s.slotLive k || s.slotSuperseded k)

/-- What is left to attempt after the present attempt: pass 2 takes what pass 1 skipped because it is live and superseded. -/
def State.todoNext (s : State) : List (Nat × Nat) :=
  match s.wedge.todo with
  | [(_, 0)] => ([0, 1].filter fun k => s.statusReadable k && s.slotSuperseded k).map fun k => (k, 1)
  | _ :: t => t
  | [] => []

/-- The next attempt begins, `after` µs being spent on what the last one left; NOIMAGE where none is left. -/
def State.slotBegin (s : State) (after : Nat) : State :=
  match s.wedge.todo with
  | [] => s.noImage
  | (k, p) :: _ => s.imageJob.phaseBegin 3 ((if p = 0 ∧ s.slotSkipped k = true then 100 else 1500) + after)

/-- The present slot is refused, or skipped: its report, and the next attempt (R298, R305, R327). -/
def State.slotRefused (s : State) (k : Nat) (r : SlotRefusal) (after : Nat) : State :=
  let s := s.report k r
  { s with wedge := { s.wedge with todo := s.todoNext } }.slotBegin after

/-- The present slot is refused after blocks were written for it. -/
def State.slotReverted (s : State) (k : Nat) (r : SlotRefusal) : State := (s.revert k r).slotRefused k r 50

/-! ## The ends of the phases (R297) -/

/-- The PLL locks, within 0.4 ms of the start of phase 1, and the TSC starts (R31, R461). -/
def State.pllLock (s : State) : State :=
  ({ s with pll := true, tsc := 0 }.raise R.SYS_CLKSTAT_PLLLOCK).raise R.SYS_CLKSTAT_XTALOK

/-- Phase 1 ends: the delay-line lock, the OTP read, the identity (R196, R329, R336). The SFDP is read no sooner than 150 µs after the start (R300). -/
def State.phase1End (s : State) : State :=
  let s := if s.pll then s else s.pllLock
  let s := (s.raise R.PWM_STAT_DLLLOCK).latchLc.derive.phaseBegin 2 500
  { s with wedge := { s.wedge with due := max s.wedge.due (s.wedge.since + 90000) } }

/-- A mode check has failed: CHKFAIL counts it, and XSPI_nRST is low for a time before the next mode is tried, within what is left of phase 2 (R302). -/
def State.norReset (s : State) : State :=
  let rest := (s.wedge.limit - s.cycle) / 8
  let d := s.draw (rest + 1)
  let e := d.2.draw (rest + 1)
  { (e.2.put R.WEDGE_XSPI_CHKFAIL (s.wedge.norTries + 1)) with wedge := { e.2.wedge with
      norTries := s.wedge.norTries + 1, norLow := s.cycle + 1 + d.1, due := s.cycle + 1 + d.1 + e.1 } }

/-- Phase 2 ends: discovery, after a reset of the NOR for each mode check that fails; in BLANK and SCRAPPED no slot is read (R300–R303, R316). -/
def State.phase2End (s : State) : State :=
  if s.wedge.norTries < s.norMode.2 then s.norReset
  else
  let s := s.discover
  if s.sec.lc = .blank ∨ s.sec.lc = .scrapped then ((s.report 0 { code := 0x01 }).report 1 { code := 0x01 }).noImage
  else { s with wedge := { s.wedge with todo := [(0, 0), (1, 0)] } }.slotBegin 0

/-- Phase 3 ends: the slot is skipped, or its header, table and signatures are checked; the memories clear as phase 4 begins (R305, R317). -/
def State.phase3End (s : State) (k pass : Nat) : State :=
  if pass = 0 ∧ s.statusReadable k = false then s.slotRefused k { code := 0x03, addr := 0xFFF000 } 0
  else if pass = 0 ∧ s.slotSkipped k = true then
    (s.raise (if k = 0 then R.WEDGE_STAT_SKIPA else R.WEDGE_STAT_SKIPB)).slotRefused k { code := 0x02 } 0
  else match s.phase3 k with
    | some r => s.slotRefused k r 0
    | none => s.clearMems.imageJob.phaseBegin 4 16500

/-- Phase 4 ends: every section read, hashed and in its destination (R316, R317). -/
def State.phase4End (s : State) (k : Nat) : State :=
  match s.phase4 k with
  | some r => s.slotReverted k r
  | none => (s.load k).phaseBegin 5 2500

/-- The key-on test begins, which takes 6,328.24 µs where nothing breaks it (R450). -/
def State.testBegin (s : State) : State :=
  let s := (s.phaseBegin 6 6500).bistBegin true
  { s with bist := { s.bist with keyDone := true } }

/-- The result of the key-on test is not PASS: LBIST (R320). -/
def State.testJudge (s : State) (k : Nat) : State :=
  if s.get R.BIST_STAT_RESULT ≠ 1 then s.slotReverted k { code := 0x60 } else s.phaseBegin 7 1000

/-- Phase 5 ends: the schedule contract; then the key-on test where the image requests it, once in a WEDGING (R97–R99, R320). -/
def State.phase5End (s : State) (k : Nat) : State :=
  match s.contractCheck (s.sectBytes k 0x1 0) (s.regRecs k) with
  | some r => s.slotReverted k r
  | none =>
    if !(s.imgFlags k).testBit 0 then s.phaseBegin 7 1000
    else if s.bist.keyDone then s.testJudge k
    else s.testBegin

/-- The records, the owned fields and the parameters are done: a refusal, or the acceptance burn, within what is left of phase 7 (R319). -/
def State.applyEnd (s : State) (k : Nat) : State :=
  let a := s.apply k (parseTable (s.sectBytes k 0x1 0))
  match a.1 with
  | some r => a.2.slotReverted k r
  | none =>
    let d := a.2.draw (s.wedge.limit - s.cycle + 1)
    { d.2 with wedge := { d.2.wedge with due := s.cycle + d.1, burn := some (d.2.burnOf k) } }

/-- The acceptance burn ends: the image is accepted, and the islands train (R319, R321, R242). -/
def State.burnedEnd (s : State) (k pass : Nat) : State :=
  let s := (s.accept k pass).report k { code := 0 }
  let s := { s with wedge := { s.wedge with burn := none, todo := [] } }.phaseBegin 8 1100
  if s.usedIslands = [] then s else (s.each s.usedIslands State.trainStart).setTraining true

/-- The phase in progress ends. -/
def State.phaseEnd (s : State) : State :=
  match s.get R.WEDGE_STAT_PHASE, s.wedge.todo with
  | 1, _ => s.phase1End
  | 2, _ => s.phase2End
  | 3, (k, p) :: _ => s.imageOver.phase3End k p
  | 4, (k, _) :: _ => s.imageOver.phase4End k
  | 5, (k, _) :: _ => s.phase5End k
  | 6, (k, _) :: _ => s.bistFinish.scanReset.testJudge k
  | 7, (k, p) :: _ => if s.wedge.burn.isSome then s.burnedEnd k p else s.applyEnd k
  | _, _ => s

/-- What the Wedge does in this cycle: training ends with its last island, the key-on test with its restore, every other phase at its instant. -/
def State.wedgeTick (s : State) : State :=
  if s.dev ≠ .wedging then s
  else if s.get R.WEDGE_STAT_PHASE = 8 then (if s.on R.ISL_STAT_TRBUSY then s else s.wedgeReady)
  else if s.keyRun then (if s.bistOver then s.phaseEnd else s)
  else if s.get R.WEDGE_STAT_PHASE = 1 ∧ s.pll = false ∧ s.wedge.pllAt ≤ s.cycle then s.pllLock
  else if s.wedge.due ≤ s.cycle then s.phaseEnd
  else s

/-- The level of XSPI_nRST: low in OFF, for 50 µs after it is left, and after a failed mode check (R300, R302, R481). -/
def State.xspiNrst (s : State) : Bool :=
  match s.dev with
  | .off => false
  | .wedging => decide (s.wedge.since + 30000 ≤ s.cycle) && decide (s.wedge.norLow ≤ s.cycle)
  | _ => true

/-- The device leaves OFF for WEDGING once supplies are valid, nRST is high and no internal reset holds it; with TEST high it stays under the production tester (R35, R459, R479). -/
def State.leaveOff (s : State) : State :=
  if s.dev = .off ∧ s.pins.supOk ∧ s.pins.nrst ∧ s.pins.hold = false ∧ s.pins.test = false then
    let d := s.draw 240001
    let s := { d.2.setDev .wedging with wedge := { since := s.cycle, pllAt := s.cycle + d.1 } }.phaseBegin 1 500
    { s with wedge := { s.wedge with due := max s.wedge.due s.wedge.pllAt } }.sync
  else s

/-! ## Commands -/

/-- NRST_RELEASE: nRST high, with the level of TEST sampled then (R459, R465, R479). -/
def execNrstRelease (test : Bool) (s : State) : Out :=
  .next (
    if s.pins.nrst then s
    else ({ s with pins := { s.pins with nrst := true, test := test } }).leaveOff)

/-- A power-on reset: POR alone, the counter and the clock record cleared (R466, R469). -/
def State.porReset (s : State) : State :=
  { s with regs := Sparse.keep (fun k => !(decide (k / 32 = 0x40000080) || decide (k / 32 = 0x40000088) || decide (k / 32 = 0x40000090))) s.regs,
           pins := { s.pins with hold := false } }

/-- Every rail stands above its rising level, in mV: VSYS, VCORE, VIO33, VIO18 (R455, R458). -/
def railsUp (vsys vcore vio33 vio18 : Nat) : Bool :=
  decide (5200 < vsys) && decide (740 < vcore) && decide (2850 < vio33) && decide (1550 < vio18)

/-- SUPPLIES_VALID: the least levels of the rails in mV over the last 1.0 ms; `por` says that VSYS had been so low that AON lost its state (R458, R466). -/
def execSuppliesValid (vsys vcore vio33 vio18 : Nat) (por : Bool) (s : State) : Out :=
  .next (
    if s.pins.supOk || !railsUp vsys vcore vio33 vio18 then s
    else
      let s := { s with pins := { s.pins with supOk := true } }.vsysBack vsys
      ((if por then s.porReset else s).sync).leaveOff)

/-- INTERNAL_RESET_RELEASE: an internal reset that has held OFF for at least 20 µs is over (R459). -/
def execInternalResetRelease (s : State) : Out :=
  .next (
    if s.pins.hold && decide (s.pins.holdEnd ≤ s.cycle) then ({ s with pins := { s.pins with hold := false } }).leaveOff else s)

end Sys2Proof.Machine
end

