-- ==== Sys2Proof/Machine/Power.lean ====
section
/-! DEFINITION. Interface sleep (R430–R432), the BANKED entry handshake (R433–R439) and wake (R440–R443). -/

namespace Sys2Proof.Machine

open Sys2Proof

/-! ## Interface sleep (R430, R431) -/

/-- Interface i of ISLEEP is present: CAN0–CAN3, Ethernet, Shard log. -/
def State.ifPresent (s : State) (i : Nat) : Bool :=
  if i < 4 then decide (i < s.nCan) else if i = 4 then s.hasEth else s.hasShard

/-- Interface i is asleep (PWR.ISTAT). -/
def State.ifAsleep (s : State) (i : Nat) : Bool :=
  s.ifPresent i &&
  (if i < 4 then s.canAsleep i else if i = 4 then s.eth.asleep else decide (s.recState = recParked))

/-- Interface i is to sleep once what it is doing ends. -/
def State.ifGoing (s : State) (i : Nat) : Bool :=
  if i < 4 then (s.canx i).sleepReq else if i = 4 then s.eth.sleepReq else s.shard.parking

/-- The block of R434 that interface i is. -/
def ifBlk (i : Nat) : Nat := if i < 4 then i + 2 else if i = 4 then 1 else 7

/-- Interface i has been asked in the entry in progress, and answers or has stopped (R434, R435). -/
def State.ifTaken (s : State) (i : Nat) : Bool :=
  s.entering && (decide (s.get R.PWR_BSTAT_STEP = ifBlk i) || s.stopped (ifBlk i))

/-- Put interface i to sleep. -/
def State.ifSleep (s : State) (i : Nat) : State :=
  if s.ifAsleep i then s
  else if i < 4 then s.canGoSleep i
  else if i = 4 then s.ethGoSleep
  else s.recSleep

/-- The Ethernet MAC wakes; it transmits nothing until a poll has shown the link up. -/
def State.ethWakeUp (s : State) : State :=
  { (s.putBit R.PWR_ISLEEP_REQ 4 false) with eth := { s.eth with asleep := false, sleepReq := false, waitPoll := true } }

/-- A sleep of controller x that waits for its attempt to end is given up. -/
def State.canNoSleep (s : State) (x : Nat) : State :=
  (s.clear (R.CAN_CMD_SLEEP x)).modCan x fun c => { c with sleepReq := false }

/-- Wake interface i. -/
def State.ifWake (s : State) (i : Nat) : State :=
  if i < 4 then (if s.canAsleep i then s.canWakeUp i 0 else s.canNoSleep i)
  else if i = 4 then (if s.eth.asleep then s.ethWakeUp else { s with eth := { s.eth with sleepReq := false } })
  else s.recWake

/-- Bit i of a write of ISLEEP: 1 puts the interface to sleep, 0 wakes it; one that an entry in progress has asked or stopped follows when the entry or BANKED ends (R430, R435, R442). -/
def State.isleepBit (s : State) (i : Nat) (v : Bool) : State :=
  let s := if s.entering then { s with pwr := { s.pwr with asleep := setBit s.pwr.asleep i v } } else s
  if s.ifTaken i then s else if v then s.ifSleep i else s.ifWake i

/-- A write of ISLEEP: a bit written 1 puts its interface to sleep, one written 0 wakes it; in READY and RUN only. -/
def State.isleepWrite (s : State) (v : Nat) : State :=
  if s.dev ≠ .ready ∧ s.dev ≠ .run then s.raise R.PWR_BSTAT_CFGREJ
  else
    let l := below 6 s.ifPresent
    let s := s.each l fun s i => s.isleepBit i (v.testBit i)
    s.put R.PWR_ISLEEP_REQ (bitsOf 6 fun i => s.ifPresent i && v.testBit i)

/-- ISLEEP_REQUEST (R430). -/
def execIsleepRequest (req : Requester) (mask : BitVec 6) (s : State) : Out :=
  .next (if s.mayWrite req then s.isleepWrite mask.toNat else s)

/-- ETH_WAKE: ETH_nWAKE low for 1 µs wakes a sleeping MAC where WAKEEN.ETH is 1; in BANKED, and where the MAC has stopped for an entry, its wake source fires (R431, R438, R441). -/
def execEthWake (s : State) : Out :=
  .next (
    if !s.hasEth then s
    else if s.dev = .banked ∨ s.stopped 1 = true then s.fire 4
    else if s.busUp && s.eth.asleep && s.bit R.PWR_WAKEEN_EN 4 then s.ethWakeUp
    else s)

/-! ## The handshake (R434–R437) -/

/-- Block b of R434 is present. -/
def State.blkPresent (s : State) (b : Nat) : Bool :=
  if b = 1 then s.hasEth else if 2 ≤ b ∧ b ≤ 5 then decide (b - 2 < s.nCan) else if b = 7 then s.hasShard else true

/-- The declared maximum of block b in µs, 0 for an absent block (R434). -/
def State.dmax (s : State) (b : Nat) : Nat :=
  if !s.blkPresent b then 0
  else match b with
    | 1 => 2000
    | 2 => 5000
    | 3 => 5000
    | 4 => 5000
    | 5 => 5000
    | 7 => 3000
    | 10 => 25000
    | 11 => 3000
    | 13 => 10
    | 14 => 2000
    | _ => 0

/-- The first present block from b on. -/
def State.nextBlk (s : State) (b : Nat) : Option Nat := ((List.range 16).filter fun k => decide (b ≤ k) && decide (1 ≤ k) && s.blkPresent k).head?

/-- The state in which block b refuses, where the state shows it (R434): an update under way, a Cone request. -/
def State.blkHeld (s : State) (b : Nat) : Bool :=
  if b = 9 then decide (s.ustate ≠ 0) && decide (s.ustate ≠ 6)
  else if b = 14 then s.on R.SAGGAR_REQ_SSREQA || s.on R.SAGGAR_REQ_SSREQB || s.on R.SAGGAR_REQ_DISCH
  else false

/-- Island i acknowledges PARK: it is trained, powered, and has not declared its link lost (R245, R247). -/
def State.parkAnswers (s : State) (i : Nat) : Bool :=
  s.on (R.ISL_LSTAT_TRAINED i) && (s.island i).powered && !(s.island i).lost

/-- Every trained island has acknowledged PARK (R247). -/
def State.allParked (s : State) : Bool :=
  (List.range s.nIsl).all fun i => !s.on (R.ISL_LSTAT_TRAINED i) || (s.island i).parked

/-- What block b completes before it agrees has ended (R434). -/
def State.blkReady (s : State) (b : Nat) : Bool :=
  if b = 1 then s.eth.asleep
  else if 2 ≤ b ∧ b ≤ 5 then s.canAsleep (b - 2)
  else if b = 7 then decide (s.recState = recParked)
  else if b = 10 then s.sec.jobs.isEmpty && s.sec.burn.isNone
  else if b = 11 then !s.on R.ADC_CAL_BUSY
  else if b = 13 then s.allParked
  else if b = 14 then !s.cone.busy && !s.blkHeld b
  else !s.blkHeld b

/-- Block b may refuse. -/
def State.blkRefuses (s : State) (b : Nat) : Bool := decide (b ≤ 6) || s.blkHeld b

/-- Block b is asked (R435). -/
def State.ask (s : State) (b : Nat) : State :=
  { (s.put R.PWR_BSTAT_STEP b) with pwr := { s.pwr with askAt := s.cycle, prep := true } }

/-- The block asked begins what it completes before it agrees: the MAC sleeps when its PHY access ends, a CAN controller when its attempt ends, the recorder parks when its units have committed, and every trained island is sent PARK (R247). -/
def State.prepare (s : State) : State :=
  let b := s.get R.PWR_BSTAT_STEP
  let s := { s with pwr := { s.pwr with prep := false } }
  if b = 1 then s.ifSleep 4
  else if 2 ≤ b ∧ b ≤ 5 then s.ifSleep (b - 2)
  else if b = 7 then s.recSleep
  else if b = 13 then s.each (below s.nIsl s.parkAnswers) fun s i => s.modIsl i fun x => { x with parked := true }
  else s

/-- Block b has agreed and stops. -/
def State.stopBlk (s : State) (b : Nat) : State :=
  let s := { s with pwr := { s.pwr with agreed := b :: s.pwr.agreed } }
  if b = 15 then s.each (List.range 4) fun s x => if s.on (R.SAFEOUT_OSTAT_TESTING x) then (s.soAbort x).soFollow x else s
  else s

/-- Block b runs again, or gives up its preparation; an interface that slept before the entry stays asleep (R437, R438, R442). The position block keeps its state, so that an exciter that runs again goes on with its phase and counts as started before (DESIGN CHOICE, assumption 12). -/
def State.restartBlk (s : State) (b : Nat) : State :=
  let was := fun i => s.pwr.asleep.testBit i
  if b = 1 then (if was 4 then s else s.ifWake 4)
  else if 2 ≤ b ∧ b ≤ 5 then (if was (b - 2) then s else s.ifWake (b - 2))
  else if b = 7 then (if was 5 then s else s.recWake)
  else if b = 13 then s.each (List.range s.nIsl) fun s i => s.modIsl i fun x => { x with parked := false }
  else s

/-- Every stopped block restarts, in the reverse of the order in which they stopped. -/
def State.restartAll (s : State) : State :=
  let s := s.pwr.agreed.foldl State.restartBlk s
  { s with pwr := { s.pwr with agreed := [] } }

/-- The entry ends without BANKED: the asked block cancels, the stopped ones restart, TRANS clears (R437, R438). -/
def State.endEntry (s : State) (result : Nat) : State :=
  let s := (s.restartBlk (s.get R.PWR_BSTAT_STEP)).restartAll
  let s := { s with pwr := { s.pwr with fired := 0, prep := false } }
  (((s.clear R.PWR_BSTAT_STEP).clear R.PWR_BSTAT_BUSY).put R.PWR_BSTAT_RESULT result).sync

/-- BANKED is entered: clocks gated, the safety configuration locked (R436, R440). -/
def State.enterBanked (s : State) : State :=
  let s := ((s.clear R.PWR_BSTAT_STEP).clear R.PWR_BSTAT_BUSY).put R.PWR_BSTAT_RESULT 1
  ({ s.relock with pwr := { s.pwr with since := s.cycle } }.setDev .banked).sync

/-- The code that refuses an ENTER, 0 where it is accepted (R433). -/
def State.enterRefusal (s : State) : Nat :=
  if s.preempted 4 then 5
  else if s.dev ≠ .ready then 1
  else if s.entering then 2
  else if (List.range s.nInv).any s.latched then 3
  else if s.get R.PWR_WAKEEN_EN = 0 then 4
  else 0

/-- ENTER (R433): the safety configuration locks, and the first present block is asked (R291). -/
def State.pwrEnter (s : State) : State :=
  let c := s.enterRefusal
  if c ≠ 0 then s.put R.PWR_BSTAT_REJ c
  else
    let s := { s.takeCause 4 with pwr := { s.pwr with
      agreed := [], asleep := bitsOf 6 fun i => s.ifAsleep i || s.ifGoing i || s.bit R.PWR_ISLEEP_REQ i } }
    (s.bistLost.relock.raise R.PWR_BSTAT_BUSY).ask ((s.nextBlk 1).getD 6)

/-- ENTER, from the HSPI or the Cone; one that a SAFE_HOLD cause of its FABCLK cycle has overtaken reports PREEMPTED, one that comes as BANKED is entered BUSY (R38, R433). -/
def execPwrEnter (req : Requester) (s : State) : Out :=
  .next (
    if s.overtaken req then s.put R.PWR_BSTAT_REJ (if s.dev = .banked then 2 else 5)
    else if s.mayWrite req && decide (req ≠ .debug) then s.pwrEnter
    else s)

/-- The block being asked agrees and stops; the next is asked, or BANKED is entered (R435, R436). -/
def State.agree (s : State) : State :=
  let b := s.get R.PWR_BSTAT_STEP
  let s := s.stopBlk b
  match s.nextBlk (b + 1) with
  | some n => (s.ask n).sync
  | none => s.enterBanked

/-- AGREE, once what the block being asked has to complete has ended (R435, R436). -/
def execPwrAgree (s : State) : Out :=
  .next (
    if s.dev = .ready ∧ s.entering = true ∧ s.pwr.prep = false ∧ s.pwr.fired = 0 ∧ s.blkReady (s.get R.PWR_BSTAT_STEP) = true then
      s.agree
    else s)

/-- REFUSER names the block and the reason. -/
def State.noteRefuser (s : State) (reason : Nat) : State :=
  (s.put R.PWR_REFUSER_BLOCK (s.get R.PWR_BSTAT_STEP)).put R.PWR_REFUSER_REASON reason

/-- The block being asked refuses, or has not answered in time: the entry ends (R437). -/
def State.refuse (s : State) (reason : Nat) : State := (s.noteRefuser reason).endEntry (reason + 1)

/-- REFUSE: the block being asked refuses (R437). -/
def execPwrRefuse (s : State) : Out :=
  .next (if s.entering && s.blkRefuses (s.get R.PWR_BSTAT_STEP) then s.refuse 1 else s)

/-- The block being asked has passed its declared maximum (R435). -/
def State.askOver (s : State) : Bool :=
  let m := s.dmax (s.get R.PWR_BSTAT_STEP)
  s.entering && decide (m ≠ 0) && decide (s.pwr.askAt + 600 * m ≤ s.cycle)

/-- HANDSHAKE_TIMEOUT: a block that answered DELAY has passed its declared maximum (R435, R437). -/
def execHandshakeTimeout (s : State) : Out := .next (if s.askOver then s.refuse 2 else s)

/-- The AON cycle after the ask is over: 25 ns (R31, R435). -/
def State.askSeen (s : State) : Bool := s.entering && decide (s.pwr.askAt + 15 ≤ s.cycle)

/-- What the handshake does by itself in a cycle (R434, R435): a block whose answer the state shows gives it in the AON cycle after the ask, or once it is ready; one that has passed its maximum refuses (ETH, CAN) or is taken as timed out. The block begins its preparation once the FABCLK cycle of the ENTER is over (R38). The MAC's frame on the wire ends by AGREE. -/
def State.pwrTick (s : State) : State :=
  let s := if s.entering && s.pwr.prep && !s.enteredNow then s.prepare else s
  let b := s.get R.PWR_BSTAT_STEP
  if !s.askSeen || decide (s.dev ≠ .ready) then s
  else if s.blkHeld b then s.refuse 1
  else if s.askOver then s.refuse (if b ≤ 5 then 1 else 2)
  else if b ≠ 1 ∧ s.blkReady b = true then s.agree
  else s

/-- EXIT during an entry aborts it (R438). -/
def State.pwrExit (s : State) : State :=
  if s.entering then (s.endEntry 4).put R.PWR_WAKESRC_FIRST 0xA else s

def execPwrExit (req : Requester) (s : State) : Out := .next (if s.mayWrite req then s.pwrExit else s)

/-! ## Wake (R438, R441–R443) -/

/-- Source i is enabled and armed, and its unit is present and listens; the Saggar fires by a latch alone (R438, R441). -/
def State.wakeArmed (s : State) (i : Nat) : Bool :=
  s.wakeArms i &&
  (if i < 4 then decide (i < s.nCan) && decide (s.get (R.CAN_WAKECFG_WMODE i) ≠ 0)
   else if i = 4 then s.hasEth
   else decide (i ≠ 8) || s.pwr.fired.testBit 8)

/-- The cause a controller gives for the wake of its source: its WMODE, or the 32nd frame that failed (R387, R388). -/
def State.canCause (s : State) (x : Nat) : Nat :=
  if s.get (R.CAN_WAKECFG_WMODE x) = 2 ∧ 32 ≤ s.get (R.CAN_WAKESTAT_FECNT x) then 3 else s.get (R.CAN_WAKECFG_WMODE x)

/-- The interfaces whose own wake source fired are awake afterwards, in interface sleep before or not. -/
def State.wakeOwn (s : State) (src : Nat) : State :=
  s.each (below 5 src.testBit) fun s i =>
    let s := { s with pwr := { s.pwr with asleep := setBit s.pwr.asleep i false } }
    if i = 4 then s.ethWakeUp
    else if s.canAsleep i then s.canWakeUp i (s.canCause i) else s

/-- WAKESRC (R443): the sources that fired are added to SRC; FIRST is the lowest code of the first cycle. -/
def State.noteWake (s : State) (first src : Nat) : State :=
  let s := s.put R.PWR_WAKESRC_SRC (Nat.lor (s.get R.PWR_WAKESRC_SRC) src)
  s.put R.PWR_WAKESRC_FIRST (((below 9 first.testBit).head?).getD 0 + 1)

/-- READY again from BANKED: BTIME, the TSC within one tick of an uninterrupted count, every block, the timebases (R33, R191, R442, R443). -/
def State.leaveBanked (s : State) : State :=
  let s := s.put R.PWR_BTIME_MS (min ((s.cycle - s.pwr.since) / 600000) (2 ^ 32 - 1))
  let d := s.draw 3
  let n := s.cycle / 6 - s.pwr.since / 6
  let s := { d.2 with tsc := (s.tsc + max (n + d.1) 1 - 1) % 2 ^ 64 }
  let s := { s with pwr := { s.pwr with fired := 0 } }
  let s := s.restartAll.setDev .ready
  s.tbBegin.sync.soEnter

/-- Sources fire: the device wakes, or the entry in progress is aborted (R438, R441–R443). -/
def State.wake (s : State) (first src : Nat) : State :=
  if first = 0 then s
  else if s.dev = .banked then ((s.noteWake first src).wakeOwn src).leaveBanked
  else if s.entering then ((s.noteWake first src).wakeOwn src).endEntry 4
  else s

/-- WAKE_EVENT: the sources that fire in the first AON cycle, those that have fired already among them, and those that follow until READY. -/
def execWakeEvent (first later : BitVec 9) (s : State) : Out :=
  .next (
    let f := bitsOf 9 fun i => (first.toNat.testBit i || s.pwr.fired.testBit i) && s.wakeArmed i
    let src := bitsOf 9 fun i => f.testBit i || (later.toNat.testBit i && s.wakeArmed i)
    s.wake f src)

/-- The sources that have fired by their own events take effect (R438, R441). -/
def State.wakeTick (s : State) : State := if s.pwr.fired = 0 then s else s.wake s.pwr.fired s.pwr.fired

end Sys2Proof.Machine
end

