-- ==== Sys2Proof/Machine/Update.lean ====
section
/-! DEFINITION. Writing a new image into the inactive slot (R322–R325): the commands of WEDGE.UCTL, UDATA, and the ends of the NOR's erases and programs. -/

namespace Sys2Proof.Machine

open Sys2Proof

/-! ## Results (R322, R328) -/

/-- URES. -/
def State.ures (s : State) (c : Nat) : State := s.put R.WEDGE_USTAT_URES c

/-- OWNER code of a requester; the debug port owns no update. -/
def ownerCode : Requester → Nat
  | .hspi => 1
  | .cone => 2
  | .debug => 0

/-- UBUSY falls, an interrupt source (R400). -/
def State.updDone (s : State) : State := (s.clear R.WEDGE_USTAT_UBUSY).raise R.HSPI_IRQ_UPD

/-- An update may run: READY or RUN, and the Wedge has not stopped for a BANKED entry (R322, R434, R445). -/
def State.updDev (s : State) : Bool :=
  (decide (s.dev = .ready) || decide (s.dev = .run)) && !s.scanPart 2 && !s.stopped 9

/-- The requester may act on the update: HSPI or Cone, and the owner while one is in progress (R322). -/
def State.updOwner (s : State) (req : Requester) : Bool :=
  decide (ownerCode req ≠ 0) &&
  (decide (s.ustate = 0) || decide (s.ustate = 6) || decide (s.get R.WEDGE_USTAT_OWNER = ownerCode req))

/-- The code that refuses a command of a requester before its own conditions: device state, owner, busy; 0 for none (R322, R323). -/
def State.updRefusal (s : State) (req : Requester) : Nat :=
  if !s.updDev then 0x81
  else if !s.updOwner req then 0x82
  else if s.on R.WEDGE_USTAT_UBUSY then 0x85
  else 0

/-- A command with its common refusals. -/
def State.updCommand (s : State) (req : Requester) (f : State → State) : State :=
  let c := s.updRefusal req
  if c ≠ 0 then s.ures c else f s

/-! ## BEGIN (R323) -/

/-- The length of an image that BEGIN takes. -/
def lenOk (n : Nat) : Bool := decide (0x1600 ≤ n) && decide (n ≤ 0x00600000) && decide (n % 64 = 0)

/-- BEGIN: the target is the slot that did not start. -/
def State.updBegin (s : State) (req : Requester) : State :=
  if s.ustate ≠ 0 ∧ s.ustate ≠ 6 then s.ures 0x80
  else if !lenOk (s.get R.WEDGE_ULEN_LEN) then s.ures 0x83
  else if s.eraseUnit = 0 then s.ures 0x84
  else
    let s := { s with nor := { s.nor with page := [], programming := false } }
    let s := (s.put R.WEDGE_USTAT_OWNER (ownerCode req)).put R.WEDGE_USTAT_TARGET (3 - s.get R.WEDGE_STAT_BOOTSLOT)
    (((s.put R.WEDGE_USTAT_USTATE 1).raise R.WEDGE_USTAT_UBUSY).clear R.WEDGE_UADDR_COUNT).ures 0

def execUpdateBegin (req : Requester) (s : State) : Out :=
  .next (if s.mayWrite req then s.updCommand req (fun s => s.updBegin req) else s)

/-- A NOR operation reported failure: NOR, and IDLE (R323). -/
def State.updFail (s : State) : State := (s.ures 0x84).updIdle

/-- ERASE_DONE: the erase has ended, or has reported failure (R323). -/
def execEraseDone (ok : Bool) (s : State) : Out :=
  .next (
    if s.ustate ≠ 1 then s
    else if ok then ((s.eraseUnits s.updUnits).put R.WEDGE_USTAT_USTATE 2).updDone
    else s.eraseFails.updFail.updDone)

/-! ## UDATA (R323) -/

/-- Start a page program where 256 bytes have been gathered. -/
def State.pageStart (s : State) : State :=
  if 256 ≤ s.nor.page.length then { s.raise R.WEDGE_USTAT_UBUSY with nor := { s.nor with programming := true } } else s

/-- A UDATA write in WRITING appends 4 bytes (R323). -/
def State.updData (s : State) (req : Requester) (w : Nat) : State :=
  let n := s.get R.WEDGE_UADDR_COUNT
  if !s.updDev then s.ures 0x81
  else if !s.updOwner req then s.ures 0x82
  else if s.ustate ≠ 2 then s.ures 0x80
  else if s.get R.WEDGE_ULEN_LEN < n + 4 then s.ures 0x83
  else
    let s := { s with nor := { s.nor with page := s.nor.page ++ bytesLE 4 w } }
    (s.put R.WEDGE_UADDR_COUNT (n + 4)).pageStart

/-- UDATA_WRITE. -/
def execUdataWrite (req : Requester) (w : Word) (s : State) : Out :=
  .next (if s.mayWrite req then s.updData req w.toNat else s)

/-- NOR_PAGE_PROGRAM_DONE: the page is programmed and UBUSY falls, unless another page has been gathered since; or the program has reported failure (R323). It is no command, so UPD is not raised. -/
def execNorPageProgramDone (ok : Bool) (s : State) : Out :=
  .next (
    if s.ustate ≠ 2 ∨ s.nor.programming = false then s
    else if ok then ((s.pageWrite true).clear R.WEDGE_USTAT_UBUSY).pageStart
    else (s.pageWrite false).updFail)

/-! ## VERIFY, COMMIT, ABORT (R323–R325) -/

/-- VERIFY, in WRITING with every byte written. -/
def State.updVerify (s : State) : State :=
  if s.ustate = 2 ∧ s.get R.WEDGE_UADDR_COUNT = s.get R.WEDGE_ULEN_LEN then
    let s := ((s.put R.WEDGE_USTAT_USTATE 3).raise R.WEDGE_USTAT_UBUSY).ures 0
    { s with sec := { s.sec with jobs := s.sec.jobs ++ [.verify] } }
  else s.ures 0x80

def execUpdateVerify (req : Requester) (s : State) : Out :=
  .next (if s.mayWrite req then s.updCommand req State.updVerify else s)

/-- VERIFY_DONE: the last partial page is programmed, and the checks of phases 3 and 4 made on the target as it now stands. They share the engines of the security block and wait for the jobs before them (R343). -/
def execUpdateVerifyDone (ok : Bool) (s : State) : Out :=
  .next (
    if s.ustate ≠ 3 ∨ s.sec.jobs.head? ≠ some .verify then s
    else
      let s := s.jobEnd.pageWrite ok
      if !ok then s.updFail.updDone
      else match s.imageCheck s.target with
        | some r => ((s.put R.WEDGE_USTAT_USTATE 2).ures r.code).updDone
        | none => ((s.put R.WEDGE_USTAT_USTATE 4).ures 0).updDone)

/-- COMMIT, in VERIFIED. -/
def State.updCommit (s : State) : State :=
  if s.ustate = 4 then ((s.put R.WEDGE_USTAT_USTATE 5).raise R.WEDGE_USTAT_UBUSY).ures 0 else s.ures 0x80

def execCommitUpdate (req : Requester) (s : State) : Out :=
  .next (if s.mayWrite req then s.updCommand req State.updCommit else s)

/-- COMMIT_DONE: LIVE of the target, then SUPERSEDED of the active slot (R325); after a reported failure the status words are as a cut commit leaves them. -/
def execCommitDone (ok : Bool) (s : State) : Out :=
  .next (
    if s.ustate ≠ 5 then s
    else if ok then
      let z := bytesLE 4 0
      let s := (s.norProgram (statusBase s.target) z).norProgram (statusBase (1 - s.target) + 4) z
      (s.put R.WEDGE_USTAT_USTATE 6).updDone
    else s.commitCut.updFail.updDone)

/-- ABORT, in every state but COMMITTING, where its commit is still running. -/
def State.updAbort (s : State) : State := if s.ustate = 5 then s.ures 0x80 else s.updIdle.ures 0

def execUpdateAbort (req : Requester) (s : State) : Out :=
  .next (if s.mayWrite req then s.updCommand req State.updAbort else s)

/-! ## The registers (R323, R328) -/

/-- A write of ULEN: outside IDLE and COMMITTED discarded with STATE. -/
def State.ulenWrite (s : State) (v : Nat) : State :=
  if s.ustate = 0 ∨ s.ustate = 6 then s.put R.WEDGE_ULEN_LEN v else s.ures 0x80

end Sys2Proof.Machine
end

