-- ==== Sys2Proof/Machine/Reads.lean ====
section
/-! DEFINITION. What a register reads as (R9–R12, R24, R30, R399, R506): stored fields, fields that follow the present state, the buffers and the 64-bit quantities. -/

namespace Sys2Proof.Machine

open Sys2Proof

/-! ## Fields that follow the present state -/

/-- A truth value as a bit. -/
def b01 (b : Bool) : Nat := if b then 1 else 0

/-- µs since an instant, saturating at 0xFFFF; 0xFFFF where there is none. -/
def State.ageUs (s : State) (t : Option Nat) : Nat :=
  match t with
  | some t => min ((s.cycle - t) / 600) 0xFFFF
  | none => 0xFFFF

/-- Index of a field's register in an array of its block. -/
def Fld.ix (f : Fld) (base stride : Nat) : Nat := (f.addr - base) / stride

/-- The part number (R501). -/
def State.part (s : State) : Nat :=
  match s.variant with
  | .vz6840 => 0x6840
  | .vz6832 => 0x6832
  | .vz6821 => 0x6821

/-- SYS (R45, R31, R501). -/
def State.sysNow (s : State) (f : Fld) : Nat :=
  if f = R.SYS_STATE_CUR then s.dev.code
  else if f = R.SYS_STATE_TRANS then b01 (s.entering || s.stopping)
  else if f = R.SYS_ID_PART then s.part
  else if f = R.SYS_CAP0_UNITS then s.cap0
  else if f = R.SYS_TSC_LO_COUNT then s.tsc % 2 ^ 32
  else if f = R.SYS_TSC_HI_COUNT then s.tsc / 2 ^ 32 % 2 ^ 32
  else s.get f

/-- WHEEL.STAT (R80). -/
def State.wheelNow (s : State) (f : Fld) : Nat :=
  if f = R.WHEEL_STAT_TURNING then b01 s.wheel.turning
  else if f = R.WHEEL_STAT_IDLE then b01 s.wheel.idle
  else if f = R.WHEEL_STAT_HALTED then b01 s.wheel.halted
  else if f = R.WHEEL_STAT_DBGHALT then b01 s.wheel.dbgHalted
  else s.get f

/-- A member of group g is converting (R136). -/
def State.groupRuns (s : State) (g : Nat) : Bool := s.adc.runs.any fun r => decide (r.group = g) && r.busy s.cycle

/-- ADC (R136). -/
def State.adcNow (s : State) (f : Fld) : Nat :=
  if f = R.ADC_INFO_NAIN then 3 * s.nConv
  else if f = R.ADC_INFO_NCONV then s.nConv
  else if f = R.ADC_CAL_START then s.get R.ADC_CAL_BUSY
  else
    let g := f.ix 0x40200118 0x20
    if f = R.ADC_GSW_BUSY g ∧ g < 8 then b01 (s.groupRuns g) else s.get f

/-- POS validities and ages (R139, R144, R149, R157, R158). -/
def State.posNow (s : State) (f : Fld) : Nat :=
  if f = R.POS_VALID_SRC then bitsOf 20 s.posValid
  else
    let x := f.ix 0x40210114 0x20
    let e := f.ix 0x40210218 0x20
    let h := f.ix 0x40210310 0x20
    let j := f.ix 0x40210424 0x40
    let a := f.ix 0x40210428 0x40
    if f = R.POS_RXSTAT_VALID x ∧ x < 2 then b01 (s.posValid (16 + x))
    else if f = R.POS_ESTAT_VALID e ∧ e < 2 then b01 (s.posValid e)
    else if f = R.POS_HSTAT_VALID h ∧ h < 2 then b01 (s.posValid (4 + h))
    else if f = R.POS_SSTAT_VALID j ∧ j < 4 then b01 (s.posValid (8 + j))
    else if f = R.POS_SAGE_AGE a ∧ a < 4 then s.ageUs (s.sentCh a).tGood
    else s.get f

/-- RCU (R188). -/
def State.rcuNow (s : State) (f : Fld) : Nat :=
  let ch := f.ix 0x40510114 0x40
  if f = R.RCU_CTL_CLR ch then b01 (decide (s.cycle < Sparse.get 0 s.rcu.clrEnd ch)) else s.get f

/-- LOOP and ramp status (R166, R177, R178, R187). -/
def State.loopNow (s : State) (f : Fld) : Nat :=
  let l := f.ix 0x40500110 0x20
  let u := f.ix 0x4050041C 0x20
  if f = R.LOOP_LSTAT_TRIP l ∧ l < 8 then b01 (s.safeApplied (s.loopInv l))
  else if f = R.LOOP_RSTAT_ACTIVE u ∧ u < 8 then b01 (s.rampActive u)
  else if f = R.LOOP_RSTAT_FROZEN u ∧ u < 8 then b01 (s.rampFrozen u)
  else if f = R.LOOP_RSTAT_ATTGT u ∧ u < 8 then b01 (s.rampAtTgt u)
  else s.get f

/-- PWM (R217). -/
def State.pwmNow (s : State) (f : Fld) : Nat :=
  if f = R.PWM_INFO_NLEG then s.nLeg
  else if f = R.PWM_STAT_SHOOT then b01 ((List.range 8).any fun n => s.on (R.PWM_GSTAT_SHOOT_REQ n))
  else s.get f

/-- ISL (R240, R252). -/
def State.islNow (s : State) (f : Fld) : Nat :=
  let i := f.ix 0x40310114 0x40
  let k := f.ix 0x40310118 0x40
  if f = R.ISL_INFO_NISL then s.nIsl
  else if f = R.ISL_STAT_ENA then b01 s.pins.enA
  else if f = R.ISL_STAT_ENB then b01 s.pins.enB
  else if f = R.ISL_LSTAT_UNUSED i ∧ i < 12 then b01 (s.legUnused (legOfIsl i))
  else if f = R.ISL_FLT_BACK k ∧ k < 12 then b01 (s.backChannel k)
  else s.get f

/-- SAGGAR (R256, R258, R278). -/
def State.sagNow (s : State) (f : Fld) : Nat :=
  if f = R.SAGGAR_INFO_NINV then s.nInv
  else if f = R.SAGGAR_PRESEL_AGE then s.ageUs s.sag.preAt
  else if f.addr = 0x40400018 then slice s.appliedWord f.lo f.width
  else if f = R.SAGGAR_ACTIVE_INPUTS 0 then s.activeVec 0
  else if f = R.SAGGAR_ACTIVE_INPUTS 1 then s.activeVec 1
  else s.get f

/-- CONE (R276, R279). -/
def State.coneNow (s : State) (f : Fld) : Nat :=
  if f.addr = 0x40410030 then slice s.dischWord f.lo f.width else s.get f

/-- SAFEOUT and SAFECFG (R281, R294, R296). -/
def State.safeNow (s : State) (f : Fld) : Nat :=
  let x := f.ix 0x40420104 0x10
  let w := f.ix 0x40420840 4
  if f = R.SAFEOUT_OSTAT_DEMAND x ∧ x < 4 then b01 (s.soDemand x)
  else if f = R.SAFEOUT_CFG_SRC 3 then 6
  else if f = R.SAFECFG_LOGPTR_HEAD then s.get R.SAFECFG_STAT_NCHG % 256
  else if f = R.SAFECFG_LOGPTR_UNMIR then (s.safe.log.filter fun e => !e.mirrored).length
  else if f = R.SAFECFG_LOGDATA_WORD w ∧ w < 8 then s.logData w
  else s.get f

/-- WEDGE.KEYS: the present OTP state (R328). -/
def State.wedgeNow (s : State) (f : Fld) : Nat :=
  if f = R.WEDGE_KEYS_OTPCNT then s.otp.rollback
  else if f = R.WEDGE_KEYS_REVOKED then s.otp.revBits
  else if f = R.WEDGE_KEYS_PROG then s.otp.progBits
  else s.get f

/-- A 32-bit word of a byte list. -/
def wordAt (l : List Nat) (k : Nat) : Nat := fieldAt l (4 * k) 4

/-- SEC (R331, R336, R338, R344, R346). -/
def State.secNow (s : State) (f : Fld) : Nat :=
  if f = R.SEC_LC_OTP then s.otp.lifecycle.code
  else if f = R.SEC_LC_PARTIAL then b01 s.otp.partly
  else if f = R.SEC_LC_CUR then s.sec.lc.code
  else if f = R.SEC_STAT_IMGKEY then b01 s.otp.imgKeyOk
  else if f = R.SEC_RNGSTAT_AVAIL then b01 s.rngAvail
  else if 0x40022000 ≤ f.addr then (if s.on R.SEC_STAT_IDRDY then wordAt s.sec.idpub (f.ix 0x40022000 4) else 0)
  else if 0x40021000 ≤ f.addr then wordAt s.sec.att (f.ix 0x40021000 4)
  else s.get f

/-- QUE (R353, R367); a queue without a unit has no room, and its FULL reads its reset value 0. -/
def State.queNow (s : State) (f : Fld) : Nat :=
  let q := f.ix 0x40600108 0x40
  if f = R.QUE_QSTAT_OPENP q then b01 (s.queue q).openP
  else if f = R.QUE_QSTAT_OPENC q then b01 (s.queue q).openC
  else if f = R.QUE_QSTAT_FULL q then b01 (decide (s.qCap q ≠ 0) && decide (s.qFree q = 0))
  else if f = R.QUE_QSTAT_EMPTY q then b01 (decide (s.qFill q = 0))
  else if f = R.QUE_QFILL_FREE q then s.qFree q
  else if f = R.QUE_QFILL_FILL q then s.qFill q
  else s.get f

/-- CAN.INFO (R389). -/
def State.canNow (s : State) (f : Fld) : Nat :=
  let x := canOf f.addr
  if f = R.CAN_INFO_IDX x then x else if f = R.CAN_INFO_XL x then b01 (s.hasXl x) else s.get f

/-- HSPI.IRQ: the level sources (R400). -/
def State.hspiNow (s : State) (f : Fld) : Nat :=
  if f = R.HSPI_IRQ_TRIP then b01 (s.latched 0 || s.latched 1)
  else if f = R.HSPI_IRQ_QUE then
    b01 ((List.range 32).any fun q => s.bit R.QUE_IRQ_LVL q && decide (s.get (R.QUE_QCFG_CONS q) ≠ reqUnit .cone))
  else s.get f

/-- Octets sent (R405). -/
def State.ethNow (s : State) (f : Fld) : Nat :=
  if f = R.ETH_TXOCT_LO_COUNT then s.eth.octets % 2 ^ 32
  else if f = R.ETH_TXOCT_HI_COUNT then s.eth.octets / 2 ^ 32 % 2 ^ 32
  else s.get f

/-- Armed streams: enabled and not capturing (R416). -/
def State.recNow (s : State) (f : Fld) : Nat :=
  let n := f.ix 0x40800064 8
  if f = R.REC_SNAPST_ARMED n ∧ n < 4 then b01 (s.streamOn n && !(s.stream n).capturing) else s.get f

/-- PWR (R434, R444). -/
def State.pwrNow (s : State) (f : Fld) : Nat :=
  let b := f.ix 0x40900040 4
  if f = R.PWR_BCTL_ENTER then b01 (s.entering || s.stopping)
  else if f = R.PWR_ISTAT_ASLEEP then bitsOf 6 s.ifAsleep
  else if f = R.PWR_DMAX_US b ∧ b < 16 then s.dmax b
  else s.get f

/-- What a field reads as. -/
def State.fieldNow (s : State) (f : Fld) : Nat :=
  match f.addr / 0x10000 with
  | 0x4000 => s.sysNow f
  | 0x4001 => s.wedgeNow f
  | 0x4002 => s.secNow f
  | 0x4010 => s.wheelNow f
  | 0x4020 => s.adcNow f
  | 0x4021 => s.posNow f
  | 0x4030 => s.pwmNow f
  | 0x4031 => s.islNow f
  | 0x4040 => s.sagNow f
  | 0x4041 => s.coneNow f
  | 0x4042 => s.safeNow f
  | 0x4050 => s.loopNow f
  | 0x4051 => s.rcuNow f
  | 0x4060 => s.queNow f
  | 0x4070 => s.canNow f
  | 0x4071 => s.canNow f
  | 0x4072 => s.canNow f
  | 0x4073 => s.canNow f
  | 0x4078 => s.ethNow f
  | 0x4079 => s.hspiNow f
  | 0x4080 => s.recNow f
  | 0x4090 => s.pwrNow f
  | 0x40A0 => if f = R.BIST_CTL_START then s.get R.BIST_STAT_RUNNING else s.get f
  | _ => s.get f

/-- The word a register reads as: write-only fields, reserved bits and reserved addresses read zero (R10–R12). -/
def State.readWord (s : State) (addr : Nat) : Nat :=
  ((regFieldsIn addr (RegMap.window addr)).filter fun f => decide (f.acc ≠ .wo)).foldl
    (fun a f => a + s.fieldNow f % 2 ^ f.width * 2 ^ f.lo) 0

/-! ## 64-bit quantities (R399) -/

/-- The low halves: TSC, ETH.TXOCT, BIST.EXPSIG, BIST.SIG. -/
def lowHalf (k : Fin 4) : Nat := if k = 0 then 0x40000050 else if k = 1 then 0x40780028 else if k = 2 then 0x40A00010 else 0x40A00018

def isLowHalf (addr : Nat) : Bool := (List.finRange 4).any fun k => decide (addr = lowHalf k)
def isHighHalf (addr : Nat) : Bool := (List.finRange 4).any fun k => decide (addr = lowHalf k + 4)

/-- TEAR bit of a requester. -/
def tearOf : Requester → Fld
  | .hspi => R.HSPI_TEAR_HSPI
  | .cone => R.HSPI_TEAR_CONE
  | .debug => R.HSPI_TEAR_DEBUG

/-- Set a requester's snapshot slot. -/
def State.setSlot (s : State) (req : Requester) (x : Option (Nat × Nat)) : State :=
  { s with hspi := { s.hspi with slot := Sparse.set none s.hspi.slot (reqIdx req) x } }

/-- A read of a low half: it is returned, and the high half goes into the slot. -/
def State.readLow (s : State) (req : Requester) (addr : Nat) : State :=
  { s.setSlot req (some (addr, s.readWord (addr + 4))) with rdata := s.readWord addr }

/-- A read of a high half: the slot, which empties; or the live value, with TEAR. -/
def State.readHigh (s : State) (req : Requester) (addr : Nat) : State :=
  match Sparse.get none s.hspi.slot (reqIdx req) with
  | some (a, h) =>
    if a + 4 = addr then { s.setSlot req none with rdata := h }
    else { s.raise (tearOf req) with rdata := s.readWord addr }
  | none => { s.raise (tearOf req) with rdata := s.readWord addr }

/-! ## A read -/

/-- Where a requester may reach: the debug port only as far as the lifecycle opens it (R330). -/
def State.reqReaches (s : State) (req : Requester) (addr : Nat) : Bool :=
  decide (req ≠ .debug) || s.debugFull || (s.debugSec && decide (addr / 0x10000 = 0x4002)) ||
  (s.debugChal && between 0x40020100 0x40020200 addr)

/-- Run a command's effect inside another command. -/
def State.doing (s : State) (f : State → Out) : State :=
  match f s with
  | .next t => t
  | _ => s

/-- An interconnect buffer word of an exchange window: window and offset (R106). -/
def xwAddr (addr : Nat) : Option (Fin 8 × Fin 1024) :=
  if between 0x40118000 0x40120000 addr then
    some (⟨(addr - 0x40118000) / 0x1000 % 8, Nat.mod_lt _ (by decide)⟩, ⟨addr % 0x1000 / 4 % 1024, Nat.mod_lt _ (by decide)⟩)
  else none

/-- A read of CWDATA: the word at CWADDR through its code: a corrected error is counted, a double-bit error enters SAFE_HOLD; what that read returns is open (R67, R170, assumption 5). -/
def State.cwRead (s : State) : State :=
  let a := s.get R.LOOP_CWADDR_ADDR
  let r := s.eccRead (Sparse.get 0#32 s.mem.cmem a) (Sparse.get 0 s.mem.cerr a)
  match r.1 with
  | some (w, c) => { (if c then r.2.eccNoted 3 a else r.2) with rdata := w.toNat }
  | none => let d := r.2.draw (2 ^ 32); { d.2.enterHold 3 with rdata := d.1 }

/-- A read of a present address. -/
def State.readAt (s : State) (req : Requester) (addr : Nat) : State :=
  if isLowHalf addr then s.readLow req addr
  else if isHighHalf addr then s.readHigh req addr
  else if addr = 0x40020200 then s.doing (execRngRead req)
  else if addr = 0x4050000C then s.cwRead
  else match xwAddr addr with
  | some (w, o) => s.doing (execXwinBufferRead w o)
  | none =>
    if between 0x40600100 0x40600900 addr && decide (addr % 0x40 = 0x28) then
      s.doing (execPoplo req ⟨(addr - 0x40600100) / 0x40 % 32, Nat.mod_lt _ (by decide)⟩)
    else if between 0x40510100 0x40510300 addr && decide (addr % 0x40 = 0x24) then
      s.doing (execTdataRead ⟨(addr - 0x40510100) / 0x40 % 8, Nat.mod_lt _ (by decide)⟩)
    else { s with rdata := s.readWord addr }

/-- A word of the memories an open debug port reaches besides the registers: 0 instruction, 1 data, 2 coefficient memory, 3 Cone SRAM, and its word. The spec gives them no addresses there: the model puts each at 0x1000_0000 times its number, below the registers, a word every four bytes (R80, R330; DESIGN CHOICE, assumption 48). -/
def debugWord (addr : Nat) : Option (Nat × Nat) :=
  let m := addr / 0x10000000
  let w := addr % 0x10000000 / 4
  if addr % 4 = 0 ∧ m < 4 ∧ w < (if m < 2 then 131072 else if m = 2 then 16384 else 262144) then some (m, w) else none

/-- The access is one of an open debug port to a memory. -/
def State.debugMem (s : State) (req : Requester) (addr : Nat) : Option (Nat × Nat) :=
  if req = .debug ∧ s.debugFull = true then debugWord addr else none

/-- A read of a memory word over the debug port: what its code corrects is corrected; with more flipped bits the value is open (R67, assumption 5). -/
def State.debugRead (s : State) (m w : Nat) : State :=
  let v := match m with
    | 0 => Sparse.get 0#32 s.mem.imem w
    | 1 => Sparse.get 0#32 s.mem.dmem w
    | 2 => Sparse.get 0#32 s.mem.cmem w
    | _ => Sparse.get 0#32 s.cone.sram w
  let errs := match m with
    | 0 => Sparse.get 0 s.mem.ierr (w / 2)
    | 1 => Sparse.get 0 s.mem.derr w
    | 2 => Sparse.get 0 s.mem.cerr w
    | _ => 0
  if errs ≤ 1 then { s with rdata := v.toNat } else let d := s.draw (2 ^ 32); { d.2 with rdata := d.1 }

/-- A write of a memory word over the debug port, with good check bits (R80, R330). -/
def State.debugStore (s : State) (m w : Nat) (v : Word) : State :=
  match m with
  | 0 => { s with mem := { s.mem with imem := Sparse.set 0#32 s.mem.imem w v, ierr := Sparse.set 0 s.mem.ierr (w / 2) 0 } }
  | 1 => { s with mem := { s.mem with dmem := Sparse.set 0#32 s.mem.dmem w v, derr := Sparse.set 0 s.mem.derr w 0 } }
  | 2 => { s with mem := { s.mem with cmem := Sparse.set 0#32 s.mem.cmem w v, cerr := Sparse.set 0 s.mem.cerr w 0 } }
  | _ => { s with cone := { s.cone with sram := Sparse.set 0#32 s.cone.sram w v } }

/-- A read over the interconnect; a Cone that does not run makes none. In an on-demand self-test run the debug port reaches the BIST controller directly, and nothing else answers (R5, R24, R267, R330, R449, R504, R506). -/
def State.busRead (s : State) (req : Requester) (addr : Nat) : State :=
  if s.scanning then (if req = .debug ∧ addr / 0x10000 = 0x40A0 ∧ addr % 4 = 0 ∧ s.reqReaches req addr = true then s.readAt req addr else s)
  else if !s.busUp || !s.reqActs req then s
  else match s.debugMem req addr with
  | some (m, w) => s.debugRead m w
  | none =>
  if !s.reqReaches req addr || decide (addr % 4 ≠ 0) then { s with rdata := 0 }
  else if s.absentAddr addr then { s.noteAbsent req false addr with rdata := 0 }
  else s.readAt req addr

/-- LOW_HALF_READ (R399). -/
def execLowHalfRead (req : Requester) (k : Fin 4) (s : State) : Out := .next (s.busRead req (lowHalf k))

/-- HIGH_HALF_READ (R399). -/
def execHighHalfRead (req : Requester) (k : Fin 4) (s : State) : Out := .next (s.busRead req (lowHalf k + 4))

end Sys2Proof.Machine
end

