-- ==== Sys2Proof/Machine/Access.lean ====
section
/-! DEFINITION. A register write over the interconnect (R12, R22–R24, R43): every address whose write is a command of its own calls that command, every other one is a plain write (assumption 9). Then the rows that make accesses: REGISTER_WRITE, ABSENT_ACCESS and the HSPI frames (R390–R398). -/

namespace Sys2Proof.Machine

open Sys2Proof

/-! ## Writes with an effect of their own, by block -/

/-- An index below n from an address in an array; 0 where it lies beyond. -/
def ixFin (n addr base stride : Nat) (h : 0 < n) : Fin n := ⟨(addr - base) / stride % n, Nat.mod_lt _ h⟩

/-- SYS: RUNCTL (R45), RSTCTL (R469), and ABSENT, whose FLAG a new absent access on the same edge leaves set (R504). -/
def State.writeSys (s : State) (req : Requester) (addr v : Nat) : State :=
  if addr = 0x40000010 ∧ s.absentAt = some s.fab then s
  else if addr = 0x40000044 then
    if v.testBit 0 then s.doing (execRunRequest req (v.testBit 1))
    else if v.testBit 1 then s.doing (execStopRequest req false)
    else s
  else if addr = 0x40000084 then
    let s := if s.overtaken req then s else s.clearW1c addr v
    let key := BitVec.ofNat 8 (slice v 24 8)
    if v.testBit 0 then s.doing (execSwrst req key)
    else if v.testBit 1 then s.doing (execDprst req key)
    else s
  else s.plainWrite addr v

/-- WEDGE: the update registers (R322, R323, R328). -/
def State.writeWedge (s : State) (req : Requester) (addr v : Nat) : State :=
  if addr = 0x40010100 then
    match slice v 0 4 with
    | 1 => s.doing (execUpdateBegin req)
    | 2 => s.doing (execUpdateVerify req)
    | 3 => s.doing (execCommitUpdate req)
    | 4 => s.doing (execUpdateAbort req)
    | _ => s.updCommand req (fun s => s.ures 0x80)
  else if addr = 0x40010108 then s.ulenWrite v
  else if addr = 0x40010110 then s.doing (execUdataWrite req (BitVec.ofNat 32 v))
  else s.plainWrite addr v

/-- SEC (R332–R346). -/
def State.writeSec (s : State) (req : Requester) (addr v : Nat) : State :=
  if addr = 0x40020008 then s.doing (execLccmd req ⟨slice v 0 4, Nat.mod_lt _ (by decide)⟩)
  else if addr = 0x40020010 then s.doing (execKeycmd req ⟨slice v 0 2, Nat.mod_lt _ (by decide)⟩)
  else if 0x40020020 ≤ addr ∧ addr < 0x40020060 then
    if s.secWrite req State.debugSec then s.put (R.SEC_KEYBUF_BYTES ((addr - 0x40020020) / 4)) v else s
  else if addr = 0x40020080 then (if v.testBit 0 then s.doing (execAttestationRequest req) else s)
  else if addr = 0x40020100 ∧ req = .cone then s.put R.SEC_DBGSTAT_RESULT 0x10
  else if addr = 0x40020100 then
    let s := s.plainWrite addr v
    let s := if v.testBit 0 then s.doing (execChreq req) else s
    let s := if v.testBit 1 then s.doing (execSubmit req) else s
    if v.testBit 2 then s.doing (execDebugRelock req) else s
  else if addr = 0x4002010C then s.doing (execRespdataWrite req (BitVec.ofNat 32 v))
  else s.plainWrite addr v

/-- WHEEL (R79, R80). -/
def State.writeWheel (s : State) (req : Requester) (addr v : Nat) : State :=
  if addr = 0x40100080 then
    let s := s.doing (if v.testBit 0 then execDebugHalt req else execDebugResume req)
    if v.testBit 1 then s.doing (execDebugStep req) else s
  else s.plainWrite addr v

/-- XWIN: the windows' control and buffers (R26, R102, R103, R106). -/
def State.writeXwin (s : State) (req : Requester) (addr v : Nat) : State :=
  match xwAddr addr with
  | some (w, o) => s.doing (execXwinBufferWrite req w o (BitVec.ofNat 32 v))
  | none =>
    if 0x40110000 ≤ addr ∧ addr < 0x40110080 ∧ addr % 0x10 = 4 then
      let w := ixFin 8 addr 0x40110000 0x10 (by decide)
      let s := if v.testBit 0 then s.doing (execXwCommit req w) else s
      s.doing (execXwHold req w (v.testBit 1))
    else s.plainWrite addr v

/-- ADC (R125, R130, R135, R136). -/
def State.writeAdc (s : State) (addr v : Nat) : State :=
  if addr = 0x40200008 then (if v.testBit 0 then s.doing execCalStart else s)
  else if addr = 0x40200010 then (s.plainWrite addr (v / 65536 * 65536)).doing (execAdcStuckClear (BitVec.ofNat 16 v))
  else if 0x40200100 ≤ addr ∧ addr < 0x40200200 ∧ addr % 0x20 = 0x18 then
    let s := s.plainWrite addr v
    if v.testBit 0 then s.doing (execSwtrig (ixFin 8 addr 0x40200100 0x20 (by decide))) else s
  else if 0x40202000 ≤ addr ∧ addr < 0x402020C0 ∧ addr % 0x20 = 0x10 then
    let s := s.plainWrite addr v
    if v.testBit 1 then s.doing (execSdStuckClear (ixFin 6 addr 0x40202000 0x20 (by decide))) else s
  else s.plainWrite addr v

/-- The position sensor whose flags are cleared at an address (R158). -/
def posFlagUnit (addr : Nat) : Option PosUnit :=
  if addr = 0x40210114 ∨ addr = 0x40210134 then some (.res (ixFin 2 addr 0x40210100 0x20 (by decide)))
  else if addr = 0x40210218 ∨ addr = 0x40210238 then some (.enc (ixFin 2 addr 0x40210200 0x20 (by decide)))
  else if addr = 0x40210310 ∨ addr = 0x40210330 then some (.hall (ixFin 2 addr 0x40210300 0x20 (by decide)))
  else if 0x40210400 ≤ addr ∧ addr < 0x40210500 ∧ addr % 0x40 = 0x24 then
    some (.sent (ixFin 4 addr 0x40210400 0x40 (by decide)))
  else none

/-- POS (R158). -/
def State.writePos (s : State) (addr v : Nat) : State :=
  match posFlagUnit addr with
  | some u => s.doing (execPosFlagClear u (BitVec.ofNat 8 v))
  | none => s.plainWrite addr v

/-- PWM (R191, R198, R211, R215, R217). -/
def State.writePwm (s : State) (addr v : Nat) : State :=
  if addr = 0x40300008 then s.doing (execArm (BitVec.ofNat 8 v))
  else if addr = 0x4030000C then s.doing (execFreezeEnWrite (v.testBit 0))
  else if addr = 0x40300018 ∨ addr = 0x4030001C then
    s.doing (execFstageWrite (ixFin 2 addr 0x40300018 4 (by decide)) (BitVec.ofNat 32 v))
  else if 0x40300040 ≤ addr ∧ addr < 0x40300080 ∧ addr % 0x10 < 0xC then
    s.doing (execTimebaseConfigWrite (ixFin 3 (addr % 0x10) 0 4 (by decide)) (ixFin 4 addr 0x40300040 0x10 (by decide)) (BitVec.ofNat 32 v))
  else s.plainWrite addr v

/-- ISL (R244, R250, R252). -/
def State.writeIsl (s : State) (addr v : Nat) : State :=
  if addr = 0x40310004 then
    let s := s.plainWrite addr v
    if v.testBit 16 then s.doing execRetrain else s
  else if 0x40310100 ≤ addr ∧ addr < 0x40310400 ∧ addr % 0x40 < 0x14 then
    s.doing (execIslConfigWrite (ixFin 12 addr 0x40310100 0x40 (by decide)) (ixFin 5 (addr % 0x40) 0 4 (by decide))
      (BitVec.ofNat 32 v) true)
  else s.plainWrite addr v

/-- SAGGAR, CONE, SAFEOUT, SAFECFG (R272, R279, R284, R289–R293, R296); the Cone alone writes SAFEOUT.CMD. -/
def State.writeSafety (s : State) (req : Requester) (addr v : Nat) : State :=
  if isRwp (regFieldsIn addr (RegMap.window addr)) then s.doing (execRwpWrite req (BitVec.ofNat 32 addr) (BitVec.ofNat 32 v))
  else if addr = 0x4041000C then
    let s := if v.testBit 0 then s.doing (execSclrInverter 0) else s
    let s := if v.testBit 1 then s.doing (execSclrInverter 1) else s
    if v.testBit 2 then s.doing execSclrDischarge else s
  else if addr = 0x40410010 ∨ addr = 0x40410014 then
    s.doing (execTreqWrite (ixFin 2 addr 0x40410010 4 (by decide)) (BitVec.ofNat 32 v))
  else if addr = 0x40420010 then (if req = .cone then s.put R.SAFEOUT_CMD_SO v else s)
  else if 0x40420100 ≤ addr ∧ addr < 0x40420140 ∧ addr % 0x10 = 4 then
    if v.testBit 4 then s.doing (execSoOcClear (ixFin 4 addr 0x40420100 0x10 (by decide))) else s
  else if addr = 0x40420800 then
    let s := if v.testBit 0 then s.doing (execPset req) else s
    let s := if v.testBit 1 then s.doing (execUnlock req) else s
    if v.testBit 2 then s.doing execRelock else s
  else if 0x40420810 ≤ addr ∧ addr < 0x40420820 then s.put (R.SAFECFG_PW_BYTES ((addr - 0x40420810) / 4)) v
  else s.plainWrite addr v

/-- LOOP and RCU (R168–R174, R185, R187, R188). -/
def State.writeLoop (s : State) (addr v : Nat) : State :=
  if addr = 0x4050000C then s.doing (execCwdataWrite (BitVec.ofNat 32 v))
  else if 0x40500100 ≤ addr ∧ addr < 0x40500200 ∧ addr % 0x20 = 0x10 then
    if v.testBit 4 then s.doing (execFblClear (ixFin 8 addr 0x40500100 0x20 (by decide))) else s
  else if 0x40510100 ≤ addr ∧ addr < 0x40510300 ∧ addr % 0x40 = 0x14 then
    if v.testBit 0 then s.doing (execRcuClr (ixFin 8 addr 0x40510100 0x40 (by decide))) else s
  else if 0x40510100 ≤ addr ∧ addr < 0x40510300 ∧ addr % 0x40 = 0x24 then
    s.doing (execTdataWrite (ixFin 8 addr 0x40510100 0x40 (by decide)) (BitVec.ofNat 32 v))
  else s.plainWrite addr v

/-- QUE: the push registers (R352, R354, R367). -/
def State.writeQue (s : State) (req : Requester) (addr v : Nat) : State :=
  let q := ixFin 32 addr 0x40600100 0x40 (by decide)
  let k := addr % 0x40
  let w := BitVec.ofNat 32 v
  if addr < 0x40600100 ∨ 0x40600900 ≤ addr then s.plainWrite addr v
  else if k = 0x18 then s.pushLo req q v
  else if k = 0x1C then s.doing (execPushhi req q w)
  else if k = 0x20 then s.doing (execPushhie req q w)
  else if k = 0x24 then (if v.testBit 0 then s.doing (execPktempty req q) else s)
  else s.plainWrite addr v

/-- CAN: commands and cancels (R380, R381, R387, R389). -/
def State.writeCan (s : State) (req : Requester) (addr v : Nat) : State :=
  let x := ixFin 4 addr 0x40700000 0x10000 (by decide)
  if addr % 0x10000 = 8 then
    let s := if v.testBit 3 then s.doing (execCanCancelAll req x) else s
    let s := if v.testBit 2 then s.doing (execCanRecover req x) else s
    let s := if v.testBit 1 then s.doing (execCanWake req x) else s
    if v.testBit 0 then s.doing (execCanSleep req x) else s
  else if addr % 0x10000 = 0x2C then
    if v.testBit 31 then s.doing (execCanCancel req x (BitVec.ofNat 16 v)) else s.plainWrite addr v
  else s.plainWrite addr v

/-- ETH (R402, R405). -/
def State.writeEth (s : State) (req : Requester) (addr v : Nat) : State :=
  if addr = 0x40780020 ∧ v.testBit 31 = true then
    s.doing (execMdioAccess req (.start (v.testBit 30) ⟨slice v 21 5, Nat.mod_lt _ (by decide)⟩
      ⟨slice v 16 5, Nat.mod_lt _ (by decide)⟩ (BitVec.ofNat 16 v)))
  else s.plainWrite addr v

/-- REC and NANDIF (R416, R420, R422, R426, R428). -/
def State.writeRec (s : State) (req : Requester) (addr v : Nat) : State :=
  if addr = 0x40800008 then
    let s := if slice v 0 4 = 0 then s else s.doing (execRecTrig req (BitVec.ofNat 4 v))
    let s := if v.testBit 4 then s.doing (execNandFormat req .start) else s
    let s := if v.testBit 5 then s.doing (execRecResume req) else s
    if v.testBit 6 then s.doing (execShardRead req) else s
  else s.plainWrite addr v

/-- PWR (R430, R433, R438, R444). -/
def State.writePwr (s : State) (req : Requester) (addr v : Nat) : State :=
  if addr = 0x40900004 then
    let s := if v.testBit 0 then s.doing (execPwrEnter req) else s
    if v.testBit 1 then s.doing (execPwrExit req) else s
  else if addr = 0x40900018 then s.doing (execIsleepRequest req (BitVec.ofNat 6 v))
  else s.plainWrite addr v

/-- BIST (R448, R449, R451–R453). -/
def State.writeBist (s : State) (req : Requester) (addr v : Nat) : State :=
  if addr = 0x40A00004 ∧ v % 4 = 0 then (if s.bistWriter req then s else s.raise R.BIST_STAT_CFGREJ)
  else if addr = 0x40A00004 then
    let s := if v.testBit 0 then s.doing (execLbistStart req) else s
    if v.testBit 1 then s.doing (execLbistStop req) else s
  else s.bistWrite req addr v

/-! ## The write -/

/-- A write of a present address. -/
def State.writeAt (s : State) (req : Requester) (addr v : Nat) : State :=
  match addr / 0x10000 with
  | 0x4000 => s.writeSys req addr v
  | 0x4001 => s.writeWedge req addr v
  | 0x4002 => s.writeSec req addr v
  | 0x4010 => s.writeWheel req addr v
  | 0x4011 => s.writeXwin req addr v
  | 0x4020 => s.writeAdc addr v
  | 0x4021 => s.writePos addr v
  | 0x4030 => s.writePwm addr v
  | 0x4031 => s.writeIsl addr v
  | 0x4040 => s.writeSafety req addr v
  | 0x4041 => s.writeSafety req addr v
  | 0x4042 => s.writeSafety req addr v
  | 0x4050 => s.writeLoop addr v
  | 0x4051 => s.writeLoop addr v
  | 0x4060 => s.writeQue req addr v
  | 0x4070 => s.writeCan req addr v
  | 0x4071 => s.writeCan req addr v
  | 0x4072 => s.writeCan req addr v
  | 0x4073 => s.writeCan req addr v
  | 0x4078 => s.writeEth req addr v
  | 0x4080 => s.writeRec req addr v
  | 0x4090 => s.writePwr req addr v
  | 0x40A0 => s.writeBist req addr v
  | _ => s.plainWrite addr v

/-- The registers whose writes request a change of the device state: RUNCTL, RSTCTL, BCTL. -/
def causeReg (addr : Nat) : Bool := decide (addr = 0x40000044) || decide (addr = 0x40000084) || decide (addr = 0x40900004)

/-- A write over the interconnect (R5, R24, R43, R330, R452, R504). In an on-demand self-test run the debug port reaches the BIST controller directly (R449). A request for a change of state that the SAFE_HOLD cause or the last BANKED agreement of its own FABCLK cycle has overtaken reaches its register (R38). -/
def State.busWrite (s : State) (req : Requester) (addr v : Nat) : State :=
  if s.scanning then
    (if req = .debug ∧ addr / 0x10000 = 0x40A0 ∧ addr % 4 = 0 ∧ s.reqReaches req addr = true then s.writeBist req addr v else s)
  else if s.overtaken req && causeReg addr then (s.writeAt req addr v).sync
  else match (if s.busUp then s.debugMem req addr else none) with
  | some (m, w) => s.debugStore m w (BitVec.ofNat 32 v)
  | none =>
  if !s.mayBus req || !s.reqReaches req addr || decide (addr % 4 ≠ 0) then s
  else if s.absentAddr addr then s.noteAbsent req true addr
  else (s.writeAt req addr v).sync

/-- REGISTER_WRITE: a write over the interconnect (R12, R22–R24). -/
def execRegisterWrite (req : Requester) (addr v : Word) (s : State) : Out := .next (s.busWrite req addr.toNat v.toNat)

/-- ABSENT_ACCESS: an access to an absent unit or to no window: a read gives zero, a write is discarded, and it is noted (R5, R398, R500, R503, R504). An open debug port reaches the memories at addresses below the registers (R330). -/
def execAbsentAccess (req : Requester) (addr : Word) (wr : Bool) (s : State) : Out :=
  .next (
    if !s.absentAddr addr.toNat then s
    else if wr then (if (s.debugMem req addr.toNat).isSome then s else s.busWrite req addr.toNat 0)
    else s.busRead req addr.toNat)

/-! ## HSPI frames (R390–R398) -/

/-- One bit of the CRC-8 of R391 into the remainder. -/
def crc8Bit (c : Nat) (b : Bool) : Nat :=
  let t := xor (c.testBit 7) b
  let c := c * 2 % 256
  if t then Nat.xor c 0x2F else c

/-- The `n` low bits of a number, most significant first. -/
def bitsMsb (n v : Nat) : List Bool := (List.range n).map fun i => v.testBit (n - 1 - i)

/-- CRC-8 of R391 over bits in the order they are sent. -/
def crc8 (l : List Bool) : Nat := Nat.xor (l.foldl crc8Bit 0xFF) 0xFF

/-- nIRQ is asserted (R400). -/
def State.nIrqLow (s : State) : Bool :=
  let src := [R.HSPI_IRQ_QUE, R.HSPI_IRQ_STATE, R.HSPI_IRQ_TRIP, R.HSPI_IRQ_LINK, R.HSPI_IRQ_UPD]
  decide (s.dev ≠ .off) && src.any fun f => decide (s.hspiNow f ≠ 0) && s.bit R.HSPI_IRQEN_EN f.lo

/-- STATUS, with CUR at the falling edge of nCS (R394). -/
def State.hspiStatus (s : State) (cur : Nat) : Nat :=
  cur * 2 ^ 28 + b01 s.nIrqLow * 2 ^ 16 + s.hspi.seq % 256 * 2 ^ 8 + s.get R.HSPI_STAT_LASTCODE

/-- The port answers a frame; in BANKED, where its clocks are gated, only if it is an armed wake source (R395, R396, R436, R441, R452). -/
def State.hspiAnswers (s : State) : Bool :=
  !s.scanning && decide (s.dev ≠ .off) && (decide (s.dev ≠ .banked) || s.wakeArmed 5)

/-- The streaming side answers too: it has not stopped for a BANKED entry, or its frame ends the entry (R434, R438). -/
def State.streamAnswers (s : State) : Bool := s.hspiAnswers && (!s.stopped 6 || s.wakeArmed 5)

/-- The falling edge of nCS: whether it woke the device or ended an entry, and the state after it (R396, R438, R441). -/
def State.hspiSelect (s : State) : Bool × State :=
  if s.wakeArmed 5 then (decide (s.dev = .banked), s.doing (execWakeEvent 0x20 0)) else (false, s)

/-- The frame ends: its code for the next STATUS, the discarded ones counted (R394, R404). A reset that the frame itself asked for leaves no previous frame. -/
def State.hspiEnd (s : State) (reg : Bool) (code : Nat) : State :=
  if s.dev = .off then s
  else
    let s := s.put R.HSPI_STAT_LASTCODE code
    if code = 0 then (if reg then { s with hspi := { s.hspi with seq := (s.hspi.seq + 1) % 256 } } else s)
    else if code = 5 then s
    else s.bumpSat R.HSPI_STAT_ERRCNT

/-- The MISO response: STATUS, RDATA and the CRC-8 over both (R392). -/
def State.hspiRespond (s : State) (status rdata : Nat) : State :=
  let w := status * 2 ^ 32 + rdata % 2 ^ 32
  { s with hspi := { s.hspi with miso := w * 2 ^ 8 + crc8 (bitsMsb 64 w) } }

/-- The MISO response to a stream frame before its entries: STATUS, then zeros to edge 47 (R392, R397). -/
def State.streamRespond (s : State) (status : Nat) : State := { s with hspi := { s.hspi with miso := status * 2 ^ 40 } }

/-- The queue that the streaming side drains (R350, R397). -/
def State.streamQueue (s : State) : Option Nat :=
  (List.range 32).find? fun q => decide (s.get (R.QUE_QCFG_CONS q) = 0x0B)

/-- An 80-bit entry slot: TAG, word, CRC-8 over both (R397). -/
def streamSlot (tag word : Nat) : Nat :=
  let w := tag * 2 ^ 64 + word % 2 ^ 64
  w * 2 ^ 8 + crc8 (bitsMsb 72 w)

/-- `n` whole entry slots: an entry popped, or EMPTY (R397). -/
def State.streamOut (s : State) : Nat → List Nat × State
  | 0 => ([], s)
  | n + 1 =>
    match s.streamQueue.map s.qPop with
    | some (some e, t) => let r := t.streamOut n; (streamSlot (e.mark + if e.bad then 4 else 0) e.word :: r.1, r.2)
    | _ => let r := s.streamOut n; (streamSlot 8 0 :: r.1, r.2)

/-- The entry slot that would come next: the head of the queue, or EMPTY (R360, R397). -/
def State.streamNext (s : State) : Nat :=
  match s.streamQueue with
  | some q =>
    (match (s.queue q).ents with
     | e :: _ => if s.deliverable q then streamSlot (e.mark + if e.bad then 4 else 0) e.word else streamSlot 8 0
     | [] => streamSlot 8 0)
  | none => streamSlot 8 0

/-- A stream frame once the port has been selected: its code and what it shifts out (R395, R397). -/
def State.streamFrame (s : State) (crc edges : Nat) : Nat × State :=
  if edges < 40 then (3, s)
  else if crc ≠ crc8 (bitsMsb 32 0x40000000) then (1, s)
  else if s.dev = .safeHold then (6, s)
  else if edges < 48 then (3, s)
  else
    let r := s.streamOut ((edges - 48) / 80)
    let n := (edges - 48) % 80
    (0, { r.2 with hspi := { r.2.hspi with stream := r.1, part := (n, r.2.streamNext / 2 ^ (80 - n)) } })

/-- A read frame: the read is made at edge 40 and keeps its effect even if the frame is cut short (R393, R398). -/
def State.readFrame (s : State) (addr edges : Nat) : Nat × Nat × State :=
  if edges < 41 then (3, 0, s)
  else
    let t := s.busRead .hspi addr
    if edges ≠ 88 then (3, t.rdata, t)
    else if s.absentAddr addr then (5, 0, t)
    else (0, t.rdata, t)

/-- A write frame: made at the rising edge of nCS, with both CRCs good and 88 edges (R393, R395, R398). -/
def State.writeFrame (s : State) (cmd addr wdata crcW edges : Nat) : Nat × Nat × State :=
  if edges ≠ 88 then (3, 0, s)
  else if crcW ≠ crc8 (bitsMsb 64 (cmd * 2 ^ 32 + wdata)) then (2, 0, s)
  else if s.dev = .safeHold && !(s.overtaken .hspi && causeReg addr) then (6, 0, s)
  else (if s.absentAddr addr then 5 else 0, 0, s.busWrite .hspi addr wdata)

/-- A register frame once the port has been selected: its code, RDATA, and the state after it. -/
def State.registerFrame (s : State) (cmd crcC wdata crcW edges : Nat) : Nat × Nat × State :=
  let addr := 0x40000000 + cmd % 2 ^ 24
  if edges < 40 then (3, 0, s)
  else if crcC ≠ crc8 (bitsMsb 32 cmd) then (1, 0, s)
  else if slice cmd 24 7 ≠ 0 ∨ cmd % 4 ≠ 0 then (4, 0, s)
  else if cmd.testBit 31 then s.writeFrame cmd addr wdata crcW edges
  else s.readFrame addr edges

/-- A whole stream frame at the port (R394–R397). -/
def State.streamTransfer (s : State) (crc edges lead : Nat) : State :=
  if !s.streamAnswers then s
  else
    let sel := s.hspiSelect
    let status := sel.2.hspiStatus s.dev.code
    if sel.1 && decide (lead < 50) then (sel.2.streamRespond status).hspiEnd false 7
    else
      let r := sel.2.streamFrame crc edges
      (r.2.streamRespond status).hspiEnd false r.1

/-- A whole register frame at the port (R392–R398). -/
def State.registerTransfer (s : State) (cmd crcC wdata crcW edges lead : Nat) : State :=
  if !s.hspiAnswers then s
  else
    let sel := s.hspiSelect
    let status := sel.2.hspiStatus s.dev.code
    if sel.1 && decide (lead < 50) then (sel.2.hspiRespond status 0).hspiEnd true 7
    else
      let r := sel.2.registerFrame cmd crcC wdata crcW edges
      (r.2.2.hspiRespond status r.2.1).hspiEnd true r.1

/-- STREAM_FRAME: a frame whose CMD is 0x4000_0000, its CRC, its length in edges, and the µs from the falling edge of nCS to the first edge (R396, R397). -/
def execStreamFrame (crc : BitVec 8) (edges lead : Nat) (s : State) : Out := .next (s.streamTransfer crc.toNat edges lead)

/-- REGISTER_FRAME: CMD and its CRC, WDATA and its CRC, the length in edges, and the µs from the falling edge of nCS to the first edge (R392–R398). -/
def execRegisterFrame (cmd : Word) (crcC : BitVec 8) (wdata : Word) (crcW : BitVec 8) (edges lead : Nat) (s : State) : Out :=
  .next (
    if cmd = 0x40000000#32 then s.streamTransfer crcC.toNat edges lead
    else s.registerTransfer cmd.toNat crcC.toNat wdata.toNat crcW.toNat edges lead)

end Sys2Proof.Machine
end

