-- ==== Sys2Proof/Machine/WheelF.lean ====
section
/-! DEFINITION. The F-slot operations (R508): every result is in flight for 4 cycles (R55). -/

namespace Sys2Proof.Machine

open Sys2Proof

/-- NOP: nothing changes (R508). -/
def execNop (s : State) : Out := .next s

/-- FADD: D ← A + B (R508, R56). -/
def execFadd (gd : Guard) (d a b : Fin 128) (s : State) : Out :=
  .next (s.issue gd fun s => s.fResult d (Fp32.add (s.src a) (s.src b)))

/-- FSUB: D ← A − B (R508, R56). -/
def execFsub (gd : Guard) (d a b : Fin 128) (s : State) : Out :=
  .next (s.issue gd fun s => s.fResult d (Fp32.sub (s.src a) (s.src b)))

/-- FMUL: D ← A × B (R508, R56). -/
def execFmul (gd : Guard) (d a b : Fin 128) (s : State) : Out :=
  .next (s.issue gd fun s => s.fResult d (Fp32.mul (s.src a) (s.src b)))

/-- FMA: D ← D + A × B, D read at issue (R508, R55). -/
def execFma (gd : Guard) (d a b : Fin 128) (s : State) : Out :=
  .next (s.issue gd fun s => s.fResult d (Fp32.fma (s.src d) (s.src a) (s.src b)))

/-- FMS: D ← D − A × B (R508, R55). -/
def execFms (gd : Guard) (d a b : Fin 128) (s : State) : Out :=
  .next (s.issue gd fun s => s.fResult d (Fp32.fms (s.src d) (s.src a) (s.src b)))

/-- FNMS: D ← A × B − D (R508, R55). -/
def execFnms (gd : Guard) (d a b : Fin 128) (s : State) : Out :=
  .next (s.issue gd fun s => s.fResult d (Fp32.fnms (s.src d) (s.src a) (s.src b)))

/-- FMIN (R508, R56). -/
def execFmin (gd : Guard) (d a b : Fin 128) (s : State) : Out :=
  .next (s.issue gd fun s => s.fResult d (Fp32.fmin (s.src a) (s.src b)))

/-- FMAX (R508, R56). -/
def execFmax (gd : Guard) (d a b : Fin 128) (s : State) : Out :=
  .next (s.issue gd fun s => s.fResult d (Fp32.fmax (s.src a) (s.src b)))

/-- FABS (R508). -/
def execFabs (gd : Guard) (d a : Fin 128) (s : State) : Out :=
  .next (s.issue gd fun s => s.fResult d (Fp32.abs (s.src a)))

/-- FNEG (R508). -/
def execFneg (gd : Guard) (d a : Fin 128) (s : State) : Out :=
  .next (s.issue gd fun s => s.fResult d (Fp32.neg (s.src a)))

/-- ADD modulo 2^32 (R508, R56). -/
def execAdd (gd : Guard) (d a b : Fin 128) (s : State) : Out :=
  .next (s.issue gd fun s => s.fResult d (plain (s.src a + s.src b)))

/-- SUB modulo 2^32 (R508, R56). -/
def execSub (gd : Guard) (d a b : Fin 128) (s : State) : Out :=
  .next (s.issue gd fun s => s.fResult d (plain (s.src a - s.src b)))

/-- MUL: low 32 bits of the product (R508). -/
def execMul (gd : Guard) (d a b : Fin 128) (s : State) : Out :=
  .next (s.issue gd fun s => s.fResult d (plain (s.src a * s.src b)))

/-- AND, bitwise (R508). -/
def execAnd (gd : Guard) (d a b : Fin 128) (s : State) : Out :=
  .next (s.issue gd fun s => s.fResult d (plain (s.src a &&& s.src b)))

/-- OR, bitwise (R508). -/
def execOr (gd : Guard) (d a b : Fin 128) (s : State) : Out :=
  .next (s.issue gd fun s => s.fResult d (plain (s.src a ||| s.src b)))

/-- XOR, bitwise (R508). -/
def execXor (gd : Guard) (d a b : Fin 128) (s : State) : Out :=
  .next (s.issue gd fun s => s.fResult d (plain (s.src a ^^^ s.src b)))

/-- SHL by bits [4:0] of register B (R508, R56). -/
def execShl (gd : Guard) (d a b : Fin 128) (s : State) : Out :=
  .next (s.issue gd fun s => s.fResult d (plain (s.src a <<< ((s.src b).toNat % 32))))

/-- SHR, logical (R508, R56). -/
def execShr (gd : Guard) (d a b : Fin 128) (s : State) : Out :=
  .next (s.issue gd fun s => s.fResult d (plain (s.src a >>> ((s.src b).toNat % 32))))

/-- SRA, arithmetic (R508, R56). -/
def execSra (gd : Guard) (d a b : Fin 128) (s : State) : Out :=
  .next (s.issue gd fun s => s.fResult d (plain ((s.src a).sshiftRight ((s.src b).toNat % 32))))

/-- SHLI by an immediate amount (R508, R48). -/
def execShli (gd : Guard) (d a : Fin 128) (amt : Fin 32) (s : State) : Out :=
  .next (s.issue gd fun s => s.fResult d (plain (s.src a <<< amt.val)))

/-- SHRI by an immediate amount (R508, R48). -/
def execShri (gd : Guard) (d a : Fin 128) (amt : Fin 32) (s : State) : Out :=
  .next (s.issue gd fun s => s.fResult d (plain (s.src a >>> amt.val)))

/-- SRAI by an immediate amount (R508, R48). -/
def execSrai (gd : Guard) (d a : Fin 128) (amt : Fin 32) (s : State) : Out :=
  .next (s.issue gd fun s => s.fResult d (plain ((s.src a).sshiftRight amt.val)))

/-- MIN, signed (R508). -/
def execMin (gd : Guard) (d a b : Fin 128) (s : State) : Out :=
  .next (s.issue gd fun s => s.fResult d (plain (if (s.src a).toInt ≤ (s.src b).toInt then s.src a else s.src b)))

/-- MAX, signed (R508). -/
def execMax (gd : Guard) (d a b : Fin 128) (s : State) : Out :=
  .next (s.issue gd fun s => s.fResult d (plain (if (s.src a).toInt ≤ (s.src b).toInt then s.src b else s.src a)))

/-- QADD: signed sum, saturated (R508, R56). -/
def execQadd (gd : Guard) (d a b : Fin 128) (s : State) : Out :=
  .next (s.issue gd fun s => s.fResult d (Fp32.satS32 ((s.src a).toInt + (s.src b).toInt)))

/-- QSUB: signed difference, saturated (R508, R56). -/
def execQsub (gd : Guard) (d a b : Fin 128) (s : State) : Out :=
  .next (s.issue gd fun s => s.fResult d (Fp32.satS32 ((s.src a).toInt - (s.src b).toInt)))

/-- QMUL: Q1.31 product (R508, R56). -/
def execQmul (gd : Guard) (d a b : Fin 128) (s : State) : Out :=
  .next (s.issue gd fun s => s.fResult d (Fp32.qmul (s.src a) (s.src b)))

/-- QSHL: A × 2^n, n = bits [4:0] of B, saturated (R508, R56). -/
def execQshl (gd : Guard) (d a b : Fin 128) (s : State) : Out :=
  .next (s.issue gd fun s => s.fResult d (Fp32.satS32 ((s.src a).toInt * 2 ^ ((s.src b).toNat % 32))))

/-- FCVT.S32 (R508, R56). -/
def execFcvtS32 (gd : Guard) (d a : Fin 128) (s : State) : Out :=
  .next (s.issue gd fun s => s.fResult d (Fp32.cvtS32 (s.src a)))

/-- FCVT.U32 (R508, R56). -/
def execFcvtU32 (gd : Guard) (d a : Fin 128) (s : State) : Out :=
  .next (s.issue gd fun s => s.fResult d (Fp32.cvtU32 (s.src a)))

/-- ICVT.S32 (R508). -/
def execIcvtS32 (gd : Guard) (d a : Fin 128) (s : State) : Out :=
  .next (s.issue gd fun s => s.fResult d (Fp32.ofS32 (s.src a)))

/-- ICVT.U32 (R508). -/
def execIcvtU32 (gd : Guard) (d a : Fin 128) (s : State) : Out :=
  .next (s.issue gd fun s => s.fResult d (Fp32.ofU32 (s.src a)))

/-- FCMP.EQ: FP32; NaN per R56 (R508). -/
def execFcmpEq (gd : Guard) (pd : Fin 8) (a b : Fin 128) (s : State) : Out :=
  .next (s.issue gd fun s => s.fPred pd (Fp32.eq (s.src a) (s.src b)))

/-- FCMP.NE: FP32; NaN per R56 (R508). -/
def execFcmpNe (gd : Guard) (pd : Fin 8) (a b : Fin 128) (s : State) : Out :=
  .next (s.issue gd fun s => s.fPred pd (!Fp32.eq (s.src a) (s.src b)))

/-- FCMP.LT: FP32; NaN per R56 (R508). -/
def execFcmpLt (gd : Guard) (pd : Fin 8) (a b : Fin 128) (s : State) : Out :=
  .next (s.issue gd fun s => s.fPred pd (Fp32.lt (s.src a) (s.src b)))

/-- FCMP.LE: FP32; NaN per R56 (R508). -/
def execFcmpLe (gd : Guard) (pd : Fin 8) (a b : Fin 128) (s : State) : Out :=
  .next (s.issue gd fun s => s.fPred pd (Fp32.le (s.src a) (s.src b)))

/-- FCMP.GT: FP32; NaN per R56 (R508). -/
def execFcmpGt (gd : Guard) (pd : Fin 8) (a b : Fin 128) (s : State) : Out :=
  .next (s.issue gd fun s => s.fPred pd (Fp32.lt (s.src b) (s.src a)))

/-- FCMP.GE: FP32; NaN per R56 (R508). -/
def execFcmpGe (gd : Guard) (pd : Fin 8) (a b : Fin 128) (s : State) : Out :=
  .next (s.issue gd fun s => s.fPred pd (Fp32.le (s.src b) (s.src a)))

/-- ICMP.EQ (R508). -/
def execIcmpEq (gd : Guard) (pd : Fin 8) (a b : Fin 128) (s : State) : Out :=
  .next (s.issue gd fun s => s.fPred pd (decide (s.src a = s.src b)))

/-- ICMP.NE (R508). -/
def execIcmpNe (gd : Guard) (pd : Fin 8) (a b : Fin 128) (s : State) : Out :=
  .next (s.issue gd fun s => s.fPred pd (decide (s.src a ≠ s.src b)))

/-- ICMP.LT (R508). -/
def execIcmpLt (gd : Guard) (pd : Fin 8) (a b : Fin 128) (s : State) : Out :=
  .next (s.issue gd fun s => s.fPred pd ((s.src a).slt (s.src b)))

/-- ICMP.LE (R508). -/
def execIcmpLe (gd : Guard) (pd : Fin 8) (a b : Fin 128) (s : State) : Out :=
  .next (s.issue gd fun s => s.fPred pd ((s.src a).sle (s.src b)))

/-- ICMP.GT (R508). -/
def execIcmpGt (gd : Guard) (pd : Fin 8) (a b : Fin 128) (s : State) : Out :=
  .next (s.issue gd fun s => s.fPred pd ((s.src b).slt (s.src a)))

/-- ICMP.GE (R508). -/
def execIcmpGe (gd : Guard) (pd : Fin 8) (a b : Fin 128) (s : State) : Out :=
  .next (s.issue gd fun s => s.fPred pd ((s.src b).sle (s.src a)))

/-- ICMP.LTU (R508). -/
def execIcmpLtu (gd : Guard) (pd : Fin 8) (a b : Fin 128) (s : State) : Out :=
  .next (s.issue gd fun s => s.fPred pd ((s.src a).ult (s.src b)))

/-- ICMP.LEU (R508). -/
def execIcmpLeu (gd : Guard) (pd : Fin 8) (a b : Fin 128) (s : State) : Out :=
  .next (s.issue gd fun s => s.fPred pd ((s.src a).ule (s.src b)))

/-- ICMP.GTU (R508). -/
def execIcmpGtu (gd : Guard) (pd : Fin 8) (a b : Fin 128) (s : State) : Out :=
  .next (s.issue gd fun s => s.fPred pd ((s.src b).ult (s.src a)))

/-- ICMP.GEU (R508). -/
def execIcmpGeu (gd : Guard) (pd : Fin 8) (a b : Fin 128) (s : State) : Out :=
  .next (s.issue gd fun s => s.fPred pd ((s.src b).ule (s.src a)))

/-- PAND (R508, R49). -/
def execPand (gd : Guard) (pd pa pb : Fin 8) (s : State) : Out :=
  .next (s.issue gd fun s => s.fPred pd (s.p pa.val && s.p pb.val))

/-- POR (R508, R49). -/
def execPor (gd : Guard) (pd pa pb : Fin 8) (s : State) : Out :=
  .next (s.issue gd fun s => s.fPred pd (s.p pa.val || s.p pb.val))

/-- PXOR (R508, R49). -/
def execPxor (gd : Guard) (pd pa pb : Fin 8) (s : State) : Out :=
  .next (s.issue gd fun s => s.fPred pd (s.p pa.val != s.p pb.val))

/-- PNOT (R508, R49). -/
def execPnot (gd : Guard) (pd pa : Fin 8) (s : State) : Out :=
  .next (s.issue gd fun s => s.fPred pd (!s.p pa.val))

/-- MOV: bit copy (R508). -/
def execMov (gd : Guard) (d a : Fin 128) (s : State) : Out :=
  .next (s.issue gd fun s => s.fResult d (plain (s.src a)))

/-- MOVI: sign-extended IMM15 (R508, R48). -/
def execMovi (gd : Guard) (d : Fin 128) (imm : BitVec 15) (s : State) : Out :=
  .next (s.issue gd fun s => s.fResult d (plain (imm.signExtend 32)))

end Sys2Proof.Machine
end

