-- ==== Sys2Proof/Machine/WheelM.lean ====
section
/-! DEFINITION. The M-slot operations (R510): loads of latency 3, stores at the end of the cycle, pointer changes used from the next cycle. -/

namespace Sys2Proof.Machine

open Sys2Proof

/-- LD g, ARk, inc (R510, R63–R65). -/
def execLd (gd : Guard) (g : Fin 128) (k : Fin 16) (inc : Fin 4) (s : State) : Out :=
  .next (s.issue gd fun s => s.dataLoad g.val k.val inc)

/-- ST g, ARk, inc (R510, R65). -/
def execSt (gd : Guard) (g : Fin 128) (k : Fin 16) (inc : Fin 4) (s : State) : Out :=
  .next (s.issue gd fun s => s.dataStore g.val k.val inc)

/-- LDC g, CPj, inc (R510, R66). -/
def execLdc (gd : Guard) (g : Fin 128) (j : Fin 4) (inc : Fin 4) (s : State) : Out :=
  .next (s.issue gd fun s => s.coefLoad g.val j.val inc)

/-- SETAR k, g: ARk takes g[12:0] (R64). -/
def execSetar (gd : Guard) (k : Fin 16) (g : Fin 128) (s : State) : Out :=
  .next (s.issue gd fun s => s.later s.cycle (.setAr k.val ((s.src g).toNat % 8192)))

/-- SETCP j, g: CPj takes g[13:0] (R64). -/
def execSetcp (gd : Guard) (j : Fin 4) (g : Fin 128) (s : State) : Out :=
  .next (s.issue gd fun s => s.later s.cycle (.setCp j.val ((s.src g).toNat % 16384)))

/-- LDC with LD (R510). -/
def execLdcLd (gd : Guard) (g g2 : Fin 128) (j : Fin 4) (incC : Fin 4) (k : Fin 16) (incA : Fin 4) (s : State) : Out :=
  .next (s.issue gd fun s => (s.coefLoad g.val j.val incC).dataLoad g2.val k.val incA)

/-- LDC with ST (R510). -/
def execLdcSt (gd : Guard) (g g2 : Fin 128) (j : Fin 4) (incC : Fin 4) (k : Fin 16) (incA : Fin 4) (s : State) : Out :=
  .next (s.issue gd fun s => (s.coefLoad g.val j.val incC).dataStore g2.val k.val incA)

/-- LD2: g from ARj, g′ from ARk (R510). -/
def execLd2 (gd : Guard) (g g2 : Fin 128) (j k : Fin 16) (inc1 inc2 : Fin 4) (s : State) : Out :=
  .next (s.issue gd fun s => (s.dataLoad g.val j.val inc1).dataLoad g2.val k.val inc2)

/-- ST2: g to ARj, g′ to ARk (R510). -/
def execSt2 (gd : Guard) (g g2 : Fin 128) (j k : Fin 16) (inc1 inc2 : Fin 4) (s : State) : Out :=
  .next (s.issue gd fun s => (s.dataStore g.val j.val inc1).dataStore g2.val k.val inc2)

/-- LDST: g from ARj, g′ to ARk (R510). -/
def execLdst (gd : Guard) (g g2 : Fin 128) (j k : Fin 16) (inc1 inc2 : Fin 4) (s : State) : Out :=
  .next (s.issue gd fun s => (s.dataLoad g.val j.val inc1).dataStore g2.val k.val inc2)

end Sys2Proof.Machine
end

