-- ==== Sys2Proof/Machine/WheelT.lean ====
section
/-! DEFINITION. The T-slot operations (R509): every result is in flight for 12 cycles (R55), with the cases of R56 and the errors of R57. -/

namespace Sys2Proof.Machine

open Sys2Proof

/-- SIN of an angle in revolutions (R509, R57). -/
def execSin (gd : Guard) (d a : Fin 128) (s : State) : Out :=
  .next (s.issue gd fun s => s.tResult d.val (Fp32.sin (s.src a)))

/-- COS (R509, R57). -/
def execCos (gd : Guard) (d a : Fin 128) (s : State) : Out :=
  .next (s.issue gd fun s => s.tResult d.val (Fp32.cos (s.src a)))

/-- SINCOS: sine to D, cosine to D + 1 (R509, R55); D is even in every admitted schedule. -/
def execSincos (gd : Guard) (d a : Fin 128) (s : State) : Out :=
  .next (s.issue gd fun s =>
    (s.tResult d.val (Fp32.sin (s.src a))).tResult ((d.val + 1) % 128) (Fp32.cos (s.src a)))

/-- ATAN2 with A as y and B as x (R509, R57). -/
def execAtan2 (gd : Guard) (d a b : Fin 128) (s : State) : Out :=
  .next (s.issue gd fun s => s.tResult d.val (Fp32.atan2 (s.src a) (s.src b)))

/-- SQRT (R509, R56, R57). -/
def execSqrt (gd : Guard) (d a : Fin 128) (s : State) : Out :=
  .next (s.issue gd fun s => s.tResult d.val (Fp32.sqrt (s.src a)))

/-- RCP (R509, R56, R57). -/
def execRcp (gd : Guard) (d a : Fin 128) (s : State) : Out :=
  .next (s.issue gd fun s => s.tResult d.val (Fp32.rcp (s.src a)))

/-- RSQRT (R509, R56, R57). -/
def execRsqrt (gd : Guard) (d a : Fin 128) (s : State) : Out :=
  .next (s.issue gd fun s => s.tResult d.val (Fp32.rsqrt (s.src a)))

end Sys2Proof.Machine
end

