-- ==== Sys2Proof/Machine/WheelX.lean ====
section
/-! DEFINITION. The X-slot operations (R68, R511): every one issues under its guard while the Wheel turns, and its effect or result is in flight to the cycle R68 gives (assumption 4). -/

namespace Sys2Proof.Machine

open Sys2Proof

/-- A value of latency 3 with its validity into a predicate; p0 takes none (R68, R511). -/
def State.readPair (s : State) (g : Fin 128) (pv : Fin 8) (r : Word × Bool) : State :=
  let s := s.result 3 g.val (plain r.1)
  if pv = 0 then s else s.resultP 3 pv.val r.2

/-- ADC.TRIG: acquisition starts on the first ADCCLK edge in cycles c + 1 to c + 3 (R68, R116). -/
def execAdcTrig (gd : Guard) (grp : Fin 8) (s : State) : Out :=
  .next (s.issue gd fun s =>
    if s.get (R.ADC_GCFG_SRC grp.val) = 1 then s.adcTrigger grp.val (adcEdgeAt (s.cycle + 1)) else s)

/-- ADC.RD (R68, R124). -/
def execAdcRd (gd : Guard) (g : Fin 128) (conv : Fin 16) (pv : Fin 8) (s : State) : Out :=
  .next (s.issue gd fun s => s.readPair g pv (s.adcRead conv.val))

/-- SD.RD (R68, R133). -/
def execSdRd (gd : Guard) (g : Fin 128) (ch : Fin 6) (pv : Fin 8) (s : State) : Out :=
  .next (s.issue gd fun s => s.readPair g pv (s.sdRead ch.val))

/-- POS.RD (R68, R138). -/
def execPosRd (gd : Guard) (g : Fin 128) (src : Fin 20) (pv : Fin 8) (s : State) : Out :=
  .next (s.issue gd fun s => s.readPair g pv (s.posRead src.val))

/-- PWM.WR of CMPA or CMPB: in the shadow in cycle c + 1 (R68, R71). -/
def execPwmWr (gd : Guard) (gen : Fin 8) (isB : Bool) (g : Fin 128) (s : State) : Out :=
  .next (s.issue gd fun s => s.later (s.cycle + 1) (.shadow gen.val isB (s.src g).toNat))

/-- PWM.WR of FORCE; a schedule that names AX0 or AX1 is refused at load (R211). -/
def execPwmWrForce (gd : Guard) (gen : Fin 8) (g : Fin 128) (s : State) : Out :=
  .next (s.issue gd fun s =>
    if gen.val < 6 then s.later (s.cycle + 1) (.force gen.val ((s.src g).toNat % 16)) else s)

/-- The CMPA shadows of the three legs of an inverter, together (R68, R71). -/
def State.groupWrite (s : State) (first : Nat) (a b c : Fin 128) : State :=
  ((s.later (s.cycle + 1) (.shadow first false (s.src a).toNat)).later (s.cycle + 1)
    (.shadow (first + 1) false (s.src b).toNat)).later (s.cycle + 1) (.shadow (first + 2) false (s.src c).toNat)

/-- PWM.GRPA (R68, R71). -/
def execPwmGrpa (gd : Guard) (g1 g2 g3 : Fin 128) (s : State) : Out :=
  .next (s.issue gd fun s => s.groupWrite 0 g1 g2 g3)

/-- PWM.GRPB (R68, R71). -/
def execPwmGrpb (gd : Guard) (g1 g2 g3 : Fin 128) (s : State) : Out :=
  .next (s.issue gd fun s => s.groupWrite 3 g1 g2 g3)

/-- COMM: a commutation event in cycle c + 1 (R68, R212). -/
def execComm (gd : Guard) (mask : Fin 4) (s : State) : Out :=
  .next (s.issue gd fun s => s.later (s.cycle + 1) (.comm mask.val))

/-- RAMP.TGT (R68, R176). -/
def execRampTgt (gd : Guard) (u : Fin 8) (g : Fin 128) (s : State) : Out :=
  .next (s.issue gd fun s => s.later (s.cycle + 1) (.rampTgt u.val (s.src g)))

/-- RAMP.RD (R68, R179). -/
def execRampRd (gd : Guard) (g : Fin 128) (u : Fin 8) (s : State) : Out :=
  .next (s.issue gd fun s => s.result 3 g.val (plain (s.word (R.LOOP_ROUT_VALUE u.val))))

/-- LOOP.CMD CLOSE (R68, R163). -/
def execLoopCmdClose (gd : Guard) (l : Fin 8) (s : State) : Out :=
  .next (s.issue gd fun s => s.later (s.cycle + 1) (.loopCmd l.val 1))

/-- LOOP.CMD OPEN (R68, R164). -/
def execLoopCmdOpen (gd : Guard) (l : Fin 8) (s : State) : Out :=
  .next (s.issue gd fun s => s.later (s.cycle + 1) (.loopCmd l.val 2))

/-- LOOP.CMD FBLOSS (R68, R164). -/
def execLoopCmdFbloss (gd : Guard) (l : Fin 8) (s : State) : Out :=
  .next (s.issue gd fun s => s.later (s.cycle + 1) (.loopCmd l.val 3))

/-- LOOP.MEAS (R68, R165). -/
def execLoopMeas (gd : Guard) (l : Fin 8) (g : Fin 128) (s : State) : Out :=
  .next (s.issue gd fun s => s.later (s.cycle + 1) (.loopMeas l.val (s.src g)))

/-- LOOP.RD (R68, R166). -/
def execLoopRd (gd : Guard) (g : Fin 128) (l : Fin 8) (s : State) : Out :=
  .next (s.issue gd fun s => s.result 3 g.val (plain (s.loopWord l.val)))

/-- RCU.RD (R68, R181). -/
def execRcuRd (gd : Guard) (g : Fin 128) (ch : Fin 8) (ga : Fin 128) (s : State) : Out :=
  .next (s.issue gd fun s => s.later (s.cycle + 1) (.rcuRead ch.val g.val (s.src ga)))

/-- RCU.LRN (R68, R182). -/
def execRcuLrn (gd : Guard) (ch : Fin 8) (g : Fin 128) (s : State) : Out :=
  .next (s.issue gd fun s => s.later (s.cycle + 1) (.rcuLearn ch.val (s.src g)))

/-- Stage a word: it reaches its queue within 4 FABCLK cycles of cycle c + 1, on a FABCLK edge after that of the words staged before it: the Wheel's port takes a word with its header on one edge (R73, R358, assumption 5). -/
def State.stagePush (s : State) (q : Nat) (lo hi : Word) (last : Bool) : State :=
  let d := s.draw 9
  let due := max (s.cycle + 1 + d.1) d.2.wheel.pushDue
  { d.2 with wheel := { d.2.wheel with pushDue := (due / 2 + 1) * 2 } }.later due (.qpush q lo.toNat hi.toNat last)

/-- Q.PUSH (R68, R73). -/
def execQPush (gd : Guard) (q : Fin 32) (gl gh : Fin 128) (s : State) : Out :=
  .next (s.issue gd fun s => s.stagePush q.val (s.src gl) (s.src gh) false)

/-- Q.PUSHE (R68, R73). -/
def execQPushe (gd : Guard) (q : Fin 32) (gl gh : Fin 128) (s : State) : Out :=
  .next (s.issue gd fun s => s.stagePush q.val (s.src gl) (s.src gh) true)

/-- A window read of latency 2; a word with bad parity gives the NaN, is noted, and in a control-critical window halts the Wheel in cycle c + 1 (R68, R74). -/
def State.windowRead (s : State) (g w off : Nat) : State :=
  let r := s.xwWheelRead w off
  if r.2 then
    let s := (s.result 2 g (plain 0x7FC00000#32)).later (s.cycle + 1) .xpoison
    if s.on (R.XWIN_CFG_CRIT w) then s.later (s.cycle + 1) (.halt 0x06) else s
  else s.result 2 g (plain r.1)

/-- XW.RD (R68, R74). -/
def execXwRd (gd : Guard) (g : Fin 128) (w : Fin 8) (off : Fin 1024) (s : State) : Out :=
  .next (s.issue gd fun s => s.windowRead g.val w.val off.val)

/-- XW.RDX: the offset is g′ modulo 1,024 (R68, R74). -/
def execXwRdx (gd : Guard) (g : Fin 128) (w : Fin 8) (go : Fin 128) (s : State) : Out :=
  .next (s.issue gd fun s => s.windowRead g.val w.val ((s.src go).toNat % 1024))

/-- XW.WR: written in cycle c + 1 (R68, R75). -/
def execXwWr (gd : Guard) (g : Fin 128) (w : Fin 8) (off : Fin 1024) (s : State) : Out :=
  .next (s.issue gd fun s => s.later (s.cycle + 1) (.xwWrite w.val off.val (s.src g)))

/-- XW.WRX (R68, R75). -/
def execXwWrx (gd : Guard) (g : Fin 128) (w : Fin 8) (go : Fin 128) (s : State) : Out :=
  .next (s.issue gd fun s => s.later (s.cycle + 1) (.xwWrite w.val ((s.src go).toNat % 1024) (s.src g)))

/-- TS.RD: a half of the turn stamp (R68). -/
def execTsRd (gd : Guard) (g : Fin 128) (half : Bool) (s : State) : Out :=
  .next (s.issue gd fun s =>
    s.result 2 g.val (plain (BitVec.ofNat 32 (slice s.wheel.stamp (if half then 32 else 0) 32))))

/-- TC.RD: the turn counter (R68). -/
def execTcRd (gd : Guard) (g : Fin 128) (s : State) : Out :=
  .next (s.issue gd fun s => s.result 2 g.val (plain (BitVec.ofNat 32 s.turn)))

/-- HB: the checksum and the low 16 bits of the turn counter reach the Saggar in cycle c + 2 (R68, R76); never guarded (R51). -/
def execHb (g : Fin 128) (s : State) : Out :=
  .next (if s.wheel.turning then s.later (s.cycle + 2) (.heartbeat (s.src g) (s.turn % 0x10000)) else s)

/-- HLOOP: the body is the `len` bundles after this one, run `count` times; COUNT 0 skips it (R59, R60); never guarded (R51). -/
def execHloop (_inner : Bool) (count : Fin 4096) (len : Fin 512) (s : State) : Out :=
  .next (
    if !s.wheel.turning then s
    else if count.val = 0 then { s with wheel := { s.wheel with jump := some (s.wheel.pc + len.val + 1) } }
    else { s with wheel := { s.wheel with
      loops := { first := s.wheel.pc + 1, last := s.wheel.pc + len.val, left := count.val } :: s.wheel.loops } })

end Sys2Proof.Machine
end

