-- ==== Sys2Proof/Machine/Dispatch.lean ====
section
/-! DEFINITION. One arm per command: a direct call of its meaning. -/

namespace Sys2Proof.Machine

open Sys2Proof

def exec (i : Instr) (s : State) : Host.Outcome State Fault Refusal :=
  match i with
  | .nop => Sys2Proof.Machine.execNop s
  | .fadd gd d a b => Sys2Proof.Machine.execFadd gd d a b s
  | .fsub gd d a b => Sys2Proof.Machine.execFsub gd d a b s
  | .fmul gd d a b => Sys2Proof.Machine.execFmul gd d a b s
  | .fma gd d a b => Sys2Proof.Machine.execFma gd d a b s
  | .fms gd d a b => Sys2Proof.Machine.execFms gd d a b s
  | .fnms gd d a b => Sys2Proof.Machine.execFnms gd d a b s
  | .fmin gd d a b => Sys2Proof.Machine.execFmin gd d a b s
  | .fmax gd d a b => Sys2Proof.Machine.execFmax gd d a b s
  | .fabs gd d a => Sys2Proof.Machine.execFabs gd d a s
  | .fneg gd d a => Sys2Proof.Machine.execFneg gd d a s
  | .add gd d a b => Sys2Proof.Machine.execAdd gd d a b s
  | .sub gd d a b => Sys2Proof.Machine.execSub gd d a b s
  | .mul gd d a b => Sys2Proof.Machine.execMul gd d a b s
  | .and gd d a b => Sys2Proof.Machine.execAnd gd d a b s
  | .or gd d a b => Sys2Proof.Machine.execOr gd d a b s
  | .xor gd d a b => Sys2Proof.Machine.execXor gd d a b s
  | .shl gd d a b => Sys2Proof.Machine.execShl gd d a b s
  | .shr gd d a b => Sys2Proof.Machine.execShr gd d a b s
  | .sra gd d a b => Sys2Proof.Machine.execSra gd d a b s
  | .shli gd d a amt => Sys2Proof.Machine.execShli gd d a amt s
  | .shri gd d a amt => Sys2Proof.Machine.execShri gd d a amt s
  | .srai gd d a amt => Sys2Proof.Machine.execSrai gd d a amt s
  | .min gd d a b => Sys2Proof.Machine.execMin gd d a b s
  | .max gd d a b => Sys2Proof.Machine.execMax gd d a b s
  | .qadd gd d a b => Sys2Proof.Machine.execQadd gd d a b s
  | .qsub gd d a b => Sys2Proof.Machine.execQsub gd d a b s
  | .qmul gd d a b => Sys2Proof.Machine.execQmul gd d a b s
  | .qshl gd d a b => Sys2Proof.Machine.execQshl gd d a b s
  | .fcvtS32 gd d a => Sys2Proof.Machine.execFcvtS32 gd d a s
  | .fcvtU32 gd d a => Sys2Proof.Machine.execFcvtU32 gd d a s
  | .icvtS32 gd d a => Sys2Proof.Machine.execIcvtS32 gd d a s
  | .icvtU32 gd d a => Sys2Proof.Machine.execIcvtU32 gd d a s
  | .fcmpEq gd pd a b => Sys2Proof.Machine.execFcmpEq gd pd a b s
  | .fcmpNe gd pd a b => Sys2Proof.Machine.execFcmpNe gd pd a b s
  | .fcmpLt gd pd a b => Sys2Proof.Machine.execFcmpLt gd pd a b s
  | .fcmpLe gd pd a b => Sys2Proof.Machine.execFcmpLe gd pd a b s
  | .fcmpGt gd pd a b => Sys2Proof.Machine.execFcmpGt gd pd a b s
  | .fcmpGe gd pd a b => Sys2Proof.Machine.execFcmpGe gd pd a b s
  | .icmpEq gd pd a b => Sys2Proof.Machine.execIcmpEq gd pd a b s
  | .icmpNe gd pd a b => Sys2Proof.Machine.execIcmpNe gd pd a b s
  | .icmpLt gd pd a b => Sys2Proof.Machine.execIcmpLt gd pd a b s
  | .icmpLe gd pd a b => Sys2Proof.Machine.execIcmpLe gd pd a b s
  | .icmpGt gd pd a b => Sys2Proof.Machine.execIcmpGt gd pd a b s
  | .icmpGe gd pd a b => Sys2Proof.Machine.execIcmpGe gd pd a b s
  | .icmpLtu gd pd a b => Sys2Proof.Machine.execIcmpLtu gd pd a b s
  | .icmpLeu gd pd a b => Sys2Proof.Machine.execIcmpLeu gd pd a b s
  | .icmpGtu gd pd a b => Sys2Proof.Machine.execIcmpGtu gd pd a b s
  | .icmpGeu gd pd a b => Sys2Proof.Machine.execIcmpGeu gd pd a b s
  | .pand gd pd pa pb => Sys2Proof.Machine.execPand gd pd pa pb s
  | .por gd pd pa pb => Sys2Proof.Machine.execPor gd pd pa pb s
  | .pxor gd pd pa pb => Sys2Proof.Machine.execPxor gd pd pa pb s
  | .pnot gd pd pa => Sys2Proof.Machine.execPnot gd pd pa s
  | .mov gd d a => Sys2Proof.Machine.execMov gd d a s
  | .movi gd d imm => Sys2Proof.Machine.execMovi gd d imm s
  | .sin gd d a => Sys2Proof.Machine.execSin gd d a s
  | .cos gd d a => Sys2Proof.Machine.execCos gd d a s
  | .sincos gd d a => Sys2Proof.Machine.execSincos gd d a s
  | .atan2 gd d a b => Sys2Proof.Machine.execAtan2 gd d a b s
  | .sqrt gd d a => Sys2Proof.Machine.execSqrt gd d a s
  | .rcp gd d a => Sys2Proof.Machine.execRcp gd d a s
  | .rsqrt gd d a => Sys2Proof.Machine.execRsqrt gd d a s
  | .ld gd g k inc => Sys2Proof.Machine.execLd gd g k inc s
  | .st gd g k inc => Sys2Proof.Machine.execSt gd g k inc s
  | .ldc gd g j inc => Sys2Proof.Machine.execLdc gd g j inc s
  | .setar gd k g => Sys2Proof.Machine.execSetar gd k g s
  | .setcp gd j g => Sys2Proof.Machine.execSetcp gd j g s
  | .ldcLd gd g g2 j incC k incA => Sys2Proof.Machine.execLdcLd gd g g2 j incC k incA s
  | .ldcSt gd g g2 j incC k incA => Sys2Proof.Machine.execLdcSt gd g g2 j incC k incA s
  | .ld2 gd g g2 j k inc1 inc2 => Sys2Proof.Machine.execLd2 gd g g2 j k inc1 inc2 s
  | .st2 gd g g2 j k inc1 inc2 => Sys2Proof.Machine.execSt2 gd g g2 j k inc1 inc2 s
  | .ldst gd g g2 j k inc1 inc2 => Sys2Proof.Machine.execLdst gd g g2 j k inc1 inc2 s
  | .adcTrig gd grp => Sys2Proof.Machine.execAdcTrig gd grp s
  | .adcRd gd g conv pv => Sys2Proof.Machine.execAdcRd gd g conv pv s
  | .sdRd gd g ch pv => Sys2Proof.Machine.execSdRd gd g ch pv s
  | .posRd gd g src pv => Sys2Proof.Machine.execPosRd gd g src pv s
  | .pwmWr gd gen isB g => Sys2Proof.Machine.execPwmWr gd gen isB g s
  | .pwmWrForce gd gen g => Sys2Proof.Machine.execPwmWrForce gd gen g s
  | .pwmGrpa gd g1 g2 g3 => Sys2Proof.Machine.execPwmGrpa gd g1 g2 g3 s
  | .pwmGrpb gd g1 g2 g3 => Sys2Proof.Machine.execPwmGrpb gd g1 g2 g3 s
  | .comm gd mask => Sys2Proof.Machine.execComm gd mask s
  | .rampTgt gd u g => Sys2Proof.Machine.execRampTgt gd u g s
  | .rampRd gd g u => Sys2Proof.Machine.execRampRd gd g u s
  | .loopCmdClose gd l => Sys2Proof.Machine.execLoopCmdClose gd l s
  | .loopCmdOpen gd l => Sys2Proof.Machine.execLoopCmdOpen gd l s
  | .loopCmdFbloss gd l => Sys2Proof.Machine.execLoopCmdFbloss gd l s
  | .loopMeas gd l g => Sys2Proof.Machine.execLoopMeas gd l g s
  | .loopRd gd g l => Sys2Proof.Machine.execLoopRd gd g l s
  | .rcuRd gd g ch ga => Sys2Proof.Machine.execRcuRd gd g ch ga s
  | .rcuLrn gd ch g => Sys2Proof.Machine.execRcuLrn gd ch g s
  | .qPush gd q gl gh => Sys2Proof.Machine.execQPush gd q gl gh s
  | .qPushe gd q gl gh => Sys2Proof.Machine.execQPushe gd q gl gh s
  | .xwRd gd g w off => Sys2Proof.Machine.execXwRd gd g w off s
  | .xwRdx gd g w go => Sys2Proof.Machine.execXwRdx gd g w go s
  | .xwWr gd g w off => Sys2Proof.Machine.execXwWr gd g w off s
  | .xwWrx gd g w go => Sys2Proof.Machine.execXwWrx gd g w go s
  | .tsRd gd g half => Sys2Proof.Machine.execTsRd gd g half s
  | .tcRd gd g => Sys2Proof.Machine.execTcRd gd g s
  | .hb g => Sys2Proof.Machine.execHb g s
  | .hloop inner count len => Sys2Proof.Machine.execHloop inner count len s
  | .tend => Sys2Proof.Machine.execTend s
  | .turnMatch => Sys2Proof.Machine.execTurnMatch s
  | .turnStart => Sys2Proof.Machine.execTurnStart s
  | .tmwinExpiry => Sys2Proof.Machine.execTmwinExpiry s
  | .tswinExpiry => Sys2Proof.Machine.execTswinExpiry s
  | .runRequest req stop => Sys2Proof.Machine.execRunRequest req stop s
  | .stopRequest req run => Sys2Proof.Machine.execStopRequest req run s
  | .stopForced => Sys2Proof.Machine.execStopForced s
  | .debugHalt req => Sys2Proof.Machine.execDebugHalt req s
  | .debugStep req => Sys2Proof.Machine.execDebugStep req s
  | .debugResume req => Sys2Proof.Machine.execDebugResume req s
  | .freezeEnWrite v => Sys2Proof.Machine.execFreezeEnWrite v s
  | .xwCommit req w => Sys2Proof.Machine.execXwCommit req w s
  | .xwHold req w v => Sys2Proof.Machine.execXwHold req w v s
  | .xwinBufferWrite req w off v => Sys2Proof.Machine.execXwinBufferWrite req w off v s
  | .xwinBufferRead w off => Sys2Proof.Machine.execXwinBufferRead w off s
  | .timebaseGroupTrigger g => Sys2Proof.Machine.execTimebaseGroupTrigger g s
  | .adtrigEdge rising samples => Sys2Proof.Machine.execAdtrigEdge rising samples s
  | .swtrig g => Sys2Proof.Machine.execSwtrig g s
  | .conversionResult conv code => Sys2Proof.Machine.execConversionResult conv code s
  | .adcStuckClear mask => Sys2Proof.Machine.execAdcStuckClear mask s
  | .calStart => Sys2Proof.Machine.execCalStart s
  | .calDone m10 m90 => Sys2Proof.Machine.execCalDone m10 m90 s
  | .vrefselWrite v => Sys2Proof.Machine.execVrefselWrite v s
  | .sdOutput ch bits => Sys2Proof.Machine.execSdOutput ch bits s
  | .sdSyncEvent ch => Sys2Proof.Machine.execSdSyncEvent ch s
  | .sdStuck ch => Sys2Proof.Machine.execSdStuck ch s
  | .sdStuckClear ch => Sys2Proof.Machine.execSdStuckClear ch s
  | .noest x => Sys2Proof.Machine.execNoest x s
  | .excoc x => Sys2Proof.Machine.execExcoc x s
  | .encoderCount e a b => Sys2Proof.Machine.execEncoderCount e a b s
  | .encoderZ e => Sys2Proof.Machine.execEncoderZ e s
  | .speedCapture e => Sys2Proof.Machine.execSpeedCapture e s
  | .hallEdge h code => Sys2Proof.Machine.execHallEdge h code s
  | .hallTimeout h => Sys2Proof.Machine.execHallTimeout h s
  | .sentFrame j pulses => Sys2Proof.Machine.execSentFrame j pulses s
  | .sentAgeExpiry j => Sys2Proof.Machine.execSentAgeExpiry j s
  | .posFlagClear u mask => Sys2Proof.Machine.execPosFlagClear u mask s
  | .feedbackLoss l => Sys2Proof.Machine.execFeedbackLoss l s
  | .fblClear l => Sys2Proof.Machine.execFblClear l s
  | .cwdataWrite v => Sys2Proof.Machine.execCwdataWrite v s
  | .rcuClr ch => Sys2Proof.Machine.execRcuClr ch s
  | .tdataWrite ch v => Sys2Proof.Machine.execTdataWrite ch v s
  | .tdataRead ch => Sys2Proof.Machine.execTdataRead ch s
  | .zeroEvent t => Sys2Proof.Machine.execZeroEvent t s
  | .peakEvent t => Sys2Proof.Machine.execPeakEvent t s
  | .timebaseConfigWrite field t v => Sys2Proof.Machine.execTimebaseConfigWrite field t v s
  | .arm mask => Sys2Proof.Machine.execArm mask s
  | .deadTimeExpiry n high fine => Sys2Proof.Machine.execDeadTimeExpiry n high fine s
  | .fstageWrite v w => Sys2Proof.Machine.execFstageWrite v w s
  | .commLandEdge rising samples => Sys2Proof.Machine.execCommLandEdge rising samples s
  | .dllLockLoss => Sys2Proof.Machine.execDllLockLoss s
  | .fltSc isl vkp => Sys2Proof.Machine.execFltSc isl vkp s
  | .fltDsat isl vds => Sys2Proof.Machine.execFltDsat isl vds s
  | .fltUvlo isl vcc vee => Sys2Proof.Machine.execFltUvlo isl vcc vee s
  | .fltOt isl t => Sys2Proof.Machine.execFltOt isl t s
  | .softTurnOffEnd isl => Sys2Proof.Machine.execSoftTurnOffEnd isl s
  | .ttltoExpiry isl => Sys2Proof.Machine.execTtltoExpiry isl s
  | .islandSupplyReady isl vcc vee => Sys2Proof.Machine.execIslandSupplyReady isl vcc vee s
  | .islandSupplyLoss isl => Sys2Proof.Machine.execIslandSupplyLoss isl s
  | .enFall v => Sys2Proof.Machine.execEnFall v s
  | .enRise v lowNs vkp => Sys2Proof.Machine.execEnRise v lowNs vkp s
  | .edgeChannelEdge n fine => Sys2Proof.Machine.execEdgeChannelEdge n fine s
  | .ascdtExpiry isl => Sys2Proof.Machine.execAscdtExpiry isl s
  | .faultState isl => Sys2Proof.Machine.execFaultState isl s
  | .nodeTransition isl time plat inTime => Sys2Proof.Machine.execNodeTransition isl time plat inTime s
  | .propagationDelay isl onEdge d => Sys2Proof.Machine.execPropagationDelay isl onEdge d s
  | .supplies isl vcc vee => Sys2Proof.Machine.execSupplies isl vcc vee s
  | .dieTemperature isl t => Sys2Proof.Machine.execDieTemperature isl t s
  | .ntcRatio isl r => Sys2Proof.Machine.execNtcRatio isl r s
  | .keepAlive isl frame => Sys2Proof.Machine.execKeepAlive isl frame s
  | .linkLost isl => Sys2Proof.Machine.execLinkLost isl s
  | .islandLinkLoss isl => Sys2Proof.Machine.execIslandLinkLoss isl s
  | .retrain => Sys2Proof.Machine.execRetrain s
  | .islConfigWrite isl reg v readBack => Sys2Proof.Machine.execIslConfigWrite isl reg v readBack s
  | .tripInput v b uv => Sys2Proof.Machine.execTripInput v b uv s
  | .preselWrite a b => Sys2Proof.Machine.execPreselWrite a b s
  | .preselStale => Sys2Proof.Machine.execPreselStale s
  | .ssreq v on => Sys2Proof.Machine.execSsreq v on s
  | .dischReq on => Sys2Proof.Machine.execDischReq on s
  | .latchClear v => Sys2Proof.Machine.execLatchClear v s
  | .dischargeLatchClear => Sys2Proof.Machine.execDischargeLatchClear s
  | .lockstepMismatch => Sys2Proof.Machine.execLockstepMismatch s
  | .monitoringCycle ph => Sys2Proof.Machine.execMonitoringCycle ph s
  | .fltDischSlow => Sys2Proof.Machine.execFltDischSlow s
  | .sclrInverter v => Sys2Proof.Machine.execSclrInverter v s
  | .sclrDischarge => Sys2Proof.Machine.execSclrDischarge s
  | .treqWrite v w => Sys2Proof.Machine.execTreqWrite v w s
  | .reqstale v => Sys2Proof.Machine.execReqstale v s
  | .demandChange x => Sys2Proof.Machine.execDemandChange x s
  | .testPulse x => Sys2Proof.Machine.execTestPulse x s
  | .testPulseEnd x vh vl vso => Sys2Proof.Machine.execTestPulseEnd x vh vl vso s
  | .soOc x => Sys2Proof.Machine.execSoOc x s
  | .soOcClear x => Sys2Proof.Machine.execSoOcClear x s
  | .unlock req => Sys2Proof.Machine.execUnlock req s
  | .relock => Sys2Proof.Machine.execRelock s
  | .pset req => Sys2Proof.Machine.execPset req s
  | .rwpWrite req addr v => Sys2Proof.Machine.execRwpWrite req addr v s
  | .changeLogReoffer => Sys2Proof.Machine.execChangeLogReoffer s
  | .nrstAssert ns => Sys2Proof.Machine.execNrstAssert ns s
  | .nrstRelease test => Sys2Proof.Machine.execNrstRelease test s
  | .suppliesValid vsys vcore vio33 vio18 por => Sys2Proof.Machine.execSuppliesValid vsys vcore vio33 vio18 por s
  | .updateBegin req => Sys2Proof.Machine.execUpdateBegin req s
  | .eraseDone ok => Sys2Proof.Machine.execEraseDone ok s
  | .udataWrite req w => Sys2Proof.Machine.execUdataWrite req w s
  | .updateVerify req => Sys2Proof.Machine.execUpdateVerify req s
  | .updateVerifyDone ok => Sys2Proof.Machine.execUpdateVerifyDone ok s
  | .commitUpdate req => Sys2Proof.Machine.execCommitUpdate req s
  | .commitDone ok => Sys2Proof.Machine.execCommitDone ok s
  | .updateAbort req => Sys2Proof.Machine.execUpdateAbort req s
  | .lccmd req target => Sys2Proof.Machine.execLccmd req target s
  | .keycmd req slot => Sys2Proof.Machine.execKeycmd req slot s
  | .attestationRequest req => Sys2Proof.Machine.execAttestationRequest req s
  | .reportReady => Sys2Proof.Machine.execReportReady s
  | .reportTimeout => Sys2Proof.Machine.execReportTimeout s
  | .chreq req => Sys2Proof.Machine.execChreq req s
  | .respdataWrite req w => Sys2Proof.Machine.execRespdataWrite req w s
  | .submit req => Sys2Proof.Machine.execSubmit req s
  | .debugRelock req => Sys2Proof.Machine.execDebugRelock req s
  | .challengeExpiry => Sys2Proof.Machine.execChallengeExpiry s
  | .rngRead req => Sys2Proof.Machine.execRngRead req s
  | .rngHealthFail => Sys2Proof.Machine.execRngHealthFail s
  | .pushhi req q w => Sys2Proof.Machine.execPushhi req q w s
  | .pushhie req q w => Sys2Proof.Machine.execPushhie req q w s
  | .pktempty req q => Sys2Proof.Machine.execPktempty req q s
  | .poplo req q => Sys2Proof.Machine.execPoplo req q s
  | .dprst req key => Sys2Proof.Machine.execDprst req key s
  | .swrst req key => Sys2Proof.Machine.execSwrst req key s
  | .transmitPacket x => Sys2Proof.Machine.execTransmitPacket x s
  | .canAttempt x ph => Sys2Proof.Machine.execCanAttempt x ph s
  | .canCancel req x tag => Sys2Proof.Machine.execCanCancel req x tag s
  | .canCancelAll req x => Sys2Proof.Machine.execCanCancelAll req x s
  | .canRecover req x => Sys2Proof.Machine.execCanRecover req x s
  | .recoveryComplete x => Sys2Proof.Machine.execRecoveryComplete x s
  | .integration x => Sys2Proof.Machine.execIntegration x s
  | .receiveFrame x d0 af data ticks err => Sys2Proof.Machine.execReceiveFrame x d0 af data ticks err s
  | .safetyStatusFrame k => Sys2Proof.Machine.execSafetyStatusFrame k s
  | .canSleep req x => Sys2Proof.Machine.execCanSleep req x s
  | .canWake req x => Sys2Proof.Machine.execCanWake req x s
  | .dominantWake x ns => Sys2Proof.Machine.execDominantWake x ns s
  | .wakeFrame x ide id dlc data => Sys2Proof.Machine.execWakeFrame x ide id dlc data s
  | .fecntWake x => Sys2Proof.Machine.execFecntWake x s
  | .registerFrame cmd crcC wdata crcW edges lead => Sys2Proof.Machine.execRegisterFrame cmd crcC wdata crcW edges lead s
  | .streamFrame crc edges lead => Sys2Proof.Machine.execStreamFrame crc edges lead s
  | .lowHalfRead req k => Sys2Proof.Machine.execLowHalfRead req k s
  | .highHalfRead req k => Sys2Proof.Machine.execHighHalfRead req k s
  | .absentAccess req addr wr => Sys2Proof.Machine.execAbsentAccess req addr wr s
  | .ethPoll r1 r4 r5 r9 r10 => Sys2Proof.Machine.execEthPoll r1 r4 r5 r9 r10 s
  | .mdioAccess req ph => Sys2Proof.Machine.execMdioAccess req ph s
  | .ethTransmit => Sys2Proof.Machine.execEthTransmit s
  | .ethReceive bytes fcsOk ticks => Sys2Proof.Machine.execEthReceive bytes fcsOk ticks s
  | .inputPacket vhold => Sys2Proof.Machine.execInputPacket vhold s
  | .recTrig req mask => Sys2Proof.Machine.execRecTrig req mask s
  | .unitTimer vhold => Sys2Proof.Machine.execUnitTimer vhold s
  | .deferRecheck vhold => Sys2Proof.Machine.execDeferRecheck vhold s
  | .dataPagesDone vhold => Sys2Proof.Machine.execDataPagesDone vhold s
  | .unitCommitted vhold => Sys2Proof.Machine.execUnitCommitted vhold s
  | .programFail l second => Sys2Proof.Machine.execProgramFail l second s
  | .eraseFail l block => Sys2Proof.Machine.execEraseFail l block s
  | .nandScrub reads => Sys2Proof.Machine.execNandScrub reads s
  | .nandFormat req ph => Sys2Proof.Machine.execNandFormat req ph s
  | .recResume req => Sys2Proof.Machine.execRecResume req s
  | .shardRead req => Sys2Proof.Machine.execShardRead req s
  | .readoutPush reads => Sys2Proof.Machine.execReadoutPush reads s
  | .holdwinExpiry => Sys2Proof.Machine.execHoldwinExpiry s
  | .isleepRequest req mask => Sys2Proof.Machine.execIsleepRequest req mask s
  | .ethWake => Sys2Proof.Machine.execEthWake s
  | .pwrEnter req => Sys2Proof.Machine.execPwrEnter req s
  | .pwrExit req => Sys2Proof.Machine.execPwrExit req s
  | .pwrAgree => Sys2Proof.Machine.execPwrAgree s
  | .pwrRefuse => Sys2Proof.Machine.execPwrRefuse s
  | .handshakeTimeout => Sys2Proof.Machine.execHandshakeTimeout s
  | .wakeEvent first later => Sys2Proof.Machine.execWakeEvent first later s
  | .lbistStart req => Sys2Proof.Machine.execLbistStart req s
  | .lbistStop req => Sys2Proof.Machine.execLbistStop req s
  | .runConditionBroken khz mv => Sys2Proof.Machine.execRunConditionBroken khz mv s
  | .lbistRunEnd => Sys2Proof.Machine.execLbistRunEnd s
  | .supplyWindow rail mv => Sys2Proof.Machine.execSupplyWindow rail mv s
  | .supplyReset rail mv torn => Sys2Proof.Machine.execSupplyReset rail mv torn s
  | .clockFault check stopped w1 w2 => Sys2Proof.Machine.execClockFault check stopped w1 w2 s
  | .registerWrite req addr v => Sys2Proof.Machine.execRegisterWrite req addr v s
  | .tripInputInactive v b rail uv => Sys2Proof.Machine.execTripInputInactive v b rail uv s
  | .internalResetRelease => Sys2Proof.Machine.execInternalResetRelease s
  | .mountComplete bad tabs reads => Sys2Proof.Machine.execMountComplete bad tabs reads s
  | .sgmiiControlWord up speed hdx => Sys2Proof.Machine.execSgmiiControlWord up speed hdx s
  | .norPageProgramDone ok => Sys2Proof.Machine.execNorPageProgramDone ok s

end Sys2Proof.Machine
end

