-- ==== Sys2Proof/Machine/Tick.lean ====
section
/-! DEFINITION. What happens in one CORECLK cycle in which no command arrives (assumption 1): the Wheel issues its bundle, what was issued earlier takes place, the converters, exciters, timebases and the TSC advance. -/

namespace Sys2Proof.Machine

open Sys2Proof

/-! ## Effects in flight that take place (R52, R68, R73–R76, assumption 4) -/

/-- One effect takes place. -/
def State.takeEffect (s : State) : Effect → State
  | .setG r v fl => (s.setG r v).setNumstat fl
  | .setP p b => s.setP p b
  | .setAr k v => { s with wheel := { s.wheel with ar := Sparse.set 0 s.wheel.ar k v } }
  | .setCp j v => { s with wheel := { s.wheel with cp := Sparse.set 0 s.wheel.cp j v } }
  | .storeD k off v => { s with mem := { s.mem with
      dmem := Sparse.set 0#32 s.mem.dmem (8192 * k + off) v, derr := Sparse.set 0 s.mem.derr (8192 * k + off) 0 } }
  | .shadow n isB v => s.shadowTake n isB v
  | .force n v => s.forceTake n v
  | .comm m => s.commTake m
  | .rampTgt u v => s.rampTgtTake u v
  | .loopCmd l c => s.loopCmdTake l c
  | .loopMeas l v => s.loopMeasTake l v
  | .rcuRead ch r t => s.rcuReadTake ch r t
  | .rcuLearn ch e => s.rcuLearnTake ch e
  | .rcuWrite ch b v => s.rcuStore ch b v
  | .qpush q lo hi e => s.wheelPush q lo hi e
  | .packetsEnd => s.wheelPacketsEnd
  | .xwWrite w off v => s.xwWheelWrite w off v
  | .xpoison => (s.raise R.WHEEL_XSTAT_XPOISON).bumpSat R.WHEEL_XPOISONCNT_COUNT
  | .heartbeat sum t => ((s.put R.SAGGAR_HBSUM_SUM sum.toNat).put R.SAGGAR_HBTURN_TURN t).raise R.SAGGAR_HBTURN_VALID
  | .eccNote m a => s.eccNoted m a
  | .halt _ => s

/-- An effect that takes place as its cycle begins, not at its end: what X operations of the cycle before commanded (R68). -/
def Effect.early : Effect → Bool
  | .comm _ => true
  | .rampTgt _ _ => true
  | .loopCmd _ _ => true
  | .loopMeas _ _ => true
  | .rcuRead _ _ _ => true
  | .rcuLearn _ _ => true
  | _ => false

/-- The effects of a kind that are due by this cycle take place, in the order they were issued. -/
def State.take (s : State) (p : Effect → Bool) : State :=
  let due := s.wheel.inflight.filter fun e => decide (e.1 ≤ s.cycle) && p e.2
  let s := { s with wheel := { s.wheel with inflight := s.wheel.inflight.filter fun e => !(decide (e.1 ≤ s.cycle) && p e.2) } }
  due.foldl (fun s e => s.takeEffect e.2) s

/-- Everything due by this cycle takes place, in the order it was issued. -/
def State.retire (s : State) : State := s.take fun _ => true

/-- The cause of a halt due by this cycle (R67, R74, R77). -/
def State.haltDue (s : State) : Option Nat :=
  (s.wheel.inflight.filterMap fun e => match e.2 with
    | .halt c => if e.1 ≤ s.cycle then some c else none
    | _ => none).head?

/-! ## Issue (R47, R59, R60, R67, R90) -/

/-- A syllable of the bundle at pc through the code of its 64-bit word: none where the code reports a double-bit error (R67). -/
def State.fetchSyl (s : State) (k : Nat) : Option (Word × Bool) × State :=
  s.eccRead (Sparse.get 0#32 s.mem.imem (8 * s.wheel.pc + k)) (Sparse.get 0 s.mem.ierr (4 * s.wheel.pc + k / 2))

/-- The eight syllables of the bundle at pc, with the corrections counted once a 64-bit word; none where one reports a double-bit error. -/
def State.fetchBundle (s : State) : List Nat → Option (List Word) × State
  | [] => (some [], s)
  | k :: t =>
    match s.fetchSyl k with
    | (none, s) => (none, s)
    | (some (w, c), s) =>
      let s := if c && decide (k % 2 = 0) then s.takeEffect (.eccNote 1 s.wheel.pc) else s
      match s.fetchBundle t with
      | (none, s) => (none, s)
      | (some l, s) => (some (w :: l), s)

/-- One syllable issues in its slot; an encoding the spec leaves undefined has no effect, and never passes the load (R99, R508–R511). -/
def State.issueSyl (s : State) (slot : Nat) (w : Word) : State :=
  match decodeSyl slot w.toNat with
  | some i => s.doing (exec i)
  | none => s

/-- The next bundle address and the loops still in progress (R59). -/
def nextPc (pc : Nat) : List HwLoop → Nat × List HwLoop
  | [] => (pc + 1, [])
  | l :: t =>
    if pc = l.last then (if 1 < l.left then (l.first, { l with left := l.left - 1 } :: t) else nextPc pc t)
    else (pc + 1, l :: t)

/-- The pc moves on: past a skipped body, round a loop, to the next slow section, or back to SP (R59, R60, R90). -/
def State.advancePc (s : State) : State :=
  let r := match s.wheel.jump with
    | some j => (j, s.wheel.loops)
    | none => nextPc s.wheel.pc s.wheel.loops
  let w := { s.wheel with pc := r.1, loops := r.2, jump := none }
  match s.wheel.inSlow with
  | none => { s with wheel := w }
  | some j =>
    let sec := (s.contract.slow[j]?).getD {}
    if r.1 = sec.base + sec.bundles then
      match w.slowTodo with
      | k :: t => { s with wheel := { w with inSlow := some k, slowTodo := t, pc := ((s.contract.slow[k]?).getD {}).base } }
      | [] => { s with wheel := { w with inSlow := none, pc := s.contract.spAddr } }
    else { s with wheel := w }

/-- The bundle of this cycle is fetched, none in idle time; one that reports a double-bit error halts the Wheel before anything it commanded takes place (R67, R77). -/
def State.fetch (s : State) : List Word × State :=
  if !s.wheel.turning then ([], s)
  else
    match s.enterSlow.fetchBundle [0, 1, 2, 3, 4, 5, 6, 7] with
    | (none, s) => ([], s.enterHold 0x01)
    | (some l, s) => (l, s)

/-- Every slot of the bundle issues, then the pc moves on unless TEND has ended the turn. -/
def State.issueBundle (s : State) (l : List Word) : State :=
  if l = [] then s
  else
    let s := l.zipIdx.foldl (fun s e => s.issueSyl e.2 e.1) s
    if s.wheel.turning then s.advancePc else s

/-! ## The exciters and the clocks (R19, R31, R33, R141, R142) -/

/-- One PERCLK cycle of exciter x: its phase, and in RUN the time since its last estimate. -/
def State.excTick (s : State) (x : Nat) : State :=
  let per := s.get (R.POS_RXCFG_PER x)
  let e := s.exc x
  if !s.posRuns || decide (per = 0) then s
  else
    let n := if s.dev = .run then e.since + 1 else e.since
    s.setExc x { e with
      phase := if e.restart then 0 else if e.phase + 1 < per then e.phase + 1 else 0, restart := false, since := n }

/-- The cycle ends: CORECLK counts, TSCLK every sixth cycle while the PLL is locked and the clocks are not gated. -/
def State.clockTick (s : State) : State :=
  let t := if s.pll && s.clkUp 7 && decide (s.dev ≠ .banked) && decide ((s.cycle + 1) % 6 = 0) then (s.tsc + 1) % 2 ^ 64 else s.tsc
  { s with cycle := s.cycle + 1, tsc := t }

/-- What halts the Wheel or ends RUN as the cycle begins: a memory error due, a missing turn, a stop that has run out of time (R41, R67, R77, R107). -/
def State.haltTick (s : State) : State :=
  let s := match s.haltDue with
    | some c => s.enterHold c
    | none => s
  s.missTick.stopTick

/-- The Wheel's cycle: what halts it first, the turn, the fetch, what the cycle before commanded, the sensors' timers, the issue, and what retires (R68, R77, R81, R82, R137). -/
def State.wheelTick (s : State) : State :=
  let f := s.haltTick.turnEvents.fetch
  let s := f.2.take Effect.early
  let s := if s.cycle % 4 = 0 then s.perEdge else s
  ((s.issueBundle f.1).retire).fbScan

/-- What the start of a CORECLK cycle brings by itself: a RUN entry, timebase events, group triggers, converter slots and results, ΣΔ edges (assumption 3). -/
def State.cycleStart (s : State) : State :=
  (((s.runTick.bistStart.landTick.tbEvents.each (List.range 8) State.groupTake).adcSlots).adcDeliver).sdTick

/-- What ends by itself outside the planes: the safety status slots, the PHY polls, the links' exchanges, burns and checks, the Cone's timers, a wake or the handshake, the Wedge's phases; the safe outputs follow their demand. -/
def State.slowTick (s : State) : State := s.dprTick.canTick.ethTick.shardTick.islTick.secTick.bistTick.coneTick.wakeTick.pwrTick.wedgeTick.soEnter

/-- One CORECLK cycle without a command; in OFF only time passes, in BANKED the safe outputs follow their demand besides, and a source that has fired wakes it. -/
def State.tick (s : State) : State :=
  if s.dev = .off then s.clockTick
  else if s.dev = .banked then s.preselTick.clockTick.soEnter.wakeTick
  else
    let s := s.wheelTick.pwmTick
    let s := if s.cycle % 4 = 3 then s.each [0, 1] State.excTick else s
    s.preselTick.levelTick.clockTick.clearTick.cycleStart.slowTick

end Sys2Proof.Machine
end

