-- ==== Sys2Proof/WellFormed.lean ====
section
/-! DEFINITION. Which commands are well formed: the operand values that the spec admits and the types of the operands do not already show. -/

namespace Sys2Proof

/-- A page read names a block by 16 bits and a page by 12, and at most 16 codewords with at most 40 corrected bits each (R407, R409, R429). -/
def PageRead.ok (r : PageRead) : Bool :=
  decide (r.block < 65536) && decide (r.page < 4096) && decide (r.tries ≠ []) && decide (r.tries.length ≤ 16) &&
  r.tries.all fun e => decide (e.length ≤ 16) && e.all fun n => decide (n ≤ 8752)

/-- The operands of a command are ones the spec admits: an even D (R55), distinct destinations (R53) and pointers (R64) of the dual forms, a leg generator for FORCE (R211), a nonzero inverter mask (R511), a nonzero loop length (R60), one tap sum per converter (R126), at most the bits of one ΣΔ output (R132), at most the pulses of one SENT frame (R153), page reads within the NAND's geometry (R409), payloads within their frame formats (R374, R388), word addresses (R9). -/
def Instr.wf (i : Instr) : Bool :=
  match i with
  | .nop => true
  | .fadd _ _ _ _ => true
  | .fsub _ _ _ _ => true
  | .fmul _ _ _ _ => true
  | .fma _ _ _ _ => true
  | .fms _ _ _ _ => true
  | .fnms _ _ _ _ => true
  | .fmin _ _ _ _ => true
  | .fmax _ _ _ _ => true
  | .fabs _ _ _ => true
  | .fneg _ _ _ => true
  | .add _ _ _ _ => true
  | .sub _ _ _ _ => true
  | .mul _ _ _ _ => true
  | .and _ _ _ _ => true
  | .or _ _ _ _ => true
  | .xor _ _ _ _ => true
  | .shl _ _ _ _ => true
  | .shr _ _ _ _ => true
  | .sra _ _ _ _ => true
  | .shli _ _ _ _ => true
  | .shri _ _ _ _ => true
  | .srai _ _ _ _ => true
  | .min _ _ _ _ => true
  | .max _ _ _ _ => true
  | .qadd _ _ _ _ => true
  | .qsub _ _ _ _ => true
  | .qmul _ _ _ _ => true
  | .qshl _ _ _ _ => true
  | .fcvtS32 _ _ _ => true
  | .fcvtU32 _ _ _ => true
  | .icvtS32 _ _ _ => true
  | .icvtU32 _ _ _ => true
  | .fcmpEq _ _ _ _ => true
  | .fcmpNe _ _ _ _ => true
  | .fcmpLt _ _ _ _ => true
  | .fcmpLe _ _ _ _ => true
  | .fcmpGt _ _ _ _ => true
  | .fcmpGe _ _ _ _ => true
  | .icmpEq _ _ _ _ => true
  | .icmpNe _ _ _ _ => true
  | .icmpLt _ _ _ _ => true
  | .icmpLe _ _ _ _ => true
  | .icmpGt _ _ _ _ => true
  | .icmpGe _ _ _ _ => true
  | .icmpLtu _ _ _ _ => true
  | .icmpLeu _ _ _ _ => true
  | .icmpGtu _ _ _ _ => true
  | .icmpGeu _ _ _ _ => true
  | .pand _ _ _ _ => true
  | .por _ _ _ _ => true
  | .pxor _ _ _ _ => true
  | .pnot _ _ _ => true
  | .mov _ _ _ => true
  | .movi _ _ _ => true
  | .sin _ _ _ => true
  | .cos _ _ _ => true
  | .sincos _ d _ => decide (d.val % 2 = 0)
  | .atan2 _ _ _ _ => true
  | .sqrt _ _ _ => true
  | .rcp _ _ _ => true
  | .rsqrt _ _ _ => true
  | .ld _ _ _ _ => true
  | .st _ _ _ _ => true
  | .ldc _ _ _ _ => true
  | .setar _ _ _ => true
  | .setcp _ _ _ => true
  | .ldcLd _ g g2 _ _ _ _ => decide (g ≠ g2)
  | .ldcSt _ _ _ _ _ _ _ => true
  | .ld2 _ g g2 j k _ _ => decide (g ≠ g2) && decide (j ≠ k)
  | .st2 _ _ _ j k _ _ => decide (j ≠ k)
  | .ldst _ _ _ j k _ _ => decide (j ≠ k)
  | .adcTrig _ _ => true
  | .adcRd _ _ _ _ => true
  | .sdRd _ _ _ _ => true
  | .posRd _ _ _ _ => true
  | .pwmWr _ _ _ _ => true
  | .pwmWrForce _ gen _ => decide (gen.val < 6)
  | .pwmGrpa _ _ _ _ => true
  | .pwmGrpb _ _ _ _ => true
  | .comm _ mask => decide (mask ≠ 0)
  | .rampTgt _ _ _ => true
  | .rampRd _ _ _ => true
  | .loopCmdClose _ _ => true
  | .loopCmdOpen _ _ => true
  | .loopCmdFbloss _ _ => true
  | .loopMeas _ _ _ => true
  | .loopRd _ _ _ => true
  | .rcuRd _ _ _ _ => true
  | .rcuLrn _ _ _ => true
  | .qPush _ _ _ _ => true
  | .qPushe _ _ _ _ => true
  | .xwRd _ _ _ _ => true
  | .xwRdx _ _ _ _ => true
  | .xwWr _ _ _ _ => true
  | .xwWrx _ _ _ _ => true
  | .tsRd _ _ _ => true
  | .tcRd _ _ => true
  | .hb _ => true
  | .hloop _ _ len => decide (len ≠ 0)
  | .tend => true
  | .turnMatch => true
  | .turnStart => true
  | .tmwinExpiry => true
  | .tswinExpiry => true
  | .runRequest _ _ => true
  | .stopRequest _ _ => true
  | .stopForced => true
  | .debugHalt _ => true
  | .debugStep _ => true
  | .debugResume _ => true
  | .freezeEnWrite _ => true
  | .xwCommit _ _ => true
  | .xwHold _ _ _ => true
  | .xwinBufferWrite _ _ _ _ => true
  | .xwinBufferRead _ _ => true
  | .timebaseGroupTrigger _ => true
  | .adtrigEdge _ _ => true
  | .swtrig _ => true
  | .conversionResult _ _ => true
  | .adcStuckClear _ => true
  | .calStart => true
  | .calDone m10 m90 => decide (m10.length = 16) && decide (m90.length = 16)
  | .vrefselWrite _ => true
  | .sdOutput _ bits => decide (bits.length ≤ 256)
  | .sdSyncEvent _ => true
  | .sdStuck _ => true
  | .sdStuckClear _ => true
  | .noest _ => true
  | .excoc _ => true
  | .encoderCount _ _ _ => true
  | .encoderZ _ => true
  | .speedCapture _ => true
  | .hallEdge _ _ => true
  | .hallTimeout _ => true
  | .sentFrame _ pulses => decide (pulses.length ≤ 10)
  | .sentAgeExpiry _ => true
  | .posFlagClear _ _ => true
  | .feedbackLoss _ => true
  | .fblClear _ => true
  | .cwdataWrite _ => true
  | .rcuClr _ => true
  | .tdataWrite _ _ => true
  | .tdataRead _ => true
  | .zeroEvent _ => true
  | .peakEvent _ => true
  | .timebaseConfigWrite _ _ _ => true
  | .arm _ => true
  | .deadTimeExpiry _ _ _ => true
  | .fstageWrite _ _ => true
  | .commLandEdge _ _ => true
  | .dllLockLoss => true
  | .fltSc _ _ => true
  | .fltDsat _ _ => true
  | .fltUvlo _ _ _ => true
  | .fltOt _ _ => true
  | .softTurnOffEnd _ => true
  | .ttltoExpiry _ => true
  | .islandSupplyReady _ _ _ => true
  | .islandSupplyLoss _ => true
  | .enFall _ => true
  | .enRise _ _ _ => true
  | .edgeChannelEdge _ _ => true
  | .ascdtExpiry _ => true
  | .faultState _ => true
  | .nodeTransition _ _ _ _ => true
  | .propagationDelay _ _ _ => true
  | .supplies _ _ _ => true
  | .dieTemperature _ _ => true
  | .ntcRatio _ _ => true
  | .keepAlive _ _ => true
  | .linkLost _ => true
  | .islandLinkLoss _ => true
  | .retrain => true
  | .islConfigWrite _ _ _ _ => true
  | .tripInput _ _ _ => true
  | .preselWrite _ _ => true
  | .preselStale => true
  | .ssreq _ _ => true
  | .dischReq _ => true
  | .latchClear _ => true
  | .dischargeLatchClear => true
  | .lockstepMismatch => true
  | .monitoringCycle _ => true
  | .fltDischSlow => true
  | .sclrInverter _ => true
  | .sclrDischarge => true
  | .treqWrite _ _ => true
  | .reqstale _ => true
  | .demandChange _ => true
  | .testPulse _ => true
  | .testPulseEnd _ _ _ _ => true
  | .soOc _ => true
  | .soOcClear _ => true
  | .unlock _ => true
  | .relock => true
  | .pset _ => true
  | .rwpWrite _ addr _ => decide (addr.toNat % 4 = 0)
  | .changeLogReoffer => true
  | .nrstAssert _ => true
  | .nrstRelease _ => true
  | .suppliesValid _ _ _ _ _ => true
  | .updateBegin _ => true
  | .eraseDone _ => true
  | .udataWrite _ _ => true
  | .updateVerify _ => true
  | .updateVerifyDone _ => true
  | .commitUpdate _ => true
  | .commitDone _ => true
  | .updateAbort _ => true
  | .lccmd _ _ => true
  | .keycmd _ _ => true
  | .attestationRequest _ => true
  | .reportReady => true
  | .reportTimeout => true
  | .chreq _ => true
  | .respdataWrite _ _ => true
  | .submit _ => true
  | .debugRelock _ => true
  | .challengeExpiry => true
  | .rngRead _ => true
  | .rngHealthFail => true
  | .pushhi _ _ _ => true
  | .pushhie _ _ _ => true
  | .pktempty _ _ => true
  | .poplo _ _ => true
  | .dprst _ _ => true
  | .swrst _ _ => true
  | .transmitPacket _ => true
  | .canAttempt _ _ => true
  | .canCancel _ _ _ => true
  | .canCancelAll _ _ => true
  | .canRecover _ _ => true
  | .recoveryComplete _ => true
  | .integration _ => true
  | .receiveFrame _ _ _ data _ _ => decide (data.length ≤ 2048)
  | .safetyStatusFrame _ => true
  | .canSleep _ _ => true
  | .canWake _ _ => true
  | .dominantWake _ _ => true
  | .wakeFrame _ _ _ _ data => decide (data.length ≤ 8)
  | .fecntWake _ => true
  | .registerFrame _ _ _ _ _ _ => true
  | .streamFrame _ _ _ => true
  | .lowHalfRead _ _ => true
  | .highHalfRead _ _ => true
  | .absentAccess _ addr _ => decide (addr.toNat % 4 = 0)
  | .ethPoll _ _ _ _ _ => true
  | .mdioAccess _ _ => true
  | .ethTransmit => true
  | .ethReceive _ _ _ => true
  | .inputPacket _ => true
  | .recTrig _ _ => true
  | .unitTimer _ => true
  | .deferRecheck _ => true
  | .dataPagesDone _ => true
  | .unitCommitted _ => true
  | .programFail _ _ => true
  | .eraseFail _ b => decide (b < 65536)
  | .nandScrub reads => reads.all PageRead.ok
  | .nandFormat _ _ => true
  | .recResume _ => true
  | .shardRead _ => true
  | .readoutPush reads => reads.all PageRead.ok
  | .holdwinExpiry => true
  | .isleepRequest _ _ => true
  | .ethWake => true
  | .pwrEnter _ => true
  | .pwrExit _ => true
  | .pwrAgree => true
  | .pwrRefuse => true
  | .handshakeTimeout => true
  | .wakeEvent _ _ => true
  | .lbistStart _ => true
  | .lbistStop _ => true
  | .runConditionBroken _ _ => true
  | .lbistRunEnd => true
  | .supplyWindow _ _ => true
  | .supplyReset _ _ _ => true
  | .clockFault _ _ _ _ => true
  | .registerWrite _ addr _ => decide (addr.toNat % 4 = 0)
  | .tripInputInactive _ _ _ _ => true
  | .internalResetRelease => true
  | .mountComplete _ _ reads => reads.all PageRead.ok
  | .sgmiiControlWord _ _ _ => true
  | .norPageProgramDone _ => true

end Sys2Proof
end

