-- ==== Sys2Proof/Safety.lean ====
section
/-! DEFINITION. What claims about the device are stated in: when a Wheel operation issues, what it puts in flight, the canonical form of the memories, one-time-programmable bits that are only ever burned, gate outputs that are off, and modes that exclude one another. -/

namespace Sys2Proof.Machine

open Sys2Proof

/-- An operation with this guard issues: the Wheel turns and the guard is true (R48, R50). -/
def State.Issues (s : State) (gd : Guard) : Prop := s.wheel.turning = true ∧ s.p gd.psel.val ≠ gd.pinv

/-- The state with effects added to those in flight, each with the cycle at whose end it takes place, and nothing else changed. -/
def State.inFlight (s : State) (l : List (Nat × Effect)) : State :=
  { s with wheel := { s.wheel with inflight := s.wheel.inflight ++ l } }

/-- The answer of an operation of latency `lat` whose only effect is a result into general register `d` (R52). -/
def State.givesG (s : State) (lat : Nat) (d : Fin 128) (r : Fp32.Res) : Out :=
  .next (s.inFlight [(s.cycle + lat - 1, .setG d.val r.v r.fl)])

/-- As `givesG` for an integer or copied result, which sets no flag. -/
def State.givesWord (s : State) (lat : Nat) (d : Fin 128) (v : Word) : Out :=
  .next (s.inFlight [(s.cycle + lat - 1, .setG d.val v 0)])

/-- As `givesG` for a result into a predicate. -/
def State.givesP (s : State) (lat : Nat) (pd : Fin 8) (b : Bool) : Out :=
  .next (s.inFlight [(s.cycle + lat - 1, .setP pd.val b)])

/-- No word of data and coefficient memory has more than the two flipped bits the code is made for (R67). -/
def State.FewFlips (s : State) : Prop := ∀ a, Sparse.get 0 s.mem.derr a < 3 ∧ Sparse.get 0 s.mem.cerr a < 3

/-- Word `off` of data-memory bank k, and word `a` of coefficient memory (R63, R66). -/
def State.dataWord (s : State) (k off : Nat) : Word := Sparse.get 0#32 s.mem.dmem (8192 * k + off)
def State.coefWord (s : State) (a : Nat) : Word := Sparse.get 0#32 s.mem.cmem a

/-- The pointer changes an access through ARk, through CPj makes: none for an increment of 0, otherwise the new value, used from the next cycle (R63, R64). -/
def State.arStep (s : State) (k : Fin 16) (inc : Fin 4) : List (Nat × Effect) :=
  if inc = 0 then [] else [(s.cycle, .setAr k.val (s.arNext k.val inc))]
def State.cpStep (s : State) (j inc : Fin 4) : List (Nat × Effect) :=
  if inc = 0 then [] else [(s.cycle, .setCp j.val (((s.cp j.val : Nat) + incStep inc) % 16384).toNat)]

/-- What a load of a word with `errs` flipped bits, at most two, puts in flight (R55, R67): the word, with one corrected bit counted under its memory and address; a halt for two. -/
def State.loadWord (s : State) (g : Fin 128) (v : Word) (errs mem addr cause : Nat) : List (Nat × Effect) :=
  match errs with
  | 0 => [(s.cycle + 2, .setG g.val v 0)]
  | 1 => [(s.cycle + 2, .setG g.val v 0), (s.cycle + 2, .eccNote mem addr)]
  | _ => [(s.cycle + 2, .halt cause)]

/-- A data load, a data store and a coefficient load as effects in flight (R55, R65, R67). -/
def State.loadD (s : State) (g : Fin 128) (k : Fin 16) (inc : Fin 4) : List (Nat × Effect) :=
  let a := 8192 * k.val + s.arOff k.val
  s.loadWord g (Sparse.get 0#32 s.mem.dmem a) (Sparse.get 0 s.mem.derr a) 2 a 0x02 ++ s.arStep k inc
def State.storeD (s : State) (g : Fin 128) (k : Fin 16) (inc : Fin 4) : List (Nat × Effect) :=
  (s.cycle, .storeD k.val (s.arOff k.val) (s.g g.val)) :: s.arStep k inc
def State.loadC (s : State) (g : Fin 128) (j inc : Fin 4) : List (Nat × Effect) :=
  let a := s.cp j.val
  s.loadWord g (Sparse.get 0#32 s.mem.cmem a) (Sparse.get 0 s.mem.cerr a) 3 a 0x03 ++ s.cpStep j inc

/-- A value of latency 3 with its validity into pv, p0 taking none (R68, R511). -/
def State.pairIn (s : State) (g : Fin 128) (pv : Fin 8) (v : Word) (ok : Bool) : List (Nat × Effect) :=
  (s.cycle + 2, .setG g.val v 0) :: (if pv = 0 then [] else [(s.cycle + 2, .setP pv.val ok)])

/-- The real number that a finite word holds, a subnormal pattern reading as zero (R56). -/
def Fp32.value (w : Word) : ℚ :=
  let e : Int := w.toNat / 0x800000 % 256
  if e = 0 then 0
  else (if 0x80000000 ≤ w.toNat then -1 else 1) * ((w.toNat % 0x800000 + 0x800000 : Nat) : ℚ) * (2 : ℚ) ^ (e - 150)

/-- Every addressed memory is in canonical form: keys strictly rising, no entry that equals what an unlisted address reads as. -/
def State.memWf (s : State) : Bool :=
  Sparse.wf 0#32 s.mem.imem && Sparse.wf 0 s.mem.ierr && Sparse.wf 0#32 s.mem.dmem && Sparse.wf 0 s.mem.derr &&
  Sparse.wf 0#32 s.mem.cmem && Sparse.wf 0 s.mem.cerr && Sparse.wf 0#32 s.xwin.buf && Sparse.wf false s.xwin.bad

/-- Every bit of `a` is set in `b`. -/
def burnedInto (a b : Nat) : Prop := ∀ i, a.testBit i = true → b.testBit i = true

/-- A key slot whose bits are only ever burned. -/
def KeySlot.burnedTo (k l : KeySlot) : Prop :=
  burnedInto k.hash l.hash ∧ burnedInto k.prog l.prog ∧ (k.revoked = true → l.revoked = true)

/-- One-time-programmable memory `p` with no bit of `o` lost (R331). -/
def Otp.burnedTo (o p : Otp) : Prop :=
  burnedInto o.wMan p.wMan ∧ burnedInto o.wDev p.wDev ∧ burnedInto o.wPro p.wPro ∧ burnedInto o.wRma p.wRma ∧
  burnedInto o.wScr p.wScr ∧ o.key0.burnedTo p.key0 ∧ o.key1.burnedTo p.key1 ∧ o.key2.burnedTo p.key2 ∧
  burnedInto o.imgKey p.imgKey ∧ burnedInto o.seed p.seed ∧ burnedInto o.seedOk p.seedOk ∧ o.rollback ≤ p.rollback

/-- Every island's gate output is off. -/
def State.AllGatesOff (s : State) : Prop := ∀ i : Fin 12, (s.island i.val).out = false

/-- A row of R239 under which an island may be on: SAFE_ON, a link-loss ASC_LOW, the edge channel. -/
def Isl.mayConduct (x : Isl) (high : Bool) : Bool :=
  decide (x.row high = 5) || decide (x.row high = 6) || decide (x.row high = 8)

/-- No island is on, or waits to turn on, under a row of R239 that keeps it off. -/
def State.IslandsSettled (s : State) : Prop :=
  ∀ i : Nat, ((s.island i).out = true → (s.island i).mayConduct (isHigh i) = true) ∧
    ((s.island i).ascWait = true → (s.island i).row (isHigh i) = 5 ∨ (s.island i).row (isHigh i) = 6)

/-- A BANKED entry, an accepted run request, a START of a self-test and a self-test in progress exclude one another, an entry and a run request belong to READY, no self-test runs in RUN, and an accepted run request is the cause of its FABCLK cycle (R38, R39, R433, R436, R452). -/
def State.ModesExclusive (s : State) : Prop :=
  (s.entering = true → s.dev = .ready ∧ s.scanning = false ∧ s.runDue = false ∧ s.bist.startDue = false) ∧
  (s.runDue = true → s.dev = .ready ∧ s.scanning = false ∧ s.bist.startDue = false ∧ s.cause = some (s.fab, 3)) ∧
  (s.scanning = true → s.dev ≠ .run)

/-- The states a step may leave a device in (R35, R36): its own, or one that the table leads to. -/
def DevState.successors : DevState → List DevState
  | .off => [.off, .wedging]
  | .wedging => [.wedging, .noimage, .ready, .off]
  | .noimage => [.noimage, .off]
  | .ready => [.ready, .run, .safeHold, .banked, .off]
  | .run => [.run, .ready, .safeHold, .off]
  | .safeHold => [.safeHold, .off]
  | .banked => [.banked, .ready, .off]

end Sys2Proof.Machine
end

