-- ==== Sys2Proof/Certificates/Slice0/Obligations.lean ====
section
/-! DEFINITION. The statements for the provers. Each docstring names the rules of the spec a statement formalises, or says which choice of the model (an entry of the assumption log) it rests on. -/

open Sys2Proof Sys2Proof.Machine

/-! ## The block: its queue, its reset state, its idle cycle -/

/-- A step takes the command at the front of the queue and runs it on the state that holds the queue's rest; the queue is the model's own. With no command waiting a step is one CORECLK cycle (assumption 1); in OFF such a cycle moves nothing but the cycle count; in BANKED the TSC stands, being gated, and so do the Wheel, the memories, the queues and, once the preselection is stale, the loops, the generators and the islands (R33, R259). -/
def Obligations.StepRunsFrontCommand : Prop :=
  (∀ (s : State) (c : Instr) (rest : List Instr), s.pending = c :: rest →
     step s = exec c { s with pending := rest }) ∧
  (∀ s : State, s.pending = [] →
     step s = .next s.tick ∧
     (s.dev = .banked → ∃ t, step s = .next t ∧ t.dev = .banked ∧ t.cycle = s.cycle + 1 ∧ t.tsc = s.tsc ∧ t.wheel = s.wheel ∧
       t.mem = s.mem ∧ t.xwin = s.xwin ∧ t.queues = s.queues ∧ t.can = s.can ∧ t.otp = s.otp ∧ t.nor = s.nor ∧
       (s.on R.SAGGAR_STAT_PRESTALE = true → t.loops = s.loops ∧ t.pwm = s.pwm ∧ t.isl = s.isl)) ∧
     (s.dev = .off → s.pll = false → step s = .next { s with cycle := s.cycle + 1 }))

/-- After power-on the device is in OFF, every register field reads its reset value, and no memory, queue or FIFO holds anything (R12, R34, R466). That internal state without a reset value of its own is empty is the model's choice (assumption 2). -/
def Obligations.ResetState : Prop :=
  State.reset.pending = [] ∧ State.reset.dev = .off ∧ State.reset.cycle = 0 ∧ State.reset.tsc = 0 ∧
  (∀ f : Fld, State.reset.get f = f.rst) ∧
  (∀ r, State.reset.g r = 0#32) ∧ (∀ k o, State.reset.dataWord k o = 0#32) ∧ (∀ a, State.reset.coefWord a = 0#32) ∧
  (∀ q, State.reset.queue q = {}) ∧ (∀ x, State.reset.canx x = {}) ∧ (∀ l, State.reset.loopState l = 0) ∧
  State.reset.AllGatesOff ∧ State.reset.memWf = true ∧ State.reset.IslandsSettled ∧ State.reset.ModesExclusive

/-! ## Syllables (R47, R48, R508–R511) -/

/-- Every operation of a slot survives its syllable: what the encoding tables give for a well-formed operation decodes to it in that slot, with every operand, and is a 32-bit word (R47, R48, R508–R511). -/
def Obligations.SyllableRoundTrip : Prop :=
  ∀ (slot : Nat) (i : Instr) (w : Nat), slot < 8 → i.wf = true → encodeSyl slot i = some w →
    w < 2 ^ 32 ∧ decodeSyl slot w = some i

/-! ## Wheel: F and T slots -/

/-- An operation whose guard is false has no effect: no result, no memory access, no X-slot effect (R50). -/
def Obligations.FalseGuardHasNoEffect : Prop :=
  ∀ (s : State) (gd : Guard) (d a b e : Fin 128) (pd pa pb pv : Fin 8) (amt : Fin 32) (imm : BitVec 15) (k k2 : Fin 16)
    (j inc inc2 mask : Fin 4) (off : Fin 1024) (ch6 : Fin 6) (src : Fin 20) (q : Fin 32) (bt : Bool),
    (s.p gd.psel.val = gd.pinv) →
    (∀ i ∈ [Instr.fadd gd d a b, .fsub gd d a b, .fmul gd d a b, .fma gd d a b, .fms gd d a b, .fnms gd d a b,
        .fmin gd d a b, .fmax gd d a b, .fabs gd d a, .fneg gd d a, .add gd d a b, .sub gd d a b, .mul gd d a b,
        .and gd d a b, .or gd d a b, .xor gd d a b, .shl gd d a b, .shr gd d a b, .sra gd d a b, .shli gd d a amt,
        .shri gd d a amt, .srai gd d a amt, .min gd d a b, .max gd d a b, .qadd gd d a b, .qsub gd d a b, .qmul gd d a b,
        .qshl gd d a b, .fcvtS32 gd d a, .fcvtU32 gd d a, .icvtS32 gd d a, .icvtU32 gd d a, .fcmpEq gd pd a b,
        .fcmpNe gd pd a b, .fcmpLt gd pd a b, .fcmpLe gd pd a b, .fcmpGt gd pd a b, .fcmpGe gd pd a b, .icmpEq gd pd a b,
        .icmpNe gd pd a b, .icmpLt gd pd a b, .icmpLe gd pd a b, .icmpGt gd pd a b, .icmpGe gd pd a b, .icmpLtu gd pd a b,
        .icmpLeu gd pd a b, .icmpGtu gd pd a b, .icmpGeu gd pd a b, .pand gd pd pa pb, .por gd pd pa pb, .pxor gd pd pa pb,
        .pnot gd pd pa, .mov gd d a, .movi gd d imm, .sin gd d a, .cos gd d a, .sincos gd d a, .atan2 gd d a b, .sqrt gd d a,
        .rcp gd d a, .rsqrt gd d a, .ld gd d k inc, .st gd d k inc, .ldc gd d j inc, .setar gd k d, .setcp gd j d,
        .ldcLd gd d a j inc k inc2, .ldcSt gd d a j inc k inc2, .ld2 gd d a k k2 inc inc2, .st2 gd d a k k2 inc inc2,
        .ldst gd d a k k2 inc inc2, .adcTrig gd pa, .adcRd gd d k pv, .sdRd gd d ch6 pv, .posRd gd d src pv,
        .pwmWr gd pa bt a, .pwmWrForce gd pa a, .pwmGrpa gd a b e, .pwmGrpb gd a b e, .comm gd mask, .rampTgt gd pa a,
        .rampRd gd d pa, .loopCmdClose gd pa, .loopCmdOpen gd pa, .loopCmdFbloss gd pa, .loopMeas gd pa a, .loopRd gd d pa,
        .rcuRd gd d pa a, .rcuLrn gd pa a, .qPush gd q a b, .qPushe gd q a b, .xwRd gd d pa off, .xwRdx gd d pa a,
        .xwWr gd d pa off, .xwWrx gd d pa a, .tsRd gd d bt, .tcRd gd d],
      exec i s = .next s)

/-- The operations of the F slots complete, each with its one effect at the end of cycle c + 3 and no other. The FP32 operations give the result of R508 and R56 with the flags it sets, D of FMA, FMS and FNMS being read at issue (R52, R55); NOP does nothing. The integer, saturating and copying operations give the result of R508; shift amounts are bits [4:0] of B or the immediate, and only the saturating forms set a flag (R56). The compares and the predicate operations write the truth value of R508 into pd; an FP32 compare with a NaN is false but for NE (R56), and p0 reads 1 (R49). -/
def Obligations.FSlotOperationsComplete : Prop :=
  (∀ (s : State) (gd : Guard) (d a b : Fin 128), s.Issues gd →
     exec .nop s = .next s ∧
     exec (.fadd gd d a b) s = s.givesG 4 d (Fp32.add (s.g a) (s.g b)) ∧
     exec (.fsub gd d a b) s = s.givesG 4 d (Fp32.sub (s.g a) (s.g b)) ∧
     exec (.fmul gd d a b) s = s.givesG 4 d (Fp32.mul (s.g a) (s.g b)) ∧
     exec (.fma gd d a b) s = s.givesG 4 d (Fp32.fma (s.g d) (s.g a) (s.g b)) ∧
     exec (.fms gd d a b) s = s.givesG 4 d (Fp32.fms (s.g d) (s.g a) (s.g b)) ∧
     exec (.fnms gd d a b) s = s.givesG 4 d (Fp32.fnms (s.g d) (s.g a) (s.g b)) ∧
     exec (.fmin gd d a b) s = s.givesG 4 d (Fp32.fmin (s.g a) (s.g b)) ∧
     exec (.fmax gd d a b) s = s.givesG 4 d (Fp32.fmax (s.g a) (s.g b)) ∧
     exec (.fabs gd d a) s = s.givesG 4 d (Fp32.abs (s.g a)) ∧
     exec (.fneg gd d a) s = s.givesG 4 d (Fp32.neg (s.g a)) ∧
     exec (.fcvtS32 gd d a) s = s.givesG 4 d (Fp32.cvtS32 (s.g a)) ∧
     exec (.fcvtU32 gd d a) s = s.givesG 4 d (Fp32.cvtU32 (s.g a)) ∧
     exec (.icvtS32 gd d a) s = s.givesG 4 d (Fp32.ofIntRat (s.g a).toInt 1) ∧
     exec (.icvtU32 gd d a) s = s.givesG 4 d (Fp32.ofRat false (s.g a).toNat 1)) ∧
  (∀ (s : State) (gd : Guard) (d a b : Fin 128) (amt : Fin 32) (imm : BitVec 15), s.Issues gd →
     exec (.add gd d a b) s = s.givesWord 4 d (BitVec.ofNat 32 ((s.g a).toNat + (s.g b).toNat)) ∧
     exec (.sub gd d a b) s = s.givesWord 4 d (BitVec.ofInt 32 ((s.g a).toInt - (s.g b).toInt)) ∧
     exec (.mul gd d a b) s = s.givesWord 4 d (BitVec.ofNat 32 ((s.g a).toNat * (s.g b).toNat)) ∧
     exec (.and gd d a b) s = s.givesWord 4 d (s.g a &&& s.g b) ∧
     exec (.or gd d a b) s = s.givesWord 4 d (s.g a ||| s.g b) ∧
     exec (.xor gd d a b) s = s.givesWord 4 d (s.g a ^^^ s.g b) ∧
     exec (.shl gd d a b) s = s.givesWord 4 d (BitVec.ofNat 32 ((s.g a).toNat * 2 ^ ((s.g b).toNat % 32))) ∧
     exec (.shr gd d a b) s = s.givesWord 4 d (BitVec.ofNat 32 ((s.g a).toNat / 2 ^ ((s.g b).toNat % 32))) ∧
     exec (.sra gd d a b) s = s.givesWord 4 d (BitVec.ofInt 32 ((s.g a).toInt / 2 ^ ((s.g b).toNat % 32))) ∧
     exec (.shli gd d a amt) s = s.givesWord 4 d (BitVec.ofNat 32 ((s.g a).toNat * 2 ^ amt.val)) ∧
     exec (.shri gd d a amt) s = s.givesWord 4 d (BitVec.ofNat 32 ((s.g a).toNat / 2 ^ amt.val)) ∧
     exec (.srai gd d a amt) s = s.givesWord 4 d (BitVec.ofInt 32 ((s.g a).toInt / 2 ^ amt.val)) ∧
     exec (.min gd d a b) s = s.givesWord 4 d (BitVec.ofInt 32 (min (s.g a).toInt (s.g b).toInt)) ∧
     exec (.max gd d a b) s = s.givesWord 4 d (BitVec.ofInt 32 (max (s.g a).toInt (s.g b).toInt)) ∧
     exec (.qadd gd d a b) s = s.givesG 4 d (Fp32.satS32 ((s.g a).toInt + (s.g b).toInt)) ∧
     exec (.qsub gd d a b) s = s.givesG 4 d (Fp32.satS32 ((s.g a).toInt - (s.g b).toInt)) ∧
     exec (.qmul gd d a b) s = s.givesG 4 d (Fp32.qmul (s.g a) (s.g b)) ∧
     exec (.qshl gd d a b) s = s.givesG 4 d (Fp32.satS32 ((s.g a).toInt * 2 ^ ((s.g b).toNat % 32))) ∧
     exec (.mov gd d a) s = s.givesWord 4 d (s.g a) ∧
     exec (.movi gd d imm) s = s.givesWord 4 d (BitVec.ofInt 32 imm.toInt)) ∧
  (∀ (s : State) (gd : Guard) (pd pa pb : Fin 8) (a b : Fin 128), s.Issues gd →
     exec (.fcmpEq gd pd a b) s = s.givesP 4 pd (Fp32.eq (s.g a) (s.g b)) ∧
     exec (.fcmpNe gd pd a b) s = s.givesP 4 pd (!Fp32.eq (s.g a) (s.g b)) ∧
     exec (.fcmpLt gd pd a b) s = s.givesP 4 pd (Fp32.lt (s.g a) (s.g b)) ∧
     exec (.fcmpLe gd pd a b) s = s.givesP 4 pd (Fp32.le (s.g a) (s.g b)) ∧
     exec (.fcmpGt gd pd a b) s = s.givesP 4 pd (Fp32.lt (s.g b) (s.g a)) ∧
     exec (.fcmpGe gd pd a b) s = s.givesP 4 pd (Fp32.le (s.g b) (s.g a)) ∧
     (Fp32.isNan (s.g a) = true ∨ Fp32.isNan (s.g b) = true →
       exec (.fcmpLt gd pd a b) s = s.givesP 4 pd false ∧ exec (.fcmpNe gd pd a b) s = s.givesP 4 pd true) ∧
     exec (.icmpEq gd pd a b) s = s.givesP 4 pd (decide ((s.g a).toNat = (s.g b).toNat)) ∧
     exec (.icmpNe gd pd a b) s = s.givesP 4 pd (decide ((s.g a).toNat ≠ (s.g b).toNat)) ∧
     exec (.icmpLt gd pd a b) s = s.givesP 4 pd (decide ((s.g a).toInt < (s.g b).toInt)) ∧
     exec (.icmpLe gd pd a b) s = s.givesP 4 pd (decide ((s.g a).toInt ≤ (s.g b).toInt)) ∧
     exec (.icmpGt gd pd a b) s = s.givesP 4 pd (decide ((s.g b).toInt < (s.g a).toInt)) ∧
     exec (.icmpGe gd pd a b) s = s.givesP 4 pd (decide ((s.g b).toInt ≤ (s.g a).toInt)) ∧
     exec (.icmpLtu gd pd a b) s = s.givesP 4 pd (decide ((s.g a).toNat < (s.g b).toNat)) ∧
     exec (.icmpLeu gd pd a b) s = s.givesP 4 pd (decide ((s.g a).toNat ≤ (s.g b).toNat)) ∧
     exec (.icmpGtu gd pd a b) s = s.givesP 4 pd (decide ((s.g b).toNat < (s.g a).toNat)) ∧
     exec (.icmpGeu gd pd a b) s = s.givesP 4 pd (decide ((s.g b).toNat ≤ (s.g a).toNat)) ∧
     exec (.pand gd pd pa pb) s = s.givesP 4 pd (s.p pa && s.p pb) ∧
     exec (.por gd pd pa pb) s = s.givesP 4 pd (s.p pa || s.p pb) ∧
     exec (.pxor gd pd pa pb) s = s.givesP 4 pd (xor (s.p pa) (s.p pb)) ∧
     exec (.pnot gd pd pa) s = s.givesP 4 pd (!s.p pa) ∧
     s.p 0 = true)

/-- The T-slot operations complete with results at the end of cycle c + 11, SINCOS writing its sine to D and its cosine to D + 1 (R55, R509). The special operands have the results and flags of R56: RCP of a signed zero is the infinity of its sign with DZ, of an infinity the signed zero; SQRT and RSQRT of a negative number are NaN with INV; SQRT of a zero is that zero; RSQRT of +0 is +infinity with DZ; SIN and COS of an infinity are NaN with INV; a NaN gives the canonical NaN without a flag. The other values, within the error of R57, are the model's open results (assumption 6). -/
def Obligations.TranscendentalOperationsComplete : Prop :=
  (∀ (s : State) (gd : Guard) (d a b : Fin 128), s.Issues gd →
    exec (.sin gd d a) s = s.givesG 12 d (Fp32.sin (s.g a)) ∧
    exec (.cos gd d a) s = s.givesG 12 d (Fp32.cos (s.g a)) ∧
    (d.val % 2 = 0 → exec (.sincos gd d a) s =
      .next (s.inFlight [(s.cycle + 11, .setG d.val (Fp32.sin (s.g a)).v (Fp32.sin (s.g a)).fl),
        (s.cycle + 11, .setG (d.val + 1) (Fp32.cos (s.g a)).v (Fp32.cos (s.g a)).fl)])) ∧
    exec (.atan2 gd d a b) s = s.givesG 12 d (Fp32.atan2 (s.g a) (s.g b)) ∧
    exec (.sqrt gd d a) s = s.givesG 12 d (Fp32.sqrt (s.g a)) ∧
    exec (.rcp gd d a) s = s.givesG 12 d (Fp32.rcp (s.g a)) ∧
    exec (.rsqrt gd d a) s = s.givesG 12 d (Fp32.rsqrt (s.g a))) ∧
  Fp32.rcp 0x00000000#32 = ⟨0x7F800000#32, Fp32.dz⟩ ∧ Fp32.rcp 0x80000000#32 = ⟨0xFF800000#32, Fp32.dz⟩ ∧
  Fp32.rcp 0x7F800000#32 = ⟨0x00000000#32, 0⟩ ∧ Fp32.rcp 0xFF800000#32 = ⟨0x80000000#32, 0⟩ ∧
  Fp32.sqrt 0x80000000#32 = ⟨0x80000000#32, 0⟩ ∧ Fp32.rsqrt 0x00000000#32 = ⟨0x7F800000#32, Fp32.dz⟩ ∧
  (∀ a : Word, 0x80800000 ≤ a.toNat → a.toNat ≤ 0xFF800000 →
    Fp32.sqrt a = ⟨0x7FC00000#32, Fp32.inv⟩ ∧ Fp32.rsqrt a = ⟨0x7FC00000#32, Fp32.inv⟩) ∧
  (∀ a : Word, a = 0x7F800000#32 ∨ a = 0xFF800000#32 →
    Fp32.sin a = ⟨0x7FC00000#32, Fp32.inv⟩ ∧ Fp32.cos a = ⟨0x7FC00000#32, Fp32.inv⟩) ∧
  (∀ a : Word, Fp32.isNan a = true →
    Fp32.sin a = ⟨0x7FC00000#32, 0⟩ ∧ Fp32.cos a = ⟨0x7FC00000#32, 0⟩ ∧ Fp32.sqrt a = ⟨0x7FC00000#32, 0⟩ ∧
    Fp32.rcp a = ⟨0x7FC00000#32, 0⟩ ∧ Fp32.rsqrt a = ⟨0x7FC00000#32, 0⟩)

/-- Rounding is to the nearest significand of 24 bits, an exact tie going to the even one (R56, R8). A sum, difference, product or fused form of finite operands, subnormals reading as zeros, is the exact result rounded once: an infinity of its sign with OVF where its magnitude overflows, a zero of its sign with UNF where it would be subnormal after rounding, and otherwise within half a unit in the last place without a flag (R56). 0 × ∞ and ∞ − ∞ give the canonical NaN with INV, the first whatever the accumulator holds; any other NaN operand gives it without a flag; an infinity and a finite operand give the infinity; FMIN and FMAX with one NaN give the other operand; FABS and FNEG change the sign alone. FCVT rounds first, saturates outside its range with CVT, and gives 0 with CVT for a NaN (R56). The saturating results are exact where they fit in 32 bits and otherwise the nearest bound, with SAT exactly then (R56). -/
def Obligations.RoundingAndSaturation : Prop :=
  (∀ n d : Nat, 0 < n → 0 < d →
     let r := Fp32.roundSig n d
     let ulp : ℚ := (2 : ℚ) ^ r.2
     0x800000 ≤ r.1 ∧ r.1 ≤ 0x1000000 ∧
     |(n : ℚ) / d - r.1 * ulp| ≤ ulp / 2 ∧
     (|(n : ℚ) / d - r.1 * ulp| = ulp / 2 → r.1 % 2 = 0)) ∧
  (∀ a b d : Word,
     let m := fun w : Word => w.toNat % 0x80000000
     let neg := fun w : Word => decide (0x80000000 ≤ w.toNat)
     let nan := fun w : Word => decide (0x7F800000 < m w)
     let inf := fun w : Word => decide (m w = 0x7F800000)
     let zer := fun w : Word => decide (m w < 0x800000)
     let infinity := fun s : Bool => if s then 0xFF800000#32 else 0x7F800000#32
     let zero := fun s : Bool => if s then 0x80000000#32 else 0x00000000#32
     let qnan := (0x7FC00000#32 : Word)
     let zi := (zer a && inf b) || (inf a && zer b)
     (zi = true → ∀ r ∈ [Fp32.mul a b, Fp32.fma d a b, Fp32.fms d a b, Fp32.fnms d a b], r = ⟨qnan, Fp32.inv⟩) ∧
     ((nan a || nan b) = true → ∀ r ∈ [Fp32.add a b, Fp32.sub a b, Fp32.mul a b, Fp32.fma d a b, Fp32.fms d a b, Fp32.fnms d a b],
       r = ⟨qnan, 0⟩) ∧
     (zi = false → nan d = true → ∀ r ∈ [Fp32.fma d a b, Fp32.fms d a b, Fp32.fnms d a b], r = ⟨qnan, 0⟩) ∧
     (inf a = true → inf b = true →
       Fp32.add a b = (if neg a = neg b then ⟨a, 0⟩ else ⟨qnan, Fp32.inv⟩) ∧
       Fp32.sub a b = (if neg a = neg b then ⟨qnan, Fp32.inv⟩ else ⟨a, 0⟩)) ∧
     (inf a = true → m b < 0x7F800000 → Fp32.add a b = ⟨a, 0⟩ ∧ Fp32.add b a = ⟨a, 0⟩ ∧ Fp32.sub a b = ⟨a, 0⟩ ∧
       Fp32.sub b a = ⟨infinity (!neg a), 0⟩) ∧
     (inf a = true → nan b = false → zer b = false → Fp32.mul a b = ⟨infinity (neg a != neg b), 0⟩ ∧
       Fp32.mul b a = ⟨infinity (neg a != neg b), 0⟩) ∧
     (m a < 0x7F800000 → m b < 0x7F800000 → m d < 0x7F800000 →
       let x := Fp32.value a
       let y := Fp32.value b
       let z := Fp32.value d
       ∀ p ∈ [(Fp32.add a b, x + y), (Fp32.sub a b, x - y), (Fp32.mul a b, x * y), (Fp32.fma d a b, z + x * y),
           (Fp32.fms d a b, z - x * y), (Fp32.fnms d a b, x * y - z)],
         (p.2 = 0 → zer p.1.v = true ∧ p.1.fl = 0) ∧
         (2 ^ 128 - 2 ^ 103 ≤ |p.2| → p.1 = ⟨infinity (decide (p.2 < 0)), Fp32.ovf⟩) ∧
         (p.2 ≠ 0 → |p.2| < 1 / 2 ^ 126 - 1 / 2 ^ 151 → p.1 = ⟨zero (decide (p.2 < 0)), Fp32.unf⟩) ∧
         (1 / 2 ^ 126 - 1 / 2 ^ 151 ≤ |p.2| → |p.2| < 2 ^ 128 - 2 ^ 103 →
           p.1.fl = 0 ∧ m p.1.v < 0x7F800000 ∧ |Fp32.value p.1.v - p.2| * 2 ^ 24 ≤ |Fp32.value p.1.v|)) ∧
     (nan a = true → nan b = true → Fp32.fmin a b = ⟨qnan, 0⟩ ∧ Fp32.fmax a b = ⟨qnan, 0⟩) ∧
     (nan a = true → nan b = false → zer b = false →
       ∀ r ∈ [Fp32.fmin a b, Fp32.fmin b a, Fp32.fmax a b, Fp32.fmax b a], r = ⟨b, 0⟩) ∧
     (nan a = false → zer a = false → m (Fp32.abs a).v = m a ∧ neg (Fp32.abs a).v = false ∧ (Fp32.abs a).fl = 0 ∧
       m (Fp32.neg a).v = m a ∧ neg (Fp32.neg a).v = !neg a ∧ (Fp32.neg a).fl = 0) ∧
     (nan a = true → Fp32.abs a = ⟨qnan, 0⟩ ∧ Fp32.neg a = ⟨qnan, 0⟩ ∧ Fp32.cvtS32 a = ⟨0#32, Fp32.cvt⟩ ∧ Fp32.cvtU32 a = ⟨0#32, Fp32.cvt⟩) ∧
     (inf a = true → Fp32.cvtS32 a = ⟨if neg a then 0x80000000#32 else 0x7FFFFFFF#32, Fp32.cvt⟩ ∧
       Fp32.cvtU32 a = ⟨if neg a then 0#32 else 0xFFFFFFFF#32, Fp32.cvt⟩) ∧
     (m a < 0x7F800000 →
       let x := Fp32.value a
       (2147483647 + 1 / 2 ≤ x → Fp32.cvtS32 a = ⟨0x7FFFFFFF#32, Fp32.cvt⟩) ∧
       (x < -2147483648 - 1 / 2 → Fp32.cvtS32 a = ⟨0x80000000#32, Fp32.cvt⟩) ∧
       (-2147483648 - 1 / 2 ≤ x → x < 2147483647 + 1 / 2 → (Fp32.cvtS32 a).fl = 0 ∧ |((Fp32.cvtS32 a).v.toInt : ℚ) - x| ≤ 1 / 2) ∧
       (4294967295 + 1 / 2 ≤ x → Fp32.cvtU32 a = ⟨0xFFFFFFFF#32, Fp32.cvt⟩) ∧
       (x < -1 / 2 → Fp32.cvtU32 a = ⟨0#32, Fp32.cvt⟩) ∧
       (-1 / 2 ≤ x → x < 4294967295 + 1 / 2 → (Fp32.cvtU32 a).fl = 0 ∧ |((Fp32.cvtU32 a).v.toNat : ℚ) - x| ≤ 1 / 2))) ∧
  Fp32.fmin 0x80000000#32 0x00000000#32 = ⟨0x80000000#32, 0⟩ ∧ Fp32.fmax 0x80000000#32 0x00000000#32 = ⟨0x00000000#32, 0⟩ ∧
  (∀ x : Int,
     ((Fp32.satS32 x).v.toInt = max (-2147483648) (min 2147483647 x)) ∧
     ((Fp32.satS32 x).fl = Fp32.sat ↔ (x < -2147483648 ∨ 2147483647 < x)) ∧
     ((Fp32.satS32 x).fl = 0 ↔ (-2147483648 ≤ x ∧ x ≤ 2147483647)))

/-! ## Wheel: M slot -/

/-- The M-slot operations complete, singly and in pairs, with every increment. A load reads the word its pointer names and writes its register at the end of cycle c + 2, a store and every pointer change land at the end of cycle c, and nothing else changes (R55, R63–R66, R510). A load of a word with one flipped bit delivers the stored word and counts the correction with its memory and address; with two it delivers nothing and halts the Wheel, cause 0x02 for a data word and 0x03 for a coefficient (R67); that the halt falls in the cycle of the result is the model's choice (assumption 10). A data access never leaves its bank, and its offset arithmetic is modulo LEN, a LEN of 0 meaning the whole bank: the offset used lies below the length, and so does the one that follows, which is the offset moved by +0, +1, +2 or −1 modulo the length (R63, R64). -/
def Obligations.MemoryOperationsComplete : Prop :=
  (∀ (s : State) (gd : Guard) (g h : Fin 128) (j k : Fin 16) (cj i1 i2 : Fin 4), s.Issues gd → s.FewFlips →
     exec (.ld gd g k i1) s = .next (s.inFlight (s.loadD g k i1)) ∧
     exec (.st gd g k i1) s = .next (s.inFlight (s.storeD g k i1)) ∧
     exec (.ldc gd g cj i1) s = .next (s.inFlight (s.loadC g cj i1)) ∧
     exec (.setar gd k g) s = .next (s.inFlight [(s.cycle, .setAr k.val ((s.g g).toNat % 8192))]) ∧
     exec (.setcp gd cj g) s = .next (s.inFlight [(s.cycle, .setCp cj.val ((s.g g).toNat % 16384))]) ∧
     (g ≠ h → exec (.ldcLd gd g h cj i1 k i2) s = .next (s.inFlight (s.loadC g cj i1 ++ s.loadD h k i2))) ∧
     exec (.ldcSt gd g h cj i1 k i2) s = .next (s.inFlight (s.loadC g cj i1 ++ s.storeD h k i2)) ∧
     (g ≠ h → j ≠ k → exec (.ld2 gd g h j k i1 i2) s = .next (s.inFlight (s.loadD g j i1 ++ s.loadD h k i2))) ∧
     (j ≠ k → exec (.st2 gd g h j k i1 i2) s = .next (s.inFlight (s.storeD g j i1 ++ s.storeD h k i2))) ∧
     (j ≠ k → exec (.ldst gd g h j k i1 i2) s = .next (s.inFlight (s.loadD g j i1 ++ s.storeD h k i2)))) ∧
  (∀ (s : State) (gd : Guard) (g : Fin 128) (k : Fin 16) (j inc : Fin 4), s.Issues gd →
     let a := 8192 * k.val + s.arOff k.val
     let v := s.dataWord k.val (s.arOff k.val)
     let c := s.cp j.val
     (Sparse.get 0 s.mem.derr a = 0 → exec (.ld gd g k inc) s = .next (s.inFlight ((s.cycle + 2, .setG g.val v 0) :: s.arStep k inc))) ∧
     (Sparse.get 0 s.mem.derr a = 1 → exec (.ld gd g k inc) s =
       .next (s.inFlight ((s.cycle + 2, .setG g.val v 0) :: (s.cycle + 2, .eccNote 2 a) :: s.arStep k inc))) ∧
     (Sparse.get 0 s.mem.derr a = 2 → exec (.ld gd g k inc) s = .next (s.inFlight ((s.cycle + 2, .halt 0x02) :: s.arStep k inc))) ∧
     (Sparse.get 0 s.mem.cerr c = 0 → exec (.ldc gd g j inc) s =
       .next (s.inFlight ((s.cycle + 2, .setG g.val (s.coefWord c) 0) :: s.cpStep j inc))) ∧
     (Sparse.get 0 s.mem.cerr c = 1 → exec (.ldc gd g j inc) s =
       .next (s.inFlight ((s.cycle + 2, .setG g.val (s.coefWord c) 0) :: (s.cycle + 2, .eccNote 3 c) :: s.cpStep j inc))) ∧
     (Sparse.get 0 s.mem.cerr c = 2 → exec (.ldc gd g j inc) s = .next (s.inFlight ((s.cycle + 2, .halt 0x03) :: s.cpStep j inc)))) ∧
  (∀ (s : State) (k : Fin 16) (inc : Fin 4),
     let len := if s.get (R.WHEEL_ARMOD_LEN k.val) = 0 then 8192 else s.get (R.WHEEL_ARMOD_LEN k.val)
     let step : Int := if inc = 0 then 0 else if inc = 1 then 1 else if inc = 2 then 2 else -1
     s.arOff k.val = s.ar k.val % len ∧ s.arOff k.val < len ∧ s.arNext k.val inc < len ∧
     ((s.arNext k.val inc : Int) - s.arOff k.val - step) % len = 0)

/-! ## Wheel: X slot -/

/-- The X-slot operations complete. A read's value is the one its unit holds in the issue cycle, a position source's the one it held at the last PERCLK edge at or before the second cycle back (R138), written after the latency of R68, with its validity into pv where pv is not p0. A window word with bad parity gives 0x7FC0_0000 and notes the poison; in a control-critical window it also halts the Wheel in cycle c + 1 with cause 0x06 (R74). A write reaches its unit in the cycle R68 gives, with the operands as they stand at issue, and nothing else changes. A word of Q.PUSH or Q.PUSHE is staged and reaches its queue within 4 FABCLK cycles of cycle c + 1, or on a FABCLK edge after that of the word staged before it (R68, R73); where in those cycles it arrives is open (assumption 5). -/
def Obligations.XSlotOperationsComplete : Prop :=
  (∀ (s : State) (gd : Guard) (g ga : Fin 128) (conv : Fin 16) (ch : Fin 6) (src : Fin 20) (pv u w : Fin 8) (off : Fin 1024),
     s.Issues gd →
     exec (.adcRd gd g conv pv) s = .next (s.inFlight (s.pairIn g pv (s.adcRead conv.val).1 (s.adcRead conv.val).2)) ∧
     exec (.sdRd gd g ch pv) s = .next (s.inFlight (s.pairIn g pv (s.word (R.ADC_SDRES_VALUE ch.val))
       (s.on (R.ADC_SDSTAT_VALID ch.val) && !s.on (R.ADC_SDSTAT_STUCK ch.val)))) ∧
     (let h := if s.cycle % 4 < 2 then s.pos.heldPrior else s.pos.held
      exec (.posRd gd g src pv) s = .next (s.inFlight (s.pairIn g pv ((s.posView h).posValue src.val)
        (h.runs && (s.posView h).posValid src.val)))) ∧
     exec (.rampRd gd g u) s = s.givesWord 3 g (s.word (R.LOOP_ROUT_VALUE u.val)) ∧
     exec (.loopRd gd g u) s = s.givesWord 3 g (s.loopWord u.val) ∧
     exec (.tsRd gd g false) s = s.givesWord 2 g (BitVec.ofNat 32 s.wheel.stamp) ∧
     exec (.tsRd gd g true) s = s.givesWord 2 g (BitVec.ofNat 32 (s.wheel.stamp / 2 ^ 32)) ∧
     exec (.tcRd gd g) s = s.givesWord 2 g (BitVec.ofNat 32 (s.get R.WHEEL_TURNCNT_COUNT)) ∧
     (Sparse.get false s.xwin.bad (xwKey w.val (s.xwWheelBuf w.val) off.val) = false →
       exec (.xwRd gd g w off) s =
         s.givesWord 2 g (Sparse.get 0#32 s.xwin.buf (xwKey w.val (s.xwWheelBuf w.val) off.val))) ∧
     (Sparse.get false s.xwin.bad (xwKey w.val (s.xwWheelBuf w.val) ((s.g ga).toNat % 1024)) = false →
       exec (.xwRdx gd g w ga) s =
         s.givesWord 2 g (Sparse.get 0#32 s.xwin.buf (xwKey w.val (s.xwWheelBuf w.val) ((s.g ga).toNat % 1024)))) ∧
     (Sparse.get false s.xwin.bad (xwKey w.val (s.xwWheelBuf w.val) off.val) = true →
       exec (.xwRd gd g w off) s = .next (s.inFlight ([(s.cycle + 1, .setG g.val 0x7FC00000#32 0), (s.cycle + 1, .xpoison)] ++
         (if s.on (R.XWIN_CFG_CRIT w.val) then [(s.cycle + 1, .halt 0x06)] else []))))) ∧
  (∀ (s : State) (gd : Guard) (g h e : Fin 128) (gen u w : Fin 8) (isB : Bool) (off : Fin 1024) (m : Fin 4), s.Issues gd →
     let v := fun r : Fin 128 => (s.g r.val).toNat
     exec (.pwmWr gd gen isB g) s = .next (s.inFlight [(s.cycle + 1, .shadow gen.val isB (v g))]) ∧
     (gen.val < 6 → exec (.pwmWrForce gd gen g) s = .next (s.inFlight [(s.cycle + 1, .force gen.val (v g % 16))])) ∧
     exec (.pwmGrpa gd g h e) s = .next (s.inFlight [(s.cycle + 1, .shadow 0 false (v g)),
       (s.cycle + 1, .shadow 1 false (v h)), (s.cycle + 1, .shadow 2 false (v e))]) ∧
     exec (.pwmGrpb gd g h e) s = .next (s.inFlight [(s.cycle + 1, .shadow 3 false (v g)),
       (s.cycle + 1, .shadow 4 false (v h)), (s.cycle + 1, .shadow 5 false (v e))]) ∧
     exec (.comm gd m) s = .next (s.inFlight [(s.cycle + 1, .comm m.val)]) ∧
     exec (.rampTgt gd u g) s = .next (s.inFlight [(s.cycle + 1, .rampTgt u.val (s.g g.val))]) ∧
     exec (.loopCmdClose gd u) s = .next (s.inFlight [(s.cycle + 1, .loopCmd u.val 1)]) ∧
     exec (.loopCmdOpen gd u) s = .next (s.inFlight [(s.cycle + 1, .loopCmd u.val 2)]) ∧
     exec (.loopCmdFbloss gd u) s = .next (s.inFlight [(s.cycle + 1, .loopCmd u.val 3)]) ∧
     exec (.loopMeas gd u g) s = .next (s.inFlight [(s.cycle + 1, .loopMeas u.val (s.g g.val))]) ∧
     exec (.rcuRd gd g u h) s = .next (s.inFlight [(s.cycle + 1, .rcuRead u.val g.val (s.g h.val))]) ∧
     exec (.rcuLrn gd u g) s = .next (s.inFlight [(s.cycle + 1, .rcuLearn u.val (s.g g.val))]) ∧
     exec (.xwWr gd g w off) s = .next (s.inFlight [(s.cycle + 1, .xwWrite w.val off.val (s.g g.val))]) ∧
     exec (.xwWrx gd g w h) s = .next (s.inFlight [(s.cycle + 1, .xwWrite w.val (v h % 1024) (s.g g.val))]) ∧
     exec (.hb g) s = .next (s.inFlight [(s.cycle + 2, .heartbeat (s.g g.val) (s.get R.WHEEL_TURNCNT_COUNT % 0x10000))])) ∧
  (∀ (s : State) (gd : Guard) (q : Fin 32) (gl gh : Fin 128) (last : Bool), s.Issues gd →
     ∃ due free, s.cycle + 1 ≤ due ∧ due ≤ max (s.cycle + 9) s.wheel.pushDue ∧ s.wheel.pushDue ≤ due ∧
       exec (if last then .qPushe gd q gl gh else .qPush gd q gl gh) s =
         .next { s with free := free, wheel := { s.wheel with
           pushDue := (due / 2 + 1) * 2, inflight := s.wheel.inflight ++ [(due, .qpush q.val (s.g gl.val).toNat (s.g gh.val).toNat last)] } })

/-- HLOOP completes: with COUNT 0 the bundle after the body issues next (R60); otherwise the body is the LENGTH bundles that follow, and a loop with COUNT N and LENGTH B issues it N times, back to back, and the bundle after the body next: N × B cycles (R59). Its guard is none (R51). -/
def Obligations.HardwareLoops : Prop :=
  (∀ (s : State) (inner : Bool) (count : Fin 4096) (len : Fin 512), s.wheel.turning = true → len ≠ 0 →
    (count = 0 → exec (.hloop inner count len) s =
      .next { s with wheel := { s.wheel with jump := some (s.wheel.pc + len.val + 1) } }) ∧
    (count ≠ 0 → exec (.hloop inner count len) s =
      .next { s with wheel := { s.wheel with
        loops := { first := s.wheel.pc + 1, last := s.wheel.pc + len.val, left := count.val } :: s.wheel.loops } })) ∧
  (∀ (pc b n : Nat) (outer : List HwLoop), 0 < b → 0 < n → (∀ l ∈ outer, l.last ≠ pc + b) →
    let run := fun k => Nat.iterate (fun x : Nat × List HwLoop => nextPc x.1 x.2) k
      (pc + 1, { first := pc + 1, last := pc + b, left := n } :: outer)
    (∀ k, k < n * b → (run k).1 = pc + 1 + k % b) ∧ run (n * b) = (pc + b + 1, outer))

/-- A result in flight is invisible before its last cycle and is in its register from the next one on, with no other general register changed; a store in flight is seen by every later load of its word, and no other word changes (R52, R65). Stated of a cycle in which no bundle issues, no turn and no RUN begins, no turn is missing and no stop runs out of time (R41, R107), no self-test runs, and nothing else is in flight. -/
def Obligations.ResultsArriveOnTime : Prop :=
  ∀ (s : State) (due r k off : Nat) (v : Word), s.pending = [] → s.ModesExclusive → s.dev = .run → s.wheel.turning = false →
    s.startDue = false → s.runDue = false → s.matchLate = false → s.stopLate = false →
    (s.wheel.inflight = [(due, .setG r v 0)] →
      ∃ t, step s = .next t ∧ (∀ x, x ≠ r → t.g x = s.g x) ∧
        (s.cycle < due → t.g r = s.g r ∧ t.wheel.inflight = s.wheel.inflight) ∧
        (due ≤ s.cycle → t.g r = v ∧ t.wheel.inflight = [])) ∧
    (k < 16 → off < 8192 → s.wheel.inflight = [(due, .storeD k off v)] →
      ∃ t, step s = .next t ∧ (∀ k' o', k' < 16 → o' < 8192 → ¬(k' = k ∧ o' = off) → t.dataWord k' o' = s.dataWord k' o') ∧
        (s.cycle < due → t.dataWord k off = s.dataWord k off) ∧ (due ≤ s.cycle → t.dataWord k off = v))

/-- A RAMP.TGT, LOOP.MEAS or RCU.LRN whose operand is NaN or infinite is discarded at its target: nothing changes but NANDROP, which is set, and NANDROPCNT, which counts (R72). -/
def Obligations.NonFiniteOperandIsDropped : Prop :=
  ∀ (s : State) (u : Nat) (v : Word), v.toNat / 0x800000 % 256 = 255 →
    ∀ e ∈ [Effect.rampTgt u v, .loopMeas u v, .rcuLearn u v],
      s.takeEffect e = (s.raise R.WHEEL_XSTAT_NANDROP).bumpSat R.WHEEL_NANDROPCNT_COUNT

/-- What X operations have put in flight takes place at its unit. A PWM.WR value stands in the shadow it names and in no other, and counts as written in RUN (R71, R195). FORCE puts the code and mask bit of its leg into the stage where FSRC names the Wheel and the code is one of 0 to 4, and is otherwise refused with CFGREJ (R211). COMM applies the stage to the masked legs of each present inverter it names whose SRC admits it, unless frozen (R212). A finite RAMP.TGT is stored clamped to TMIN and TMAX, TCLAMP telling so (R176); a finite LOOP.MEAS is stored and counts as a measurement (R165). In RUN a CLOSE enters CLOSING where no condition of the closing table holds, and otherwise leaves the loop as it is with the code of a condition that holds; an OPEN takes a closed side to OPENING; FBLOSS declares loss with cause 0x4 for a closed side alone; outside RUN none acts (R159, R160, R163, R164). XW.WR writes the word of an OUT window, with good parity, and none of an IN window (R75). HB reaches HBSUM and HBTURN (R76). A Wheel push joins the tail of a queue in word mode that the Wheel produces into, and changes no other; the Wheel not being the producer, it changes none (R73, R352). -/
def Obligations.EffectsTakePlace : Prop :=
  (∀ (s : State) (n k u l : Fin 8) (m : Fin 4) (leg : Fin 6) (isB : Bool) (x : Nat) (v : Word),
     let sh := s.takeEffect (.shadow n.val isB x)
     let other := fun g : Gen => if isB then g.shA else g.shB
     let digit := fun (c j : Nat) => c / 8 ^ j % 8
     let inv := leg.val / 3
     let fo := s.takeEffect (.force leg.val (x % 16))
     let co := s.takeEffect (.comm m.val)
     let rt := s.takeEffect (.rampTgt u.val v)
     let lo := s.word (R.LOOP_RTMIN_VALUE u.val)
     let hi := s.word (R.LOOP_RTMAX_VALUE u.val)
     let c := if Fp32.lt v lo then lo else if Fp32.lt hi v then hi else v
     let same := fun z : State => z.mem = s.mem ∧ z.wheel = s.wheel ∧ z.dev = s.dev ∧ z.queues = s.queues
     ((if isB then (sh.gen n.val).shB else (sh.gen n.val).shA) = x ∧ other (sh.gen n.val) = other (s.gen n.val) ∧
       (sh.gen n.val).written = ((s.gen n.val).written || (decide (s.dev = .run) && !s.pwm.dark)) ∧
       (k ≠ n → sh.gen k.val = s.gen k.val) ∧ sh.regs = s.regs ∧ same sh) ∧
     (s.on (forceSrc inv) = true → x % 8 ≤ 4 →
       (∀ j : Fin 3, digit (fo.get (R.PWM_FSTAGE_CODE inv)) j.val =
         (if j.val = leg.val % 3 then x % 8 else digit (s.get (R.PWM_FSTAGE_CODE inv)) j.val) ∧
         (fo.get (R.PWM_FSTAGE_MASK inv)).testBit j.val =
           (if j.val = leg.val % 3 then decide (8 ≤ x % 16) else (s.get (R.PWM_FSTAGE_MASK inv)).testBit j.val)) ∧
       fo.on (R.PWM_FSTAGE_PEND inv) = true ∧ fo.get (R.PWM_FACT_CODE inv) = s.get (R.PWM_FACT_CODE inv) ∧ fo.pwm = s.pwm ∧ same fo) ∧
     (s.on (forceSrc inv) = false ∨ 4 < x % 8 → fo = s.raise R.PWM_STAT_CFGREJ) ∧
     (s.on R.PWM_DBG_FROZEN = false → ∀ w : Fin 2,
       let hit := decide (w.val < s.nInv) && m.val.testBit w.val && decide (s.get (commSrc w.val) = 1 ∨ s.get (commSrc w.val) = 3)
       (∀ j : Fin 3, digit (co.get (R.PWM_FACT_CODE w.val)) j.val =
         (if hit && (s.get (R.PWM_FSTAGE_MASK w.val)).testBit j.val then digit (s.get (R.PWM_FSTAGE_CODE w.val)) j.val
          else digit (s.get (R.PWM_FACT_CODE w.val)) j.val)) ∧
       co.on (R.PWM_FSTAGE_PEND w.val) = (s.on (R.PWM_FSTAGE_PEND w.val) && !hit) ∧ same co) ∧
     (s.on R.PWM_DBG_FROZEN = true → co = s) ∧
     (Fp32.notFinite v = false → rt.word (R.LOOP_RTGT_VALUE u.val) = c ∧
       rt.on (R.LOOP_RSTAT_TCLAMP u.val) = (s.on (R.LOOP_RSTAT_TCLAMP u.val) || Fp32.lt v lo || Fp32.lt hi v) ∧
       rt.get (R.LOOP_ROUT_VALUE u.val) = s.get (R.LOOP_ROUT_VALUE u.val) ∧ rt.loops = s.loops ∧ same rt) ∧
     (Fp32.notFinite v = false → s.takeEffect (.loopMeas l.val v) =
       (s.put (R.LOOP_MEASV_VALUE l.val) v.toNat).setLoop l.val { s.loop l.val with meas := true })) ∧
  (∀ (s : State) (l : Fin 8) (cmd : Nat),
     let st := s.loopState l.val
     let after := s.takeEffect (.loopCmd l.val cmd)
     let same := after.mem = s.mem ∧ after.wheel = s.wheel ∧ after.dev = s.dev ∧ (∀ k : Fin 8, k ≠ l → after.loopState k.val = s.loopState k.val)
     let holds := fun code => (code = 1 ∧ s.on (R.LOOP_CFG_EN l.val) = false) ∨ (code = 2 ∧ st ≠ 0) ∨
       (code = 3 ∧ s.safeApplied (s.loopInv l.val) = true) ∨ (code = 4 ∧ (s.fbCond l.val).isSome = true) ∨
       (code = 5 ∧ s.stopping = true) ∨ (code = 7 ∧ s.en (s.loopInv l.val) = false)
     (s.dev ≠ .run → after = s) ∧
     (s.dev = .run → cmd = 1 →
       ((∀ code : Fin 8, ¬holds code.val) → after.loopState l.val = 1 ∧ (after.loop l.val).cnt = 0 ∧ (after.loop l.val).meas = false ∧ same) ∧
       ((∃ code : Fin 8, holds code.val) → after.loopState l.val = st ∧ holds (after.get (R.LOOP_LSTAT_REJ l.val)) ∧
         after.on R.LOOP_STAT_CMDREJ = true ∧ after.loops = s.loops ∧ same)) ∧
     (s.dev = .run → cmd = 2 →
       (st = 1 ∨ st = 2 → after.loopState l.val = 3 ∧ after.on (R.LOOP_LSTAT_FORCED l.val) = false ∧ (after.loop l.val).cnt = 0 ∧ same) ∧
       (st = 0 ∨ st = 3 → after = s)) ∧
     (s.dev = .run → cmd = 3 →
       (st = 1 ∨ st = 2 → after.on (R.LOOP_LSTAT_FBL l.val) = true ∧ after.loopState l.val = st ∧ same ∧
         (s.on (R.LOOP_LSTAT_FBL l.val) = false → s.fbSource l.val = none → after.get (R.LOOP_LSTAT_FBCAUSE l.val) = 4 ∧
           after.get (R.LOOP_FBTS_TSC l.val) = s.tsc % 2 ^ 32 ∧ (after.loop l.val).forced = true)) ∧
       (st = 0 ∨ st = 3 → after = s))) ∧
  (∀ (s : State) (w : Fin 8) (off : Fin 1024) (key turn : Nat) (v : Word),
     let xw := s.takeEffect (.xwWrite w.val off.val v)
     let at_ := 2048 * w.val + 1024 * (if s.xwin.sel.testBit w.val then 1 else 0) + off.val
     let hb := s.takeEffect (.heartbeat v (turn % 0x10000))
     (s.on (R.XWIN_CFG_DIR w.val) = true → Sparse.get 0#32 xw.xwin.buf key = (if key = at_ then v else Sparse.get 0#32 s.xwin.buf key) ∧
       Sparse.get false xw.xwin.bad key = (decide (key ≠ at_) && Sparse.get false s.xwin.bad key) ∧ xw.regs = s.regs ∧ xw.mem = s.mem) ∧
     (s.on (R.XWIN_CFG_DIR w.val) = false → xw = s) ∧
     hb.word R.SAGGAR_HBSUM_SUM = v ∧ hb.get R.SAGGAR_HBTURN_TURN = turn % 0x10000 ∧ hb.on R.SAGGAR_HBTURN_VALID = true ∧
     hb.wheel = s.wheel ∧ hb.mem = s.mem) ∧
  (∀ (s : State) (q : Fin 32) (lo hi : Word) (last : Bool),
     let t := s.takeEffect (.qpush q.val lo.toNat hi.toNat last)
     let rest := t.wheel = s.wheel ∧ t.mem = s.mem ∧ t.dev = s.dev ∧ ∀ r, r ≠ q.val → t.queue r = s.queue r
     (s.get (R.QUE_QCFG_PROD q.val) ≠ 1 → t = s) ∧
     (s.get (R.QUE_QCFG_PROD q.val) = 1 → s.dprDue = none → s.qPacket q.val = false →
       (1 ≤ s.qRoom q.val → (t.queue q.val).ents = (s.queue q.val).ents ++ [entry (hi.toNat * 2 ^ 32 + lo.toNat) markData] ∧ rest) ∧
       (s.qRoom q.val = 0 → (t.queue q.val).ents = (s.queue q.val).ents ∧ t.on (R.QUE_QSTAT_DROP q.val) = true ∧ rest)))

/-- p0 reads 1 whatever is written to it, a write of it changes nothing, and an operation with PSEL = 0 and PINV = 0 is unguarded: it issues whenever the Wheel turns (R49). -/
def Obligations.PredicateZeroIsTrue : Prop :=
  ∀ (s : State) (b : Bool), s.p 0 = true ∧ s.setP 0 b = s ∧ s.takeEffect (.setP 0 b) = s ∧
    (s.wheel.turning = true → s.Issues ⟨0, false⟩)

/-! ## RUN, turns and debug (R34–R45, R76–R90, R101–R109) -/

/-- A turn match that is taken arms the coming TURN_START and fixes its swaps: an IN window swaps where a COMMIT is pending, an OUT window where HOLD is clear (R81, R101–R103); no buffer, register, memory or loop moves yet. A match while the Wheel still turns is not taken: it arms no TURN_START, causes no swap and moves no section counter; it raises EV_TURN_OVERRUN, counts toward DIV and captures the encoder speeds, and nothing else changes (R109, R148). A match that DIV passes over counts alone, and a cycle whose match has been taken, or that has none, brings no other (R81; that the tick takes a match no command has named is assumption 3). -/
def Obligations.TurnMatchDecidesSwaps : Prop :=
  (∀ s : State, s.matchDue = true → s.wheel.divCnt = 0 → s.wheel.turning = false →
     s.wheel.dbgHalted = false ∨ s.on R.WHEEL_DBG_STEP = true →
     ∃ t, exec .turnMatch s = .next t ∧ t.wheel.matched = true ∧ t.wheel.matchAt = s.cycle ∧
       t.wheel.divCnt = 1 % max 1 s.contract.div ∧
       (∀ w : Fin 8, t.wheel.swapMask.testBit w.val =
         (if s.on (R.XWIN_CFG_DIR w.val) then !s.on (R.XWIN_CTL_HOLD w.val) else s.on (R.XWIN_CTL_COMMIT w.val))) ∧
       t.xwin = s.xwin ∧ t.regs = s.regs ∧ t.mem = s.mem ∧ t.loops = s.loops ∧ t.wheel.g = s.wheel.g ∧ t.dev = s.dev ∧
       t.wheel.inflight = s.wheel.inflight ∧ t.matchDue = false) ∧
  (∀ s : State, s.matchDue = true → s.wheel.divCnt = 0 → s.wheel.turning = true →
     exec .turnMatch s = .next { s with
       wheel := { s.wheel with divCnt := 1 % max 1 s.contract.div, compared := s.cycle + 1, overrun := true }
       pos := { s.pos with capture := true } }) ∧
  (∀ s : State, s.matchDue = true → s.wheel.divCnt ≠ 0 →
     exec .turnMatch s = .next { s with wheel := { s.wheel with
       divCnt := (s.wheel.divCnt + 1) % max 1 s.contract.div, compared := s.cycle + 1 } }) ∧
  (∀ s : State, s.matchDue = false → exec .turnMatch s = .next s)

/-- TURN_START, in the fourth cycle after the match of an armed turn: the stamp is the TSC, bundle 0 issues in this cycle, DBG.HALTED reads 0 (R79, R82), the buffers of exactly the decided windows change hands, and the sections whose counter equals PHASE are active; general registers, memories and effects in flight stand (R25, R32, R82, R89, R101). TEND ends the turn: the Wheel idles, TURNCNT advances by one modulo 2^32, TLEN takes the length of the turn, every section counter advances modulo its N, and what is in flight stays in flight (R76, R80, R89); a turn that ends with a stop complete or a debug halt due is another case. -/
def Obligations.TurnsBeginAndEnd : Prop :=
  (∀ s : State, s.dev = .run → s.wheel.matched = true → s.cycle = s.wheel.matchAt + 4 →
     ∃ t, exec .turnStart s = .next t ∧ t.wheel.turning = true ∧ t.wheel.idle = false ∧ t.wheel.matched = false ∧
       t.wheel.dbgHalted = false ∧ t.on R.WHEEL_DBG_HALTED = false ∧
       t.wheel.pc = 0 ∧ t.wheel.loops = [] ∧ t.wheel.stamp = s.tsc ∧ t.wheel.start = s.cycle ∧
       (∀ w : Fin 8, t.xwin.sel.testBit w.val = (s.xwin.sel.testBit w.val != s.wheel.swapMask.testBit w.val)) ∧
       t.wheel.slowTodo = below 8 s.slowActive ∧ t.wheel.phase = s.wheel.phase ∧
       t.xwin.buf = s.xwin.buf ∧ t.wheel.g = s.wheel.g ∧ t.mem = s.mem ∧ t.wheel.inflight = s.wheel.inflight ∧
       t.queues = s.queues ∧ t.dev = .run) ∧
  (∀ s : State, s.wheel.turning = true → (s.stopping && s.allOpen) = false → s.on R.WHEEL_DBG_HALT = false →
     s.wheel.stepping = false →
     ∃ t, exec .tend s = .next t ∧ t.wheel.turning = false ∧ t.wheel.idle = true ∧ t.wheel.lastTend = s.wheel.pc ∧
       t.get R.WHEEL_TURNCNT_COUNT = (s.get R.WHEEL_TURNCNT_COUNT + 1) % 2 ^ 32 ∧
       t.get R.WHEEL_TLEN_CYCLES = (s.cycle - s.wheel.start + 1) % 2 ^ 32 ∧
       (∀ j : Fin 8, ∀ r, s.contract.slow[j.val]? = some r →
         Sparse.get 0 t.wheel.phase j.val = (Sparse.get 0 s.wheel.phase j.val + 1) % max 1 r.n) ∧
       (∀ f : Fld, f.key ≠ R.WHEEL_TURNCNT_COUNT.key → f.key ≠ R.WHEEL_TLEN_CYCLES.key → f.key ≠ R.WHEEL_TLENMAX_CYCLES.key →
         t.get f = s.get f) ∧
       t.wheel.inflight = s.wheel.inflight ∧ t.wheel.g = s.wheel.g ∧ t.wheel.p = s.wheel.p ∧ t.mem = s.mem ∧ t.dev = s.dev ∧
       t.xwin = s.xwin)

/-- A write that sets both RUN and STOP is refused as a whole, with the code BOTH (0x8), whoever writes it and although a cause of its FABCLK cycle has overtaken it, and nothing else changes (R38, R42). -/
def Obligations.RunWithStopIsRefused : Prop :=
  ∀ (s : State) (req : Requester), s.mayWrite req = true ∨ s.overtaken req = true →
    exec (.runRequest req true) s = .next (s.put R.SYS_RUNCTL_REFUSE 8) ∧
    exec (.stopRequest req true) s = .next (s.put R.SYS_RUNCTL_REFUSE 8)

/-- A run request is accepted where every condition of R39 holds, and otherwise refused with the code of the first that fails, in the order R39 lists them; an accepted one waits for the end of its FABCLK cycle, as which RUN begins with the general registers, predicates, pointers, loops and the turn counter at zero, every loop OPEN and the data and coefficient memories as they were (R38–R40, R54); one of the debug port, which R39 does not name, does nothing (assumption 30). A stop request in RUN is noted with its instant; one in the FABCLK cycle of an accepted run request discards that, and a run request after it in that cycle is PREEMPTED (R38); 1 ms after it a stop is forced where some loop is not OPEN, leaving RUN for READY with REFUSE = STOP_FORCED (0x9), input 28 latched and every loop OPEN (R41, R78), and at no earlier instant. A missing turn, TMWIN ticks after TURN_START without TEND or TSWIN ticks after a match without the next, enters SAFE_HOLD with cause 0x04 and halts the Wheel with nothing left in flight, and before that nothing (R77, R107, R108). -/
def Obligations.RunStopAndMissingTurnComplete : Prop :=
  (∀ (s : State) (req : Requester), s.mayWrite req = true → s.preempted 2 = false → s.preempted 3 = false →
     let failing : List (Bool × Nat) := [(decide (s.dev ≠ .ready), 1), (s.entering && !s.enteredNow, 7),
       ((List.range s.nIsl).any fun i => !s.legUnused (legOfIsl i) && !s.on (R.ISL_LSTAT_TRAINED i), 2),
       (!s.on R.ADC_CAL_DONE || (List.range 8).any fun g => decide (s.get (R.ADC_GCFG_SRC g) = 1) &&
         (List.range s.nConv).any fun k => s.bit (R.ADC_GCFG_MEMBERS g) k && s.bit R.ADC_CAL_FAIL k, 3),
       (s.usedInvs.any fun v => decide (s.get (R.SAGGAR_LATCH_INPUTS v) ≠ 0), 4),
       (s.usedInvs.any fun _ => s.on R.SAGGAR_STAT_PRESTALE, 5),
       (s.on R.SAGGAR_REQ_SSREQA || s.on R.SAGGAR_REQ_SSREQB, 6)]
     (req ≠ .debug →
       (∀ c, failing.find? (fun p => p.1) = some c → exec (.runRequest req false) s = .next (s.put R.SYS_RUNCTL_REFUSE c.2)) ∧
       (failing.find? (fun p => p.1) = none → exec (.runRequest req false) s =
         .next { (s.takeCause 3).bistLost.clear R.SYS_RUNCTL_REFUSE with runDue := true })) ∧
     (req = .debug → exec (.runRequest req false) s = .next s) ∧
     (s.dev = .run → s.stopping = false → exec (.stopRequest req false) s =
       .next { ((s.takeCause 2).clear R.SYS_RUNCTL_REFUSE).raise R.SYS_RUNCTL_STOP with stopAt := s.cycle }) ∧
     (s.dev = .run → s.stopping = true → exec (.stopRequest req false) s = .next ((s.takeCause 2).clear R.SYS_RUNCTL_REFUSE)) ∧
     (s.dev = .ready → s.runDue = true → s.cause = some (s.fab, 3) → ∃ t, exec (.stopRequest req false) s = .next t ∧ t.runDue = false ∧
       t.get R.SYS_RUNCTL_REFUSE = 0xA ∧ t.dev = s.dev ∧ t.wheel = s.wheel ∧ t.mem = s.mem) ∧
     (s.dev = .ready → ∃ t, exec (.stopRequest req false) s = .next t ∧ t.wheel = s.wheel ∧ t.mem = s.mem ∧
       ∀ r : Requester, t.mayWrite r = true → r ≠ .debug → exec (.runRequest r false) t = .next (t.put R.SYS_RUNCTL_REFUSE 0xA)) ∧
     (s.dev ≠ .run → s.dev ≠ .ready → exec (.stopRequest req false) s = .next s)) ∧
  (∀ s : State, s.runDue = true → s.dev = .ready → s.cycle % 2 = 0 →
     let t := s.runTick
     t.dev = .run ∧ t.runDue = false ∧ t.wheel.g = [] ∧ t.wheel.p = [] ∧ t.wheel.ar = [] ∧ t.wheel.cp = [] ∧ t.wheel.loops = [] ∧
     t.get R.WHEEL_TURNCNT_COUNT = 0 ∧ (∀ l : Fin 8, t.loopState l.val = 0) ∧ t.mem = s.mem ∧ t.wheel.turning = false) ∧
  (∀ s : State, s.dev = .run →
     let stop := s.stopping = true ∧ s.allOpen = false ∧ s.stopAt + 600000 ≤ s.cycle
     let after := fun (c ticks : Nat) => (c + 5) / 6 * 6 + 6 * ticks ≤ s.cycle
     let tend := s.wheel.turning = true ∧ after s.wheel.start (s.get R.SAGGAR_TMWIN_TICKS)
     let miss := s.wheel.dbgHalted = false ∧ s.matchDue = false ∧ after s.wheel.matchAt (s.get R.SAGGAR_TSWIN_TICKS)
     let held := fun (t : State) => t.dev = .safeHold ∧ t.get R.SYS_HOLDCAUSE_CAUSE = 4 ∧
       t.wheel.halted = true ∧ t.wheel.turning = false ∧ t.wheel.inflight = [] ∧ t.mem = s.mem
     (stop → ∃ t, exec .stopForced s = .next t ∧ t.dev = .ready ∧
       t.get R.SYS_RUNCTL_REFUSE = 9 ∧ t.wheel.turning = false ∧ t.wheel.matched = false ∧
       (∀ l : Fin 8, t.loopState l.val = 0) ∧ (∀ v : Fin 2, v.val < s.nInv → t.bit (R.SAGGAR_LATCH_INPUTS v.val) 28 = true) ∧ t.mem = s.mem) ∧
     (¬stop → exec .stopForced s = .next s) ∧
     (tend → ∃ t, exec .tmwinExpiry s = .next t ∧ held t) ∧ (¬tend → exec .tmwinExpiry s = .next s) ∧
     (miss → ∃ t, exec .tswinExpiry s = .next t ∧ held t) ∧ (¬miss → exec .tswinExpiry s = .next s))

/-- Debug commands: in DEVELOP with debug unlocked HALT is set, a step from a halt is armed and a resume ends the halt, with nothing else changed but the freeze of the PWM that ends with them; in every other case a write of WHEEL.DBG, and one of PWM.DBG.FREEZE_EN, is discarded (R79, R215). -/
def Obligations.DebugCommandsComplete : Prop :=
  ∀ (s : State) (req : Requester) (v : Bool), s.mayWrite req = true →
    (s.debugOpen = true →
      exec (.debugHalt req) s = .next (s.raise R.WHEEL_DBG_HALT) ∧
      exec (.freezeEnWrite v) s = .next (s.putB R.PWM_DBG_FREEZE_EN v) ∧
      (s.wheel.dbgHalted = false →
        exec (.debugStep req) s = .next (s.raise R.WHEEL_DBG_STEP) ∧
        exec (.debugResume req) s = .next (s.clear R.WHEEL_DBG_HALT)) ∧
      (s.wheel.dbgHalted = true →
        exec (.debugStep req) s = .next { s.raise R.WHEEL_DBG_STEP with
          pwm := { s.pwm with freezeDue := false, thaw := (s.raise R.WHEEL_DBG_STEP).on R.PWM_DBG_FROZEN, dark := false } } ∧
        ∃ t, exec (.debugResume req) s = .next t ∧ t.wheel.dbgHalted = false ∧ t.on R.WHEEL_DBG_HALTED = false ∧
          t.on R.WHEEL_DBG_HALT = false ∧ t.wheel.g = s.wheel.g ∧ t.mem = s.mem ∧ t.dev = s.dev)) ∧
    (s.debugOpen = false →
      exec (.debugHalt req) s = .next s ∧ exec (.debugStep req) s = .next s ∧ exec (.debugResume req) s = .next s ∧
      exec (.freezeEnWrite v) s = .next s)

/-! ## Exchange windows (R25, R26, R100–R106, R512) -/

/-- The interconnect side of an exchange window, for a requester that may write it — the challenge window has the Cone as its only writer (R273): COMMIT of an IN window becomes pending, HOLD of an OUT window is set or cleared, and either counts for the turn whose match fell on the same FABCLK edge (R101, R105); a buffer write lands with good parity in the interconnect's buffer of an IN window without a pending COMMIT, and is otherwise dropped with WDROP; a read returns the word, or 0x7FC0_0000 with IPOISON where its parity is bad. Nothing else changes (R100, R102, R103, R512). -/
def Obligations.WindowCommandsComplete : Prop :=
  ∀ (s : State) (req : Requester) (w : Fin 8) (off : Fin 1024) (v : Word) (h : Bool), s.busUp = true →
    let k := 2048 * w.val + 1024 * (if s.xwin.sel.testBit w.val then 0 else 1) + off.val
    let out := s.on (R.XWIN_CFG_DIR w.val)
    (s.mayWrite req = true → req = .cone ∨ s.cone.chal = [] ∨ s.cone.chalWin ≠ w.val →
      (∀ p ∈ [(Instr.xwCommit req w, if out then s else s.raise (R.XWIN_CTL_COMMIT w.val)),
          (.xwHold req w h, if out then s.putB (R.XWIN_CTL_HOLD w.val) h else s)],
        (s.wheel.matched = false ∨ s.wheel.matchAt / 2 ≠ s.cycle / 2 → exec p.1 s = .next p.2) ∧
        (s.wheel.matched = true → s.wheel.matchAt / 2 = s.cycle / 2 → ∃ t, exec p.1 s = .next t ∧ t.regs = p.2.regs ∧
          t.xwin = s.xwin ∧ t.mem = s.mem ∧ t.wheel.inflight = s.wheel.inflight ∧ t.wheel.g = s.wheel.g ∧
          ∀ k : Fin 8, t.wheel.swapMask.testBit k.val =
            (if s.on (R.XWIN_CFG_DIR k.val) then !p.2.on (R.XWIN_CTL_HOLD k.val) else p.2.on (R.XWIN_CTL_COMMIT k.val)))) ∧
      (out = false → s.on (R.XWIN_CTL_COMMIT w.val) = false →
        exec (.xwinBufferWrite req w off v) s = .next { s with xwin := { s.xwin with
          buf := Sparse.set 0#32 s.xwin.buf k v, bad := Sparse.set false s.xwin.bad k false } }) ∧
      (out = true ∨ s.on (R.XWIN_CTL_COMMIT w.val) = true →
        exec (.xwinBufferWrite req w off v) s = .next (s.raise (R.XWIN_STAT_WDROP w.val)))) ∧
    (req ≠ .cone → s.cone.chal ≠ [] → s.cone.chalWin = w.val →
      ∀ c ∈ [Instr.xwCommit req w, .xwHold req w h, .xwinBufferWrite req w off v], exec c s = .next s) ∧
    (Sparse.get false s.xwin.bad k = false →
      exec (.xwinBufferRead w off) s = .next { s with rdata := (Sparse.get 0#32 s.xwin.buf k).toNat }) ∧
    (Sparse.get false s.xwin.bad k = true →
      exec (.xwinBufferRead w off) s = .next { s.raise (R.XWIN_STAT_IPOISON w.val) with rdata := 0x7FC00000 })

/-! ## Sampling (R110–R136, R513) -/

/-- The triggers complete: with the planes running, a group with members and no calibration, an ADC.TRIG starts acquisition on the first ADCCLK edge in cycles c + 1 to c + 3 (R68), the edges being every third cycle (R461); a timebase group's event, in the cycle in which the counter of its timebase reaches it, on the first ADCCLK edge from the next cycle, the Cone's SWTRIG on the first from two cycles on, an ADTRIG edge, once ADTFILT consecutive samples have shown its level, on the third edge after that sample's, and before that nothing; while calibration runs each is refused with CALREJ. Nothing else changes (R116, R120, R128). A timebase group's event is the zero of its timebase, the peak of an up-down one, or the count GTCMP in the direction EVT names, and each is taken once (R116); that the tick takes one no command has named is assumption 3. -/
def Obligations.TriggersComplete : Prop :=
  ∀ (s : State) (gd : Guard) (g : Fin 8) (rising : Bool) (n : Nat), s.busUp = true → s.trigOpen = true → s.groupMembers g.val ≠ [] →
    let taken := fun t0 : Nat =>
      (Host.Outcome.next { s with adc := { s.adc with trigs := s.adc.trigs ++ [(t0, g.val, s.cycle)] } } : Out)
    let tb := s.get (R.ADC_GTRIG_TB g.val)
    let evt := s.get (R.ADC_GTRIG_EVT g.val)
    let v := s.get (R.ADC_GTCMP_CMP g.val)
    let event := s.get (R.ADC_GCFG_SRC g.val) = 2 ∧ s.tbRuns = true ∧ s.tbP tb ≠ 0 ∧
      (∀ e ∈ s.adc.trigs, e.2.1 = g.val → e.2.2 ≠ s.cycle) ∧
      (evt = 0 ∧ s.tbCount tb = 0 ∨ evt = 1 ∧ s.tbUd tb = true ∧ s.tbCount tb = s.tbP tb ∨
       evt = 2 ∧ s.tbCount tb = v ∧ s.tbFalling tb = false ∨ evt = 3 ∧ s.tbCount tb = v ∧ s.tbFalling tb = true)
    (∀ c, adcEdgeAt c % 3 = 0 ∧ c ≤ adcEdgeAt c ∧ adcEdgeAt c < c + 3) ∧
    (s.on R.ADC_CAL_BUSY = false →
      (s.Issues gd → s.get (R.ADC_GCFG_SRC g.val) = 1 → exec (.adcTrig gd g) s = taken (adcEdgeAt (s.cycle + 1))) ∧
      (event → exec (.timebaseGroupTrigger g) s = taken (adcEdgeAt (s.cycle + 1))) ∧
      (s.get (R.ADC_GCFG_SRC g.val) = 4 → exec (.swtrig g) s = taken (adcEdgeAt (s.cycle + 2))) ∧
      (s.bit R.ADC_CTL_ADTEDGE (if rising then 0 else 1) = true →
        n = max 1 (s.get R.ADC_CTL_ADTFILT) → (below 8 fun g => decide (s.get (R.ADC_GCFG_SRC g) = 3)) = [g.val] →
        exec (.adtrigEdge rising n) s = taken (adcEdgeAt s.cycle + 9))) ∧
    (s.on R.ADC_CAL_BUSY = true →
      (s.Issues gd → s.get (R.ADC_GCFG_SRC g.val) = 1 → exec (.adcTrig gd g) s = .next (s.raise R.ADC_STAT_CALREJ)) ∧
      (event → exec (.timebaseGroupTrigger g) s = .next (s.raise R.ADC_STAT_CALREJ)) ∧
      (s.get (R.ADC_GCFG_SRC g.val) = 4 → exec (.swtrig g) s = .next (s.raise R.ADC_STAT_CALREJ)) ∧
      (s.bit R.ADC_CTL_ADTEDGE (if rising then 0 else 1) = true →
        n = max 1 (s.get R.ADC_CTL_ADTFILT) → (below 8 fun g => decide (s.get (R.ADC_GCFG_SRC g) = 3)) = [g.val] →
        exec (.adtrigEdge rising n) s = .next (s.raise R.ADC_STAT_CALREJ))) ∧
    (n ≠ max 1 (s.get R.ADC_CTL_ADTFILT) ∨ s.bit R.ADC_CTL_ADTEDGE (if rising then 0 else 1) = false →
      exec (.adtrigEdge rising n) s = .next s) ∧
    (s.get (R.ADC_GCFG_SRC g.val) ≠ 2 ∨ s.tbRuns = false ∨ s.tbP tb = 0 ∨
      (s.tbCount tb ≠ 0 ∧ s.tbCount tb ≠ s.tbP tb ∧ s.tbCount tb ≠ v) →
      exec (.timebaseGroupTrigger g) s = .next s) ∧
    (s.get (R.ADC_GCFG_SRC g.val) ≠ 1 → exec (.adcTrig gd g) s = .next s) ∧
    (s.get (R.ADC_GCFG_SRC g.val) ≠ 4 → exec (.swtrig g) s = .next s)

/-- A conversion result is delivered in its readable cycle, and held until then (R117, R513): the corrected value (d − UOFS) × (CALGAIN / 32,768) × UGAIN with d the raw code less CALOFS / 16, each step rounded, becomes the converter's latest, with its clip state, the last one of a trigger sets GSW.DONE (R136), and the Wheel, the memories and the queues are untouched (R121, R124). CAL.START is accepted in READY outside conversions and calibrations, the block not being stopped for BANKED, and otherwise refused with CFGREJ; its end takes the measured factors of every present converter and sets DONE; a change of VREFSEL in READY clears DONE; clearing STUCK restarts the count (R112, R125–R127, R130). -/
def Obligations.ConverterCommandsComplete : Prop :=
  (∀ (s : State) (m10 m90 : List Nat) (v : Bool) (mask : BitVec 16), s.busUp = true →
     (s.dev = .ready → s.stopped 11 = false → s.on R.ADC_CAL_BUSY = false → s.adcConverting = false →
       exec .calStart s = .next ((s.raise R.ADC_CAL_BUSY).clear R.ADC_CAL_DONE)) ∧
     (s.dev ≠ .ready ∨ s.stopped 11 = true ∨ s.on R.ADC_CAL_BUSY = true ∨ s.adcConverting = true →
       exec .calStart s = .next (s.raise R.ADC_STAT_CFGREJ)) ∧
     (s.on R.ADC_CAL_BUSY = true → exec (.calDone m10 m90) s =
       .next (((s.each (List.range s.nConv) (State.calOne m10 m90)).clear R.ADC_CAL_BUSY).raise R.ADC_CAL_DONE)) ∧
     (s.dev = .ready → s.on R.ADC_CTL_VREFSEL ≠ v →
       exec (.vrefselWrite v) s = .next ((s.putB R.ADC_CTL_VREFSEL v).clear R.ADC_CAL_DONE).sync) ∧
     (∃ t, exec (.adcStuckClear mask) s = .next t ∧
       (∀ k : Fin 16, t.bit R.ADC_FLAG_STUCK k.val = (s.bit R.ADC_FLAG_STUCK k.val && !mask.toNat.testBit k.val)) ∧
       (∀ k : Fin 16, mask.toNat.testBit k.val = true → Sparse.get 0 t.adc.same k.val = 0) ∧
       t.wheel = s.wheel ∧ t.mem = s.mem)) ∧
  (∀ (s : State) (conv : Fin 16) (code : BitVec 14) (pre : List AdcRun) (r : AdcRun) (post : List AdcRun),
     s.adc.runs = pre ++ r :: post → (∀ x ∈ pre ++ post, x.codes.length ≤ x.done) → (∀ x ∈ pre, x.conv ≠ conv.val) →
     r.conv = conv.val → r.codes.length = r.done → r.done < r.snaps.length → r.done < r.slots →
     let sn := r.snaps.getD r.done {}
     let raw : Int := if sn.pdiff then toSigned 14 code.toNat else code.toNat
     let d := (Fp32.ofIntRat (16 * raw - toSigned 16 sn.calofs) 16).v
     let m := (Fp32.mul (Fp32.sub d sn.uofs).v (Fp32.ofRat false sn.calgain 32768).v).v
     let at_ := r.due + r.done * slotCycles r.nacq
     let same := fun (t : State) => (∀ k, k ≠ conv.val → Sparse.get 0#32 t.adc.val k = Sparse.get 0#32 s.adc.val k) ∧
       t.wheel = s.wheel ∧ t.mem = s.mem ∧ t.queues = s.queues ∧ t.xwin = s.xwin ∧ t.dev = s.dev
     (at_ ≤ s.cycle → ∃ t, exec (.conversionResult conv code) s = .next t ∧
       Sparse.get 0#32 t.adc.val conv.val = (Fp32.mul m sn.ugain).v ∧
       Sparse.get false t.adc.clip conv.val = clipped sn.pdiff sn.clipmode raw ∧
       Sparse.get false t.adc.seen conv.val = true ∧
       (s.on (R.ADC_GSW_DONE r.group) = false → (∀ x ∈ pre ++ post, x.group ≠ r.group) →
         t.on (R.ADC_GSW_DONE r.group) = decide (r.done + 1 = r.slots)) ∧ same t) ∧
     (s.cycle < at_ → ∃ t, exec (.conversionResult conv code) s = .next t ∧
       Sparse.get 0#32 t.adc.val conv.val = Sparse.get 0#32 s.adc.val conv.val ∧
       t.adc.runs = pre ++ { r with codes := r.codes ++ [code.toNat] } :: post ∧ same t))

/-- A running ΣΔ channel: the levels given for its land wait for the sampling edges; an output that is due takes (y − SDOFS) × SDGAIN with y the sum over the cube of the OSR it was formed with, is valid from the third since the restart, once no resync output is left and while STUCK is 0, and counts; an alignment event compared off the output boundary restarts decimation with RESYNC and three invalid outputs, one on the boundary changes nothing; 128 identical bits set STUCK, cleared by a write (R132–R135). A sampled bit counts +1 or −1 into the first integrator, the first into the second, the second into the third (R132). -/
def Obligations.SigmaDeltaCommandsComplete : Prop :=
  ∀ (s : State) (ch : Fin 6) (bits : List Bool) (b : Bool), s.sdRuns ch.val = true →
    let c := s.sdCh ch.val
    (∀ tm sum osr, c.out = some (tm, sum, osr) → tm ≤ s.cycle →
      let y := sdCorrect sum osr (s.word (R.ADC_SDOFS_VALUE ch.val)) (s.word (R.ADC_SDGAIN_VALUE ch.val))
      ∃ t, exec (.sdOutput ch bits) s = .next t ∧ t.get (R.ADC_SDRES_VALUE ch.val) = y.toNat ∧
        t.on (R.ADC_SDSTAT_VALID ch.val) = (decide (2 ≤ c.outs) && decide (c.inval = 0) && !s.on (R.ADC_SDSTAT_STUCK ch.val)) ∧
        t.get (R.ADC_SDSTAT_OUTCNT ch.val) = (s.get (R.ADC_SDSTAT_OUTCNT ch.val) + 1) % 2 ^ (R.ADC_SDSTAT_OUTCNT ch.val).width ∧
        t.sdCh ch.val = { c with land := c.land ++ bits, outs := min (c.outs + 1) 3, inval := c.inval - 1, out := none } ∧
        t.wheel = s.wheel ∧ t.mem = s.mem) ∧
    (c.out = none → exec (.sdOutput ch bits) s = .next (s.setSd ch.val { c with land := c.land ++ bits })) ∧
    (∀ tm, c.syncAt = some tm → tm ≤ s.cycle → s.adc.sdclk = (if s.on (R.ADC_SDCFG_EDGE ch.val) then 16 else 0) →
      (c.dec ≠ 0 → exec (.sdSyncEvent ch) s =
        .next ((s.setSd ch.val { c with syncAt := none, dec := 0, outs := 0, inval := 3 }).raise (R.ADC_SDSTAT_RESYNC ch.val))) ∧
      (c.dec = 0 → exec (.sdSyncEvent ch) s = .next (s.setSd ch.val { c with syncAt := none }))) ∧
    (c.syncAt = none → exec (.sdSyncEvent ch) s = .next s) ∧
    (c.same = 128 → exec (.sdStuck ch) s = .next (s.raise (R.ADC_SDSTAT_STUCK ch.val)).fbScan) ∧
    (c.same ≠ 128 → exec (.sdStuck ch) s = .next s) ∧
    (s.busUp = true → exec (.sdStuckClear ch) s = .next (s.clear (R.ADC_SDSTAT_STUCK ch.val))) ∧
    (let d := c.integrate b
     d.i1 = c.i1 + (if b then 1 else -1) ∧ d.i2 = c.i2 + d.i1 ∧ d.i3 = c.i3 + d.i2)

/-! ## Position and speed (R137–R158) -/

/-- Encoder and Hall commands of a running, enabled sensor complete: a legal quadrature step moves POSCNT by one, modulo CPR, in the direction DIR gives, and an illegal one sets ILL and moves nothing; the first Z loads ZPOS, a later one sets ZERR where the circular difference of ZPOS and the count is above ZTOL and loads ZPOS with ZRST alone; a capture, on the PERCLK edge it falls on, takes PP × counts / (CPR × time), which is registered 8 PERCLK cycles later, and restarts the count; Hall codes 0b000 and 0b111 set ILL and keep the last angle, a code that is not adjacent sets SKIP, an adjacent one gives the speed 1 / (6 × Δt) with the sign of its direction and, with PAIR, sets PLAUS where the encoder disagrees (R152); HZTO microseconds without an edge read speed 0, and an earlier timeout command does nothing (R145–R151). -/
def Obligations.RotarySensorsComplete : Prop :=
  ∀ (s : State) (e : Fin 2) (a b : Bool) (code : Fin 8), s.posRuns = true →
    let x := s.enc e.val
    let ab := (if a then 2 else 0) + (if b then 1 else 0)
    let m := if s.get (R.POS_ECPR_CPR e.val) = 0 then 2 ^ 24 else s.get (R.POS_ECPR_CPR e.val)
    (s.on (R.POS_ECFG_EN e.val) = true →
      (∀ d : Int, d = 1 ∨ d = -1 → quadStep x.ab ab = some d →
        exec (.encoderCount e a b) s = .next ((s.setEnc e.val { x with
          ab := ab, dcount := x.dcount + (if s.on (R.POS_ECFG_DIR e.val) then -d else d), te := s.per }).put (R.POS_ECNT_POSCNT e.val)
            (((s.get (R.POS_ECNT_POSCNT e.val) : Int) + (if s.on (R.POS_ECFG_DIR e.val) then -d else d)) % (m : Int)).toNat)) ∧
      (quadStep x.ab ab = none → exec (.encoderCount e a b) s =
        .next ((s.setEnc e.val { x with ab := ab }).raise (R.POS_ESTAT_ILL e.val))) ∧
      (quadStep x.ab ab = some 0 → exec (.encoderCount e a b) s = .next s) ∧
      (s.on (R.POS_ESTAT_ZSEEN e.val) = false → exec (.encoderZ e) s =
        .next (((s.setEnc e.val { x with loaded := true }).put (R.POS_ECNT_POSCNT e.val) (s.get (R.POS_EZPOS_ZPOS e.val))).raise
          (R.POS_ESTAT_ZSEEN e.val))) ∧
      (s.on (R.POS_ESTAT_ZSEEN e.val) = true →
        let z := s.get (R.POS_EZPOS_ZPOS e.val)
        let p := s.get (R.POS_ECNT_POSCNT e.val)
        let far := s.get (R.POS_ECFG_ZTOL e.val) < min ((z + m - p % m) % m) ((p + m - z % m) % m)
        let u := if far then s.raise (R.POS_ESTAT_ZERR e.val) else s
        exec (.encoderZ e) s = .next (if s.on (R.POS_ECFG_ZRST e.val) = true then u.put (R.POS_ECNT_POSCNT e.val) z else u)) ∧
      (s.captureDue e.val = true → x.dcount ≠ 0 → x.tePrev < x.te → exec (.speedCapture e) s =
        .next (s.setEnc e.val { x with
          dcount := 0, tePrev := x.te, captured := s.cycle + 1
          spd := some (s.cycle / 4 + 8, (Fp32.ofIntRat ((s.get (R.POS_ECFG_PP e.val) : Int) * x.dcount * 150000000)
            (max 1 (s.get (R.POS_ECPR_CPR e.val)) * (x.te - x.tePrev))).v) })) ∧
      (s.captureDue e.val = false → exec (.speedCapture e) s = .next s) ∧
      (∀ d v, x.spd = some (d, v) → s.speedRegister e.val = (if d ≤ s.cycle / 4 then
        (s.setEnc e.val { x with spd := none }).put (R.POS_ESPD_VALUE e.val) v.toNat else s))) ∧
    (s.on (R.POS_HCFG_EN e.val) = true →
      let h := s.hallSet e.val
      let c := h.last
      let now := { last := code.val, tLast := some s.per, seen := some code.val : Hall }
      let valid := code ≠ 0 ∧ code ≠ 7
      let took := fun (t : State) => exec (.hallEdge e code) s = .next t ∧ t.get (R.POS_HSTAT_CODE e.val) = code.val ∧
        t.wheel = s.wheel ∧ t.mem = s.mem ∧ t.pos.enc = s.pos.enc
      let speed := fun (t : State) => t.get (R.POS_HSPD_VALUE e.val)
      (¬valid → ∃ t, took t ∧ t.on (R.POS_HSTAT_ILL e.val) = true ∧ t.hallSet e.val = { h with seen := some code.val } ∧ speed t = speed s) ∧
      (valid → c = 0 → ∃ t, took t ∧ t.hallSet e.val = { h with last := code.val, seen := some code.val } ∧ speed t = speed s ∧
        t.on (R.POS_HSTAT_ILL e.val) = s.on (R.POS_HSTAT_ILL e.val)) ∧
      (valid → c ≠ 0 → code.val ≠ c → s.hallNext e.val c ≠ code.val → s.hallNext e.val code.val ≠ c →
        ∃ t, took t ∧ t.on (R.POS_HSTAT_SKIP e.val) = true ∧ t.hallSet e.val = now ∧ speed t = speed s) ∧
      (valid → c ≠ 0 → code.val ≠ c → s.hallNext e.val c = code.val ∨ s.hallNext e.val code.val = c →
        ∃ t, took t ∧ t.hallSet e.val = now ∧ t.on (R.POS_HSTAT_SKIP e.val) = s.on (R.POS_HSTAT_SKIP e.val) ∧
          (h.tLast = none → speed t = speed s) ∧
          (∀ u, h.tLast = some u → u < s.per →
            speed t = (Fp32.ofRat (decide (s.hallNext e.val c ≠ code.val)) 150000000 (6 * (s.per - u))).v.toNat) ∧
          t.on (R.POS_HSTAT_PLAUS e.val) = (s.on (R.POS_HSTAT_PLAUS e.val) ||
            (s.on (R.POS_HCFG_PAIR e.val) && !s.hallAgrees e.val c code.val))) ∧
      (s.get (R.POS_HZTO_HZTO e.val) ≠ 0 → (∀ t, (s.hallSet e.val).tLast = some t → t + 150 * s.get (R.POS_HZTO_HZTO e.val) ≤ s.cycle / 4) →
        exec (.hallTimeout e) s = .next (s.clear (R.POS_HSPD_VALUE e.val))) ∧
      (∀ t, (s.hallSet e.val).tLast = some t → s.cycle / 4 < t + 150 * s.get (R.POS_HZTO_HZTO e.val) →
        exec (.hallTimeout e) s = .next s))

/-- SENT and resolver commands complete: the pulses of a land are taken one after the other; a synchronisation pulse within ±20 % of TICK, and within 1/64 of the one before, begins a frame and gives its tick, any other is flagged with SYNCERR (R154); the pulse that completes a frame of NIB data nibbles, each of 12 + v ticks, gives its data and clears the count where the checksum is right, and otherwise discards the frame, flagged and counted (R153, R155–R157); the monitors' events set their flags (R144), an age over AGEMAX sets STALE, and a write of 1 clears exactly the named flags of its resolver, encoder, Hall set or SENT channel (R12). An event command whose condition the state does not hold does nothing (assumption 3). -/
def Obligations.SentAndResolverCommandsComplete : Prop :=
  ∀ (s : State) (x : Fin 2) (j : Fin 4) (len : Nat) (more : List Nat) (mask : BitVec 8), s.posRuns = true → s.busUp = true →
    let c := s.sentCh j.val
    let nom := 56000 * s.get (R.POS_STICK_TICK j.val)
    let near := fun (k a b : Nat) => k * (a - b) ≤ b ∧ k * (b - a) ≤ b
    let ticks := (112 * len + c.sync) / (2 * c.sync)
    let nibs := c.nibs ++ [ticks - 12]
    let data := (nibs.drop 1).dropLast
    (s.on (R.POS_SCFG_EN j.val) = true →
      exec (.sentFrame j []) s = .next s ∧
      (∃ t, exec (.sentFrame j [len]) s = .next t ∧ exec (.sentFrame j (len :: more)) s = exec (.sentFrame j more) t) ∧
      (c.stage = .sync →
        (near 5 len nom → (c.prevSync = 0 ∨ near 64 len c.prevSync) → exec (.sentFrame j [len]) s =
          .next (s.setSent j.val { c with stage := .nibble, sync := len, nibs := [] })) ∧
        (¬near 5 len nom ∨ (c.prevSync ≠ 0 ∧ ¬near 64 len c.prevSync) → exec (.sentFrame j [len]) s =
          .next ((s.setSent j.val { c with stage := .hunt, nibs := [], slow := [] }).raise (R.POS_SSTAT_SYNCERR j.val)))) ∧
      (c.stage = .nibble → c.sync ≠ 0 → 12 ≤ ticks → ticks ≤ 27 →
        (nibs.length ≠ s.get (R.POS_SCFG_NIB j.val) + 2 → exec (.sentFrame j [len]) s = .next (s.setSent j.val { c with nibs := nibs })) ∧
        (nibs.length = s.get (R.POS_SCFG_NIB j.val) + 2 →
          (sentCrc (s.on (R.POS_SCFG_CRCMODE j.val)) data ≠ nibs.getLastD 0 → exec (.sentFrame j [len]) s =
            .next (((s.setSent j.val { c with stage := .afterCrc, nibs := [], slow := [] }).raise (R.POS_SSTAT_CRCERR j.val)).bumpSat
              (R.POS_SSTAT_CRCCNT j.val))) ∧
          (sentCrc (s.on (R.POS_SCFG_CRCMODE j.val)) data = nibs.getLastD 0 → ∃ t, exec (.sentFrame j [len]) s = .next t ∧
            t.get (R.POS_SSTAT_CRCCNT j.val) = 0 ∧ t.get (R.POS_SDATA_STATUS j.val) = nibs.headD 0 % 16 ∧
            t.get (R.POS_SDATA_FC1 j.val) = nib3 data 0 % 4096 ∧ (t.sentCh j.val).good = true ∧
            (t.sentCh j.val).prevSync = c.sync ∧ (t.sentCh j.val).tGood = some s.cycle ∧
            t.on (R.POS_SSTAT_STALE j.val) = false ∧ t.wheel = s.wheel ∧ t.mem = s.mem))) ∧
      (s.get (R.POS_SAGEMAX_AGEMAX j.val) ≠ 0 → ∀ t, c.tGood = some t →
        exec (.sentAgeExpiry j) s = .next (if 600 * s.get (R.POS_SAGEMAX_AGEMAX j.val) < s.cycle - t then
          s.raise (R.POS_SSTAT_STALE j.val) else s))) ∧
    (s.get (R.POS_RXCFG_PER x.val) ≠ 0 → exec (.excoc x) s = .next (s.raise (R.POS_RXSTAT_EXCOC x.val)) ∧
      (s.dev = .run → 4 * s.get (R.POS_RXCFG_PER x.val) ≤ (s.exc x.val).since →
        exec (.noest x) s = .next (s.raise (R.POS_RXSTAT_NOEST x.val)))) ∧
    ((s.exc x.val).since < 4 * s.get (R.POS_RXCFG_PER x.val) → exec (.noest x) s = .next s) ∧
    (∀ e : Fin 2, ∀ p ∈ [(PosUnit.res x, [R.POS_RXSTAT_AMPF x.val, R.POS_RXSTAT_LOS x.val, R.POS_RXSTAT_NOEST x.val, R.POS_RXSTAT_EXCOC x.val]),
        (.enc e, [R.POS_ESTAT_ILL e.val, R.POS_ESTAT_ZERR e.val, R.POS_ESTAT_PLAUS e.val]),
        (.hall e, [R.POS_HSTAT_ILL e.val, R.POS_HSTAT_SKIP e.val, R.POS_HSTAT_PLAUS e.val]),
        (.sent j, [R.POS_SSTAT_CRCERR j.val, R.POS_SSTAT_SYNCERR j.val])],
      ∃ t, exec (.posFlagClear p.1 mask) s = .next t ∧ t.pos = s.pos ∧ t.wheel = s.wheel ∧ t.mem = s.mem ∧
        (∀ f ∈ p.2, t.on f = (s.on f && !mask.toNat.testBit f.lo)) ∧
        ∀ f : Fld, (∀ g ∈ p.2, f.key ≠ g.key) → t.get f = s.get f)

/-! ## Loops, coefficients and the RCU (R159–R188) -/

/-- Loop commands complete: a feedback loss of a loop in CLOSING or CLOSED sets FBL with its cause and time; FBL clears only where no source keeps the condition; a coefficient write is taken where the lock allows it and otherwise discarded with COEF_REJ, in SAFE_HOLD as elsewhere, CWADDR advancing either way with AINC; CLR zeroes a channel's bins and no other's, reading 1 for up to 4 µs; TDATA reads and writes one bin, a write that the lock bars setting COEF_REJ for a bound channel, and BIN advances either way with AINC (R170–R174, R180, R185, R188). -/
def Obligations.LoopCommandsComplete : Prop :=
  ∀ (s : State) (l ch : Fin 8) (v : Word) (c src : Nat), s.busUp = true →
    (s.dev = .run → s.closedSide l.val = true → s.on (R.LOOP_LSTAT_FBL l.val) = false → s.fbCond l.val = some (c, src) →
      exec (.feedbackLoss l) s = .next ((((((s.raise (R.LOOP_LSTAT_FBL l.val)).put (R.LOOP_LSTAT_FBCAUSE l.val) c).put
        (R.LOOP_LSTAT_FBSRC l.val) src).put (R.LOOP_FBTS_TSC l.val) s.tsc).setLoop l.val
          { s.loop l.val with forced := true }).sync)) ∧
    (s.dev ≠ .safeHold → s.fbSource l.val = none → exec (.fblClear l) s =
      .next ((s.clear (R.LOOP_LSTAT_FBL l.val)).setLoop l.val { s.loop l.val with declared := false }).sync) ∧
    (s.dev = .safeHold ∨ (s.fbSource l.val).isSome = true → exec (.fblClear l) s = .next s) ∧
    (s.on R.LOOP_CWADDR_AINC = false →
      exec (.cwdataWrite v) s = .next (if s.coefOpen (s.get R.LOOP_CWADDR_ADDR) then
          { s with mem := { s.mem with
            cmem := Sparse.set 0#32 s.mem.cmem (s.get R.LOOP_CWADDR_ADDR) v,
            cerr := Sparse.set 0 s.mem.cerr (s.get R.LOOP_CWADDR_ADDR) 0 } }
        else s.raise R.LOOP_STAT_COEF_REJ)) ∧
    (s.on R.LOOP_CWADDR_AINC = true → ∃ t, exec (.cwdataWrite v) s = .next t ∧
      t.get R.LOOP_CWADDR_ADDR = (s.get R.LOOP_CWADDR_ADDR + 1) % 2 ^ R.LOOP_CWADDR_ADDR.width ∧
      t.coefWord (s.get R.LOOP_CWADDR_ADDR) = (if s.coefOpen (s.get R.LOOP_CWADDR_ADDR) then v
        else s.coefWord (s.get R.LOOP_CWADDR_ADDR)) ∧
      (∀ a, a ≠ s.get R.LOOP_CWADDR_ADDR → t.coefWord a = s.coefWord a) ∧ t.wheel = s.wheel) ∧
    (s.hasRcu = true →
      (s.dev = .ready → ∃ t, exec (.rcuClr ch) s = .next t ∧
        (∀ k b, b < 2048 → Sparse.get 0#32 t.rcu.tab (2048 * k + b) =
          (if k = ch.val then 0#32 else Sparse.get 0#32 s.rcu.tab (2048 * k + b))) ∧ t.regs = s.regs ∧ t.wheel = s.wheel ∧
        s.cycle < Sparse.get 0 t.rcu.clrEnd ch.val ∧ Sparse.get 0 t.rcu.clrEnd ch.val ≤ s.cycle + 2400) ∧
      (s.on (R.RCU_TPTR_AINC ch.val) = false →
        exec (.tdataRead ch) s =
          .next { s with rdata := (Sparse.get 0#32 s.rcu.tab (2048 * ch.val + s.get (R.RCU_TPTR_BIN ch.val))).toNat } ∧
        (s.rcuOpen ch.val = true → exec (.tdataWrite ch v) s = .next { s with rcu := { s.rcu with
          tab := Sparse.set 0#32 s.rcu.tab (2048 * ch.val + s.get (R.RCU_TPTR_BIN ch.val)) v,
          err := Sparse.set 0 s.rcu.err (2048 * ch.val + s.get (R.RCU_TPTR_BIN ch.val)) 0 } }) ∧
        (s.rcuOpen ch.val = false → exec (.tdataWrite ch v) s =
          .next (if s.on (R.RCU_CFG_BOUND ch.val) = true then s.raise R.LOOP_STAT_COEF_REJ else s))) ∧
      (s.on (R.RCU_TPTR_AINC ch.val) = true → ∀ c ∈ [Instr.tdataRead ch, .tdataWrite ch v], ∃ t, exec c s = .next t ∧
        t.get (R.RCU_TPTR_BIN ch.val) = (s.get (R.RCU_TPTR_BIN ch.val) + 1) % 2 ^ (R.RCU_TPTR_BIN ch.val).width ∧
        t.wheel = s.wheel ∧ t.mem = s.mem ∧ ∀ key, key ≠ 2048 * ch.val + s.get (R.RCU_TPTR_BIN ch.val) →
          Sparse.get 0#32 t.rcu.tab key = Sparse.get 0#32 s.rcu.tab key))

/-- At each TURN_START a loop takes its step of R160–R162: OPENING ends after its count, a forced cause in any cycle since the last TURN_START forces it, a stop request opens it, CLOSING ends after its count in CLOSED with the measured value as the seed, or without a measurement in OPEN with code 0x6; the hold of an inverter stands exactly where an enabled current loop of it is OPEN (R167); a ramp whose loop enters CLOSED takes the seed exactly, one that is unbound or whose loop was CLOSED steps toward its clamped target by at most RISE or FALL, and every other holds (R177, R178); the learning angles are cleared. At RUN entry output and target are 0.0 clamped (R179). RCU.RD records x and gives the bin, or the value between two bins, of p at the end of c + 5, and for a NaN or an infinity 0.0 without an angle (R181). RCU.LRN is discarded and counted under the conditions of R183, which FRZ shows, and otherwise writes clamp(fp32(α × T) + β × e) to its bin by the end of c + 3 (R182), and no other bin. The bins read have no flipped bit. -/
def Obligations.LoopsRampsAndRcu : Prop :=
  (∀ s : State, s.dev = .run → s.wheel.matched = true → s.cycle = s.wheel.matchAt + 4 → ∃ t, exec .turnStart s = .next t ∧
     t.mem = s.mem ∧ t.rcu.angle = [] ∧ t.rcu.tab = s.rcu.tab ∧
     (∀ l : Fin 8,
       let st := s.loopState l.val
       let n := (s.loop l.val).cnt + 1
       let was := s.on (R.LOOP_LSTAT_FORCED l.val)
       let forced := (s.loop l.val).forced || s.safeApplied (s.loopInv l.val) || s.on (R.LOOP_LSTAT_FBL l.val)
       let nxt := if st = 3 then (if (if was then 1 else s.get (R.LOOP_CFG_OPENN l.val) + 1) ≤ n then 0 else 3)
         else if (st = 1 ∨ st = 2) ∧ (forced || s.stopping) = true then 3
         else if st ≠ 1 ∨ n < s.get (R.LOOP_CFG_CLOSEN l.val) + 1 then st
         else if (s.loop l.val).meas then 2 else 0
       t.loopState l.val = nxt ∧
       (nxt = 3 → t.on (R.LOOP_LSTAT_FORCED l.val) = (forced || (decide (st = 3) && was))) ∧
       (t.loop l.val).cnt = (if nxt = st ∧ (st = 3 → was = true ∨ forced = false) then n else 0) ∧
       (t.loop l.val).forced = false ∧
       t.get (R.LOOP_SEED_VALUE l.val) = (if st = 1 ∧ nxt = 2 then s.get (R.LOOP_MEASV_VALUE l.val) % 2 ^ 32 else s.get (R.LOOP_SEED_VALUE l.val)) ∧
       t.get (R.LOOP_LSTAT_REJ l.val) = (if st = 1 ∧ nxt = 0 then 6 else s.get (R.LOOP_LSTAT_REJ l.val))) ∧
     (∀ v : Fin 2, t.on (R.LOOP_INVCFG_HOLD v.val) = true ↔ ∃ l : Fin 8, s.on (R.LOOP_CFG_EN l.val) = true ∧
       s.get (R.LOOP_CFG_TYPE l.val) = 1 ∧ s.loopInv l.val = v.val ∧ t.loopState l.val = 0) ∧
     (∀ u : Fin 8,
       let l := s.get (R.LOOP_RCFG_LOOPSEL u.val)
       let bound := s.on (R.LOOP_RCFG_BOUND u.val)
       let lo := s.word (R.LOOP_RTMIN_VALUE u.val)
       let hi := s.word (R.LOOP_RTMAX_VALUE u.val)
       let tgt := let x := s.word (R.LOOP_RTGT_VALUE u.val); if Fp32.lt x lo then lo else if Fp32.lt hi x then hi else x
       let out := s.word (R.LOOP_ROUT_VALUE u.val)
       let rise := s.word (R.LOOP_RRISE_VALUE u.val)
       let fall := s.word (R.LOOP_RFALL_VALUE u.val)
       let d := (Fp32.sub tgt out).v
       let seed := s.word (R.LOOP_MEASV_VALUE l)
       t.get (R.LOOP_RTGT_VALUE u.val) = s.get (R.LOOP_RTGT_VALUE u.val) ∧
       (bound = true → t.loopState l = 2 → s.loopState l ≠ 2 → t.word (R.LOOP_ROUT_VALUE u.val) = seed ∧
         t.on (R.LOOP_RSTAT_SEEDOUT u.val) = (s.on (R.LOOP_RSTAT_SEEDOUT u.val) || Fp32.lt seed lo || Fp32.lt hi seed)) ∧
       (bound = false ∨ (t.loopState l = 2 ∧ s.loopState l = 2) → t.word (R.LOOP_ROUT_VALUE u.val) =
         (if Fp32.lt 0#32 d then (if Fp32.le d rise then tgt else (Fp32.add out rise).v)
          else if Fp32.lt d 0#32 then (if Fp32.le (Fp32.neg d).v fall then tgt else (Fp32.sub out fall).v) else out)) ∧
       (bound = true → t.loopState l ≠ 2 → t.word (R.LOOP_ROUT_VALUE u.val) = out))) ∧
  (∀ (s : State) (u : Fin 8), s.runDue = true → s.dev = .ready → s.cycle % 2 = 0 →
     let lo := s.word (R.LOOP_RTMIN_VALUE u.val)
     let hi := s.word (R.LOOP_RTMAX_VALUE u.val)
     let z := if Fp32.lt 0#32 lo then lo else if Fp32.lt hi 0#32 then hi else 0#32
     s.runTick.word (R.LOOP_ROUT_VALUE u.val) = z ∧ s.runTick.word (R.LOOP_RTGT_VALUE u.val) = z) ∧
  (∀ (s : State) (ch : Fin 8) (g : Fin 128) (theta : Word), (∀ k, Sparse.get 0 s.rcu.err k = 0) →
     let T := fun k => Sparse.get 0#32 s.rcu.tab (2048 * ch.val + k)
     let rd := s.takeEffect (.rcuRead ch.val g.val theta)
     (qWord theta = none → rd = s.inFlight [(s.cycle + 4, .setG g.val 0#32 0)]) ∧
     (∀ q, qWord theta = some q →
       let x := qPack (qSub q (qInt (qFloor q)))
       let p := (Fp32.fma (Fp32.ofRat false (s.get (R.RCU_CFG_LEAD ch.val)) 1).v x 0x45000000#32).v
       ∀ r, qWord p = some r →
         let k := (qFloor r % 2048).toNat
         let f := qPack (qSub r (qInt (qFloor r)))
         ∃ v, rd = { s with rcu := { s.rcu with angle := Sparse.set none s.rcu.angle ch.val (some x) } }.inFlight [(s.cycle + 4, .setG g.val v 0)] ∧
           (Fp32.eq f 0#32 = true → v = T k) ∧
           (Fp32.eq f 0#32 = false → ∀ a b c, qWord (T k) = some a → qWord (T ((k + 1) % 2048)) = some b → qWord f = some c →
             v = qPack (qAdd a (qMul c (qSub b a)))))) ∧
  (∀ (s : State) (ch : Fin 8) (e : Word), (∀ k, Sparse.get 0 s.rcu.err k = 0) → Fp32.notFinite e = false →
     let l := s.get (R.RCU_CFG_LOOPSEL ch.val)
     let src := s.get (R.RCU_CFG_SPDSRC ch.val)
     let bound := s.on (R.RCU_CFG_BOUND ch.val)
     let beta := s.word (R.RCU_BETA_VALUE ch.val)
     let angle := Sparse.get none s.rcu.angle ch.val
     let why := [!s.on (R.RCU_CFG_LEARN ch.val) || Fp32.eq beta 0#32, !bound || decide (s.loopState l ≠ 2),
       bound && s.on (R.LOOP_LSTAT_FBL l), !s.posValid src,
       Fp32.lt (Fp32.abs (s.posValue src)).v (s.word (R.RCU_SPDMIN_VALUE ch.val)), angle.isNone]
     let after := s.takeEffect (.rcuLearn ch.val e)
     (why.any id = true → after.wheel = s.wheel ∧ after.rcu = s.rcu ∧
       (∀ i : Fin 6, (after.get (R.RCU_CSTAT_FRZ ch.val)).testBit i.val = why.getD i.val false) ∧
       after.get (R.RCU_CNT_FRZCNT ch.val) = (s.bumpSat (R.RCU_CNT_FRZCNT ch.val)).get (R.RCU_CNT_FRZCNT ch.val)) ∧
     (why.any id = false → ∀ x q, angle = some x → qWord x = some q →
       let k := (qFloor (qAdd (qMul q (qInt 2048)) (1, 2)) % 2048).toNat
       let lim := s.word (R.RCU_TLIM_VALUE ch.val)
       let low := (Fp32.neg lim).v
       ∀ T : Word, ((∃ c, s.wheel.inflight.getLast? = some (c, .rcuWrite ch.val k T)) ∨
           ((∀ f ∈ s.wheel.inflight, ∀ w, f.2 ≠ .rcuWrite ch.val k w) ∧ T = Sparse.get 0#32 s.rcu.tab (2048 * ch.val + k))) →
         let y := (Fp32.fma (Fp32.mul (s.word (R.RCU_ALPHA_VALUE ch.val)) T).v beta e).v
         let z := if Fp32.lt lim y then lim else if Fp32.lt y low then low else y
         after = (s.inFlight [(s.cycle + 2, .rcuWrite ch.val k z)]).bumpSat (R.RCU_CNT_LRNCNT ch.val) ∧
         ∀ key, Sparse.get 0#32 (after.takeEffect (.rcuWrite ch.val k z)).rcu.tab key =
           (if key = 2048 * ch.val + k then z else Sparse.get 0#32 s.rcu.tab key)))

/-! ## PWM (R189–R217) -/

/-- Timebase events and edges complete, each in the cycle the counters give it: at a zero event every generator that reloads there takes its shadows, and an inverter that commutates there takes its stage; at a peak event of an up-down timebase every generator that reloads there takes its shadows; a compare crossing forms the leg's commands through the dead-time stage, or the auxiliary level, at its fine unit; a dead time that has run turns on the waiting switch, whose turn-on goes on its way to the island; a COMM land edge selected by PINEDGE, once FILT consecutive samples have shown its level, commutates in the third cycle after that the present inverters that name the land, and no other (R190, R193, R194, R197, R201, R203, R212, R213). An event command in another cycle does nothing (assumption 3). -/
def Obligations.PwmEventsComplete : Prop :=
  ∀ (s : State) (t : Fin 4) (n : Fin 8) (m : Fin 6) (fine : Fin 32) (rising : Bool) (k : Nat),
    let same := fun (z : State) => z.mem = s.mem ∧ z.wheel = s.wheel ∧ z.queues = s.queues ∧ z.otp = s.otp ∧ z.dev = s.dev ∧
      z.tbCount t.val = s.tbCount t.val
    (s.zeroDue t.val = true → ∃ z, exec (.zeroEvent t) s = .next z ∧ z.tbCount t.val = 0 ∧ z.zeroDue t.val = false ∧
      (∀ g : Fin 8, s.genPresent g.val = true → s.genTb g.val = t.val → s.rldZero g.val = true →
        z.get (R.PWM_CMPB_VALUE g.val) = (s.gen g.val).shB % 2 ^ (R.PWM_CMPB_VALUE g.val).width) ∧
      (s.on R.PWM_DBG_FROZEN = false → ∀ v : Fin 2, v.val < s.nInv → s.get (commSrc v.val) = 0 → s.genTb (3 * v.val) = t.val →
        z.get (R.PWM_FACT_CODE v.val) =
          commute (s.get (R.PWM_FACT_CODE v.val)) (s.get (R.PWM_FSTAGE_CODE v.val)) (s.get (R.PWM_FSTAGE_MASK v.val)) % 512) ∧ same z) ∧
    (s.zeroDue t.val = false → exec (.zeroEvent t) s = .next s) ∧
    (s.peakDue t.val = true → ∃ z, exec (.peakEvent t) s = .next z ∧ z.tbCount t.val = s.tbP t.val ∧ z.peakDue t.val = false ∧
      (∀ g : Fin 8, s.genPresent g.val = true → s.genTb g.val = t.val → s.rldPeak g.val = true →
        z.get (R.PWM_CMPB_VALUE g.val) = (s.gen g.val).shB % 2 ^ (R.PWM_CMPB_VALUE g.val).width) ∧ same z) ∧
    (s.peakDue t.val = false → exec (.peakEvent t) s = .next s) ∧
    (s.dev = .run → s.on R.PWM_DBG_FROZEN = false → s.on (R.LOOP_INVCFG_HOLD (m.val / 3)) = false →
      s.get (R.PWM_FACT_CODE (m.val / 3)) = 0 → s.on (R.PWM_GSTAT_LIVE m.val) = true → s.legIndep m.val = false →
      m.val < s.nLeg →
      let h := decide (s.tbPos (s.genTb m.val) fine.val < s.get (R.PWM_CMPA_VALUE m.val))
      ∃ z, exec (.edgeChannelEdge ⟨m.val, by omega⟩ fine) s = .next z ∧
        z.gen m.val = deadTime (s.gen m.val) h (!h) true false (s.get (R.PWM_DTACT_DTR m.val)) (s.get (R.PWM_DTACT_DTF m.val))
          s.slack (s.edgeTime fine.val) ∧
        (∀ k : Fin 8, k.val ≠ m.val → z.gen k.val = s.gen k.val) ∧ z.regs = s.regs ∧ same z) ∧
    (6 ≤ n.val → s.on R.PWM_DBG_FROZEN = false →
      let x := s.tbPos (s.genTb n.val) fine.val
      exec (.edgeChannelEdge n fine) s = .next (s.setGen n.val { s.gen n.val with
        aux := s.genLive n.val && decide (s.get (R.PWM_CMPB_VALUE n.val) ≤ x) && decide (x < s.get (R.PWM_CMPA_VALUE n.val)) })) ∧
    (n.val < 6 → s.dev ≠ .run ∨ s.on R.PWM_DBG_FROZEN = true → exec (.edgeChannelEdge n fine) s = .next s) ∧
    (s.dev = .run → s.on R.PWM_DBG_FROZEN = false →
      let g := s.gen m.val
      let now := s.edgeTime fine.val + s.slack
      (g.pendH = true → g.cmdL = false → g.offL + s.get (R.PWM_DTACT_DTR m.val) ≤ now →
        ∃ z, exec (.deadTimeExpiry m true fine) s = .next z ∧ z.gen m.val = { g with outH := true, pendH := false } ∧
          z.commanded (2 * m.val) = true ∧ z.regs = s.regs ∧ same z) ∧
      (g.pendL = true → g.cmdH = false → g.offH + s.get (R.PWM_DTACT_DTF m.val) ≤ now →
        ∃ z, exec (.deadTimeExpiry m false fine) s = .next z ∧ z.gen m.val = { g with outL := true, pendL := false } ∧
          z.commanded (2 * m.val + 1) = true ∧ z.regs = s.regs ∧ same z) ∧
      (now < g.offL + s.get (R.PWM_DTACT_DTR m.val) → exec (.deadTimeExpiry m true fine) s = .next s) ∧
      (now < g.offH + s.get (R.PWM_DTACT_DTF m.val) → exec (.deadTimeExpiry m false fine) s = .next s)) ∧
    (s.dev = .run → s.bit R.PWM_COMMCFG_PINEDGE (if rising then 0 else 1) = true → k = max 1 (s.get R.PWM_COMMCFG_FILT) →
      exec (.commLandEdge rising k) s = .next { s with pwm := { s.pwm with landAt := s.pwm.landAt ++ [s.cycle + 3] } }) ∧
    (s.dev = .run → s.on R.PWM_DBG_FROZEN = false → (∃ d ∈ s.pwm.landAt, d ≤ s.cycle) →
        let z := s.landTick
        (∀ v : Fin 2, v.val < s.nInv →
          z.get (R.PWM_FACT_CODE v.val) = (if 2 ≤ s.get (commSrc v.val) then
            commute (s.get (R.PWM_FACT_CODE v.val)) (s.get (R.PWM_FSTAGE_CODE v.val)) (s.get (R.PWM_FSTAGE_MASK v.val)) % 512
          else s.get (R.PWM_FACT_CODE v.val)) ∧
          z.on (R.PWM_FSTAGE_PEND v.val) = (s.on (R.PWM_FSTAGE_PEND v.val) && decide (s.get (commSrc v.val) < 2))) ∧
        (∀ d, d ∈ z.pwm.landAt ↔ d ∈ s.pwm.landAt ∧ s.cycle < d) ∧ same z) ∧
    ((∀ d ∈ s.pwm.landAt, s.cycle < d) → s.landTick = s) ∧
    (s.dev ≠ .run ∨ s.bit R.PWM_COMMCFG_PINEDGE (if rising then 0 else 1) = false ∨ k ≠ max 1 (s.get R.PWM_COMMCFG_FILT) →
      exec (.commLandEdge rising k) s = .next s)

/-- Neither gate command of a leg can be on while the other is, in complementary mode and after R202: whatever the dead-time stage is given, in independent mode a change of the source included (R168, R204), it never drives both switches from commands of which at most one is on, and it turns no switch on while the other command is on or before its dead time has passed (R201–R203), less the fine units that a missing delay line truncates (R196). -/
def Obligations.DeadTimeKeepsSwitchesApart : Prop :=
  ∀ (g : Gen) (h l byCmp indep : Bool) (dtr dtf slack t : Nat), (h && l) = false → (g.outH && g.outL) = false →
    (g.outH = true → g.cmdH = true) → (g.outL = true → g.cmdL = true) → (byCmp && indep && g.byCmp) = false →
    let g' := deadTime g h l byCmp indep dtr dtf slack t
    (g'.outH && g'.outL) = false ∧ (g'.outH = true → g'.cmdH = true) ∧ (g'.outL = true → g'.cmdL = true) ∧
    (g'.outH = true → g.outH = false → g'.offL + dtr ≤ t + slack ∧ g'.cmdL = false) ∧
    (g'.outL = true → g.outL = false → g'.offH + dtf ≤ t + slack ∧ g'.cmdH = false)

/-- PWM configuration commands complete: an acceptable write of a timebase register in READY is stored and restarts the timebases, any other is refused with CFGREJ; an ARM off a reload edge takes the staged pair of every named generator into the shadows, one at or just before a reload edge B takes the same values in cycle B + 1 with LATE (R198), a refused one sets ARMREJ and an empty mask does nothing; a stage write of codes 0–4 by the writer FSRC names is stored, after the commutation of its own cycle (R212), any other is refused; loss of the delay line's lock sets DLLERR (R189, R191, R196, R198, R199, R211). -/
def Obligations.PwmConfigurationCompletes : Prop :=
  ∀ (s : State) (t : Fin 4) (v : Fin 2) (w : Word) (mask : BitVec 8), s.busUp = true →
    let code := w.toNat % 512
    (s.dev = .ready →
      (s.tbWriteOk 1 t.val w.toNat = true → exec (.timebaseConfigWrite 1 t w) s =
        .next { s.put (R.PWM_TBPER_P t.val) w.toNat with pwm := { s.pwm with restart := true } }) ∧
      (s.tbWriteOk 0 t.val w.toNat = true → exec (.timebaseConfigWrite 0 t w) s =
        .next { s.put (R.PWM_TBCFG_MODE t.val) w.toNat with pwm := { s.pwm with restart := true } }) ∧
      (s.tbWriteOk 2 t.val w.toNat = false → exec (.timebaseConfigWrite 2 t w) s = .next (s.raise R.PWM_STAT_CFGREJ))) ∧
    (mask = 0#8 → exec (.arm mask) s = .next s) ∧
    (mask ≠ 0#8 → s.armRefused mask.toNat = true → exec (.arm mask) s = .next (s.raise R.PWM_STAT_ARMREJ)) ∧
    (mask ≠ 0#8 → s.armRefused mask.toNat = false → ((maskList mask.toNat).head?.bind s.armEdge) = none →
      ∃ z, exec (.arm mask) s = .next z ∧
        (∀ n : Fin 8, (z.gen n.val).shA = (if mask.toNat.testBit n.val then s.get (R.PWM_SCMPA_VALUE n.val) else (s.gen n.val).shA) ∧
          (z.gen n.val).shB = (if mask.toNat.testBit n.val then s.get (R.PWM_SCMPB_VALUE n.val) else (s.gen n.val).shB)) ∧
        z.regs = s.regs ∧ z.wheel = s.wheel ∧ z.mem = s.mem ∧ z.isl = s.isl) ∧
    (mask ≠ 0#8 → s.armRefused mask.toNat = false → ∀ k, ((maskList mask.toNat).head?.bind s.armEdge) = some k →
      ∃ z, exec (.arm mask) s = .next z ∧ z.get R.PWM_ARM_GEN = mask.toNat ∧
        z.pwm.arm = some { due := s.cycle + k + 1, mask := mask.toNat, vals := (maskList mask.toNat).map fun n =>
          (n, s.get (R.PWM_SCMPA_VALUE n), s.get (R.PWM_SCMPB_VALUE n)) } ∧
        (∀ n : Fin 8, z.on (R.PWM_GSTAT_LATE n.val) = (s.on (R.PWM_GSTAT_LATE n.val) || mask.toNat.testBit n.val)) ∧
        z.pwm.gen = s.pwm.gen ∧ z.wheel = s.wheel ∧ z.mem = s.mem ∧ z.isl = s.isl) ∧
    (v.val < s.nInv → s.on (forceSrc v.val) = false → code % 8 ≤ 4 → code / 8 % 8 ≤ 4 → code / 64 ≤ 4 →
      let stored := fun u : State => (((u.put (R.PWM_FSTAGE_CODE v.val) code).put (R.PWM_FSTAGE_MASK v.val)
        (w.toNat / 4096 % 8)).raise (R.PWM_FSTAGE_PEND v.val))
      ((∀ e ∈ s.wheel.inflight, s.cycle < e.1) → exec (.fstageWrite v w) s = .next (stored s)) ∧
      (∀ d m, s.wheel.inflight = [(d, .comm m)] → d ≤ s.cycle →
        exec (.fstageWrite v w) s = .next (stored ({ s with wheel := { s.wheel with inflight := [] } }.takeEffect (.comm m))))) ∧
    (v.val < s.nInv → 4 < code % 8 → exec (.fstageWrite v w) s = .next (s.raise R.PWM_STAT_CFGREJ)) ∧
    (s.on R.PWM_STAT_DLLLOCK = true → exec .dllLockLoss s =
      .next ((s.clear R.PWM_STAT_DLLLOCK).raise R.PWM_STAT_DLLERR))

/-! ## Islands (R218–R252) -/

/-- Fault commands of a present island complete: a VKP above SCTH seen from SCBLK + 5 ns after a turn-on, a V(DSAT) above DSATTH seen from DSATBLK + 5 ns after it, a supply outside its window after SUPRDY and a die above OTTH each set their latch and turn the output off, and a used leg's island latches its Saggar input; before SUPRDY an under-voltage or over-temperature is reported and latches nothing; a detector that is off, an island that is off and a value inside its bounds latch nothing (R225–R233, R240, R253). The Wheel, the memories and the queues are untouched. -/
def Obligations.IslandFaultsTurnOff : Prop :=
  ∀ (s : State) (i : Fin 12) (vkp vds : Nat) (vcc vee tj : Int), s.islPresent i.val = true →
    let x := s.island i.val
    let c := x.cfg
    let lowC := decide (vcc < 10000 + 500 * (c.vccth : Int))
    let lowE := if c.vneg then decide (500 < vee ∨ vee < -500) else decide (-1500 - 500 * (c.veeth : Int) < vee)
    let off := fun (t : State) => (t.island i.val).out = false ∧ t.wheel = s.wheel ∧ t.mem = s.mem ∧ t.queues = s.queues ∧
      t.otp = s.otp ∧ t.dev = s.dev ∧
      (s.sagActs = true → s.legUnused (legOfIsl i.val) = false →
        (t.get (R.SAGGAR_LATCH_INPUTS (invOfIsl i.val))).testBit (12 + i.val % 6) = true)
    (x.out = true → c.scen = true → x.onAt + 3 * c.scblk + 3 ≤ s.cycle → scThreshold c < vkp →
      ∃ t, exec (.fltSc i vkp) s = .next t ∧ (t.island i.val).sc = true ∧ off t) ∧
    (x.out = true → c.dsaten = true → x.onAt + 60 * c.dsatblk + 3 ≤ s.cycle → 3000 + 500 * c.dsatth < vds →
      ∃ t, exec (.fltDsat i vds) s = .next t ∧ (t.island i.val).dsat = true ∧ off t) ∧
    (x.powered = true → x.suprdy = true → (lowC || lowE) = true → ∃ t, exec (.fltUvlo i vcc vee) s = .next t ∧
      (t.island i.val).uvcc = (x.uvcc || lowC) ∧ (t.island i.val).uvee = (x.uvee || lowE) ∧ (t.island i.val).uvcond = true ∧ off t) ∧
    (x.powered = true → x.suprdy = false → (lowC || lowE) = true → ∃ t, exec (.fltUvlo i vcc vee) s = .next t ∧
      (t.island i.val).uvcond = true ∧ (t.island i.val).latched = x.latched ∧ (t.island i.val).out = false ∧
      t.wheel = s.wheel ∧ t.mem = s.mem) ∧
    (x.powered = true → x.suprdy = true → (130 + 5 * (c.otth : Int)) * 16 < tj →
      ∃ t, exec (.fltOt i tj) s = .next t ∧ (t.island i.val).ot = true ∧ off t) ∧
    (x.powered = true → x.suprdy = false → (130 + 5 * (c.otth : Int)) * 16 < tj → ∃ t, exec (.fltOt i tj) s = .next t ∧
      (t.island i.val).otcond = true ∧ (t.island i.val).latched = x.latched ∧ t.wheel = s.wheel ∧ t.mem = s.mem) ∧
    (x.out = false ∨ c.scen = false ∨ vkp ≤ scThreshold c → exec (.fltSc i vkp) s = .next s) ∧
    (x.out = false ∨ c.dsaten = false ∨ vds ≤ 3000 + 500 * c.dsatth → exec (.fltDsat i vds) s = .next s) ∧
    ((lowC || lowE) = false → exec (.fltUvlo i vcc vee) s = .next s) ∧
    (tj ≤ (130 + 5 * (c.otth : Int)) * 16 → exec (.fltOt i tj) s = .next s)

/-- The islands' timers, supplies and EN lands complete: a soft turn-off ends with the switch off and CLMP engaged; a plateau and an ASCDT wait end with the output as R221 and R239 give it; from 4 V the island is powered, each monitor's under-voltage ends at its own rising threshold, and with both ended SUPRDY is set; below 4 V it loses its latches, its training and its output; EN low turns every settled island of its inverter off, and EN high after a low time of at least 2.0 µs clears each latch whose condition is gone, after at most 1.5 µs none (R220–R222, R225–R227, R233–R235, R239, R246). -/
def Obligations.IslandTimersSuppliesAndEnComplete : Prop :=
  ∀ (s : State) (i : Fin 12) (v : Fin 2) (low : Nat) (vkp : BitVec 12) (vcc vee : Int), s.IslandsSettled → s.islPresent i.val = true →
    let x := s.island i.val
    let same := fun (t : State) => t.wheel = s.wheel ∧ t.mem = s.mem ∧ t.queues = s.queues ∧ t.dev = s.dev ∧ t.otp = s.otp
    let back := if x.cfg.vneg then decide (-500 ≤ vee ∧ vee ≤ 500) else decide (vee ≤ -1800 - 500 * (x.cfg.veeth : Int))
    let lowC := (x.lowC || !x.powered) && decide (vcc < 10800 + 500 * (x.cfg.vccth : Int))
    let lowE := (x.lowE || !x.powered) && !back
    (x.soft = true → x.powered = true → ∃ t, exec (.softTurnOffEnd i) s = .next t ∧ (t.island i.val).soft = false ∧
      (t.island i.val).clmp = true ∧ (t.island i.val).out = false ∧ (t.island i.val).latched = x.latched ∧ t.regs = s.regs ∧ same t) ∧
    (x.soft = false → exec (.softTurnOffEnd i) s = .next s) ∧
    (x.plateau = true → ∃ t, exec (.ttltoExpiry i) s = .next t ∧ (t.island i.val).plateau = false ∧
      (t.island i.val).out = (x.out || x.stillOn (isHigh i.val)) ∧ (t.island i.val).latched = x.latched ∧ t.regs = s.regs ∧ same t) ∧
    (x.plateau = false → exec (.ttltoExpiry i) s = .next s) ∧
    (x.ascWait = true → ∃ t, exec (.ascdtExpiry i) s = .next t ∧ (t.island i.val).ascWait = false ∧
      (t.island i.val).out = (x.out || !x.plateau) ∧ (t.island i.val).latched = x.latched ∧ t.regs = s.regs ∧ same t) ∧
    (x.ascWait = false → exec (.ascdtExpiry i) s = .next s) ∧
    (4000 ≤ vcc - vee → ∃ t, exec (.islandSupplyReady i vcc vee) s = .next t ∧ (t.island i.val).powered = true ∧
      (t.island i.val).suprdy = (x.suprdy || (!lowC && !lowE)) ∧ (t.island i.val).lowC = lowC ∧ (t.island i.val).lowE = lowE ∧
      (x.otcond = false ∨ x.suprdy = true → (t.island i.val).latched = x.latched) ∧ same t) ∧
    (vcc - vee < 4000 → exec (.islandSupplyReady i vcc vee) s = .next s) ∧
    (∃ t, exec (.islandSupplyLoss i) s = .next t ∧ (t.island i.val).powered = false ∧ (t.island i.val).latched = false ∧
      (t.island i.val).trained = false ∧ (t.island i.val).out = false ∧ same t) ∧
    (invOfIsl i.val = v.val → s.pins.noVsys = false →
      (∃ t, exec (.enFall v) s = .next t ∧ t.en v.val = false ∧ (t.island i.val).out = false ∧
        (t.island i.val).latched = x.latched ∧ same t) ∧
      (2000 ≤ low → x.powered = true → ∃ t, exec (.enRise v low vkp) s = .next t ∧ t.en v.val = true ∧
        (t.island i.val).sc = (x.sc && vkp.getLsbD i.val) ∧ (t.island i.val).dsat = (x.dsat && x.out) ∧
        (t.island i.val).uvcc = (x.uvcc && x.uvcond) ∧ (t.island i.val).uvee = (x.uvee && x.uvcond) ∧
        (t.island i.val).ot = (x.ot && x.otcond) ∧ same t) ∧
      (low ≤ 1500 → ∃ t, exec (.enRise v low vkp) s = .next t ∧ t.en v.val = true ∧
        (t.island i.val).latched = x.latched ∧ same t))

/-- Telemetry of a linked island reaches its mirrors, and an island's latches raise FLTEV; a transition of a version-2 island is valid with a plateau of at least 200 mV, both crossings in time and a turn-off under row 8; a good side-channel frame without an item mirrors nothing, a bad one counts (R237, R243, R248, R249, R252). A lost link is marked LOST with FAILC 6, no longer trained, and drops the exchanges on their way; the island, heard of nothing for 4.0 µs, holds its link-loss action (R245, R246). RETRAIN in READY starts a training of every island of a used leg, TRBUSY reading 1, which ends within 1.1 ms with TRAINED or its failure code, and is refused in other states (R242–R244). A write of an island's configuration that its rules refuse sets CFGREJ; one to a trained island is sent after those before it, CFGPEND reading 1, and ends with the island's fields or, where the read-back fails or the island does not answer, untrained with FAILC 4 (R250, R252); nothing is trained or sent once the links have stopped for BANKED (R435). When in those bounds an exchange ends is open (assumption 5). -/
def Obligations.IslandTelemetryAndLinkComplete : Prop :=
  ∀ (s : State) (i : Fin 12) (reg : Fin 5) (a b d : BitVec 16) (p : BitVec 14) (v : Word) (on : Bool) (frame : BitVec 48),
    s.islPresent i.val = true →
    let k := i.val
    let x := s.island k
    let same := fun (t : State) => t.wheel = s.wheel ∧ t.mem = s.mem ∧ t.queues = s.queues ∧ t.dev = s.dev ∧ t.otp = s.otp
    (s.linkUp k = true →
      exec (.supplies i a b) s = .next ((s.put (R.ISL_VSUP_VCC2 k) a.toNat).put (R.ISL_VSUP_VEE2 k) b.toNat) ∧
      exec (.ntcRatio i d) s = .next (s.put (R.ISL_NTC_RATIO k) d.toNat) ∧
      (∃ t, exec (.dieTemperature i d) s = .next t ∧ t.get (R.ISL_TEMP_DIE k) = d.toNat ∧
        (t.island k).otcond = (x.otcond && !decide (d.toInt < (120 + 5 * (x.cfg.otth : Int)) * 16)) ∧ same t) ∧
      (s.get (R.ISL_LSTAT_VER k) ≠ 1 → ∃ t, exec (.nodeTransition i a p on) s = .next t ∧ t.get (R.ISL_TTR_TIME k) = a.toNat ∧
        t.get (R.ISL_TTR_PLAT k) = p.toNat ∧ t.on (R.ISL_TTR_VALID k) = (decide (200 ≤ p.toNat) && on && x.offMark.isSome) ∧
        (t.island k).offMark = none ∧ t.wheel = s.wheel ∧ t.mem = s.mem) ∧
      (s.get (R.ISL_LSTAT_VER k) = 1 → (decide (200 ≤ p.toNat) && on && x.offMark.isSome) = false →
        exec (.nodeTransition i a p on) s = .next (s.setIsland k { x with offMark := none })) ∧
      (s.get (R.ISL_LSTAT_VER k) = 1 → (decide (200 ≤ p.toNat) && on && x.offMark.isSome) = true → x.avgN + 1 < 16 →
        ∃ t, exec (.nodeTransition i a p on) s = .next t ∧ (t.island k).avgN = x.avgN + 1 ∧
          (t.island k).avgSum = x.avgSum + a.toNat ∧ t.regs = s.regs ∧ t.wheel = s.wheel ∧ t.mem = s.mem) ∧
      (∃ t, exec (.propagationDelay i on d) s = .next t ∧
        t.get (if on then R.ISL_TPD_ON k else R.ISL_TPD_OFF k) = d.toNat ∧ t.wheel = s.wheel ∧ t.isl = s.isl ∧ t.mem = s.mem) ∧
      (∃ t, exec (.faultState i) s = .next t ∧ t.on (R.ISL_FLT_SC k) = x.sc ∧ t.on (R.ISL_FLT_DSAT k) = x.dsat ∧
        t.on (R.ISL_FLT_UVCC k) = x.uvcc ∧ t.on (R.ISL_FLT_UVEE k) = x.uvee ∧ t.on (R.ISL_FLT_OT k) = x.ot ∧
        t.on (R.ISL_FLT_UVCOND k) = x.uvcond ∧ t.on (R.ISL_FLT_OTCOND k) = x.otcond ∧ t.on (R.ISL_FLT_SUPRDY k) = x.suprdy ∧
        (x.sc = true → s.on (R.ISL_FLT_SC k) = false → t.on (R.ISL_FLT_FLTEV k) = true) ∧
        t.isl = s.isl ∧ t.wheel = s.wheel ∧ t.mem = s.mem) ∧
      (frameGood frame.toNat = true → exec (.keepAlive i frame) s = .next s) ∧
      (frameGood frame.toNat = false → exec (.keepAlive i frame) s = .next (s.bumpSat (R.ISL_LSTAT_CRCCNT k))) ∧
      (∃ t, exec (.linkLost i) s = .next t ∧ t.on (R.ISL_LSTAT_LOST k) = true ∧ t.on (R.ISL_LSTAT_LOSTEV k) = true ∧
        t.on (R.ISL_LSTAT_TRAINED k) = false ∧ t.get (R.ISL_LSTAT_FAILC k) = 6 ∧ t.on (R.ISL_LSTAT_CFGPEND k) = false ∧
        Sparse.get [] t.islWrites k = [] ∧ same t)) ∧
    (x.powered = true → x.parked = false → ∃ t, exec (.islandLinkLoss i) s = .next t ∧ (t.island k).lost = true ∧
      (t.island k).trained = false ∧ (t.island k).latched = x.latched ∧ t.regs = s.regs ∧ same t) ∧
    (s.busUp = true → s.stopped 13 = false →
      (s.dev = .ready → s.on R.ISL_STAT_TRBUSY = false → s.legUnused (legOfIsl k) = false → ∃ t due, exec .retrain s = .next t ∧
        t.on R.ISL_STAT_TRBUSY = true ∧ t.on (R.ISL_LSTAT_TRAINED k) = false ∧ Sparse.get none t.islTrain k = some due ∧
        s.cycle < due ∧ due ≤ s.cycle + 660000 ∧ same t) ∧
      (s.dev = .ready → s.on R.ISL_STAT_TRBUSY = true → exec .retrain s = .next s) ∧
      (s.dev ≠ .ready → exec .retrain s = .next (s.raise R.ISL_STAT_CFGREJ) ∧ exec (.islConfigWrite i reg v on) s = .next s) ∧
      (s.dev = .ready →
        (islCfgOk reg.val k v.toNat = false → exec (.islConfigWrite i reg v on) s = .next (s.raise R.ISL_STAT_CFGREJ)) ∧
        (islCfgOk reg.val k v.toNat = true → s.on (R.ISL_LSTAT_TRAINED k) = false →
          exec (.islConfigWrite i reg v on) s = .next (s.putFields (islFields reg.val k) v.toNat)) ∧
        (islCfgOk reg.val k v.toNat = true → s.on (R.ISL_LSTAT_TRAINED k) = true → ∃ t due,
          exec (.islConfigWrite i reg v on) s = .next t ∧ t.on (R.ISL_LSTAT_CFGPEND k) = true ∧ t.isl = s.isl ∧
          Sparse.get [] t.islWrites k = Sparse.get [] s.islWrites k ++ [(due, on)] ∧ s.cycle < due ∧
          (Sparse.get [] s.islWrites k = [] → due ≤ s.cycle + 3600) ∧ same t))) ∧
    (s.stopped 13 = true → exec .retrain s = .next s ∧ exec (.islConfigWrite i reg v on) s = .next s) ∧
    (∀ due, Sparse.get none s.islTrain k = some due → due ≤ s.cycle →
      let t := s.trainEnd k
      t.on (R.ISL_LSTAT_TRAINED k) = decide (s.trainFail k = 0) ∧ t.get (R.ISL_LSTAT_FAILC k) = s.trainFail k ∧ same t) ∧
    (∀ due ok l, Sparse.get [] s.islWrites k = (due, ok) :: l → due ≤ s.cycle →
      let t := s.writeEnd k
      same t ∧
      (ok = true → x.powered = true → x.lost = false → (t.island k).cfg = s.islCfg k ∧ Sparse.get [] t.islWrites k = l ∧
        t.on (R.ISL_LSTAT_CFGPEND k) = (s.on (R.ISL_LSTAT_CFGPEND k) && decide (l ≠ []))) ∧
      (ok = false ∨ x.powered = false ∨ x.lost = true → t.on (R.ISL_LSTAT_TRAINED k) = false ∧ t.get (R.ISL_LSTAT_FAILC k) = 4 ∧
        t.on (R.ISL_LSTAT_CFGPEND k) = false ∧ Sparse.get [] t.islWrites k = []))

/-! ## Saggar, Cone, safe outputs, safety configuration (R253–R296) -/

/-- The Saggar's inputs and the Cone's side complete: an input that becomes active latches for every inverter it is routed to, a comparator where its land stands beyond a threshold, LO and UV being none at 0, and none that is latched is lost when it goes, which a comparator's does once its land stands inside by 16 codes (R253–R256); an accepted preselection is taken with PRESTALE clear, one with a code 3 is refused, and 1.0 ms without one is stale, no shorter time (R259); a rail back inside its window by 2 % of its nominal value ends its supply condition (R455); SSREQ and DISCH stand as written; a lockstep mismatch halts the Cone, sets LSERR and latches input 27 of every inverter (R267). -/
def Obligations.SaggarInputsComplete : Prop :=
  ∀ (s : State) (v w : Fin 2) (b : Fin 29) (a c : Fin 4) (rail : Fin 5) (uv : Nat) (on : Bool), v.val < s.nInv → s.sagActs = true →
    let codes := 4096 * uv
    let vref := s.vrefUv
    let held := fun (t : State) => t.wheel = s.wheel ∧ t.mem = s.mem ∧ t.queues = s.queues ∧ t.dev = s.dev ∧
      ∀ n, (s.get (R.SAGGAR_LATCH_INPUTS v.val)).testBit n = true → n < 29 →
        (t.get (R.SAGGAR_LATCH_INPUTS v.val)).testBit n = true
    (∃ t, exec (.tripInput w b uv) s = .next t ∧ held t ∧
      (b.val < 12 → s.get (R.SAGGAR_CMPTH_HI b.val) * vref < codes ∨
          (s.get (R.SAGGAR_CMPTH_LO b.val) ≠ 0 ∧ codes < s.get (R.SAGGAR_CMPTH_LO b.val) * vref) → (s.get (R.SAGGAR_CMPCFG_INV b.val)).testBit v.val = true →
        (t.get (R.SAGGAR_LATCH_INPUTS v.val)).testBit b.val = true) ∧
      (b = 18 → w = v → s.on (R.SAGGAR_DCCFG_OVEN v.val) = true → s.get (R.SAGGAR_DCTH_OV v.val) * vref < codes →
        (t.get (R.SAGGAR_LATCH_INPUTS v.val)).testBit 18 = true) ∧
      (b = 19 → w = v → s.on (R.SAGGAR_DCCFG_UVEN v.val) = true → codes < s.get (R.SAGGAR_DCTH_UV v.val) * vref →
        (t.get (R.SAGGAR_LATCH_INPUTS v.val)).testBit 19 = true) ∧
      (b = 20 → w = v → s.on (pinEn v.val) = true → (t.get (R.SAGGAR_LATCH_INPUTS v.val)).testBit 20 = true) ∧
      (b = 23 → w = v → s.dev = .run → (t.get (R.SAGGAR_LATCH_INPUTS v.val)).testBit 23 = true)) ∧
    (∃ t, exec (.tripInputInactive w b rail uv) s = .next t ∧ held t ∧
      (b.val < 12 → codes + 16 * vref ≤ s.get (R.SAGGAR_CMPTH_HI b.val) * vref →
        s.get (R.SAGGAR_CMPTH_LO b.val) = 0 ∨ (s.get (R.SAGGAR_CMPTH_LO b.val) + 16) * vref ≤ codes → t.cond 0 b.val = false) ∧
      (b = 26 → railBack rail uv = true →
        t.bit R.SYS_SUPSTAT_WIN (2 * rail.val) = false ∧ t.bit R.SYS_SUPSTAT_WIN (2 * rail.val + 1) = false) ∧
      (b = 26 → railBack rail uv = false → t.get R.SYS_SUPSTAT_WIN = s.get R.SYS_SUPSTAT_WIN)) ∧
    ((∀ c, s.sag.preAt = some c → c + 600000 ≤ s.cycle) →
      ∃ t, exec .preselStale s = .next t ∧ held t ∧ t.on R.SAGGAR_STAT_PRESTALE = true) ∧
    (∀ c, s.sag.preAt = some c → s.cycle < c + 600000 → exec .preselStale s = .next s) ∧
    (s.coneUp = true →
      (a = 3 ∨ c = 3 → exec (.preselWrite a c) s = .next (s.raise R.SAGGAR_STAT_PREREJ)) ∧
      (a ≠ 3 → c ≠ 3 → ∃ t, exec (.preselWrite a c) s = .next t ∧ held t ∧ t.get R.SAGGAR_PRESEL_A = a.val ∧
        t.get R.SAGGAR_PRESEL_B = c.val ∧ t.on R.SAGGAR_STAT_PRESTALE = false) ∧
      (∃ t, exec (.ssreq v on) s = .next t ∧ held t ∧ t.on (ssreq v.val) = on ∧ t.on (R.CONE_TMSTAT_SSREQ v.val) = on ∧
        (on = true → (t.get (R.SAGGAR_LATCH_INPUTS v.val)).testBit 21 = true)) ∧
      (∃ t, exec (.dischReq on) s = .next t ∧ held t ∧ t.on R.SAGGAR_REQ_DISCH = on ∧ (on = true → t.dreq = true)) ∧
      (∃ t, exec .lockstepMismatch s = .next t ∧ held t ∧ t.on R.CONE_STAT_RUNNING = false ∧ t.on R.CONE_STAT_LSERR = true ∧
        (t.get (R.SAGGAR_LATCH_INPUTS v.val)).testBit 27 = true))

/-- The Saggar's safe state reaches the islands: in a state brought to its inputs, every present island of a used leg whose inverter is latched and whose EN is high holds SAFE_ON where R258 turns its side on and SAFE_OFF elsewhere, and only an island the safe state turns on may be on; the decision is PI where faults stand on both sides or the base is PI, and otherwise the side without a fault (R238, R257, R258). -/
def Obligations.SafeStateReachesTheIslands : Prop :=
  (∀ (s : State) (i : Fin 12), s.IslandsSettled → s.sagActs = true → s.islPresent i.val = true →
    s.legUnused (legOfIsl i.val) = false → s.pins.noVsys = false → s.en (invOfIsl i.val) = true →
    let t := s.sync
    t.latched (invOfIsl i.val) = true →
      (t.island i.val).sym = (if t.safeTurnsOn i.val then .safeOn else .safeOff) ∧
      ((t.island i.val).out = true → t.safeTurnsOn i.val = true)) ∧
  (∀ (s : State) (v : Nat),
    (s.sagFH v = true → s.sagFL v = true → s.decision v = 0) ∧ (s.sagBase v = 0 → s.decision v = 0) ∧
    (s.sagFH v = true → s.sagFL v = false → s.sagBase v ≠ 0 → s.decision v = 2) ∧
    (s.sagFL v = true → s.sagFH v = false → s.sagBase v ≠ 0 → s.decision v = 1) ∧
    (s.sagFH v = false → s.sagFL v = false → s.decision v = s.sagBase v))

/-- A clear that the Cone asks for reads 1 in CLR until the next TSCLK edge judges it (R263, R278). One that R263 allows leaves the inverter's latch clear; one it does not allow sets CLR_REFUSED with its code, in the order SAFE_HOLD, non-clearable input, active input, not held, and changes nothing else. The discharge latch clears alike, and SCLR forwards both: at once where the Cone acts, withdrawing the request whose checks were last in band, and otherwise it waits, reading 1 (R272, R275, R276, R279). -/
def Obligations.LatchClearsComplete : Prop :=
  ∀ (s : State) (v : Fin 2), v.val < s.nInv →
    let clr := if v.val = 0 then R.SAGGAR_CLR_CLRA else R.SAGGAR_CLR_CLRB
    let j := s.judgeAll
    let code := j.clearCode v.val
    let same := fun (t : State) => t.wheel = s.wheel ∧ t.mem = s.mem ∧ t.queues = s.queues ∧ t.dev = s.dev
    let unheld := s.dev = .run ∧ s.on (R.LOOP_INVCFG_HOLD v.val) = false ∧
      ∃ l : Fin 8, s.on (R.LOOP_CFG_EN l.val) = true ∧ s.get (R.LOOP_CFG_TYPE l.val) = 1 ∧ s.loopInv l.val = v.val
    (s.coneUp = true → exec (.latchClear v) s = .next (s.raise clr) ∧ exec .dischargeLatchClear s = .next (s.raise R.SAGGAR_CLR_CLRDIS)) ∧
    (s.coneUp = false → exec (.latchClear v) s = .next s ∧ exec .dischargeLatchClear s = .next s) ∧
    (s.dev = .safeHold → code = 4 ∧ j.dischClearCode = 4) ∧
    (s.dev ≠ .safeHold →
      (s.stuckLatch v.val = true → code = 3) ∧
      (s.stuckLatch v.val = false → j.activeVec v.val ≠ 0 → code = 1) ∧
      (s.stuckLatch v.val = false → j.activeVec v.val = 0 → (unheld → code = 2) ∧ (¬unheld → code = 0))) ∧
    (s.tscEdge = false → s.clearTick = s) ∧
    (s.tscEdge = true → (∀ k : Fin 3, s.on (sagClr k.val) = decide (k.val = v.val)) →
      let t := s.clearTick
      (code ≠ 0 → t = (((j.clear clr).raise R.SAGGAR_STAT_CLR_REFUSED).put R.SAGGAR_STAT_CLRCODE code)) ∧
      (code = 0 → t.latched v.val = false ∧ t.on clr = false ∧ t.get R.SAGGAR_STAT_CLRCODE = 0 ∧
        t.on R.SAGGAR_STAT_CLR_REFUSED = s.on R.SAGGAR_STAT_CLR_REFUSED ∧ same t)) ∧
    (s.tscEdge = true → (∀ k : Fin 3, s.on (sagClr k.val) = decide (k.val = 2)) →
      let t := s.clearTick
      (j.dischClearCode ≠ 0 → t = (((j.clear R.SAGGAR_CLR_CLRDIS).raise R.SAGGAR_STAT_CLR_REFUSED).put R.SAGGAR_STAT_CLRCODE j.dischClearCode)) ∧
      (j.dischClearCode = 0 → t.sag.dlatch = false ∧ t.on R.SAGGAR_CLR_CLRDIS = false ∧ t.get R.SAGGAR_STAT_CLRCODE = 0 ∧ same t)) ∧
    (s.busUp = true →
      (s.coneActs = true →
        (slice s.cone.raised (4 * v.val) 4 &&& slice s.cone.lastBad (4 * v.val) 4 ≠ 0 →
          exec (.sclrInverter v) s = .next ((s.putBit R.CONE_SCLR_REQ v.val false).raise clr)) ∧
        (slice s.cone.raised (4 * v.val) 4 &&& slice s.cone.lastBad (4 * v.val) 4 = 0 →
          ∃ t, exec (.sclrInverter v) s = .next t ∧ t.on (ssreq v.val) = false ∧ t.on clr = true ∧
            t.get (R.CONE_TMSTAT_DEVCNT v.val) = 0 ∧ t.get R.CONE_CHKSTAT_HBMIS = 0 ∧ same t) ∧
        (s.dcLow = false → exec .sclrDischarge s = .next (s.putBit R.CONE_SCLR_REQ 2 true)) ∧
        (s.dcLow = true → exec .sclrDischarge s = .next ((s.putBit R.CONE_SCLR_REQ 2 false).raise R.SAGGAR_CLR_CLRDIS))) ∧
      (s.coneActs = false → exec (.sclrInverter v) s = .next (s.putBit R.CONE_SCLR_REQ v.val true) ∧
        exec .sclrDischarge s = .next (s.putBit R.CONE_SCLR_REQ 2 true)))

/-- The Cone's monitoring completes: a cycle that starts when the TSC stands at its offset takes the even inputs' codes and counts the cycle, the odd ones follow (R268, R269); the cross-check takes the pairs whose SEQ advanced by exactly one and is skipped where it is off (R274); an evaluation writes the preselection of both inverters, and moves the torque monitor's count in RUN by one, up for a deviation and down otherwise, a count at the limit raising the request of its inverter (R269, R271); a torque request that is NaN or infinite is refused, any other taken and no longer stale, until REQTO ms without one have passed; 2.0 s of discharge without DONE set SLOW, once in each discharge (R276). -/
def Obligations.MonitoringComplete : Prop :=
  ∀ (s : State) (c0 c1 c2 c3 : Fin 4096) (v : Fin 2) (w : Word), s.coneActs = true → v.val < s.nInv →
    let same := fun (t : State) => t.wheel = s.wheel ∧ t.mem = s.mem ∧ t.dev = s.dev ∧ t.otp = s.otp
    (s.tsc % 10000 = s.cycleOffset → ∃ t, exec (.monitoringCycle (.start c0 c1 c2 c3)) s = .next t ∧
      t.get R.CONE_CYCLE_COUNT = (s.get R.CONE_CYCLE_COUNT + 1) % 2 ^ 32 ∧
      t.get (R.CONE_CRES_RAW 0) = c0.val ∧ t.get (R.CONE_CRES_RAW 2) = c1.val ∧ t.get (R.CONE_CRES_RAW 4) = c2.val ∧
      t.get (R.CONE_CRES_RAW 6) = c3.val ∧ same t) ∧
    (s.tsc % 10000 ≠ s.cycleOffset → exec (.monitoringCycle (.start c0 c1 c2 c3)) s = .next s) ∧
    (∃ t, exec (.monitoringCycle (.odd c0 c1 c2 c3)) s = .next t ∧
      t.get (R.CONE_CRES_RAW 1) = c0.val ∧ t.get (R.CONE_CRES_RAW 3) = c1.val ∧ t.get (R.CONE_CRES_RAW 5) = c2.val ∧
      t.get (R.CONE_CRES_RAW 7) = c3.val ∧ same t) ∧
    (s.crossOn = false → exec (.monitoringCycle .cross) s = .next s) ∧
    (s.crossOn = true → ∃ t, exec (.monitoringCycle .cross) s = .next t ∧ same t ∧
      (s.invInUse v.val = true → ∀ q : Fin 2,
        let i := s.pairIndex v.val q.val
        Sparse.get none t.cone.iw (2 * v.val + q.val) =
          (if s.get (R.ADC_RES_SEQ i) = (Sparse.get 0 s.cone.seqT0 (2 * v.val + q.val) + 1) % 256 then
            some (toSigned 16 (s.get (R.ADC_RES_VALUE i)), toSigned 4 (s.get (R.ADC_CCFG_RSH (s.pairConv v.val q.val))))
          else none))) ∧
    (s.preselOf 0 < 3 → s.preselOf 1 < 3 → s.get R.CONE_SCLR_REQ = 0 → ∃ t, exec (.monitoringCycle .evaluate) s = .next t ∧ same t ∧
      t.get (presel v.val) = s.preselOf v.val ∧ t.on R.SAGGAR_STAT_PRESTALE = false ∧
      (s.dev = .run → s.invInUse v.val = true → s.cpar (0x10 + v.val) = 1 → s.get (R.CONE_TMSTAT_DEVCNT v.val) < 256 →
        t.get (R.CONE_TMSTAT_DEVCNT v.val) = devNext (s.get (R.CONE_TMSTAT_DEVCNT v.val)) (s.torqueEval v.val).1)) ∧
    (s.cpar (0x10 + v.val) = 1 → let bad := (s.torqueEval v.val).1
      let d := s.get (R.CONE_TMSTAT_DEVCNT v.val)
      d < 256 → (s.torqueCheck v.val).get (R.CONE_TMSTAT_DEVCNT v.val) = (if bad then min (d + 1) 255 else d - 1) ∧
        (s.cpar (0x12 + v.val) ≤ (if bad then min (d + 1) 255 else d - 1) → (s.torqueCheck v.val).on (ssreq v.val) = true)) ∧
    (s.busUp = true →
      (Fp32.notFinite w = true → exec (.treqWrite v w) s = .next (s.raise R.CONE_STAT_CFGREJ)) ∧
      (Fp32.notFinite w = false → exec (.treqWrite v w) s =
        .next (({ s with cone := { s.cone with treqAt := Sparse.set 0 s.cone.treqAt v.val s.cycle } }.put
          (R.CONE_TREQ_VALUE v.val) w.toNat).clear (R.CONE_TMSTAT_REQSTALE v.val)))) ∧
    (let late := s.cpar (0x18 + v.val) ≠ 0 ∧ Sparse.get 0 s.cone.treqAt v.val + 600000 * s.cpar (0x18 + v.val) ≤ s.cycle
     (late → exec (.reqstale v) s = .next (s.raise (R.CONE_TMSTAT_REQSTALE v.val))) ∧ (¬late → exec (.reqstale v) s = .next s)) ∧
    (let late := s.dreq = true ∧ s.on R.CONE_DISCH_DONE = false ∧ s.cone.disSlow = false ∧ ∃ c, s.cone.disAt = some c ∧ c + 1200000000 ≤ s.cycle
     (late → ∃ t, exec .fltDischSlow s = .next t ∧ t.on R.CONE_DISCH_SLOW = true ∧ t.cone.disSlow = true ∧ same t) ∧
     (¬late → exec .fltDischSlow s = .next s))

/-- Safe-output commands complete in the states where the outputs work: a new demand puts both switches at its level and aborts a test; a test pulse opens one switch of an output that is on, or closes one of an output that is off, the other switch being the one that is on; its end returns the switches, and once its PERCLK cycle is over the result counts as a pass or a failure, with the first failure's cause; a change of demand in the cycle of a pulse or of its end makes an abort of it (R288); overcurrent opens both switches and clearing it returns them to the demand (R281–R288). -/
def Obligations.SafeOutputsComplete : Prop :=
  ∀ (s : State) (x : Fin 4) (vh vl vso : Nat), s.soWorks = true →
    let k := x.val
    let o := s.so k
    let at_ := fun (t : State) (lv : Bool) => t.on (R.SAFEOUT_OSTAT_HSON k) = lv ∧ t.on (R.SAFEOUT_OSTAT_LSON k) = lv ∧
      t.wheel = s.wheel ∧ t.mem = s.mem ∧ t.isl = s.isl ∧ t.dev = s.dev
    (o.ended = none → s.soDemand k ≠ o.demand → ∃ t, exec (.demandChange x) s = .next t ∧ at_ t (s.soLevel k) ∧ (t.so k).test = none ∧
      (t.so k).demand = s.soDemand k) ∧
    (s.soTests = true → o.test = none → o.ended = none → s.soDemand k = o.demand → o.chg ≠ some (s.cycle / 4) →
      (s.on (R.SAFEOUT_OSTAT_HSON k) = true → s.on (R.SAFEOUT_OSTAT_LSON k) = true → s.get (R.SAFEOUT_CFG_OFFW k) ≠ 0 →
        ∃ t, exec (.testPulse x) s = .next t ∧ t.on (R.SAFEOUT_OSTAT_TESTING k) = true ∧
          t.on (R.SAFEOUT_OSTAT_HSON k) = o.offLow ∧ t.on (R.SAFEOUT_OSTAT_LSON k) = !o.offLow ∧
          (t.so k).test = some { on := false, high := !o.offLow } ∧ t.wheel = s.wheel ∧ t.mem = s.mem) ∧
      (s.on (R.SAFEOUT_OSTAT_HSON k) = false → s.get (R.SAFEOUT_CFG_ONW k) ≠ 0 →
        ∃ t, exec (.testPulse x) s = .next t ∧ t.on (R.SAFEOUT_OSTAT_TESTING k) = true ∧
          t.on (R.SAFEOUT_OSTAT_HSON k) = !o.onLow ∧ t.on (R.SAFEOUT_OSTAT_LSON k) = o.onLow ∧
          (t.so k).test = some { on := true, high := !o.onLow } ∧ t.wheel = s.wheel ∧ t.mem = s.mem)) ∧
    (∀ p : SoTest, o.test = some p → s.soTests = true → s.soDemand k = o.demand →
      ∃ t, exec (.testPulseEnd x vh vl vso) s = .next t ∧ at_ t (s.soLevel k) ∧ (t.so k).test = none ∧
        t.on (R.SAFEOUT_OSTAT_TESTING k) = false ∧ (t.so k).ended = some (s.cycle / 4, p, testPass p vh vl vso) ∧
        t.get (R.SAFEOUT_TCNT_PASSCNT k) = s.get (R.SAFEOUT_TCNT_PASSCNT k)) ∧
    (s.soTests = true → o.test = none → o.ended = none →
      (if s.on (R.SAFEOUT_OSTAT_HSON k) && s.on (R.SAFEOUT_OSTAT_LSON k) then s.get (R.SAFEOUT_CFG_OFFW k) else s.get (R.SAFEOUT_CFG_ONW k)) ≠ 0 →
      s.soDemand k ≠ o.demand ∨ o.chg = some (s.cycle / 4) → ∃ t, exec (.testPulse x) s = .next t ∧ (t.so k).test = none ∧
        t.get (R.SAFEOUT_TCNT_ABORTCNT k) = (s.bumpSat (R.SAFEOUT_TCNT_ABORTCNT k)).get (R.SAFEOUT_TCNT_ABORTCNT k)) ∧
    (∀ c p pass, o.ended = some (c, p, pass) →
      let t := s.soSettle k
      let counted := fun (f : Nat → Fld) => t.get (f k) = (s.bumpSat (f k)).get (f k)
      (s.cycle / 4 ≤ c → t = s) ∧
      (c < s.cycle / 4 → (t.so k).ended = none ∧
        (pass = true → counted R.SAFEOUT_TCNT_PASSCNT ∧ t.on (R.SAFEOUT_OSTAT_SOFLT k) = s.on (R.SAFEOUT_OSTAT_SOFLT k)) ∧
        (pass = false → counted R.SAFEOUT_TCNT_FAILCNT ∧ t.on (R.SAFEOUT_OSTAT_SOFLT k) = true ∧
          (s.on (R.SAFEOUT_OSTAT_SOFLT k) = false → t.get (R.SAFEOUT_OSTAT_FCAUSE k) = testCause p ∧
            (s.on (R.SAFEOUT_CFG_FLTOFF k) = true → t.soLevel k = false)))) ∧
      (s.cycle / 4 ≤ c → s.soDemand k ≠ o.demand → ∃ u, exec (.demandChange x) s = .next u ∧ (u.so k).ended = none ∧
        u.get (R.SAFEOUT_TCNT_PASSCNT k) = s.get (R.SAFEOUT_TCNT_PASSCNT k) ∧ u.on (R.SAFEOUT_OSTAT_SOFLT k) = s.on (R.SAFEOUT_OSTAT_SOFLT k))) ∧
    (s.on (R.SAFEOUT_OSTAT_HSON k) = true ∨ s.on (R.SAFEOUT_OSTAT_LSON k) = true → ∃ t, exec (.soOc x) s = .next t ∧
      at_ t false ∧ t.on (R.SAFEOUT_OSTAT_OC k) = true ∧ (t.so k).test = none) ∧
    (s.busUp = true → o.test = none → ∃ t, exec (.soOcClear x) s = .next t ∧ t.on (R.SAFEOUT_OSTAT_OC k) = false ∧
      at_ t (s.soDemand k && !(s.on (R.SAFEOUT_OSTAT_SOFLT k) && s.on (R.SAFEOUT_CFG_FLTOFF k))))

/-- The safety configuration's commands complete: every unlock attempt clears the PW registers; in READY with the image's hash, room in the log and no lockout, the right password unlocks and is logged, a wrong one counts, and the third locks out (R289, R290); RELOCK locks (R291); a parameter change is judged by lock, log, ID and range, and an accepted one is logged and waits for the Cone's next cycle (R292–R294); a write of an RWP register while locked or outside READY is discarded (R293); a re-offer leaves every entry in the log (R295). -/
def Obligations.SafetyConfigurationCompletes : Prop :=
  ∀ (s : State) (req : Requester) (addr v : Word), s.mayWrite req = true →
    let left := s.get R.SAFECFG_STAT_NCHG
    let cleared := fun (t : State) => (∀ k : Fin 4, t.get (R.SAFECFG_PW_BYTES k.val) = 0) ∧ t.wheel = s.wheel ∧ t.mem = s.mem ∧ t.dev = s.dev
    (s.dev ≠ .ready → ∃ t, exec (.unlock req) s = .next t ∧ cleared t ∧ t.get R.SAFECFG_STAT_RESULT = 1 ∧
      t.on R.SAFECFG_STAT_UNLOCKED = s.on R.SAFECFG_STAT_UNLOCKED) ∧
    (s.dev = .ready → s.on R.SAFECFG_STAT_BUSY = false → s.on R.SAFECFG_STAT_LOCKOUT = false → s.safe.hash ≠ 0 →
      s.logFree = true → ∃ t, exec (.unlock req) s = .next t ∧ cleared t ∧
        (if s.pwRight = true then
          t.on R.SAFECFG_STAT_UNLOCKED = true ∧ t.get R.SAFECFG_STAT_RESULT = 0 ∧
          t.get R.SAFECFG_STAT_NCHG = (left + 1) % 2 ^ 16
        else t.get R.SAFECFG_STAT_RESULT = 2 ∧ t.on R.SAFECFG_STAT_UNLOCKED = s.on R.SAFECFG_STAT_UNLOCKED ∧
          (s.get R.SAFECFG_STAT_TRIES < 3 → t.get R.SAFECFG_STAT_TRIES = s.get R.SAFECFG_STAT_TRIES + 1) ∧
          (s.get R.SAFECFG_STAT_TRIES = 2 → t.on R.SAFECFG_STAT_LOCKOUT = true))) ∧
    exec .relock s = .next (s.clear R.SAFECFG_STAT_UNLOCKED) ∧
    (s.dev ≠ .ready → exec (.pset req) s = .next (s.put R.SAFECFG_STAT_RESULT 1)) ∧
    (s.dev = .ready → s.on R.SAFECFG_STAT_BUSY = false →
      let id := s.get R.SAFECFG_PID_ID
      let w := s.get R.SAFECFG_PVAL_VALUE
      (s.on R.SAFECFG_STAT_UNLOCKED = false → exec (.pset req) s = .next (s.put R.SAFECFG_STAT_RESULT 5)) ∧
      (s.on R.SAFECFG_STAT_UNLOCKED = true → s.logFree = true → s.on R.CONE_STAT_RUNNING = true →
        (parKnown id = false → exec (.pset req) s = .next (s.put R.SAFECFG_STAT_RESULT 8)) ∧
        (parKnown id = true → s.parOk id w = false → exec (.pset req) s = .next (s.put R.SAFECFG_STAT_RESULT 7)) ∧
        (parKnown id = true → s.parOk id w = true → ∃ t, exec (.pset req) s = .next t ∧ t.get R.SAFECFG_STAT_RESULT = 0 ∧
          t.parNow id = w ∧ t.cone.par = s.cone.par ∧ t.get R.SAFECFG_STAT_NCHG = (left + 1) % 2 ^ 16 ∧
          t.wheel = s.wheel ∧ t.mem = s.mem ∧ t.dev = .ready))) ∧
    (s.dev ≠ .ready ∨ s.on R.SAFECFG_STAT_UNLOCKED = false → exec (.rwpWrite req addr v) s = .next s) ∧
    (s.dev = .ready → s.on R.SAFECFG_STAT_UNLOCKED = true → s.logFree = true →
      let l := regFieldsIn addr.toNat (RegMap.window addr.toNat)
      isRwp l = true → (s.rwpOk addr.toNat v.toNat = false → exec (.rwpWrite req addr v) s = .next (s.raise (rwpRej addr.toNat))) ∧
        (s.rwpOk addr.toNat v.toNat = true → exec (.rwpWrite req addr v) s =
          .next ((s.rwpPut addr.toNat v.toNat l).logWrite req addr.toNat (s.rwpWord addr.toNat l)
            ((s.rwpPut addr.toNat v.toNat l).rwpWord addr.toNat l)))) ∧
    (∃ t, exec .changeLogReoffer s = .next t ∧ t.safe.log.length = s.safe.log.length ∧
      t.safe.log.map (fun e => (e.seq, e.pid, e.old, e.new)) = s.safe.log.map (fun e => (e.seq, e.pid, e.old, e.new)) ∧
      t.wheel = s.wheel ∧ t.mem = s.mem)

/-! ## Resets, release, supplies and clocks (R35, R37, R455–R469) -/

/-- A reset ends in OFF with its cause recorded: nRST low for at least 10 µs, none below 1 µs; a rail below its reset level, which in an OFF that the supplies hold already adds its cause; a software reset with the right key in NOIMAGE or READY. Wheel, memories, queues and controllers are empty, every register but the kept ones of R466 reads its reset value, the waiting commands stand, and so does one-time-programmable memory, but that a burn in progress is cut short; an internal reset counts. A reset request with a wrong key is rejected (R35, R457, R465–R469). How many bits a cut burn has burned is open (assumption 5). -/
def Obligations.ResetsEnterOff : Prop :=
  ∀ (s : State) (rail : Fin 4) (ns mv : Nat) (torn : Fin 3) (req : Requester) (key : BitVec 8),
    let off := fun (t : State) => t.dev = .off ∧ t.wheel = {} ∧ t.mem = {} ∧ t.queues = [] ∧ t.can = [] ∧ t.sec = {} ∧
      s.otp.burnedTo t.otp ∧ (s.sec.burn = none → s.wedge.burn = none → t.otp = s.otp) ∧ t.pending = s.pending ∧
      ∀ f : Fld, keptAddr (f.key / 32) = false → t.get f = f.rst
    (s.pins.nrst = true → 10000 ≤ ns → ∃ t, exec (.nrstAssert ns) s = .next t ∧ off t ∧ t.on R.SYS_RSTCAUSE_NRST = true ∧
      t.get R.SYS_RSTCNT_COUNT = s.get R.SYS_RSTCNT_COUNT ∧ t.pins.nrst = false) ∧
    (s.pins.nrst = false ∨ ns < 1000 → exec (.nrstAssert ns) s = .next s) ∧
    (s.pins.supOk = true → mv < railReset rail → ∃ t, exec (.supplyReset rail mv torn) s = .next t ∧ off t ∧
      t.on (railCause rail) = true ∧
      t.get R.SYS_RSTCNT_COUNT = (s.bumpSat R.SYS_RSTCNT_COUNT).get R.SYS_RSTCNT_COUNT ∧ t.pins.supOk = false) ∧
    (s.pins.supOk = false → mv < railReset rail → ∃ t, exec (.supplyReset rail mv torn) s = .next t ∧
      t.on (railCause rail) = true ∧ t.dev = s.dev ∧ t.otp = s.otp) ∧
    (railReset rail ≤ mv →
      (rail ≠ 0 ∨ mv ≤ 5200 ∨ s.pins.noVsys = false → exec (.supplyReset rail mv torn) s = .next s) ∧
      (rail = 0 → 5200 < mv → s.pins.noVsys = true → ∃ t, exec (.supplyReset rail mv torn) s = .next t ∧
        t.pins.noVsys = false ∧ t.dev = s.dev ∧ t.otp = s.otp)) ∧
    (s.mayWrite req = true → s.busUp = true →
      (key = 0xA5#8 → req ≠ .debug → s.dev = .noimage ∨ s.dev = .ready → ∃ t, exec (.swrst req key) s = .next t ∧ off t ∧
        t.on R.SYS_RSTCAUSE_SWRST = true ∧ t.pins.hold = true) ∧
      (key ≠ 0xA5#8 → exec (.swrst req key) s = .next (s.raise R.SYS_RSTCTL_RSTREJ) ∧
        exec (.dprst req key) s = .next (s.raise R.SYS_RSTCTL_RSTREJ)))

/-- The release of the last thing that holds OFF takes the device into phase 1 of WEDGING; while anything else holds it the device stays in OFF, an internal reset for at least 20 µs, the supplies until every rail stands above its rising level (R35, R297, R455, R458, R459, R465, R479). In it the PLL locks within 0.4 ms, with the TSC at 0 (R461); a failed mode check of phase 2 is counted and followed by a reset of the NOR (R302). WEDGING ends in NOIMAGE with both slots reported as 0x01 where one-time-programmable memory holds no lifecycle word or SCRAPPED (R326), in NOIMAGE where no slot is left to attempt (R305), and in READY once training has ended in phase 8 (R37, R321). When a phase ends within its bound is open (assumptions 5 and 15). -/
def Obligations.ReleaseLeavesOff : Prop :=
  (∀ (s : State) (test por : Bool) (vsys vcore vio33 vio18 : Nat), s.dev = .off →
    let up := fun (t : State) => t.dev = .wedging ∧ t.get R.WEDGE_STAT_PHASE = 1 ∧ t.wedge.since = s.cycle ∧
      s.cycle ≤ t.wedge.pllAt ∧ t.wedge.pllAt ≤ s.cycle + 240000 ∧ t.wedge.pllAt ≤ t.wedge.due ∧ t.wedge.due ≤ s.cycle + 300000 ∧ t.otp = s.otp
    (s.pins.nrst = false →
      (s.pins.supOk = true → s.pins.hold = false → test = false → ∃ t, exec (.nrstRelease test) s = .next t ∧ up t) ∧
      (s.pins.supOk = false ∨ s.pins.hold = true ∨ test = true →
        exec (.nrstRelease test) s = .next { s with pins := { s.pins with nrst := true, test := test } })) ∧
    (s.pins.supOk = false → 5200 < vsys → 740 < vcore → 2850 < vio33 → 1550 < vio18 →
      (s.pins.nrst = true → s.pins.hold = false → s.pins.test = false →
        ∃ t, exec (.suppliesValid vsys vcore vio33 vio18 por) s = .next t ∧ up t) ∧
      (s.pins.nrst = false → ∃ t, exec (.suppliesValid vsys vcore vio33 vio18 por) s = .next t ∧ t.dev = .off ∧
        t.pins.supOk = true ∧ t.otp = s.otp)) ∧
    (vsys ≤ 5200 ∨ vcore ≤ 740 ∨ vio33 ≤ 2850 ∨ vio18 ≤ 1550 →
      exec (.suppliesValid vsys vcore vio33 vio18 por) s = .next s) ∧
    (s.pins.hold = true → s.pins.holdEnd ≤ s.cycle →
      (s.pins.supOk = true → s.pins.nrst = true → s.pins.test = false →
        ∃ t, exec .internalResetRelease s = .next t ∧ up t) ∧
      (s.pins.supOk = false ∨ s.pins.nrst = false ∨ s.pins.test = true →
        exec .internalResetRelease s = .next { s with pins := { s.pins with hold := false } })) ∧
    (s.cycle < s.pins.holdEnd → exec .internalResetRelease s = .next s)) ∧
  (∀ (s : State) (us : Nat), s.dev = .wedging →
    (s.get R.WEDGE_STAT_PHASE = 1 → s.keyRun = false → s.pll = false → s.wedge.pllAt ≤ s.cycle →
      s.wedgeTick.pll = true ∧ s.wedgeTick.tsc = 0 ∧ s.wedgeTick.on R.SYS_CLKSTAT_PLLLOCK = true ∧ s.wedgeTick.dev = .wedging) ∧
    (s.get R.WEDGE_STAT_PHASE = 2 → s.wedge.norTries < s.norMode.2 → s.phaseEnd.dev = .wedging ∧ s.phaseEnd.xspiNrst = false ∧
      s.phaseEnd.get R.WEDGE_STAT_PHASE = 2 ∧ s.phaseEnd.wedge.norTries = s.wedge.norTries + 1) ∧
    (s.get R.WEDGE_STAT_PHASE = 2 → s.norMode.2 ≤ s.wedge.norTries → s.sec.lc = .blank ∨ s.sec.lc = .scrapped →
      s.phaseEnd.dev = .noimage ∧ s.phaseEnd.get R.WEDGE_STAT_PHASE = 0xF ∧ s.phaseEnd.get (R.WEDGE_REP_CODE 0) = 1 ∧
      s.phaseEnd.get (R.WEDGE_REP_CODE 1) = 1) ∧
    (s.wedge.todo = [] → (s.slotBegin us).dev = .noimage ∧ (s.slotBegin us).get R.WEDGE_STAT_PHASE = 0xF) ∧
    (s.get R.WEDGE_STAT_PHASE = 8 → s.on R.ISL_STAT_TRBUSY = false →
      s.wedgeTick.dev = .ready ∧ s.wedgeTick.get R.WEDGE_STAT_PHASE = 0xF ∧ s.wedgeTick.otp = s.otp) ∧
    (s.get R.WEDGE_STAT_PHASE = 8 → s.on R.ISL_STAT_TRBUSY = true → s.wedgeTick = s) ∧
    (s.get R.WEDGE_STAT_PHASE ≠ 8 → s.keyRun = false → s.pll = true ∨ s.cycle < s.wedge.pllAt → s.cycle < s.wedge.due → s.wedgeTick = s))

/-- The monitors complete: a rail outside its window shows in SUPSTAT and, out of OFF, in SUPLAT, one inside it in neither (R455, R456); a declared clock fault in RUN enters SAFE_HOLD with cause 0x05 and halts the Wheel, in SAFE_HOLD it is recorded, in READY outside a BANKED entry it enters SAFE_HOLD as well, in WEDGING and NOIMAGE and during a BANKED entry it resets the device with cause CLOCK, and in BANKED a check of a gated clock is suspended; counts within their bounds, or outside them in one window of two, declare none (R462–R464). A data-plane reset empties every queue and every CAN FIFO, DPBUSY reading 1 for up to 2 µs, and keeps the queues' configuration, the Wheel and the memories (R364, R468). -/
def Obligations.MonitorsAndDataPlaneResetComplete : Prop :=
  ∀ (s : State) (rail : Fin 5) (mv : Nat) (check : Fin 9) (stopped : Bool) (w1 w2 : Nat) (req : Requester),
    let shown := fun b : Nat => ∃ t, exec (.supplyWindow rail mv) s = .next t ∧ t.bit R.SYS_SUPSTAT_WIN b = true ∧
      (s.dev ≠ .off → t.bit R.SYS_SUPLAT_WIN b = true) ∧ t.wheel = s.wheel ∧ t.mem = s.mem ∧ t.dev = s.dev
    (mv < (railWindow rail).1 → shown (2 * rail.val)) ∧
    (¬mv < (railWindow rail).1 → (railWindow rail).2 < mv → shown (2 * rail.val + 1)) ∧
    ((railWindow rail).1 ≤ mv → mv ≤ (railWindow rail).2 → exec (.supplyWindow rail mv) s = .next s) ∧
    (clockBad check stopped w1 w2 = true →
      (s.dev = .run ∨ (s.dev = .ready ∧ s.entering = false ∧ s.scanning = false) →
        ∃ t, exec (.clockFault check stopped w1 w2) s = .next t ∧ t.dev = .safeHold ∧ t.get R.SYS_HOLDCAUSE_CAUSE = 5 ∧
          t.bit R.SYS_CLKSTAT_CLKFLT check.val = true ∧ t.wheel.halted = true ∧ t.wheel.inflight = [] ∧ t.mem = s.mem) ∧
      (s.dev = .safeHold → ∃ t, exec (.clockFault check stopped w1 w2) s = .next t ∧ t.dev = .safeHold ∧
        t.bit R.SYS_CLKSTAT_CLKFLT check.val = true ∧ t.on R.SYS_CLKSTAT_FAULT = true ∧ t.mem = s.mem) ∧
      (s.dev = .wedging ∨ (s.dev = .noimage ∧ s.scanning = false) ∨ (s.dev = .ready ∧ s.entering = true ∧ s.scanning = false) ∨
          (s.dev = .banked ∧ check.val < 2) →
        ∃ t, exec (.clockFault check stopped w1 w2) s = .next t ∧ t.dev = .off ∧ t.on R.SYS_RSTCAUSE_CLOCK = true ∧
          t.bit R.SYS_CLKSTAT_CLKFLT check.val = true ∧ t.wheel = {}) ∧
      (s.dev = .banked → 2 ≤ check.val → exec (.clockFault check stopped w1 w2) s = .next s) ∧
      (s.dev = .off → exec (.clockFault check stopped w1 w2) s = .next s)) ∧
    (stopped = false → check.val ≠ 1 → clockDeviates check w1 = false ∨ clockDeviates check w2 = false →
      exec (.clockFault check stopped w1 w2) s = .next s) ∧
    (s.mayWrite req = true → s.busUp = true → req ≠ .debug → s.dev = .ready ∨ s.dev = .run → s.entering = false → s.stopping = false →
      ∃ t due, exec (.dprst req 0xA5#8) s = .next t ∧ t.queues = [] ∧ t.on R.SYS_RSTCTL_DPBUSY = true ∧ t.dprDue = some due ∧
        s.cycle < due ∧ due ≤ s.cycle + 1200 ∧ (∀ x, x < s.nCan → (t.canx x).tx = [] ∧ (t.canx x).rx = []) ∧
        (∀ q, q < 32 → t.get (R.QUE_QCFG_SIZE q) = s.get (R.QUE_QCFG_SIZE q)) ∧ t.wheel = s.wheel ∧ t.mem = s.mem ∧ t.dev = s.dev)

/-! ## Start-up, update and security (R297–R346) -/

/-- Start-up judges the image of the slot it attempts and either takes it or leaves the machine as if it had written nothing. Phase 3 refuses in the order of R326, for an unreadable header, a magic or version, a length, a key that matches no slot, a failed signature, a key the image revokes, a rollback counter below the device's, an absent capability (0x03–0x0D); a slot is skipped as R305 says. Phase 4 names the first section whose hash or tag fails (0x0E, 0x0F; R316). Phase 5 reports the contract check that fails, phase 6 a self-test that did not pass (0x60), phase 7 a record, its block's refusal or a parameter (0x61–0x63; R97–R99, R318–R320). A refused slot leaves its report, OTP as it was, the memories cleared and the blocks at reset values, and the next attempt begins, or NOIMAGE (R298, R305, R327). A clean one passes from phase to phase, is accepted with its burn, and the Cone runs (R313, R314, R319). -/
def Obligations.ImagesAreCheckedAndTaken : Prop :=
  ∀ (s : State) (k : Fin 2) (pass : Fin 2) (rest : List (Nat × Nat)),
    s.dev = .wedging → s.wedge.todo = (k.val, pass.val) :: rest →
    let ph := s.get R.WEDGE_STAT_PHASE
    let t := s.phaseEnd
    let u := s.imageOver
    let code := t.get (R.WEDGE_REP_CODE k.val)
    let onward := t.otp = s.otp ∧ t.get R.WEDGE_STAT_BOOTSLOT = s.get R.WEDGE_STAT_BOOTSLOT ∧
      (s.todoNext ≠ [] → t.dev = .wedging ∧ t.get R.WEDGE_STAT_PHASE = 3 ∧ t.wedge.todo = s.todoNext) ∧
      (s.todoNext = [] → t.dev = .noimage ∧ t.get R.WEDGE_STAT_PHASE = 15)
    let untouched := t.mem = s.mem ∧ t.xwin = s.xwin ∧ t.wheel = s.wheel ∧ t.cone = s.cone ∧ t.queues = s.queues
    let reverted := t.mem = {} ∧ t.xwin = {} ∧ t.wheel = {} ∧ t.cone = {} ∧ t.loops = [] ∧ t.contract = {}
    (ph = 3 → u.otp = s.otp → u.regs = s.regs →
      let refused := fun (c a : Nat) => code = c ∧ t.get (R.WEDGE_REPADDR_VALUE k.val) = a ∧ onward ∧ untouched
      let none32 := 0xFFFFFFFF
      (pass.val = 0 → s.statusReadable k.val = false → refused 0x03 0xFFF000) ∧
      (pass.val = 0 → s.statusReadable k.val = true → s.slotLive k.val = false ∨ s.slotSuperseded k.val = true → refused 0x02 none32 ∧
        t.on (if k.val = 0 then R.WEDGE_STAT_SKIPA else R.WEDGE_STAT_SKIPB) = true) ∧
      (pass.val = 1 ∨ (s.statusReadable k.val = true ∧ s.slotSkipped k.val = false) →
        let magic := s.slotNum k.val 0 4 = 0x4D495A56
        let major := s.slotNum k.val 4 4 / 0x10000 = 1
        (s.slotReadable k.val 0 256 = false → refused 0x03 0) ∧
        (s.slotReadable k.val 0 256 = true →
          (¬magic → refused 0x04 0) ∧ (magic → ¬major → refused 0x04 4) ∧
          (magic → major → s.imgLen k.val = 0 ∨ 0x600000 < s.imgLen k.val → refused 0x05 8)) ∧
        (s.headerCheck k.val = none → s.tableCheck k.val = none →
          (s.imgKeySlot k.val = none → refused 0x08 none32) ∧
          (∀ slot, s.imgKeySlot k.val = some slot →
            let b := s.imgBundle k.val
            let m := s.imgMessage k.val
            let ed := Config.ed25519Ok (b.take 32) m (s.slotBytes k.val (s.sigOfs k.val + 0x7C8) 64)
            let ml := Config.mldsaOk (b.drop 32) imgContext m (s.slotBytes k.val (s.sigOfs k.val + 0x808) 3309)
            let absent := (List.range 64).any fun i => (s.imgRequires k.val).testBit i && !(s.cap0 + cap1 * 2 ^ 32).testBit i
            (ed = false → refused 0x09 none32) ∧ (ed = true → ml = false → refused 0x0A none32) ∧
            (ed = true → ml = true →
              ((s.imgRevoke k.val).testBit slot = true → refused 0x0B none32) ∧
              ((s.imgRevoke k.val).testBit slot = false →
                (s.imgRollback k.val < s.otp.rollback → refused 0x0C none32) ∧
                (s.otp.rollback ≤ s.imgRollback k.val → (absent = true → refused 0x0D none32) ∧
                  (absent = false → t.get R.WEDGE_STAT_PHASE = 4 ∧ t.mem = {} ∧ t.xwin.buf = [] ∧ t.cone.sram = [] ∧
                    t.otp = s.otp ∧ t.wedge.todo = s.wedge.todo ∧ t.dev = .wedging)))))))) ∧
    (ph = 4 → u.otp = s.otp → u.regs = s.regs →
      (∀ pre e post, s.sects k.val = pre ++ e :: post → pre.length < 64 →
        (∀ a ∈ pre, Config.sha512 (s.stored k.val a) = a.hash ∧ s.sectPlain k.val a ≠ none) →
        let named := t.get (R.WEDGE_REP_SIDX k.val) = pre.length ∧ onward ∧ reverted
        (Config.sha512 (s.stored k.val e) ≠ e.hash → code = 0x0E ∧ named) ∧
        (Config.sha512 (s.stored k.val e) = e.hash → s.sectPlain k.val e = none → code = 0x0F ∧ named)) ∧
      ((∀ a ∈ s.sects k.val, Config.sha512 (s.stored k.val a) = a.hash ∧ s.sectPlain k.val a ≠ none) →
        t.get R.WEDGE_STAT_PHASE = 5 ∧ t.mem = (s.load k.val).mem ∧ t.xwin = (s.load k.val).xwin ∧ t.otp = s.otp ∧
        t.wedge.todo = s.wedge.todo ∧ t.dev = .wedging)) ∧
    (ph = 5 →
      (∀ r, s.contractCheck (s.sectBytes k.val 1 0) (s.regRecs k.val) = some r → code = r.code % 256 ∧
        t.get (R.WEDGE_REPADDR_VALUE k.val) = r.addr % 2 ^ 32 ∧ t.get (R.WEDGE_REPCYC_VALUE k.val) = r.cyc % 2 ^ 32 ∧
        onward ∧ reverted) ∧
      (s.contractCheck (s.sectBytes k.val 1 0) (s.regRecs k.val) = none →
        let kept := t.mem = s.mem ∧ t.otp = s.otp ∧ t.wedge.todo = s.wedge.todo ∧ t.dev = .wedging
        ((s.imgFlags k.val).testBit 0 = false → kept ∧ t.get R.WEDGE_STAT_PHASE = 7) ∧
        ((s.imgFlags k.val).testBit 0 = true →
          (s.bist.keyDone = false →
            kept ∧ t.get R.WEDGE_STAT_PHASE = 6 ∧ t.on R.BIST_STAT_RUNNING = true ∧ t.on R.BIST_STAT_KEYON = true) ∧
          (s.bist.keyDone = true → s.get R.BIST_STAT_RESULT = 1 → kept ∧ t.get R.WEDGE_STAT_PHASE = 7) ∧
          (s.bist.keyDone = true → s.get R.BIST_STAT_RESULT ≠ 1 → code = 0x60 ∧ onward ∧ reverted)))) ∧
    (ph = 6 →
      let passed := s.bist.broken = 0 ∧ s.bist.stopped = false ∧
        s.get R.BIST_SIG_LO_VALUE + 2 ^ 32 * s.get R.BIST_SIG_HI_VALUE = s.bist.expect
      (passed → t.get R.WEDGE_STAT_PHASE = 7 ∧ t.get R.BIST_STAT_RESULT = 1 ∧ t.mem = s.mem ∧ t.otp = s.otp) ∧
      (¬passed → code = 0x60 ∧ onward ∧ t.mem = {})) ∧
    (ph = 7 → s.wedge.burn = none →
      (∀ r, (s.apply k.val (parseTable (s.sectBytes k.val 1 0))).1 = some r → code = r.code % 256 ∧ t.otp = s.otp ∧ t.mem = {}) ∧
      ((s.apply k.val (parseTable (s.sectBytes k.val 1 0))).1 = none → t.wedge.burn ≠ none ∧ t.otp = s.otp ∧ t.dev = .wedging ∧
        t.wedge.due ≤ max s.cycle s.wedge.limit)) ∧
    (ph = 7 → s.wedge.burn ≠ none → t.otp = s.otp.acceptBurn (s.burnOf k.val) burnAll ∧ code = 0 ∧
      t.get R.WEDGE_STAT_BOOTSLOT = k.val + 1 ∧ t.get R.WEDGE_STAT_PASS = pass.val ∧ t.get R.WEDGE_IMG_ROLLBACK = s.imgRollback k.val % 256 ∧
      t.on R.CONE_STAT_RUNNING = true ∧ t.on R.ADC_CAL_BUSY = true ∧ t.get R.WEDGE_STAT_PHASE = 8 ∧ t.wedge.todo = [] ∧ t.dev = .wedging ∧
      t.mem = s.mem)

/-- Update commands complete: a command that the device state, the owner or UBUSY refuses changes nothing but URES; BEGIN takes the owner and the slot that did not start and erases; its end leaves WRITING with the image's bytes erased; UDATA gathers four bytes; a failed NOR operation ends in IDLE with URES = NOR; VERIFY needs every byte and waits for the security block's jobs before it (R343), COMMIT needs a verified image, and a finished commit has LIVE of the target and SUPERSEDED of the other slot programmed; ABORT returns to IDLE but from COMMITTING (R322–R325). -/
def Obligations.UpdateCompletes : Prop :=
  ∀ (s : State) (req : Requester) (w : Word), s.mayWrite req = true →
    let st := fun (t : State) (u b r : Nat) => t.get R.WEDGE_USTAT_USTATE = u ∧ t.get R.WEDGE_USTAT_UBUSY = b ∧
      t.get R.WEDGE_USTAT_URES = r ∧ t.wheel = s.wheel ∧ t.mem = s.mem ∧ t.otp = s.otp ∧ t.dev = s.dev
    (s.updRefusal req ≠ 0 →
      ∀ c ∈ [Instr.updateBegin req, .updateVerify req, .commitUpdate req, .updateAbort req],
        exec c s = .next (s.put R.WEDGE_USTAT_URES (s.updRefusal req))) ∧
    (s.updRefusal req = 0 →
      (s.ustate = 0 ∨ s.ustate = 6 → lenOk (s.get R.WEDGE_ULEN_LEN) = true → s.eraseUnit ≠ 0 →
        ∃ t, exec (.updateBegin req) s = .next t ∧ st t 1 1 0 ∧ t.get R.WEDGE_USTAT_OWNER = ownerCode req ∧
          t.get R.WEDGE_USTAT_TARGET = 3 - s.get R.WEDGE_STAT_BOOTSLOT ∧ t.get R.WEDGE_UADDR_COUNT = 0) ∧
      (s.ustate ≠ 0 → s.ustate ≠ 6 → exec (.updateBegin req) s = .next (s.put R.WEDGE_USTAT_URES 0x80)) ∧
      (s.ustate = 2 → s.get R.WEDGE_UADDR_COUNT = s.get R.WEDGE_ULEN_LEN →
        ∃ t, exec (.updateVerify req) s = .next t ∧ st t 3 1 0 ∧ t.nor = s.nor) ∧
      (s.ustate = 4 → ∃ t, exec (.commitUpdate req) s = .next t ∧ st t 5 1 0 ∧ t.nor = s.nor) ∧
      (s.ustate ≠ 4 → exec (.commitUpdate req) s = .next (s.put R.WEDGE_USTAT_URES 0x80)) ∧
      (s.ustate ≠ 5 → ∃ t, exec (.updateAbort req) s = .next t ∧ st t 0 0 0 ∧ t.nor.bytes = s.nor.bytes)) ∧
    (s.ustate = 1 →
      (s.eraseUnit ≠ 0 → ∃ t, exec (.eraseDone true) s = .next t ∧ t.get R.WEDGE_USTAT_USTATE = 2 ∧
        t.on R.WEDGE_USTAT_UBUSY = false ∧
        ∀ a, slotBase s.target ≤ a → a < slotBase s.target + s.get R.WEDGE_ULEN_LEN → t.norByte a = 0xFF) ∧
      (∃ t, exec (.eraseDone false) s = .next t ∧ st t 0 0 0x84)) ∧
    (s.updDev = true → s.updOwner req = true → s.ustate = 2 → s.get R.WEDGE_UADDR_COUNT + 4 ≤ s.get R.WEDGE_ULEN_LEN →
      ∃ t, exec (.udataWrite req w) s = .next t ∧ t.nor.page = s.nor.page ++ bytesLE 4 w.toNat ∧
        t.get R.WEDGE_UADDR_COUNT = (s.get R.WEDGE_UADDR_COUNT + 4) % 2 ^ R.WEDGE_UADDR_COUNT.width ∧
        t.nor.bytes = s.nor.bytes ∧ t.wheel = s.wheel ∧ t.mem = s.mem) ∧
    (s.ustate = 2 → s.nor.programming = true →
      (∃ t, exec (.norPageProgramDone true) s = .next t ∧ t.nor.page = s.nor.page.drop 256 ∧ t.get R.WEDGE_USTAT_USTATE = 2 ∧
        t.wheel = s.wheel ∧ t.mem = s.mem) ∧
      (∃ t, exec (.norPageProgramDone false) s = .next t ∧ st t 0 0 0x84)) ∧
    (s.ustate = 3 → s.sec.jobs.head? = some .verify →
      (∃ t, exec (.updateVerifyDone false) s = .next t ∧ st t 0 0 0x84) ∧
      (∃ t, exec (.updateVerifyDone true) s = .next t ∧
        match (s.pageWrite true).imageCheck s.target with
        | none => st t 4 0 0
        | some r => st t 2 0 (r.code % 256))) ∧
    (s.ustate = 3 → s.sec.jobs.head? ≠ some .verify → exec (.updateVerifyDone true) s = .next s) ∧
    (s.ustate = 5 →
      (∃ t, exec (.commitDone true) s = .next t ∧ t.get R.WEDGE_USTAT_USTATE = 6 ∧ t.on R.WEDGE_USTAT_UBUSY = false ∧
        t.slotLive s.target = true ∧ t.norWord (statusBase (1 - s.target) + 4) = 0) ∧
      (∃ t, exec (.commitDone false) s = .next t ∧ st t 0 0 0x84))

/-- Lifecycle and key commands complete: from the Cone they are refused with 0x10; a transition or key that the tables refuse leaves its code and burns nothing; an accepted one starts its burn, OTPBUSY reading 1, which ends within 2 ms, or 10 ms for a key, with the lifecycle word set, the named secrets destroyed and the state in force unchanged until the next reset, or with the slot's hash and its PROG word, or the image key; KEYBUF clears at the end of every key command; a burn that a reset cuts short unburns nothing (R329–R334, R345). When in its bound a burn ends is open (assumption 5). -/
def Obligations.LifecycleAndKeysComplete : Prop :=
  (∀ (s : State) (req : Requester) (target : Fin 16) (slot : Fin 4), s.secWrite req State.debugSec = true →
    let same := fun (t : State) => t.wheel = s.wheel ∧ t.mem = s.mem ∧ t.dev = s.dev ∧ t.sec.lc = s.sec.lc ∧ t.otp = s.otp
    let blankBuf := fun (t : State) => ∀ k : Fin 16, t.get (R.SEC_KEYBUF_BYTES k.val) = 0
    (req = .cone → exec (.lccmd req target) s = .next (s.put R.SEC_STAT_RESULT 0x10) ∧
      ∃ t, exec (.keycmd req slot) s = .next t ∧ same t ∧ blankBuf t ∧ t.get R.SEC_STAT_RESULT = 0x10) ∧
    (req ≠ .cone →
      (s.lcCode target.val false ≠ 0 →
        exec (.lccmd req target) s = .next (s.put R.SEC_STAT_RESULT (s.lcCode target.val false))) ∧
      (∀ lc, lifecycleOf target.val = some lc → s.lcCode target.val false = 0 → ∃ t due seed,
        exec (.lccmd req target) s = .next t ∧ same t ∧ t.on R.SEC_STAT_OTPBUSY = true ∧
        t.sec.burn = some (due, .transition lc seed) ∧ s.cycle < due ∧ due ≤ s.cycle + 1200000) ∧
      (s.keyCode slot.val ≠ 0 → ∃ t, exec (.keycmd req slot) s = .next t ∧ same t ∧ blankBuf t ∧
        t.get R.SEC_STAT_RESULT = s.keyCode slot.val) ∧
      (s.keyCode slot.val = 0 → ∃ t due, exec (.keycmd req slot) s = .next t ∧ same t ∧ t.on R.SEC_STAT_OTPBUSY = true ∧
        t.sec.burn = some (due, .key slot.val (s.keybuf 16) (s.keybuf 8)) ∧ s.cycle < due ∧ due ≤ s.cycle + 6000000))) ∧
  (∀ (s : State) (b : OtpBurn),
    let t := s.burnEnd b
    t.wheel = s.wheel ∧ t.mem = s.mem ∧ t.dev = s.dev ∧ t.sec.lc = s.sec.lc ∧ t.on R.SEC_STAT_OTPBUSY = false ∧
    t.get R.SEC_STAT_RESULT = 0 ∧ t.sec.burn = none ∧ s.otp.burnedTo t.otp ∧
    (∀ seed, b = .transition .develop seed → wordSet t.otp.wDev = true ∧ t.sec.burned = true) ∧
    (∀ seed, b = .transition .production seed → wordSet t.otp.wPro = true ∧ t.sec.burned = true) ∧
    (∀ seed, b = .transition .manufacture seed → wordSet t.otp.wMan = true ∧ wordSet t.otp.seedOk = true ∧ t.sec.burned = true) ∧
    (∀ seed, b = .transition .rma seed → s.otp.imgKey < 2 ^ 256 →
      wordSet t.otp.wRma = true ∧ t.otp.imgKeyOk = false ∧ t.sec.burned = true) ∧
    (∀ seed, b = .transition .scrapped seed → s.otp.imgKey < 2 ^ 256 → s.otp.seed < 2 ^ 256 →
      wordSet t.otp.wScr = true ∧ t.otp.imgKeyOk = false ∧ t.otp.seed = 2 ^ 256 - 1 ∧ t.sec.burned = true) ∧
    (∀ slot hash img, b = .key slot hash img →
      (∀ k : Fin 16, t.get (R.SEC_KEYBUF_BYTES k.val) = 0) ∧
      (slot < 3 → (t.otp.key slot).programmed = true ∧
        (hash < 2 ^ 512 → (s.otp.key slot).hash = 0 → (t.otp.key slot).hash = hash)) ∧
      (slot = 3 → img < 2 ^ 256 → s.otp.imgKey = 0 → t.otp.imgKey = img ∧ t.otp.imgProg = true))) ∧
  (∀ s : State, s.otp.burnedTo s.burnCut.otp ∧ s.burnCut.sec.burn = none)

/-- Attestation, authorisation and random numbers complete: an accepted report request takes the body as it stands now and raises BUSY, a refused one leaves its code; the report, in its turn on the engines, carries that body and counts, a timeout leaves 0x11 (R337, R338, R343); a challenge serves one response, whose check takes its turn within 3 ms; a failure counts and the third locks out, and an accepted debug response unlocks; RELOCK locks again; a challenge expires after 10 s and no sooner (R340–R342); a response word goes where the pointer stands, which advances (R346); a random number is fresh, or zero after a health failure and in SAFE_HOLD (R43, R344). -/
def Obligations.AttestationAndAuthorisationComplete : Prop :=
  ∀ (s : State) (req : Requester) (w : Word) (c : Nat),
    let same := fun (t : State) => t.wheel = s.wheel ∧ t.mem = s.mem ∧ t.dev = s.dev ∧ t.otp = s.otp
    (s.secWrite req State.debugSec = true →
      (s.attCode ≠ 0 → exec (.attestationRequest req) s = .next (s.put R.SEC_ATTSTAT_RESULT s.attCode)) ∧
      (s.attCode = 0 → ∃ t, exec (.attestationRequest req) s = .next t ∧ same t ∧ t.on R.SEC_ATTSTAT_BUSY = true ∧
        t.on R.SEC_ATTSTAT_READY = false ∧ t.sec.body = s.reportBody ∧ t.sec.jobs = s.sec.jobs ++ [.report])) ∧
    (s.on R.SEC_ATTSTAT_BUSY = true → s.sec.jobs.head? = some .report → s.dev ≠ .safeHold →
      (∃ t, exec .reportReady s = .next t ∧ same t ∧ t.on R.SEC_ATTSTAT_READY = true ∧ t.on R.SEC_ATTSTAT_BUSY = false ∧
        t.get R.SEC_ATTSTAT_RESULT = 0 ∧ t.sec.reports = s.sec.reports + 1 ∧ t.sec.att.take s.sec.body.length = s.sec.body ∧
        t.sec.jobs = s.sec.jobs.tail) ∧
      (∃ t, exec .reportTimeout s = .next t ∧ same t ∧ t.get R.SEC_ATTSTAT_RESULT = 0x11 ∧ t.on R.SEC_ATTSTAT_BUSY = false)) ∧
    (s.on R.SEC_ATTSTAT_BUSY = false ∨ s.sec.jobs.head? ≠ some .report → exec .reportReady s = .next s ∧ exec .reportTimeout s = .next s) ∧
    (s.secWrite req State.debugChal = true →
      (s.get R.SEC_RESPPTR_WORD < 1340 → ∃ t, exec (.respdataWrite req w) s = .next t ∧ same t ∧
        Sparse.get 0#32 t.sec.resp (s.get R.SEC_RESPPTR_WORD) = w ∧
        t.get R.SEC_RESPPTR_WORD = (s.get R.SEC_RESPPTR_WORD + 1) % 2 ^ R.SEC_RESPPTR_WORD.width) ∧
      (req = .cone → ∀ i ∈ [Instr.chreq req, .submit req, .debugRelock req], exec i s = .next (s.put R.SEC_DBGSTAT_RESULT 0x10)) ∧
      (req ≠ .cone →
        (s.chCode (s.get R.SEC_DBGCTL_PURPOSE) = 0 → ∃ t, exec (.chreq req) s = .next t ∧ same t ∧
          t.on R.SEC_DBGSTAT_CHVALID = true ∧ t.get R.SEC_DBGSTAT_RESULT = 0 ∧ t.sec.purpose = s.get R.SEC_DBGCTL_PURPOSE) ∧
        (s.chCode (s.get R.SEC_DBGCTL_PURPOSE) ≠ 0 → ∃ t, exec (.chreq req) s = .next t ∧ same t ∧
          t.on R.SEC_DBGSTAT_CHVALID = false ∧ t.get R.SEC_DBGSTAT_RESULT = s.chCode (s.get R.SEC_DBGCTL_PURPOSE)) ∧
        (s.on R.SEC_DBGSTAT_BUSY = true → exec (.submit req) s = .next (s.put R.SEC_DBGSTAT_RESULT 7)) ∧
        (s.on R.SEC_DBGSTAT_BUSY = false → s.on R.SEC_DBGSTAT_CHVALID = false →
          exec (.submit req) s = .next (s.put R.SEC_DBGSTAT_RESULT 11)) ∧
        (s.on R.SEC_DBGSTAT_BUSY = false → s.on R.SEC_DBGSTAT_CHVALID = true → s.tsc < s.sec.chalTsc + 1000000000 →
          ∃ t due, exec (.submit req) s = .next t ∧ same t ∧ t.on R.SEC_DBGSTAT_CHVALID = false ∧ t.on R.SEC_DBGSTAT_BUSY = true ∧
            t.sec.jobs = s.sec.jobs ++ [.check due s.respCode] ∧ s.cycle < due ∧ due ≤ s.cycle + 1800000) ∧
        exec (.debugRelock req) s = .next (s.clear R.SEC_DBGSTAT_UNLOCKED))) ∧
    (let t := s.checkEnd c
     t.on R.SEC_DBGSTAT_BUSY = false ∧ t.sec.jobs = s.sec.jobs.tail ∧ t.wheel = s.wheel ∧ t.mem = s.mem ∧ t.dev = s.dev ∧
     (c = 0 → s.sec.purpose = 1 → t.on R.SEC_DBGSTAT_UNLOCKED = true ∧ t.get R.SEC_DBGSTAT_RESULT = 0) ∧
     (c ≠ 0 → t.get R.SEC_DBGSTAT_RESULT = c % 2 ^ R.SEC_DBGSTAT_RESULT.width ∧
       t.on R.SEC_DBGSTAT_UNLOCKED = s.on R.SEC_DBGSTAT_UNLOCKED ∧
       (s.get R.SEC_DBGSTAT_FAILS = 2 → t.on R.SEC_DBGSTAT_LOCKOUT = true))) ∧
    exec .challengeExpiry s = .next (if s.on R.SEC_DBGSTAT_CHVALID = true ∧ s.sec.chalTsc + 1000000000 ≤ s.tsc then
      s.clear R.SEC_DBGSTAT_CHVALID else s) ∧
    (s.dev ≠ .off → s.dev ≠ .safeHold → exec .rngHealthFail s = .next (s.raise R.SEC_RNGSTAT_FAIL)) ∧
    (s.busUp = true → req ≠ .debug → s.reqActs req = true →
      (s.on R.SEC_RNGSTAT_FAIL = true ∨ s.dev = .safeHold → exec (.rngRead req) s = .next { s with rdata := 0 }) ∧
      (s.on R.SEC_RNGSTAT_FAIL = false → s.dev ≠ .safeHold → exec (.rngRead req) s =
        .next { s with free := s.free + 1, rdata := Config.trngWord s.free % 2 ^ 32 }))

/-! ## Queues, CAN, Ethernet, host port (R347–R405) -/

/-- Queue commands complete: a queue is first in, first out. A push in word mode appends its word, or is dropped and flagged when the queue is full; in packet mode the first word is preceded by a header with the TSC, the packet's number and its producer, and PUSHHIE closes the packet; PKTEMPTY on a closed queue appends an empty packet's header; a pop delivers the oldest deliverable entry and removes exactly it; a push by another unit than the producer, and a pop by another than the consumer, change no entry (R347–R360). Free entries are judged before the pops of the same FABCLK edge (R358); while a data-plane reset runs a push is dropped (R364). No other queue, and neither Wheel nor memories, are touched. -/
def Obligations.QueuesAreFirstInFirstOut : Prop :=
  ∀ (s : State) (req : Requester) (q : Fin 32) (hi : Word) (last : Bool),
    let k := q.val
    let x := s.queue k
    let w := hi.toNat * 2 ^ 32 + x.lo
    let push := if last then Instr.pushhie req q hi else .pushhi req q hi
    let mark := if last then markEnd else markData
    let rest := fun (t : State) => t.wheel = s.wheel ∧ t.mem = s.mem ∧ t.isl = s.isl ∧ t.dev = s.dev ∧ ∀ r, r ≠ k → t.queue r = s.queue r
    (s.mayWrite req = true →
      (s.get (R.QUE_QCFG_PROD k) ≠ reqUnit req → ∀ c ∈ [push, Instr.pktempty req q],
        exec c s = .next ((s.raise (R.QUE_QSTAT_PUSHREJ k)).bumpSat (R.QUE_QERR_REJCNT k))) ∧
      (s.get (R.QUE_QCFG_PROD k) = reqUnit req → s.dprDue = none →
        (s.qPacket k = false → 1 ≤ s.qRoom k → ∃ t, exec push s = .next t ∧
          (t.queue k).ents = x.ents ++ [entry w markData] ∧ rest t) ∧
        (s.qPacket k = false → s.qRoom k = 0 → ∃ t, exec push s = .next t ∧ (t.queue k).ents = x.ents ∧
          t.on (R.QUE_QSTAT_DROP k) = true ∧ rest t) ∧
        (s.qPacket k = true → x.dropping = false → x.openP = false → 3 ≤ s.qRoom k → ∃ t, exec push s = .next t ∧
          (t.queue k).ents = x.ents ++ [entry (s.tsc % 2 ^ 40 * 2 ^ 24 + x.seq * 2 ^ 16 + reqUnit req * 2 ^ 11 +
            (if x.dropped then 2 else 0)) markHdr, entry w mark] ∧
          (t.queue k).openP = !last ∧ (t.queue k).seq = (x.seq + 1) % 256 ∧ rest t) ∧
        (s.qPacket k = true → x.dropping = false → x.openP = true → 2 ≤ s.qRoom k → ∃ t, exec push s = .next t ∧
          (t.queue k).ents = x.ents ++ [entry w mark] ∧ (t.queue k).openP = !last ∧ rest t) ∧
        (s.qPacket k = true → x.dropping = false → x.openP = false → 1 ≤ s.qRoom k → ∃ t,
          exec (.pktempty req q) s = .next t ∧ (t.queue k).ents = x.ents ++ [entry (s.hdrWord k true) markHdr] ∧ rest t)) ∧
      (s.get (R.QUE_QCFG_PROD k) = reqUnit req → s.dprDue ≠ none → ∃ t, exec push s = .next t ∧ (t.queue k).ents = x.ents ∧
        t.on (R.QUE_QSTAT_DROP k) = true ∧ rest t)) ∧
    (s.busUp = true → s.reqActs req = true → (req = .debug → s.debugFull = true) →
      (s.get (R.QUE_QCFG_CONS k) ≠ reqUnit req → ∃ t, exec (.poplo req q) s = .next t ∧ t.rdata = 0 ∧
        t.on (R.QUE_QSTAT_POPREJ k) = true ∧ t.queues = s.queues ∧ t.wheel = s.wheel ∧ t.mem = s.mem) ∧
      (s.get (R.QUE_QCFG_CONS k) = reqUnit req →
        (x.ents = [] → ∃ t, exec (.poplo req q) s = .next t ∧ t.rdata = 0 ∧ t.on (R.QUE_POPTAG_EMPTY k) = true ∧
          t.queues = s.queues ∧ t.wheel = s.wheel ∧ t.mem = s.mem) ∧
        (∀ e l, x.ents = e :: l → s.deliverable k = true → ∃ t, exec (.poplo req q) s = .next t ∧
          t.rdata = e.word % 2 ^ 32 ∧ t.get (R.QUE_POPHI_WORD k) = e.word / 2 ^ 32 % 2 ^ 32 ∧
          (t.queue k).ents = l ∧ t.on (R.QUE_POPTAG_EMPTY k) = false ∧ rest t)))

/-- CAN attempts, cancellation and bus-off complete: an SOF that may start stamps the head frame and holds it, and the SOF seen back on CANx_RX gives its stamp (R376); a measured delay above 127 ends the attempt as a bit error (R369); a lost arbitration counts and keeps the frame, a sent frame counts and leaves the FIFO, an error leaves its code; CANCEL removes the waiting frames with its tag, CANCELALL all; RECOVER starts a recovery whose end clears the error counters; a complete and correct packet of the transmit queue becomes the last frame of the FIFO (R373–R383). A command of an absent controller is noted (R504), and one of a controller that has stopped for BANKED does nothing (assumption 48). -/
def Obligations.CanTransmissionCompletes : Prop :=
  ∀ (s : State) (req : Requester) (x : Fin 4) (n : Nat) (e : CanErr) (arb : Bool) (tag : BitVec 16),
    let k := x.val
    let c := s.canx k
    let same := fun (t : State) => t.wheel = s.wheel ∧ t.mem = s.mem ∧ t.isl = s.isl ∧ t.dev = s.dev ∧ t.otp = s.otp
    (s.canMayStart k = true → ∃ t, exec (.canAttempt x .sof) s = .next t ∧ t.canAct k = true ∧
      (t.canx k).stamp = (s.tsc + 1) % 2 ^ 32 ∧ (t.canx k).tx = c.tx ∧ t.queues = s.queues ∧ same t) ∧
    (s.canAct k = true →
      (c.seen = false → ∃ t, exec (.canAttempt x .seen) s = .next t ∧ (t.canx k).stamp = (s.tsc + 1) % 2 ^ 32 ∧
        (t.canx k).seen = true ∧ t.canAct k = true ∧ (t.canx k).tx = c.tx ∧ t.queues = s.queues ∧ same t) ∧
      (s.canTdc k = true → 127 < n → ∃ t, exec (.canAttempt x (.delay n)) s = .next t ∧ t.canAct k = false ∧
        t.get (R.CAN_TDC_TDCV k) = min n 255 ∧ same t) ∧
      (c.seen = false → exec (.canAttempt x .sent) s = .next s) ∧
      (s.canTdc k = true → n ≤ 127 → exec (.canAttempt x (.delay n)) s = .next (s.put (R.CAN_TDC_TDCV k) n)) ∧
      (c.once = false → c.sleepReq = false → ∃ t, exec (.canAttempt x .lost) s = .next t ∧ t.canAct k = false ∧
        t.get (R.CAN_TXCNT_ARBLOST k) = (s.bumpSat (R.CAN_TXCNT_ARBLOST k)).get (R.CAN_TXCNT_ARBLOST k) ∧
        (t.canx k).tx = c.tx ∧ t.queues = s.queues ∧ same t) ∧
      (∀ f l, c.tx = f :: l → c.orphan = none → c.seen = true → c.once = false → c.sleepReq = false → d1Echo f.d1 = false → s.canMode k ≠ 3 →
        ∃ t, exec (.canAttempt x .sent) s = .next t ∧ t.canAct k = false ∧ (t.canx k).tx = l ∧
          t.get (R.CAN_TXCNT_TXOK k) = (s.bumpSat (R.CAN_TXCNT_TXOK k)).get (R.CAN_TXCNT_TXOK k) ∧
          t.queues = s.queues ∧ same t) ∧
      (∃ t, exec (.canAttempt x (.error e arb)) s = .next t ∧ t.canAct k = false ∧ t.get (R.CAN_ERR_LEC k) = e.code ∧ same t)) ∧
    (s.mayWrite req = true → s.nCan ≤ k → ∀ p ∈ [(Instr.canCancel req x tag, 0x2C), (.canCancelAll req x, 8), (.canRecover req x, 8)],
      ∃ t, exec p.1 s = .next t ∧ t.on R.SYS_ABSENT_FLAG = true ∧ t.get R.SYS_ABSENT_REQ = reqIdx req + 1 ∧
        t.on R.SYS_ABSENT_WR = true ∧ t.get R.SYS_ABSENT_ADDR_ADDR = 0x40700000 + 0x10000 * k + p.2 ∧ t.can = s.can ∧ same t) ∧
    (s.mayWrite req = true → k < s.nCan → s.canStopped k = true →
      ∀ c ∈ [Instr.canCancel req x tag, .canCancelAll req x, .canRecover req x], exec c s = .next s) ∧
    (s.mayWrite req = true → k < s.nCan → s.canStopped k = false →
      (s.canAct k = false → ∃ t, exec (.canCancel req x tag) s = .next t ∧
        (t.canx k).tx = c.tx.filter (fun f => !decide (d1Tag f.d1 = tag.toNat)) ∧ same t) ∧
      (s.canAct k = false → ∃ t, exec (.canCancelAll req x) s = .next t ∧ (t.canx k).tx = [] ∧ same t) ∧
      (s.canEstate k = 2 → ∃ t, exec (.canRecover req x) s = .next t ∧ t.canEstate k = 3 ∧
        t.get (R.CAN_TXSTAT_NACKN k) = 0 ∧ t.can = s.can ∧ same t)) ∧
    (s.canRuns k = true → s.canEstate k = 3 → ∃ t, exec (.recoveryComplete x) s = .next t ∧ t.canEstate k = 0 ∧
      t.get (R.CAN_ERR_TEC k) = 0 ∧ t.get (R.CAN_ERR_REC k) = 0 ∧ t.can = s.can ∧ same t) ∧
    (s.canRuns k = true → ∃ t, exec (.integration x) s = .next t ∧ (t.canx k).integrated = true ∧ (t.canx k).tx = c.tx ∧ same t) ∧
    (s.consQueue (0x0E + k) = none → exec (.transmitPacket x) s = .next s) ∧
    (∀ q h a b, s.consQueue (0x0E + k) = some q → s.canQueues k = true → s.canMode k ≠ 2 → c.tx.length < 32 → q < 32 →
      s.qPacket q = true → (s.queue q).ents = [entry h markHdr, entry a markData, entry b markEnd] → h.testBit 0 = false →
      s.frameOk k [a, b] = true →
      ∃ t, exec (.transmitPacket x) s = .next t ∧ (t.queue q).ents = [] ∧
        (t.canx k).tx = c.tx ++ [{ d0 := a, d1 := b, data := [], slot := none }] ∧ same t)

/-- CAN reception, safety status frames, sleep and wake complete: a valid frame that the filters accept counts, one they reject counts nothing, one with an error raises REC by 1 or 8 with its code in LEC (R381); a slot that falls due in SAFE_HOLD appends its frame to CAN0's FIFO unless one of its frames still waits, and falls due again a PERIOD later; a controller sleeps at once outside an attempt, and wakes by command, by a dominant level of at least WUPFILT × 0.25 µs, by a matching frame or by the 32nd faulty one, each with its cause, but that in BANKED, and once it has agreed to an entry, its wake source fires instead (R384–R388, R438). -/
def Obligations.CanReceptionAndWakeComplete : Prop :=
  ∀ (s : State) (req : Requester) (x k4 : Fin 4) (d0 : BitVec 64) (af : Word) (data : List (BitVec 8)) (ticks ns : Nat)
    (e : CanErr) (heavy ide : Bool) (id : BitVec 29) (dlc : Fin 16),
    let k := x.val
    let d := d0.toNat
    let same := fun (t : State) => t.wheel = s.wheel ∧ t.mem = s.mem ∧ t.isl = s.isl ∧ t.dev = s.dev ∧ t.otp = s.otp
    let due := Sparse.get 0 (s.canx 0).sfDue k4.val
    let again := fun (t : State) => Sparse.get 0 (t.canx 0).sfDue k4.val = due + 600000 * s.get (R.CAN0_SFCFG_PERIOD k4.val)
    let woken := fun (t : State) (cause : Nat) => t.canAsleep k = false ∧ t.on (R.CAN_STAT_WAKEEV k) = true ∧
      t.get (R.CAN_WAKESTAT_CAUSE k) = cause ∧ same t
    (s.canOnBus k = true → s.canMode k ≠ 3 → s.d0Ok k d = true → (d.testBit 47 && decide (d0Fmt d = 1)) = false →
      data.length = d0Bytes d → s.dev ≠ .safeHold →
      (∀ f, s.canFilter k d = some f → ∃ t, exec (.receiveFrame x d0 af data ticks none) s = .next t ∧
        t.get (R.CAN_RXCNT_RXOK k) = (s.bumpSat (R.CAN_RXCNT_RXOK k)).get (R.CAN_RXCNT_RXOK k) ∧ same t) ∧
      (s.canFilter k d = none → ∃ t, exec (.receiveFrame x d0 af data ticks none) s = .next t ∧
        t.get (R.CAN_RXCNT_RXOK k) = s.get (R.CAN_RXCNT_RXOK k) ∧ t.can = s.can ∧ t.queues = s.queues ∧ same t)) ∧
    (s.canOnBus k = true → s.canMode k ≠ 3 → ∃ t, exec (.receiveFrame x d0 af data ticks (some (e, heavy))) s = .next t ∧
      t.get (R.CAN_ERR_LEC k) = e.code ∧ t.get (R.CAN_ERR_REC k) = min (s.get (R.CAN_ERR_REC k) + if heavy then 8 else 1) 255 ∧
      t.canEstate k = (if 127 < s.get (R.CAN_ERR_TEC k) ∨ 127 < t.get (R.CAN_ERR_REC k) then 1 else 0) ∧ t.can = s.can ∧
      t.queues = s.queues ∧ same t) ∧
    (s.dev = .safeHold → s.canRuns 0 = true → due ≠ 0 → due ≤ s.cycle →
      ((∀ f ∈ (s.canx 0).tx, f.slot ≠ some k4.val) → ∃ t, exec (.safetyStatusFrame k4) s = .next t ∧
        (t.canx 0).tx = (s.canx 0).tx ++ [s.sfFrame k4.val] ∧ again t ∧ same t) ∧
      ((∃ f ∈ (s.canx 0).tx, f.slot = some k4.val) → ∃ t, exec (.safetyStatusFrame k4) s = .next t ∧
        t.on (R.CAN_STAT_SFSKIP 0) = true ∧ (t.canx 0).tx = (s.canx 0).tx ∧ again t ∧ same t)) ∧
    (due = 0 ∨ s.cycle < due → exec (.safetyStatusFrame k4) s = .next s) ∧
    (s.mayWrite req = true → k < s.nCan → s.canStopped k = false →
      (s.canAsleep k = false → s.canAct k = false → ∃ t, exec (.canSleep req x) s = .next t ∧ t.canAsleep k = true ∧
        (t.canx k).integrated = false ∧ same t) ∧
      (s.canAsleep k = true → ∃ t, exec (.canWake req x) s = .next t ∧ woken t 0)) ∧
    (s.dev = .banked ∨ s.canStopped k = true →
      let fires := fun (c : Instr) => ∃ t, exec c s = .next t ∧ t.pwr.fired.testBit k = true ∧ t.can = s.can ∧ t.queues = s.queues ∧ same t
      (s.canListens k 1 = true → 250 * s.get (R.CAN_WAKECFG_WUPFILT k) ≤ ns → fires (.dominantWake x ns)) ∧
      (s.canListens k 2 = true → (s.wakeMatch k ide id.toNat dlc.val ((data.map fun b => b.toNat).take 8) = true →
          fires (.wakeFrame x ide id dlc data)) ∧
        (s.get (R.CAN_WAKESTAT_FECNT k) = 31 → fires (.fecntWake x)))) ∧
    (s.canListens k 1 = true → s.dev ≠ .banked → s.canStopped k = false →
      (250 * s.get (R.CAN_WAKECFG_WUPFILT k) ≤ ns → ∃ t, exec (.dominantWake x ns) s = .next t ∧ woken t 1) ∧
      (ns < 250 * s.get (R.CAN_WAKECFG_WUPFILT k) → exec (.dominantWake x ns) s = .next s)) ∧
    (s.canListens k 2 = true → s.dev ≠ .banked → s.canStopped k = false →
      (s.wakeMatch k ide id.toNat dlc.val ((data.map fun b => b.toNat).take 8) = true →
        ∃ t, exec (.wakeFrame x ide id dlc data) s = .next t ∧ woken t 2) ∧
      (s.wakeMatch k ide id.toNat dlc.val ((data.map fun b => b.toNat).take 8) = false →
        exec (.wakeFrame x ide id dlc data) s = .next (s.clear (R.CAN_WAKESTAT_FECNT k))) ∧
      (s.get (R.CAN_WAKESTAT_FECNT k) = 31 → ∃ t, exec (.fecntWake x) s = .next t ∧ woken t 3) ∧
      (s.get (R.CAN_WAKESTAT_FECNT k) < 31 → exec (.fecntWake x) s =
        .next (s.put (R.CAN_WAKESTAT_FECNT k) (s.get (R.CAN_WAKESTAT_FECNT k) + 1))))

/-- The host port completes its frames: one cut before edge 40, one with a wrong command CRC or a malformed command, a write with a wrong data CRC and a write in SAFE_HOLD leave their codes 0x03, 0x01, 0x04, 0x02, 0x06, are counted and access nothing; a whole read answers with STATUS, the data read and a CRC over both, and counts in SEQ; a whole write makes its access; a whole stream frame answers with STATUS and shifts out the entries its edges have room for, and of the next one the bits that follow (R391–R398, R404). During a BANKED entry register frames are answered, stream frames no more once the streaming side has stopped and is no armed wake source (R434, R438). -/
def Obligations.HostFramesComplete : Prop :=
  ∀ (s : State) (cmd wdata : Word) (crcC crcW : BitVec 8) (edges lead : Nat),
    s.hspiAnswers = true → s.dev ≠ .banked → s.wakeArmed 5 = false →
    let addr := 0x40000000 + cmd.toNat % 2 ^ 24
    let good := crcC.toNat = crc8 (bitsMsb 32 cmd.toNat)
    let formed := slice cmd.toNat 24 7 = 0 ∧ cmd.toNat % 4 = 0
    let bad := fun (code : Nat) => ∃ t, exec (.registerFrame cmd crcC wdata crcW edges lead) s = .next t ∧
      t.get R.HSPI_STAT_LASTCODE = code ∧ t.get R.HSPI_STAT_ERRCNT = (s.bumpSat R.HSPI_STAT_ERRCNT).get R.HSPI_STAT_ERRCNT ∧
      t.wheel = s.wheel ∧ t.mem = s.mem ∧ t.queues = s.queues ∧ t.rdata = s.rdata ∧ t.dev = s.dev ∧ t.hspi.seq = s.hspi.seq
    (cmd ≠ 0x40000000#32 →
      (edges < 40 → bad 3) ∧ (40 ≤ edges → ¬good → bad 1) ∧ (40 ≤ edges → good → ¬formed → bad 4) ∧
      (edges = 88 → good → formed → cmd.getLsbD 31 = true →
        (crcW.toNat ≠ crc8 (bitsMsb 64 (cmd.toNat * 2 ^ 32 + wdata.toNat)) → bad 2) ∧
        (crcW.toNat = crc8 (bitsMsb 64 (cmd.toNat * 2 ^ 32 + wdata.toNat)) →
          (s.dev = .safeHold → s.overtaken .hspi = false → bad 6) ∧
          (s.dev ≠ .safeHold → s.absentAddr addr = false → exec (.registerFrame cmd crcC wdata crcW edges lead) s =
            .next (((s.busWrite .hspi addr wdata.toNat).hspiRespond (s.hspiStatus s.dev.code) 0).hspiEnd true 0)))) ∧
      (edges = 88 → good → formed → cmd.getLsbD 31 = false → s.absentAddr addr = false →
        ∃ t, exec (.registerFrame cmd crcC wdata crcW edges lead) s = .next t ∧ t.get R.HSPI_STAT_LASTCODE = 0 ∧
          t.hspi.miso / 2 ^ 8 = s.hspiStatus s.dev.code * 2 ^ 32 + (s.busRead .hspi addr).rdata % 2 ^ 32 ∧
          t.hspi.miso % 2 ^ 8 = crc8 (bitsMsb 64 (t.hspi.miso / 2 ^ 8)) ∧ t.hspi.seq = (s.hspi.seq + 1) % 256 ∧
          t.dev = s.dev ∧ t.mem = s.mem)) ∧
    (s.stopped 6 = true → exec (.streamFrame crcC edges lead) s = .next s) ∧
    (s.stopped 6 = false →
      (crcC.toNat = crc8 (bitsMsb 32 0x40000000) → 48 ≤ edges → s.dev ≠ .safeHold →
        ∃ t, exec (.streamFrame crcC edges lead) s = .next t ∧ t.get R.HSPI_STAT_LASTCODE = 0 ∧
          t.hspi.miso = s.hspiStatus s.dev.code * 2 ^ 40 ∧
          t.hspi.stream = (s.streamOut ((edges - 48) / 80)).1 ∧ t.hspi.stream.length = (edges - 48) / 80 ∧
          t.hspi.part = ((edges - 48) % 80, (s.streamOut ((edges - 48) / 80)).2.streamNext / 2 ^ (80 - (edges - 48) % 80)) ∧
          t.wheel = s.wheel ∧ t.mem = s.mem ∧ t.dev = s.dev) ∧
      (crcC.toNat ≠ crc8 (bitsMsb 32 0x40000000) → 40 ≤ edges → ∃ t, exec (.streamFrame crcC edges lead) s = .next t ∧
        t.get R.HSPI_STAT_LASTCODE = 1 ∧ t.queues = s.queues ∧ t.wheel = s.wheel ∧ t.mem = s.mem))

/-- Interconnect accesses complete: a write of a present register by a requester that may write has its block's effect, and one of a host port in SAFE_HOLD, of a halted Cone, of a debug port that does not reach the address, or of a device that does not answer has none (R12, R43, R267, R330), but for a request that its cause has overtaken (R38); an access to an absent address reads zero, is discarded, and is noted with its requester, direction and address, to the host port with the code 0x05 (R398, R500, R503, R504); a word that an open debug port writes to a memory reads back over it (R80, R330; at which addresses is the model's, assumption 48); a low half and the high half read after it are of one instant, whatever the counter has done between (R399). -/
def Obligations.InterconnectAccessesComplete : Prop :=
  ∀ (s : State) (req : Requester) (addr v : Word) (wr : Bool),
    let a := addr.toNat
    (s.busUp = true → s.mayWrite req = true → req ≠ .debug → a % 4 = 0 → s.absentAddr a = false →
      exec (.registerWrite req addr v) s = .next ((s.writeAt req a v.toNat).sync)) ∧
    (s.scanning = false → s.overtaken req = false → s.debugMem req a = none → s.mayBus req = false ∨ s.reqReaches req a = false →
      exec (.registerWrite req addr v) s = .next s) ∧
    (s.busUp = true → s.debugFull = true → debugWord a ≠ none → ∃ t, exec (.registerWrite .debug addr v) s = .next t ∧
      t.regs = s.regs ∧ t.dev = s.dev ∧ t.wheel = s.wheel ∧
      ∃ u, exec (.absentAccess .debug addr false) t = .next u ∧ u.rdata = v.toNat ∧ u.regs = s.regs ∧ u.mem = t.mem ∧ u.cone = t.cone) ∧
    (s.absentAddr a = false → exec (.absentAccess req addr wr) s = .next s) ∧
    (s.busUp = true → s.mayWrite req = true → req ≠ .debug → a % 4 = 0 → s.absentAddr a = true →
      ∃ t, exec (.absentAccess req addr wr) s = .next t ∧ t.on R.SYS_ABSENT_FLAG = true ∧
        t.get R.SYS_ABSENT_COUNT = (s.bumpSat R.SYS_ABSENT_COUNT).get R.SYS_ABSENT_COUNT ∧
        t.get R.SYS_ABSENT_REQ = reqIdx req + 1 ∧ t.on R.SYS_ABSENT_WR = wr ∧ t.get R.SYS_ABSENT_ADDR_ADDR = a ∧
        t.rdata = (if wr then s.rdata else 0) ∧ (req = .hspi → t.get R.HSPI_STAT_LASTCODE = 5) ∧
        t.wheel = s.wheel ∧ t.mem = s.mem ∧ t.queues = s.queues ∧ t.dev = s.dev) ∧
    (s.busUp = true → s.reqActs req = true → s.reqReaches req (lowHalf 0) = true →
      ∃ t, exec (.lowHalfRead req 0) s = .next t ∧ t.rdata = s.tsc % 2 ^ 32 ∧ t.regs = s.regs ∧ t.wheel = s.wheel ∧ t.mem = s.mem ∧
        ∀ u : State, u.busUp = true → u.reqActs req = true → u.reqReaches req (lowHalf 0 + 4) = true → u.hspi.slot = t.hspi.slot →
          ∃ z, exec (.highHalfRead req 0) u = .next z ∧ z.rdata = s.tsc / 2 ^ 32 % 2 ^ 32 ∧ z.regs = u.regs)

/-- Ethernet commands complete: a poll in progress in RGMII or an in-band control word sets the link, speed and duplex it reports, a poll without a link clears the link, and with POLLMS = 0 the link is up at FSPEED in full duplex while the interface receives; a manual MDIO access is busy until its end brings the data of a read; a correct packet of the transmit queue is sent with its FCS and counted, a malformed one discarded and flagged; a frame that was being received at a data-plane reset is discarded (R468); a frame with a bad FCS counts as such, and an accepted one counts and goes to the MAC's queue; ETH_nWAKE wakes a sleeping MAC, or in BANKED, and once the MAC has stopped for it, fires its source (R401–R405, R431, R438). -/
def Obligations.EthernetCommandsComplete : Prop :=
  ∀ (s : State) (req : Requester) (r1 r4 r5 r9 r10 data : BitVec 16) (up hdx rd : Bool) (speed : Fin 3) (phy reg : Fin 32)
    (bytes : List (BitVec 8)) (ticks : Nat),
    let same := fun (t : State) => t.wheel = s.wheel ∧ t.mem = s.mem ∧ t.queues = s.queues ∧ t.isl = s.isl ∧ t.dev = s.dev
    (s.polls = true → s.eth.polling = true → s.get R.ETH_CFG_IF ≠ 1 → ∃ t, exec (.ethPoll r1 r4 r5 r9 r10) s = .next t ∧
      t.get R.ETH_PHYRES_R1 = r1.toNat ∧ t.on R.ETH_STAT_LINK = s.on R.ETH_STAT_LINK ∧ t.eth.polling = false ∧ same t) ∧
    (s.polls = true → s.eth.polling = true → s.get R.ETH_CFG_IF = 1 →
        (∀ m, r1.getLsbD 2 = true → r1.getLsbD 5 = true → phyMode r4.toNat r5.toNat r9.toNat r10.toNat = some m →
          ∃ t, exec (.ethPoll r1 r4 r5 r9 r10) s = .next t ∧ t.on R.ETH_STAT_LINK = true ∧ t.get R.ETH_STAT_SPEED = m.1 ∧
            t.on R.ETH_STAT_HDX = m.2 ∧ t.eth.waitPoll = false ∧ same t) ∧
        (r1.getLsbD 2 = false → ∃ t, exec (.ethPoll r1 r4 r5 r9 r10) s = .next t ∧ t.on R.ETH_STAT_LINK = false ∧ same t)) ∧
    (s.eth.polling = false → exec (.ethPoll r1 r4 r5 r9 r10) s = .next s) ∧
    (s.ethRuns = true →
      (s.get R.ETH_CFG_POLLMS = 0 → ∃ t, exec (.sgmiiControlWord up speed hdx) s = .next t ∧ t.on R.ETH_STAT_LINK = up ∧
        t.get R.ETH_STAT_SPEED = s.get R.ETH_CFG_FSPEED % 2 ^ R.ETH_STAT_SPEED.width ∧ t.on R.ETH_STAT_HDX = false ∧ same t) ∧
      (s.get R.ETH_CFG_POLLMS ≠ 0 → s.get R.ETH_CFG_IF = 2 → ∃ t, exec (.sgmiiControlWord up speed hdx) s = .next t ∧ t.on R.ETH_STAT_LINK = up ∧
        t.get R.ETH_STAT_SPEED = speed.val ∧ t.on R.ETH_STAT_HDX = hdx ∧ same t)) ∧
    (s.hasEth = true →
      (s.mayWrite req = true → s.on R.ETH_MDIO_GO = false → s.dev ≠ .safeHold → s.stopped 1 = false →
        ∃ t, exec (.mdioAccess req (.start rd phy reg data)) s = .next t ∧ t.on R.ETH_MDIO_GO = true ∧
          t.on R.ETH_STAT_MDIOBUSY = true ∧ t.on R.ETH_MDIO_RD = rd ∧ t.get R.ETH_MDIO_PHYAD = phy.val ∧
          t.get R.ETH_MDIO_REG = reg.val ∧ t.get R.ETH_MDIO_DATA = data.toNat ∧ same t) ∧
      (s.on R.ETH_MDIO_GO = true → s.dev ≠ .safeHold → s.eth.polling = false → ∃ t, exec (.mdioAccess req (.done data)) s = .next t ∧ t.on R.ETH_MDIO_GO = false ∧
        t.on R.ETH_STAT_MDIOBUSY = false ∧
        t.get R.ETH_MDIO_DATA = (if s.on R.ETH_MDIO_RD then data.toNat else s.get R.ETH_MDIO_DATA) ∧ same t) ∧
      (s.busUp = true → s.eth.asleep = true → s.stopped 1 = false → s.bit R.PWR_WAKEEN_EN 4 = true →
        ∃ t, exec .ethWake s = .next t ∧ t.eth.asleep = false ∧ t.eth.waitPoll = true ∧ t.bit R.PWR_ISLEEP_REQ 4 = false ∧ same t) ∧
      (s.dev = .banked ∨ s.stopped 1 = true → ∃ t, exec .ethWake s = .next t ∧
        (s.bit R.PWR_WAKEEN_EN 4 = true → t.pwr.fired.testBit 4 = true) ∧ t.eth = s.eth ∧ same t)) ∧
    (s.hasEth = false → s.mayWrite req = true → ∃ t, exec (.mdioAccess req (.start rd phy reg data)) s = .next t ∧
      t.on R.SYS_ABSENT_FLAG = true ∧ t.get R.SYS_ABSENT_ADDR_ADDR = 0x40780020 ∧ t.eth = s.eth ∧ same t) ∧
    (s.consQueue 0x0C = none → exec .ethTransmit s = .next s) ∧
    (∀ q h a b, s.consQueue 0x0C = some q → s.ethRuns = true → s.on R.ETH_STAT_LINK = true → s.on R.ETH_STAT_HDX = false →
      s.eth.waitPoll = false → s.eth.txPart = [] → s.qPacket q = true → q < 32 →
      (s.queue q).ents = [entry h markHdr, entry a markData, entry b markEnd] → h.testBit 0 = false →
      (∀ f, s.ethFrame [a, b] = some f → ∃ t, exec .ethTransmit s = .next t ∧ (t.queue q).ents = [] ∧ t.eth.lastTx = f ++ bytesLE 4 (crc32 f) ∧
        t.eth.octets = (s.eth.octets + f.length + 4) % 2 ^ 64 ∧
        t.get R.ETH_CNT_TXOK = (s.bumpSat R.ETH_CNT_TXOK).get R.ETH_CNT_TXOK ∧ t.wheel = s.wheel ∧ t.mem = s.mem) ∧
      (s.ethFrame [a, b] = none → ∃ t, exec .ethTransmit s = .next t ∧ (t.queue q).ents = [] ∧
        t.on R.ETH_STAT_TXBAD = true ∧ t.eth.lastTx = s.eth.lastTx ∧ t.wheel = s.wheel ∧ t.mem = s.mem)) ∧
    (s.ethRuns = true → s.ethCut ticks = true → exec (.ethReceive bytes true ticks) s = .next s) ∧
    (s.ethRuns = true → s.ethCut ticks = false → s.get R.ETH_CFG_POLLMS ≠ 0 →
      let b := bytes.map fun x => x.toNat
      exec (.ethReceive bytes false ticks) s = .next (s.bumpSat R.ETH_ERRCNT_RXFCS) ∧
      (b.length ≤ 1514 → s.ethMine (ofBytesLE (b.take 6)) = true →
        (s.prodQueue 0x09 = none → exec (.ethReceive bytes true ticks) s = .next (s.bumpSat R.ETH_CNT_RXOK)) ∧
        (∀ q, s.prodQueue 0x09 = some q → exec (.ethReceive bytes true ticks) s =
          .next ((s.bumpSat R.ETH_CNT_RXOK).qPacketPush q
            ((b.length + 2 ^ 32 * ((s.tsc + 2 ^ 32 - ticks % 2 ^ 32) % 2 ^ 32)) :: bytesToWords b)))))

/-! ## Shard log (R406–R429) -/

/-- Shard-log commands complete: a unit that is due starts where the hold-up energy suffices for it beside those in flight, takes the front of the write buffer and pages on the LUNs in use, and is deferred otherwise (R410, R411, R418); data pages before metadata, and a committed unit joins the log (R410); a failed program makes its block grown bad and moves the page up to PRETRY times, then stalls, a failed erase retires its block (R420, R422); a trigger waits for its stream's next row or is skipped while capturing (R416); RESUME, READ, FORMAT, the mount and the scrub do what R407, R420–R427 say; a readout pushes a packet once there is room, ends in ABORT at a word that cannot be read, and its page reads count by block (R424, R426); the drain window ends as R427 says. A packet is taken from the next ready input (R412). Where a unit starts inside a page, which block of equals is taken and how a FORMAT ends what runs are the model's (assumption 43). -/
def Obligations.ShardLogCompletes : Prop :=
  ∀ (s : State) (req : Requester) (v : BitVec 16) (bad : BitVec 4) (lun : Fin 4) (block : Nat) (tabs : BitVec 8) (page : PageRead)
    (reads : List PageRead),
    let x := s.shard
    let same := fun (t : State) => t.wheel = s.wheel ∧ t.mem = s.mem ∧ t.isl = s.isl ∧ t.dev = s.dev ∧ t.otp = s.otp
    let n := min x.waiting s.unitBytes
    let enough := decide (s.get R.REC_EREQ_EREQ * (1 + x.units.length) * 1000000 ≤ s.holdEnergy v.toNat)
    let started := fun (t : State) => t.on R.REC_STAT_DEFER = !enough ∧ t.queues = s.queues ∧ t.shard.inBytes = x.inBytes ∧ same t ∧
      (enough = true → t.shard.units.length = x.units.length + 1 ∧ t.shard.outBytes = x.outBytes + n ∧
        t.shard.wbuf = x.wbuf.filter (fun e => decide (x.outBytes + n < e.1)) ∧
        ∃ u ∈ t.shard.units, u.seq = x.med.unitSeq ∧ u.first = x.outBytes ∧ u.count = n ∧ u.meta_ = false ∧
          u.recs = (x.wbuf.filter fun e => decide (e.1 ≤ x.outBytes + n)).map (fun e => e.2) ∧
          ∀ e ∈ u.pages, (e.1, e.2.lun) ∈ x.med.unitSlots s.lunsUsed (s.get R.NANDIF_STAT_K)) ∧
      (enough = false → t.shard.units = x.units ∧ t.shard.med = x.med ∧ t.shard.due = true ∧ t.shard.recheckAt = s.cycle + 60000 ∧
        t.on R.REC_STAT_DEFEV = true)
    let quiet := s.recStarts = false ∨ (x.due = false ∧ s.unitFull = false)
    (s.recStarts = true → x.unitFree = true →
      (x.due = false → s.unitLate = true → ∃ t, exec (.unitTimer v) s = .next t ∧ started t) ∧
      (x.due = true → x.recheckAt ≤ s.cycle → ∃ t, exec (.deferRecheck v) s = .next t ∧ started t)) ∧
    (s.unitLate = false → exec (.unitTimer v) s = .next s) ∧
    (s.cycle < x.recheckAt → exec (.deferRecheck v) s = .next s) ∧
    (s.unitsGo = true → ∀ u us, x.units = u :: us →
      (u.meta_ = false → u.placed = true → ∃ t, exec (.dataPagesDone v) s = .next t ∧ same t ∧
        (quiet → t = { s with shard := { x with units := { u with meta_ := true } :: us } })) ∧
      (u.meta_ = true → ∃ t, exec (.unitCommitted v) s = .next t ∧ same t ∧
        (quiet → t.shard.med = { x.med with log := u :: x.med.log } ∧ t.shard.units = us ∧
          t.on R.REC_STAT_INUNIT = decide (us ≠ []) ∧ t.queues = s.queues)) ∧
      (u.meta_ = false → exec (.unitCommitted v) s = .next s) ∧
      (u.programs lun.val = none → exec (.programFail lun false) s = .next s) ∧
      (∀ p a, u.programs lun.val = some (p, a) → x.parking = false → s.dev ≠ .safeHold → ∃ t, exec (.programFail lun false) s = .next t ∧
        (t.shard.med.block (blockKey lun.val a.block)).grown = true ∧ t.shard.units.length = x.units.length ∧
        t.shard.units.head?.map (fun w => (w.seq, w.retries)) = some (u.seq, u.retries + 1) ∧
        t.recState = (if s.get R.NANDIF_CFG_PRETRY ≤ u.retries then recStalled else s.recState) ∧ same t)) ∧
    (s.hasShard = true → s.recAlive = true → x.med.good lun.val block = true → (x.med.block (blockKey lun.val block)).used = 0 →
      s.lunsUsed.testBit lun.val = true → ∃ t, exec (.eraseFail lun block) s = .next t ∧
        (t.shard.med.block (blockKey lun.val block)).grown = true ∧ t.shard.units.length = x.units.length ∧
        t.recState = (if s.get R.NANDIF_CFG_PRETRY = 0 ∧ (s.recState = recActive ∨ s.recState = recIdle) then recStalled else s.recState) ∧ same t) ∧
    (s.mayWrite req = true → s.hasShard = true → s.recRuns = true →
      ((s.stream 0).capturing = true → exec (.recTrig req 1#4) s = .next (s.raise (R.REC_SNAPST_TRIGSKIP 0))) ∧
      ((s.stream 0).capturing = false → s.streamOn 0 = true → (s.stream 0).waitRow = none →
        ∃ t, exec (.recTrig req 1#4) s = .next t ∧ (t.stream 0).waitRow = some 3 ∧ (t.stream 0).ring = (s.stream 0).ring ∧ same t) ∧
      (s.recState = recStalled → exec (.recResume req) s =
        .next (s.setRec (if s.on R.REC_CFG_EN then recActive else recIdle))) ∧
      (s.recState ≠ recStalled → exec (.recResume req) s = .next s) ∧
      (s.on R.REC_STAT_RDBUSY = true ∨ x.rdWait = true → exec (.shardRead req) s = .next (s.put R.REC_RDSTAT_RESULT 2)) ∧
      (s.on R.REC_STAT_RDBUSY = false → x.rdWait = false →
        (s.recState = recMounting → exec (.shardRead req) s = .next { s with shard := { x with rdWait := true } }) ∧
        (s.recState ≠ recMounting →
          (s.prodQueue 0x0A = none → exec (.shardRead req) s = .next (s.put R.REC_RDSTAT_RESULT 3)) ∧
          (s.prodQueue 0x0A ≠ none → s.rdFind = none → exec (.shardRead req) s = .next (s.put R.REC_RDSTAT_RESULT 1)) ∧
          (∀ q r, s.prodQueue 0x0A = some q → s.rdFind = some r → ∃ t, exec (.shardRead req) s = .next t ∧
            t.on R.REC_STAT_RDBUSY = true ∧ t.get R.REC_RDSTAT_RESULT = 0 ∧ t.get R.REC_RDLEN_LEN = 8 * r.body.length % 2 ^ 32 ∧
            t.shard.rdWords = bytesToWords r.descriptor ++ r.body ∧ same t))) ∧
      (s.dev = .ready →
        (s.recState = recIdle ∨ s.recState = recActive ∨ s.recState = recNoFmt → ∃ t, exec (.nandFormat req .start) s = .next t ∧
          t.recState = recFormatting ∧ t.on R.REC_STAT_SCRUBBUSY = false ∧ t.shard = { x with fmtWait := false } ∧ same t) ∧
        (s.recState = recMounting ∨ s.recState = recParked →
          exec (.nandFormat req .start) s = .next { s with shard := { x with fmtWait := true } })) ∧
      (s.dev ≠ .ready → exec (.nandFormat req .start) s = .next s)) ∧
    (s.recState = recFormatting → s.recAlive = true → ∃ t, exec (.nandFormat req (.done bad)) s = .next t ∧ t.shard.med.recs = [] ∧
      t.shard.units = [] ∧ t.shard.wbuf = [] ∧ t.shard.nextSeq = 1 ∧ t.get R.NANDIF_LUNST_USED = x.med.formatSet bad.toNat ∧ same t ∧
      (x.parking = false → s.dev ≠ .safeHold → t.recState = recIdle ∨ t.recState = recActive ∨ t.recState = recNoNand)) ∧
    (s.hasShard = true → s.recState = recMounting → s.recAlive = true → x.fmtWait = false → x.parking = false → s.dev ≠ .safeHold →
      ∃ t, exec (.mountComplete bad tabs reads) s = .next t ∧ t.shard.mounted = true ∧ t.shard.rdWait = false ∧ same t ∧
        (x.med.info.ok = false ∨ x.med.info.found = 0 → t.recState = recNoNand ∧ t.shard.med = x.med) ∧
        (x.med.info.ok = true → x.med.info.found ≠ 0 →
          (x.med.formatted = false → s.on R.REC_CFG_AUTOFMT = false → t.recState = recNoFmt) ∧
          (x.med.formatted = true ∨ s.on R.REC_CFG_AUTOFMT = true →
            t.recState = recIdle ∨ t.recState = recActive ∨ t.recState = recNoNand ∨ t.recState = recNoFmt))) ∧
    (s.on R.REC_STAT_SCRUBBUSY = true → s.recRuns = true → s.recState = recActive ∨ s.recState = recIdle →
      (x.due = true → exec (.nandScrub reads) s = .next s) ∧
      (x.due = false → ∃ t, exec (.nandScrub reads) s = .next t ∧ t.on R.REC_STAT_SCRUBBUSY = false ∧ same t ∧
        ∀ r ∈ t.shard.med.recs, r ∈ x.med.recs ∧ s.recBad (reads.filter fun p => x.med.logPages.contains (pageAt p)) r = false)) ∧
    (s.rdRuns = true →
      (s.prodQueue 0x0A = none → ∃ t, exec (.readoutPush reads) s = .next t ∧ t.get R.REC_RDSTAT_RESULT = 3 ∧
        t.on R.REC_STAT_RDBUSY = false ∧ t.queues = s.queues ∧ same t) ∧
      (∀ q, s.prodQueue 0x0A = some q → s.dprDue = none →
        let ws := x.rdWords.take 512
        (s.qRoom q < s.rdNeed q ws.length → exec (.readoutPush reads) s = .next s) ∧
        (s.rdNeed q ws.length ≤ s.qRoom q →
          (s.rdBad reads ws.length ≠ none → ∃ t, exec (.readoutPush reads) s = .next t ∧
            t.get R.REC_RDSTAT_RESULT = 4 ∧ t.on R.REC_STAT_RDBUSY = false ∧ same t) ∧
          (s.rdBad [page] ws.length = none → ∃ t, exec (.readoutPush [page]) s = .next t ∧ t.shard.rdWords = x.rdWords.drop 512 ∧
            t.on R.REC_STAT_RDBUSY = !decide (x.rdWords.drop 512 = []) ∧ same t ∧
            (page.block = 0 ∨ s.get R.NANDIF_RDLIM_LIMIT = 0 → let k := blockKey page.lun.val page.block
              (t.shard.med.block k).reads = (x.med.block k).reads + (s.attempts page).length))))) ∧
    (s.cycle < x.drainEnd → exec .holdwinExpiry s = .next s) ∧
    (s.dev = .safeHold → x.draining = true → x.drainEnd ≤ s.cycle → ∃ t, exec .holdwinExpiry s = .next t ∧ t.shard.draining = false ∧
      t.shard.due = false ∧ t.on R.REC_STAT_DEFER = false ∧ t.shard.units = x.units ∧ same t) ∧
    (s.hasShard = true → s.recState = recActive → s.on R.REC_CFG_EN = true → s.recStarts = true →
      (∀ j, ((List.range 8).map fun i => (x.rr + 1 + i) % 8).find? s.inReady = some j → ∃ t,
        exec (.inputPacket v) s = .next t ∧ t.shard.rr = j ∧ same t) ∧
      (((List.range 8).map fun i => (x.rr + 1 + i) % 8).find? s.inReady = none → exec (.inputPacket v) s = .next s))

/-! ## Interface sleep, BANKED, self-test (R430–R453) -/

/-- Interface sleep and the BANKED handshake complete: ISLEEP takes the bits of present interfaces in READY and RUN and is refused elsewhere; ENTER asks the first present block or leaves its refusal; an agreeing block makes way for the next, and the last one's agreement enters BANKED and locks the safety configuration; a refusal, a timeout, an armed source and an EXIT end the entry in READY with their result; an armed source, whether the event names it or it has fired before, wakes the device to READY, one that is not armed leaves it (R430–R443); an ENTER that a SAFE_HOLD cause or BANKED itself has overtaken leaves PREEMPTED or BUSY (R38). -/
def Obligations.SleepAndBankedComplete : Prop :=
  ∀ (s : State) (req : Requester) (mask : BitVec 6) (first later : BitVec 9),
    let b := s.get R.PWR_BSTAT_STEP
    let same := fun (t : State) => t.wheel = s.wheel ∧ t.mem = s.mem ∧ t.otp = s.otp
    let ended := fun (t : State) (result : Nat) => t.get R.PWR_BSTAT_STEP = 0 ∧ t.on R.PWR_BSTAT_BUSY = false ∧
      t.get R.PWR_BSTAT_RESULT = result ∧ t.dev = s.dev ∧ t.pwr.agreed = [] ∧ same t
    let fires := ∃ i : Fin 9, (first.getLsbD i.val = true ∨ s.pwr.fired.testBit i.val = true) ∧ s.wakeArmed i.val = true
    (s.overtaken req = true → exec (.pwrEnter req) s = .next (s.put R.PWR_BSTAT_REJ (if s.dev = .banked then 2 else 5))) ∧
    (s.mayWrite req = true →
      (s.dev = .ready ∨ s.dev = .run → ∃ t, exec (.isleepRequest req mask) s = .next t ∧ t.dev = s.dev ∧ same t ∧
        ∀ i : Fin 6, t.bit R.PWR_ISLEEP_REQ i.val = (s.ifPresent i.val && mask.getLsbD i.val)) ∧
      (s.dev ≠ .ready → s.dev ≠ .run → exec (.isleepRequest req mask) s = .next (s.raise R.PWR_BSTAT_CFGREJ)) ∧
      (req ≠ .debug →
        (s.enterRefusal ≠ 0 → exec (.pwrEnter req) s = .next (s.put R.PWR_BSTAT_REJ s.enterRefusal)) ∧
        (s.enterRefusal = 0 → ∃ t, exec (.pwrEnter req) s = .next t ∧ t.on R.PWR_BSTAT_BUSY = true ∧
          t.get R.PWR_BSTAT_STEP = (s.nextBlk 1).getD 6 ∧ t.dev = .ready ∧ t.on R.SAFECFG_STAT_UNLOCKED = false ∧
          t.pwr.askAt = s.cycle ∧ same t)) ∧
      (s.entering = true → ∃ t, exec (.pwrExit req) s = .next t ∧ ended t 4 ∧ t.get R.PWR_WAKESRC_FIRST = 0xA) ∧
      (s.entering = false → exec (.pwrExit req) s = .next s)) ∧
    (s.dev = .ready → s.entering = true → s.pwr.prep = false → s.pwr.fired = 0 → s.blkReady b = true →
      (∀ n, s.nextBlk (b + 1) = some n → ∃ t, exec .pwrAgree s = .next t ∧ t.get R.PWR_BSTAT_STEP = n ∧ t.dev = .ready ∧
        t.pwr.agreed = b :: s.pwr.agreed ∧ same t) ∧
      (s.nextBlk (b + 1) = none → ∃ t, exec .pwrAgree s = .next t ∧ t.dev = .banked ∧ t.get R.PWR_BSTAT_STEP = 0 ∧
        t.get R.PWR_BSTAT_RESULT = 1 ∧ t.on R.SAFECFG_STAT_UNLOCKED = false ∧ same t)) ∧
    (s.entering = true → s.blkRefuses b = true → ∃ t, exec .pwrRefuse s = .next t ∧ ended t 2 ∧
      t.get R.PWR_REFUSER_REASON = 1) ∧
    (s.entering = true → s.dmax b ≠ 0 → s.pwr.askAt + 600 * s.dmax b ≤ s.cycle →
      ∃ t, exec .handshakeTimeout s = .next t ∧ ended t 3 ∧ t.get R.PWR_REFUSER_REASON = 2) ∧
    (s.cycle < s.pwr.askAt + 600 * s.dmax b → exec .handshakeTimeout s = .next s) ∧
    (s.dev = .ready → s.entering = true → fires → ∃ t, exec (.wakeEvent first later) s = .next t ∧ ended t 4) ∧
    (s.dev = .banked → fires → ∃ t, exec (.wakeEvent first later) s = .next t ∧ t.dev = .ready ∧ t.pwr.agreed = [] ∧
      1 ≤ t.get R.PWR_WAKESRC_FIRST ∧ s.wakeArmed (t.get R.PWR_WAKESRC_FIRST - 1) = true ∧ same t) ∧
    (¬fires → exec (.wakeEvent first later) s = .next s)

/-- Self-test commands complete: a start by a requester without the right, beside an accepted run request or ENTER, or without patterns or domains, does not begin and says why, and any other starts the run as its FABCLK cycle ends, which silences the interconnect; STOP by the debug port and a broken run condition while patterns are applied are noted and lead to the restore; at the end of the restore the result of R448 stands, the BIST registers are kept and the device is in OFF with the cause BIST (R445–R452). -/
def Obligations.SelfTestCompletes : Prop :=
  ∀ (s : State) (req : Requester) (khz mv : Nat),
    let same := fun (t : State) => t.wheel = s.wheel ∧ t.mem = s.mem ∧ t.otp = s.otp ∧ t.dev = s.dev
    (s.mayWrite req = true →
      (s.bistWriter req = false → exec (.lbistStart req) s = .next (s.raise R.BIST_STAT_CFGREJ)) ∧
      (s.bistWriter req = true → s.bistClash = true → exec (.lbistStart req) s = .next (s.raise R.BIST_STAT_BUSY_REJ)) ∧
      (s.bistWriter req = true → s.bistClash = false → s.dev = .ready ∨ s.dev = .noimage → s.entering = false →
        (s.get R.BIST_CFG_PATCNT = 0 → ∃ t, exec (.lbistStart req) s = .next t ∧ t.get R.BIST_STAT_RESULT = 4 ∧
          t.get R.BIST_STAT_INVCAUSE = 1 ∧ same t) ∧
        (s.get R.BIST_CFG_PATCNT ≠ 0 → s.get R.BIST_CFG_MASK = 0 → ∃ t, exec (.lbistStart req) s = .next t ∧
          t.get R.BIST_STAT_RESULT = 4 ∧ t.get R.BIST_STAT_INVCAUSE = 2 ∧ same t) ∧
        (s.get R.BIST_CFG_PATCNT ≠ 0 → s.get R.BIST_CFG_MASK ≠ 0 →
          exec (.lbistStart req) s = .next { s with bist := { s.bist with startDue := true } }))) ∧
    (s.bist.startDue = true → s.cycle % 2 = 0 → s.dev = .ready ∨ s.dev = .noimage → let t := s.bistStart
      t.scanning = true ∧ t.busUp = false ∧ t.bist.count = s.get R.BIST_CFG_PATCNT ∧ t.bist.mask = s.get R.BIST_CFG_MASK ∧
      t.bist.since = s.cycle ∧ t.bist.startDue = false ∧ same t) ∧
    (s.scanning = true →
      (s.bistWriter .debug = true → s.patterning = true → ∃ t, exec (.lbistStop .debug) s = .next t ∧ t.bist.stopped = true ∧
        t.bist.restore = some (s.cycle + 240000) ∧ t.scanning = true ∧ same t) ∧
      (req ≠ .debug ∨ s.patterning = false → exec (.lbistStop req) s = .next s) ∧
      (s.patterning = true → ∀ c, runBroken khz mv = some c → ∃ t, exec (.runConditionBroken khz mv) s = .next t ∧
        t.bist.broken = c ∧ t.scanning = true ∧ same t) ∧
      (s.bistOver = false → exec .lbistRunEnd s = .next s) ∧
      (s.bistOver = true → ∃ t, exec .lbistRunEnd s = .next t ∧ t.dev = .off ∧ t.scanning = false ∧ t.on R.SYS_RSTCAUSE_BIST = true ∧
        (s.bist.broken ≠ 0 → t.get R.BIST_STAT_RESULT = 4 ∧ t.get R.BIST_STAT_INVCAUSE = s.bist.broken % 16) ∧
        (s.bist.broken = 0 → s.bist.stopped = true → t.get R.BIST_STAT_RESULT = 3) ∧
        (s.bist.broken = 0 → s.bist.stopped = false → t.get R.BIST_STAT_RESULT =
          if s.get R.BIST_SIG_LO_VALUE + 2 ^ 32 * s.get R.BIST_SIG_HI_VALUE = s.bist.expect then 1 else 2))) ∧
    (s.patterning = false ∨ (297000 ≤ khz ∧ khz ≤ 303000 ∧ 780 ≤ mv ∧ mv ≤ 840) →
      exec (.runConditionBroken khz mv) s = .next s) ∧
    (s.scanning = false → exec .lbistRunEnd s = .next s)

/-! ## What every step keeps -/

/-- Every step leaves instruction, data and coefficient memory, their check bits and the exchange windows in canonical form: keys strictly rising, and no entry that says what an unlisted word reads as. The form is the model's own. -/
def Obligations.MemoryStaysCanonical : Prop :=
  ∀ s s' : State, s.memWf = true → step s = .next s' → s'.memWf = true

/-- No step, whatever the command or the cycle, unburns a bit of one-time-programmable memory: a bit is only ever burned from 0 to 1, a revoked key stays revoked and the rollback counter never falls (R313, R314, R331). -/
def Obligations.OtpOnlyBurns : Prop :=
  ∀ s s' : State, step s = .next s' → s.otp.burnedTo s'.otp

/-- Every step, from a state in which a BANKED entry, a run request, a START and a self-test exclude one another, leaves the device in its state or in one that the table of R35 leads to: NOIMAGE and SAFE_HOLD are left only for OFF, RUN is entered only from READY, and BANKED is left only for READY or OFF (R35, R36). WEDGING is entered from OFF and left for READY, NOIMAGE or OFF. That no step shows an internal reset's OFF between two states is the model's timing (assumption 3). -/
def Obligations.DeviceStatesFollowTheTable : Prop :=
  ∀ s s' : State, s.ModesExclusive → step s = .next s' → s'.dev ∈ s.dev.successors

/-- Every step keeps apart a BANKED entry, an accepted run request, a START of a self-test and a self-test in progress: an entry and a run request stand in READY alone, none of the four beside another, and no self-test runs in RUN (R38, R39, R433, R436, R452). -/
def Obligations.ModesStayExclusive : Prop :=
  ∀ s s' : State, s.ModesExclusive → step s = .next s' → s'.ModesExclusive

/-- Every step leaves the islands settled: none is on, or waits to turn on, while its supplies fail, a fault is latched, an under-voltage or a soft turn-off stands, or it receives ENOFF, SAFE_OFF, the hand-over to OFF or no carrier (R239). -/
def Obligations.IslandsStaySettled : Prop :=
  ∀ s s' : State, s.IslandsSettled → step s = .next s' → s'.IslandsSettled
end

