-- ==== Sys2Proof/Laws/Sparse.lean ====
section
/-! SUPPORT. Sparse tables: a read after a write, what a write leaves alone, and that every operation keeps the canonical form. -/

namespace Sys2Proof.Machine

open Sys2Proof

variable {α : Type}

/-! ## Read after write -/

theorem Sparse.get_del_self (d : α) (m : Sparse α) (k : Nat) : Sparse.get d (Sparse.del m k) k = d := by
  induction m with
  | nil => rfl
  | cons e t ih =>
    obtain ⟨a, v⟩ := e
    by_cases h : k = a
    · simpa [Sparse.del, h] using h ▸ ih
    · simp [Sparse.del, Sparse.get, h, ih]

theorem Sparse.get_del_ne (d : α) (m : Sparse α) {k j : Nat} (h : j ≠ k) :
    Sparse.get d (Sparse.del m k) j = Sparse.get d m j := by
  induction m with
  | nil => rfl
  | cons e t ih =>
    obtain ⟨a, v⟩ := e
    by_cases hk : k = a
    · subst hk
      simp [Sparse.del, Sparse.get, h, ih]
    · by_cases hj : j = a
      · simp [Sparse.del, Sparse.get, hk, hj]
      · simp [Sparse.del, Sparse.get, hk, hj, ih]

theorem Sparse.get_put_self (d : α) (m : Sparse α) (k : Nat) (v : α) : Sparse.get d (Sparse.put m k v) k = v := by
  induction m with
  | nil => simp [Sparse.put, Sparse.get]
  | cons e t ih =>
    obtain ⟨a, w⟩ := e
    by_cases h1 : k < a
    · simp [Sparse.put, Sparse.get, h1]
    · by_cases h2 : k = a
      · simp [Sparse.put, Sparse.get, h2]
      · simp [Sparse.put, Sparse.get, h1, h2, ih]

theorem Sparse.get_put_ne (d : α) (m : Sparse α) {k j : Nat} (v : α) (h : j ≠ k) :
    Sparse.get d (Sparse.put m k v) j = Sparse.get d m j := by
  induction m with
  | nil => simp [Sparse.put, Sparse.get, h]
  | cons e t ih =>
    obtain ⟨a, w⟩ := e
    by_cases h1 : k < a
    · simp [Sparse.put, Sparse.get, h1, h]
    · by_cases h2 : k = a
      · subst h2
        simp [Sparse.put, Sparse.get, h]
      · by_cases hj : j = a
        · simp [Sparse.put, Sparse.get, h1, h2, hj]
        · simp [Sparse.put, Sparse.get, h1, h2, hj, ih]

/-- What was set is read back. -/
@[simp] theorem Sparse.get_set_self [DecidableEq α] (d : α) (m : Sparse α) (k : Nat) (v : α) :
    Sparse.get d (Sparse.set d m k v) k = v := by
  unfold Sparse.set
  split
  · next h => rw [Sparse.get_del_self, h]
  · exact Sparse.get_put_self d m k v

/-- A set leaves every other key alone. -/
theorem Sparse.get_set_ne [DecidableEq α] (d : α) (m : Sparse α) {k j : Nat} (v : α) (h : j ≠ k) :
    Sparse.get d (Sparse.set d m k v) j = Sparse.get d m j := by
  unfold Sparse.set
  split
  · exact Sparse.get_del_ne d m h
  · exact Sparse.get_put_ne d m v h

/-- A read of a table cut to the keys that satisfy `p`. -/
theorem Sparse.get_keep (d : α) (p : Nat → Bool) (m : Sparse α) (j : Nat) :
    Sparse.get d (Sparse.keep p m) j = if p j then Sparse.get d m j else d := by
  induction m with
  | nil => simp [Sparse.keep, Sparse.get]
  | cons e t ih =>
    obtain ⟨a, v⟩ := e
    unfold Sparse.keep at *
    by_cases hp : p a
    · by_cases hj : j = a
      · subst hj
        simp [Sparse.get, hp]
      · simp [Sparse.get, hp, hj, ih]
    · by_cases hj : j = a
      · subst hj
        simp [hp, ih]
      · simp [Sparse.get, hp, hj, ih]

/-! ## The canonical form is kept -/

variable [DecidableEq α]

/-- A bound on the keys of a table. -/
def Sparse.above (lo : Option Nat) (k : Nat) : Bool :=
  match lo with
  | none => true
  | some l => decide (l < k)

theorem Sparse.wfFrom_cons (d : α) (lo : Option Nat) (k : Nat) (v : α) (t : Sparse α) :
    Sparse.wfFrom d lo ((k, v) :: t) = true ↔ Sparse.above lo k = true ∧ v ≠ d ∧ Sparse.wfFrom d (some k) t = true := by
  cases lo <;> simp [Sparse.wfFrom, Sparse.above, and_assoc]

theorem Sparse.above_trans {lo : Option Nat} {a b : Nat} (h : Sparse.above lo a = true) (hab : a ≤ b) :
    Sparse.above lo b = true := by
  cases lo with
  | none => rfl
  | some l => simp [Sparse.above] at *; omega

theorem Sparse.wfFrom_mono (d : α) {lo : Option Nat} {a : Nat} (h : Sparse.above lo a = true) (m : Sparse α)
    (hm : Sparse.wfFrom d (some a) m = true) : Sparse.wfFrom d lo m = true := by
  cases m with
  | nil => rfl
  | cons e t =>
    obtain ⟨k, v⟩ := e
    rw [Sparse.wfFrom_cons] at hm ⊢
    have hk : a ≤ k := by
      have := hm.1
      simp [Sparse.above] at this
      omega
    exact ⟨Sparse.above_trans h hk, hm.2.1, hm.2.2⟩

theorem Sparse.wfFrom_del (d : α) (m : Sparse α) (k : Nat) :
    ∀ lo, Sparse.wfFrom d lo m = true → Sparse.wfFrom d lo (Sparse.del m k) = true := by
  induction m with
  | nil => intro lo h; exact h
  | cons e t ih =>
    obtain ⟨a, v⟩ := e
    intro lo h
    rw [Sparse.wfFrom_cons] at h
    by_cases hk : k = a
    · simp only [Sparse.del, hk, if_true]
      exact Sparse.wfFrom_mono d h.1 _ (hk ▸ ih (some a) h.2.2)
    · simp only [Sparse.del, hk, if_false]
      exact (Sparse.wfFrom_cons d lo a v _).2 ⟨h.1, h.2.1, ih (some a) h.2.2⟩

theorem Sparse.wfFrom_put (d : α) (m : Sparse α) (k : Nat) (v : α) (hv : v ≠ d) :
    ∀ lo, Sparse.above lo k = true → Sparse.wfFrom d lo m = true → Sparse.wfFrom d lo (Sparse.put m k v) = true := by
  induction m with
  | nil => intro lo hl _; exact (Sparse.wfFrom_cons d lo k v []).2 ⟨hl, hv, rfl⟩
  | cons e t ih =>
    obtain ⟨a, w⟩ := e
    intro lo hl h
    have h' := (Sparse.wfFrom_cons d lo a w t).1 h
    by_cases h1 : k < a
    · simp only [Sparse.put, h1, if_true]
      refine (Sparse.wfFrom_cons d lo k v _).2 ⟨hl, hv, (Sparse.wfFrom_cons d (some k) a w t).2 ⟨?_, h'.2⟩⟩
      simpa [Sparse.above] using h1
    · by_cases h2 : k = a
      · simp only [Sparse.put, h2, if_true]
        simp only [Nat.lt_irrefl, if_false]
        exact (Sparse.wfFrom_cons d lo a v t).2 ⟨h'.1, hv, h'.2.2⟩
      · simp only [Sparse.put, h1, h2, if_false]
        refine (Sparse.wfFrom_cons d lo a w _).2 ⟨h'.1, h'.2.1, ih (some a) ?_ h'.2.2⟩
        simp [Sparse.above]
        omega

/-- Every write keeps the canonical form. -/
theorem Sparse.wf_set (d : α) (m : Sparse α) (k : Nat) (v : α) (h : Sparse.wf d m = true) :
    Sparse.wf d (Sparse.set d m k v) = true := by
  unfold Sparse.set
  split
  · exact Sparse.wfFrom_del d m k none h
  · next hv => exact Sparse.wfFrom_put d m k v hv none rfl h

theorem Sparse.wfFrom_keep (d : α) (p : Nat → Bool) (m : Sparse α) :
    ∀ lo, Sparse.wfFrom d lo m = true → Sparse.wfFrom d lo (Sparse.keep p m) = true := by
  induction m with
  | nil => intro lo h; exact h
  | cons e t ih =>
    obtain ⟨a, v⟩ := e
    intro lo h
    rw [Sparse.wfFrom_cons] at h
    by_cases hp : p a = true
    · have hk : Sparse.keep p ((a, v) :: t) = (a, v) :: Sparse.keep p t := by simp [Sparse.keep, hp]
      rw [hk]
      exact (Sparse.wfFrom_cons d lo a v _).2 ⟨h.1, h.2.1, ih (some a) h.2.2⟩
    · have hk : Sparse.keep p ((a, v) :: t) = Sparse.keep p t := by simp [Sparse.keep, hp]
      rw [hk]
      exact Sparse.wfFrom_mono d h.1 _ (ih (some a) h.2.2)

/-- Cutting a table keeps the canonical form. -/
theorem Sparse.wf_keep (d : α) (p : Nat → Bool) (m : Sparse α) (h : Sparse.wf d m = true) :
    Sparse.wf d (Sparse.keep p m) = true := Sparse.wfFrom_keep d p m none h

/-- A table built key by key is in canonical form. -/
theorem Sparse.wf_ofFn (d : α) (f : Nat → α) (ks : List Nat) : Sparse.wf d (Sparse.ofFn d f ks) = true := by
  induction ks with
  | nil => rfl
  | cons k t ih => exact Sparse.wf_set d _ k (f k) ih

/-- The empty table is in canonical form. -/
theorem Sparse.wf_empty (d : α) : Sparse.wf d ([] : Sparse α) = true := rfl

end Sys2Proof.Machine
end

