-- ==== Sys2Proof/Laws/State.lean ====
section
/-! SUPPORT. What each named update of the state leaves unchanged: one lemma per field, true by unfolding, so that no later proof unfolds a record update. -/

namespace Sys2Proof.Machine

open Sys2Proof

variable (s : State)


@[simp] theorem State.put_pending (f : Fld) (v : Nat) : (s.put f v).pending = s.pending := rfl
@[simp] theorem State.put_variant (f : Fld) (v : Nat) : (s.put f v).variant = s.variant := rfl
@[simp] theorem State.put_dev (f : Fld) (v : Nat) : (s.put f v).dev = s.dev := rfl
@[simp] theorem State.put_cycle (f : Fld) (v : Nat) : (s.put f v).cycle = s.cycle := rfl
@[simp] theorem State.put_tsc (f : Fld) (v : Nat) : (s.put f v).tsc = s.tsc := rfl
@[simp] theorem State.put_pll (f : Fld) (v : Nat) : (s.put f v).pll = s.pll := rfl
@[simp] theorem State.put_cause (f : Fld) (v : Nat) : (s.put f v).cause = s.cause := rfl
@[simp] theorem State.put_free (f : Fld) (v : Nat) : (s.put f v).free = s.free := rfl
@[simp] theorem State.put_wheel (f : Fld) (v : Nat) : (s.put f v).wheel = s.wheel := rfl
@[simp] theorem State.put_mem (f : Fld) (v : Nat) : (s.put f v).mem = s.mem := rfl
@[simp] theorem State.put_contract (f : Fld) (v : Nat) : (s.put f v).contract = s.contract := rfl
@[simp] theorem State.put_unused (f : Fld) (v : Nat) : (s.put f v).unused = s.unused := rfl
@[simp] theorem State.put_xwin (f : Fld) (v : Nat) : (s.put f v).xwin = s.xwin := rfl
@[simp] theorem State.put_adc (f : Fld) (v : Nat) : (s.put f v).adc = s.adc := rfl
@[simp] theorem State.put_pos (f : Fld) (v : Nat) : (s.put f v).pos = s.pos := rfl
@[simp] theorem State.put_loops (f : Fld) (v : Nat) : (s.put f v).loops = s.loops := rfl
@[simp] theorem State.put_rcu (f : Fld) (v : Nat) : (s.put f v).rcu = s.rcu := rfl
@[simp] theorem State.put_pwm (f : Fld) (v : Nat) : (s.put f v).pwm = s.pwm := rfl
@[simp] theorem State.put_isl (f : Fld) (v : Nat) : (s.put f v).isl = s.isl := rfl
@[simp] theorem State.put_sag (f : Fld) (v : Nat) : (s.put f v).sag = s.sag := rfl
@[simp] theorem State.put_cone (f : Fld) (v : Nat) : (s.put f v).cone = s.cone := rfl
@[simp] theorem State.put_safe (f : Fld) (v : Nat) : (s.put f v).safe = s.safe := rfl
@[simp] theorem State.put_nor (f : Fld) (v : Nat) : (s.put f v).nor = s.nor := rfl
@[simp] theorem State.put_otp (f : Fld) (v : Nat) : (s.put f v).otp = s.otp := rfl
@[simp] theorem State.put_sec (f : Fld) (v : Nat) : (s.put f v).sec = s.sec := rfl
@[simp] theorem State.put_queues (f : Fld) (v : Nat) : (s.put f v).queues = s.queues := rfl
@[simp] theorem State.put_can (f : Fld) (v : Nat) : (s.put f v).can = s.can := rfl
@[simp] theorem State.put_eth (f : Fld) (v : Nat) : (s.put f v).eth = s.eth := rfl
@[simp] theorem State.put_hspi (f : Fld) (v : Nat) : (s.put f v).hspi = s.hspi := rfl
@[simp] theorem State.put_shard (f : Fld) (v : Nat) : (s.put f v).shard = s.shard := rfl
@[simp] theorem State.put_pwr (f : Fld) (v : Nat) : (s.put f v).pwr = s.pwr := rfl
@[simp] theorem State.put_bist (f : Fld) (v : Nat) : (s.put f v).bist = s.bist := rfl
@[simp] theorem State.put_pins (f : Fld) (v : Nat) : (s.put f v).pins = s.pins := rfl
@[simp] theorem State.put_rdata (f : Fld) (v : Nat) : (s.put f v).rdata = s.rdata := rfl

@[simp] theorem State.raise_pending (f : Fld) : (s.raise f).pending = s.pending := rfl
@[simp] theorem State.raise_variant (f : Fld) : (s.raise f).variant = s.variant := rfl
@[simp] theorem State.raise_dev (f : Fld) : (s.raise f).dev = s.dev := rfl
@[simp] theorem State.raise_cycle (f : Fld) : (s.raise f).cycle = s.cycle := rfl
@[simp] theorem State.raise_tsc (f : Fld) : (s.raise f).tsc = s.tsc := rfl
@[simp] theorem State.raise_pll (f : Fld) : (s.raise f).pll = s.pll := rfl
@[simp] theorem State.raise_cause (f : Fld) : (s.raise f).cause = s.cause := rfl
@[simp] theorem State.raise_free (f : Fld) : (s.raise f).free = s.free := rfl
@[simp] theorem State.raise_wheel (f : Fld) : (s.raise f).wheel = s.wheel := rfl
@[simp] theorem State.raise_mem (f : Fld) : (s.raise f).mem = s.mem := rfl
@[simp] theorem State.raise_contract (f : Fld) : (s.raise f).contract = s.contract := rfl
@[simp] theorem State.raise_unused (f : Fld) : (s.raise f).unused = s.unused := rfl
@[simp] theorem State.raise_xwin (f : Fld) : (s.raise f).xwin = s.xwin := rfl
@[simp] theorem State.raise_adc (f : Fld) : (s.raise f).adc = s.adc := rfl
@[simp] theorem State.raise_pos (f : Fld) : (s.raise f).pos = s.pos := rfl
@[simp] theorem State.raise_loops (f : Fld) : (s.raise f).loops = s.loops := rfl
@[simp] theorem State.raise_rcu (f : Fld) : (s.raise f).rcu = s.rcu := rfl
@[simp] theorem State.raise_pwm (f : Fld) : (s.raise f).pwm = s.pwm := rfl
@[simp] theorem State.raise_isl (f : Fld) : (s.raise f).isl = s.isl := rfl
@[simp] theorem State.raise_sag (f : Fld) : (s.raise f).sag = s.sag := rfl
@[simp] theorem State.raise_cone (f : Fld) : (s.raise f).cone = s.cone := rfl
@[simp] theorem State.raise_safe (f : Fld) : (s.raise f).safe = s.safe := rfl
@[simp] theorem State.raise_nor (f : Fld) : (s.raise f).nor = s.nor := rfl
@[simp] theorem State.raise_otp (f : Fld) : (s.raise f).otp = s.otp := rfl
@[simp] theorem State.raise_sec (f : Fld) : (s.raise f).sec = s.sec := rfl
@[simp] theorem State.raise_queues (f : Fld) : (s.raise f).queues = s.queues := rfl
@[simp] theorem State.raise_can (f : Fld) : (s.raise f).can = s.can := rfl
@[simp] theorem State.raise_eth (f : Fld) : (s.raise f).eth = s.eth := rfl
@[simp] theorem State.raise_hspi (f : Fld) : (s.raise f).hspi = s.hspi := rfl
@[simp] theorem State.raise_shard (f : Fld) : (s.raise f).shard = s.shard := rfl
@[simp] theorem State.raise_pwr (f : Fld) : (s.raise f).pwr = s.pwr := rfl
@[simp] theorem State.raise_bist (f : Fld) : (s.raise f).bist = s.bist := rfl
@[simp] theorem State.raise_pins (f : Fld) : (s.raise f).pins = s.pins := rfl
@[simp] theorem State.raise_rdata (f : Fld) : (s.raise f).rdata = s.rdata := rfl

@[simp] theorem State.clear_pending (f : Fld) : (s.clear f).pending = s.pending := rfl
@[simp] theorem State.clear_variant (f : Fld) : (s.clear f).variant = s.variant := rfl
@[simp] theorem State.clear_dev (f : Fld) : (s.clear f).dev = s.dev := rfl
@[simp] theorem State.clear_cycle (f : Fld) : (s.clear f).cycle = s.cycle := rfl
@[simp] theorem State.clear_tsc (f : Fld) : (s.clear f).tsc = s.tsc := rfl
@[simp] theorem State.clear_pll (f : Fld) : (s.clear f).pll = s.pll := rfl
@[simp] theorem State.clear_cause (f : Fld) : (s.clear f).cause = s.cause := rfl
@[simp] theorem State.clear_free (f : Fld) : (s.clear f).free = s.free := rfl
@[simp] theorem State.clear_wheel (f : Fld) : (s.clear f).wheel = s.wheel := rfl
@[simp] theorem State.clear_mem (f : Fld) : (s.clear f).mem = s.mem := rfl
@[simp] theorem State.clear_contract (f : Fld) : (s.clear f).contract = s.contract := rfl
@[simp] theorem State.clear_unused (f : Fld) : (s.clear f).unused = s.unused := rfl
@[simp] theorem State.clear_xwin (f : Fld) : (s.clear f).xwin = s.xwin := rfl
@[simp] theorem State.clear_adc (f : Fld) : (s.clear f).adc = s.adc := rfl
@[simp] theorem State.clear_pos (f : Fld) : (s.clear f).pos = s.pos := rfl
@[simp] theorem State.clear_loops (f : Fld) : (s.clear f).loops = s.loops := rfl
@[simp] theorem State.clear_rcu (f : Fld) : (s.clear f).rcu = s.rcu := rfl
@[simp] theorem State.clear_pwm (f : Fld) : (s.clear f).pwm = s.pwm := rfl
@[simp] theorem State.clear_isl (f : Fld) : (s.clear f).isl = s.isl := rfl
@[simp] theorem State.clear_sag (f : Fld) : (s.clear f).sag = s.sag := rfl
@[simp] theorem State.clear_cone (f : Fld) : (s.clear f).cone = s.cone := rfl
@[simp] theorem State.clear_safe (f : Fld) : (s.clear f).safe = s.safe := rfl
@[simp] theorem State.clear_nor (f : Fld) : (s.clear f).nor = s.nor := rfl
@[simp] theorem State.clear_otp (f : Fld) : (s.clear f).otp = s.otp := rfl
@[simp] theorem State.clear_sec (f : Fld) : (s.clear f).sec = s.sec := rfl
@[simp] theorem State.clear_queues (f : Fld) : (s.clear f).queues = s.queues := rfl
@[simp] theorem State.clear_can (f : Fld) : (s.clear f).can = s.can := rfl
@[simp] theorem State.clear_eth (f : Fld) : (s.clear f).eth = s.eth := rfl
@[simp] theorem State.clear_hspi (f : Fld) : (s.clear f).hspi = s.hspi := rfl
@[simp] theorem State.clear_shard (f : Fld) : (s.clear f).shard = s.shard := rfl
@[simp] theorem State.clear_pwr (f : Fld) : (s.clear f).pwr = s.pwr := rfl
@[simp] theorem State.clear_bist (f : Fld) : (s.clear f).bist = s.bist := rfl
@[simp] theorem State.clear_pins (f : Fld) : (s.clear f).pins = s.pins := rfl
@[simp] theorem State.clear_rdata (f : Fld) : (s.clear f).rdata = s.rdata := rfl

@[simp] theorem State.putB_pending (f : Fld) (b : Bool) : (s.putB f b).pending = s.pending := rfl
@[simp] theorem State.putB_variant (f : Fld) (b : Bool) : (s.putB f b).variant = s.variant := rfl
@[simp] theorem State.putB_dev (f : Fld) (b : Bool) : (s.putB f b).dev = s.dev := rfl
@[simp] theorem State.putB_cycle (f : Fld) (b : Bool) : (s.putB f b).cycle = s.cycle := rfl
@[simp] theorem State.putB_tsc (f : Fld) (b : Bool) : (s.putB f b).tsc = s.tsc := rfl
@[simp] theorem State.putB_pll (f : Fld) (b : Bool) : (s.putB f b).pll = s.pll := rfl
@[simp] theorem State.putB_cause (f : Fld) (b : Bool) : (s.putB f b).cause = s.cause := rfl
@[simp] theorem State.putB_free (f : Fld) (b : Bool) : (s.putB f b).free = s.free := rfl
@[simp] theorem State.putB_wheel (f : Fld) (b : Bool) : (s.putB f b).wheel = s.wheel := rfl
@[simp] theorem State.putB_mem (f : Fld) (b : Bool) : (s.putB f b).mem = s.mem := rfl
@[simp] theorem State.putB_contract (f : Fld) (b : Bool) : (s.putB f b).contract = s.contract := rfl
@[simp] theorem State.putB_unused (f : Fld) (b : Bool) : (s.putB f b).unused = s.unused := rfl
@[simp] theorem State.putB_xwin (f : Fld) (b : Bool) : (s.putB f b).xwin = s.xwin := rfl
@[simp] theorem State.putB_adc (f : Fld) (b : Bool) : (s.putB f b).adc = s.adc := rfl
@[simp] theorem State.putB_pos (f : Fld) (b : Bool) : (s.putB f b).pos = s.pos := rfl
@[simp] theorem State.putB_loops (f : Fld) (b : Bool) : (s.putB f b).loops = s.loops := rfl
@[simp] theorem State.putB_rcu (f : Fld) (b : Bool) : (s.putB f b).rcu = s.rcu := rfl
@[simp] theorem State.putB_pwm (f : Fld) (b : Bool) : (s.putB f b).pwm = s.pwm := rfl
@[simp] theorem State.putB_isl (f : Fld) (b : Bool) : (s.putB f b).isl = s.isl := rfl
@[simp] theorem State.putB_sag (f : Fld) (b : Bool) : (s.putB f b).sag = s.sag := rfl
@[simp] theorem State.putB_cone (f : Fld) (b : Bool) : (s.putB f b).cone = s.cone := rfl
@[simp] theorem State.putB_safe (f : Fld) (b : Bool) : (s.putB f b).safe = s.safe := rfl
@[simp] theorem State.putB_nor (f : Fld) (b : Bool) : (s.putB f b).nor = s.nor := rfl
@[simp] theorem State.putB_otp (f : Fld) (b : Bool) : (s.putB f b).otp = s.otp := rfl
@[simp] theorem State.putB_sec (f : Fld) (b : Bool) : (s.putB f b).sec = s.sec := rfl
@[simp] theorem State.putB_queues (f : Fld) (b : Bool) : (s.putB f b).queues = s.queues := rfl
@[simp] theorem State.putB_can (f : Fld) (b : Bool) : (s.putB f b).can = s.can := rfl
@[simp] theorem State.putB_eth (f : Fld) (b : Bool) : (s.putB f b).eth = s.eth := rfl
@[simp] theorem State.putB_hspi (f : Fld) (b : Bool) : (s.putB f b).hspi = s.hspi := rfl
@[simp] theorem State.putB_shard (f : Fld) (b : Bool) : (s.putB f b).shard = s.shard := rfl
@[simp] theorem State.putB_pwr (f : Fld) (b : Bool) : (s.putB f b).pwr = s.pwr := rfl
@[simp] theorem State.putB_bist (f : Fld) (b : Bool) : (s.putB f b).bist = s.bist := rfl
@[simp] theorem State.putB_pins (f : Fld) (b : Bool) : (s.putB f b).pins = s.pins := rfl
@[simp] theorem State.putB_rdata (f : Fld) (b : Bool) : (s.putB f b).rdata = s.rdata := rfl

@[simp] theorem State.putBit_pending (f : Fld) (i : Nat) (b : Bool) : (s.putBit f i b).pending = s.pending := rfl
@[simp] theorem State.putBit_variant (f : Fld) (i : Nat) (b : Bool) : (s.putBit f i b).variant = s.variant := rfl
@[simp] theorem State.putBit_dev (f : Fld) (i : Nat) (b : Bool) : (s.putBit f i b).dev = s.dev := rfl
@[simp] theorem State.putBit_cycle (f : Fld) (i : Nat) (b : Bool) : (s.putBit f i b).cycle = s.cycle := rfl
@[simp] theorem State.putBit_tsc (f : Fld) (i : Nat) (b : Bool) : (s.putBit f i b).tsc = s.tsc := rfl
@[simp] theorem State.putBit_pll (f : Fld) (i : Nat) (b : Bool) : (s.putBit f i b).pll = s.pll := rfl
@[simp] theorem State.putBit_cause (f : Fld) (i : Nat) (b : Bool) : (s.putBit f i b).cause = s.cause := rfl
@[simp] theorem State.putBit_free (f : Fld) (i : Nat) (b : Bool) : (s.putBit f i b).free = s.free := rfl
@[simp] theorem State.putBit_wheel (f : Fld) (i : Nat) (b : Bool) : (s.putBit f i b).wheel = s.wheel := rfl
@[simp] theorem State.putBit_mem (f : Fld) (i : Nat) (b : Bool) : (s.putBit f i b).mem = s.mem := rfl
@[simp] theorem State.putBit_contract (f : Fld) (i : Nat) (b : Bool) : (s.putBit f i b).contract = s.contract := rfl
@[simp] theorem State.putBit_unused (f : Fld) (i : Nat) (b : Bool) : (s.putBit f i b).unused = s.unused := rfl
@[simp] theorem State.putBit_xwin (f : Fld) (i : Nat) (b : Bool) : (s.putBit f i b).xwin = s.xwin := rfl
@[simp] theorem State.putBit_adc (f : Fld) (i : Nat) (b : Bool) : (s.putBit f i b).adc = s.adc := rfl
@[simp] theorem State.putBit_pos (f : Fld) (i : Nat) (b : Bool) : (s.putBit f i b).pos = s.pos := rfl
@[simp] theorem State.putBit_loops (f : Fld) (i : Nat) (b : Bool) : (s.putBit f i b).loops = s.loops := rfl
@[simp] theorem State.putBit_rcu (f : Fld) (i : Nat) (b : Bool) : (s.putBit f i b).rcu = s.rcu := rfl
@[simp] theorem State.putBit_pwm (f : Fld) (i : Nat) (b : Bool) : (s.putBit f i b).pwm = s.pwm := rfl
@[simp] theorem State.putBit_isl (f : Fld) (i : Nat) (b : Bool) : (s.putBit f i b).isl = s.isl := rfl
@[simp] theorem State.putBit_sag (f : Fld) (i : Nat) (b : Bool) : (s.putBit f i b).sag = s.sag := rfl
@[simp] theorem State.putBit_cone (f : Fld) (i : Nat) (b : Bool) : (s.putBit f i b).cone = s.cone := rfl
@[simp] theorem State.putBit_safe (f : Fld) (i : Nat) (b : Bool) : (s.putBit f i b).safe = s.safe := rfl
@[simp] theorem State.putBit_nor (f : Fld) (i : Nat) (b : Bool) : (s.putBit f i b).nor = s.nor := rfl
@[simp] theorem State.putBit_otp (f : Fld) (i : Nat) (b : Bool) : (s.putBit f i b).otp = s.otp := rfl
@[simp] theorem State.putBit_sec (f : Fld) (i : Nat) (b : Bool) : (s.putBit f i b).sec = s.sec := rfl
@[simp] theorem State.putBit_queues (f : Fld) (i : Nat) (b : Bool) : (s.putBit f i b).queues = s.queues := rfl
@[simp] theorem State.putBit_can (f : Fld) (i : Nat) (b : Bool) : (s.putBit f i b).can = s.can := rfl
@[simp] theorem State.putBit_eth (f : Fld) (i : Nat) (b : Bool) : (s.putBit f i b).eth = s.eth := rfl
@[simp] theorem State.putBit_hspi (f : Fld) (i : Nat) (b : Bool) : (s.putBit f i b).hspi = s.hspi := rfl
@[simp] theorem State.putBit_shard (f : Fld) (i : Nat) (b : Bool) : (s.putBit f i b).shard = s.shard := rfl
@[simp] theorem State.putBit_pwr (f : Fld) (i : Nat) (b : Bool) : (s.putBit f i b).pwr = s.pwr := rfl
@[simp] theorem State.putBit_bist (f : Fld) (i : Nat) (b : Bool) : (s.putBit f i b).bist = s.bist := rfl
@[simp] theorem State.putBit_pins (f : Fld) (i : Nat) (b : Bool) : (s.putBit f i b).pins = s.pins := rfl
@[simp] theorem State.putBit_rdata (f : Fld) (i : Nat) (b : Bool) : (s.putBit f i b).rdata = s.rdata := rfl

@[simp] theorem State.addSat_pending (f : Fld) (n : Nat) : (s.addSat f n).pending = s.pending := rfl
@[simp] theorem State.addSat_variant (f : Fld) (n : Nat) : (s.addSat f n).variant = s.variant := rfl
@[simp] theorem State.addSat_dev (f : Fld) (n : Nat) : (s.addSat f n).dev = s.dev := rfl
@[simp] theorem State.addSat_cycle (f : Fld) (n : Nat) : (s.addSat f n).cycle = s.cycle := rfl
@[simp] theorem State.addSat_tsc (f : Fld) (n : Nat) : (s.addSat f n).tsc = s.tsc := rfl
@[simp] theorem State.addSat_pll (f : Fld) (n : Nat) : (s.addSat f n).pll = s.pll := rfl
@[simp] theorem State.addSat_cause (f : Fld) (n : Nat) : (s.addSat f n).cause = s.cause := rfl
@[simp] theorem State.addSat_free (f : Fld) (n : Nat) : (s.addSat f n).free = s.free := rfl
@[simp] theorem State.addSat_wheel (f : Fld) (n : Nat) : (s.addSat f n).wheel = s.wheel := rfl
@[simp] theorem State.addSat_mem (f : Fld) (n : Nat) : (s.addSat f n).mem = s.mem := rfl
@[simp] theorem State.addSat_contract (f : Fld) (n : Nat) : (s.addSat f n).contract = s.contract := rfl
@[simp] theorem State.addSat_unused (f : Fld) (n : Nat) : (s.addSat f n).unused = s.unused := rfl
@[simp] theorem State.addSat_xwin (f : Fld) (n : Nat) : (s.addSat f n).xwin = s.xwin := rfl
@[simp] theorem State.addSat_adc (f : Fld) (n : Nat) : (s.addSat f n).adc = s.adc := rfl
@[simp] theorem State.addSat_pos (f : Fld) (n : Nat) : (s.addSat f n).pos = s.pos := rfl
@[simp] theorem State.addSat_loops (f : Fld) (n : Nat) : (s.addSat f n).loops = s.loops := rfl
@[simp] theorem State.addSat_rcu (f : Fld) (n : Nat) : (s.addSat f n).rcu = s.rcu := rfl
@[simp] theorem State.addSat_pwm (f : Fld) (n : Nat) : (s.addSat f n).pwm = s.pwm := rfl
@[simp] theorem State.addSat_isl (f : Fld) (n : Nat) : (s.addSat f n).isl = s.isl := rfl
@[simp] theorem State.addSat_sag (f : Fld) (n : Nat) : (s.addSat f n).sag = s.sag := rfl
@[simp] theorem State.addSat_cone (f : Fld) (n : Nat) : (s.addSat f n).cone = s.cone := rfl
@[simp] theorem State.addSat_safe (f : Fld) (n : Nat) : (s.addSat f n).safe = s.safe := rfl
@[simp] theorem State.addSat_nor (f : Fld) (n : Nat) : (s.addSat f n).nor = s.nor := rfl
@[simp] theorem State.addSat_otp (f : Fld) (n : Nat) : (s.addSat f n).otp = s.otp := rfl
@[simp] theorem State.addSat_sec (f : Fld) (n : Nat) : (s.addSat f n).sec = s.sec := rfl
@[simp] theorem State.addSat_queues (f : Fld) (n : Nat) : (s.addSat f n).queues = s.queues := rfl
@[simp] theorem State.addSat_can (f : Fld) (n : Nat) : (s.addSat f n).can = s.can := rfl
@[simp] theorem State.addSat_eth (f : Fld) (n : Nat) : (s.addSat f n).eth = s.eth := rfl
@[simp] theorem State.addSat_hspi (f : Fld) (n : Nat) : (s.addSat f n).hspi = s.hspi := rfl
@[simp] theorem State.addSat_shard (f : Fld) (n : Nat) : (s.addSat f n).shard = s.shard := rfl
@[simp] theorem State.addSat_pwr (f : Fld) (n : Nat) : (s.addSat f n).pwr = s.pwr := rfl
@[simp] theorem State.addSat_bist (f : Fld) (n : Nat) : (s.addSat f n).bist = s.bist := rfl
@[simp] theorem State.addSat_pins (f : Fld) (n : Nat) : (s.addSat f n).pins = s.pins := rfl
@[simp] theorem State.addSat_rdata (f : Fld) (n : Nat) : (s.addSat f n).rdata = s.rdata := rfl

@[simp] theorem State.bumpWrap_pending (f : Fld) : (s.bumpWrap f).pending = s.pending := rfl
@[simp] theorem State.bumpWrap_variant (f : Fld) : (s.bumpWrap f).variant = s.variant := rfl
@[simp] theorem State.bumpWrap_dev (f : Fld) : (s.bumpWrap f).dev = s.dev := rfl
@[simp] theorem State.bumpWrap_cycle (f : Fld) : (s.bumpWrap f).cycle = s.cycle := rfl
@[simp] theorem State.bumpWrap_tsc (f : Fld) : (s.bumpWrap f).tsc = s.tsc := rfl
@[simp] theorem State.bumpWrap_pll (f : Fld) : (s.bumpWrap f).pll = s.pll := rfl
@[simp] theorem State.bumpWrap_cause (f : Fld) : (s.bumpWrap f).cause = s.cause := rfl
@[simp] theorem State.bumpWrap_free (f : Fld) : (s.bumpWrap f).free = s.free := rfl
@[simp] theorem State.bumpWrap_wheel (f : Fld) : (s.bumpWrap f).wheel = s.wheel := rfl
@[simp] theorem State.bumpWrap_mem (f : Fld) : (s.bumpWrap f).mem = s.mem := rfl
@[simp] theorem State.bumpWrap_contract (f : Fld) : (s.bumpWrap f).contract = s.contract := rfl
@[simp] theorem State.bumpWrap_unused (f : Fld) : (s.bumpWrap f).unused = s.unused := rfl
@[simp] theorem State.bumpWrap_xwin (f : Fld) : (s.bumpWrap f).xwin = s.xwin := rfl
@[simp] theorem State.bumpWrap_adc (f : Fld) : (s.bumpWrap f).adc = s.adc := rfl
@[simp] theorem State.bumpWrap_pos (f : Fld) : (s.bumpWrap f).pos = s.pos := rfl
@[simp] theorem State.bumpWrap_loops (f : Fld) : (s.bumpWrap f).loops = s.loops := rfl
@[simp] theorem State.bumpWrap_rcu (f : Fld) : (s.bumpWrap f).rcu = s.rcu := rfl
@[simp] theorem State.bumpWrap_pwm (f : Fld) : (s.bumpWrap f).pwm = s.pwm := rfl
@[simp] theorem State.bumpWrap_isl (f : Fld) : (s.bumpWrap f).isl = s.isl := rfl
@[simp] theorem State.bumpWrap_sag (f : Fld) : (s.bumpWrap f).sag = s.sag := rfl
@[simp] theorem State.bumpWrap_cone (f : Fld) : (s.bumpWrap f).cone = s.cone := rfl
@[simp] theorem State.bumpWrap_safe (f : Fld) : (s.bumpWrap f).safe = s.safe := rfl
@[simp] theorem State.bumpWrap_nor (f : Fld) : (s.bumpWrap f).nor = s.nor := rfl
@[simp] theorem State.bumpWrap_otp (f : Fld) : (s.bumpWrap f).otp = s.otp := rfl
@[simp] theorem State.bumpWrap_sec (f : Fld) : (s.bumpWrap f).sec = s.sec := rfl
@[simp] theorem State.bumpWrap_queues (f : Fld) : (s.bumpWrap f).queues = s.queues := rfl
@[simp] theorem State.bumpWrap_can (f : Fld) : (s.bumpWrap f).can = s.can := rfl
@[simp] theorem State.bumpWrap_eth (f : Fld) : (s.bumpWrap f).eth = s.eth := rfl
@[simp] theorem State.bumpWrap_hspi (f : Fld) : (s.bumpWrap f).hspi = s.hspi := rfl
@[simp] theorem State.bumpWrap_shard (f : Fld) : (s.bumpWrap f).shard = s.shard := rfl
@[simp] theorem State.bumpWrap_pwr (f : Fld) : (s.bumpWrap f).pwr = s.pwr := rfl
@[simp] theorem State.bumpWrap_bist (f : Fld) : (s.bumpWrap f).bist = s.bist := rfl
@[simp] theorem State.bumpWrap_pins (f : Fld) : (s.bumpWrap f).pins = s.pins := rfl
@[simp] theorem State.bumpWrap_rdata (f : Fld) : (s.bumpWrap f).rdata = s.rdata := rfl

@[simp] theorem State.resetRange_pending (lo hi : Nat) : (s.resetRange lo hi).pending = s.pending := rfl
@[simp] theorem State.resetRange_variant (lo hi : Nat) : (s.resetRange lo hi).variant = s.variant := rfl
@[simp] theorem State.resetRange_dev (lo hi : Nat) : (s.resetRange lo hi).dev = s.dev := rfl
@[simp] theorem State.resetRange_cycle (lo hi : Nat) : (s.resetRange lo hi).cycle = s.cycle := rfl
@[simp] theorem State.resetRange_tsc (lo hi : Nat) : (s.resetRange lo hi).tsc = s.tsc := rfl
@[simp] theorem State.resetRange_pll (lo hi : Nat) : (s.resetRange lo hi).pll = s.pll := rfl
@[simp] theorem State.resetRange_cause (lo hi : Nat) : (s.resetRange lo hi).cause = s.cause := rfl
@[simp] theorem State.resetRange_free (lo hi : Nat) : (s.resetRange lo hi).free = s.free := rfl
@[simp] theorem State.resetRange_wheel (lo hi : Nat) : (s.resetRange lo hi).wheel = s.wheel := rfl
@[simp] theorem State.resetRange_mem (lo hi : Nat) : (s.resetRange lo hi).mem = s.mem := rfl
@[simp] theorem State.resetRange_contract (lo hi : Nat) : (s.resetRange lo hi).contract = s.contract := rfl
@[simp] theorem State.resetRange_unused (lo hi : Nat) : (s.resetRange lo hi).unused = s.unused := rfl
@[simp] theorem State.resetRange_xwin (lo hi : Nat) : (s.resetRange lo hi).xwin = s.xwin := rfl
@[simp] theorem State.resetRange_adc (lo hi : Nat) : (s.resetRange lo hi).adc = s.adc := rfl
@[simp] theorem State.resetRange_pos (lo hi : Nat) : (s.resetRange lo hi).pos = s.pos := rfl
@[simp] theorem State.resetRange_loops (lo hi : Nat) : (s.resetRange lo hi).loops = s.loops := rfl
@[simp] theorem State.resetRange_rcu (lo hi : Nat) : (s.resetRange lo hi).rcu = s.rcu := rfl
@[simp] theorem State.resetRange_pwm (lo hi : Nat) : (s.resetRange lo hi).pwm = s.pwm := rfl
@[simp] theorem State.resetRange_isl (lo hi : Nat) : (s.resetRange lo hi).isl = s.isl := rfl
@[simp] theorem State.resetRange_sag (lo hi : Nat) : (s.resetRange lo hi).sag = s.sag := rfl
@[simp] theorem State.resetRange_cone (lo hi : Nat) : (s.resetRange lo hi).cone = s.cone := rfl
@[simp] theorem State.resetRange_safe (lo hi : Nat) : (s.resetRange lo hi).safe = s.safe := rfl
@[simp] theorem State.resetRange_nor (lo hi : Nat) : (s.resetRange lo hi).nor = s.nor := rfl
@[simp] theorem State.resetRange_otp (lo hi : Nat) : (s.resetRange lo hi).otp = s.otp := rfl
@[simp] theorem State.resetRange_sec (lo hi : Nat) : (s.resetRange lo hi).sec = s.sec := rfl
@[simp] theorem State.resetRange_queues (lo hi : Nat) : (s.resetRange lo hi).queues = s.queues := rfl
@[simp] theorem State.resetRange_can (lo hi : Nat) : (s.resetRange lo hi).can = s.can := rfl
@[simp] theorem State.resetRange_eth (lo hi : Nat) : (s.resetRange lo hi).eth = s.eth := rfl
@[simp] theorem State.resetRange_hspi (lo hi : Nat) : (s.resetRange lo hi).hspi = s.hspi := rfl
@[simp] theorem State.resetRange_shard (lo hi : Nat) : (s.resetRange lo hi).shard = s.shard := rfl
@[simp] theorem State.resetRange_pwr (lo hi : Nat) : (s.resetRange lo hi).pwr = s.pwr := rfl
@[simp] theorem State.resetRange_bist (lo hi : Nat) : (s.resetRange lo hi).bist = s.bist := rfl
@[simp] theorem State.resetRange_pins (lo hi : Nat) : (s.resetRange lo hi).pins = s.pins := rfl
@[simp] theorem State.resetRange_rdata (lo hi : Nat) : (s.resetRange lo hi).rdata = s.rdata := rfl

@[simp] theorem State.setG_pending (r : Nat) (v : Word) : (s.setG r v).pending = s.pending := rfl
@[simp] theorem State.setG_variant (r : Nat) (v : Word) : (s.setG r v).variant = s.variant := rfl
@[simp] theorem State.setG_dev (r : Nat) (v : Word) : (s.setG r v).dev = s.dev := rfl
@[simp] theorem State.setG_cycle (r : Nat) (v : Word) : (s.setG r v).cycle = s.cycle := rfl
@[simp] theorem State.setG_tsc (r : Nat) (v : Word) : (s.setG r v).tsc = s.tsc := rfl
@[simp] theorem State.setG_pll (r : Nat) (v : Word) : (s.setG r v).pll = s.pll := rfl
@[simp] theorem State.setG_cause (r : Nat) (v : Word) : (s.setG r v).cause = s.cause := rfl
@[simp] theorem State.setG_free (r : Nat) (v : Word) : (s.setG r v).free = s.free := rfl
@[simp] theorem State.setG_regs (r : Nat) (v : Word) : (s.setG r v).regs = s.regs := rfl
@[simp] theorem State.setG_mem (r : Nat) (v : Word) : (s.setG r v).mem = s.mem := rfl
@[simp] theorem State.setG_contract (r : Nat) (v : Word) : (s.setG r v).contract = s.contract := rfl
@[simp] theorem State.setG_unused (r : Nat) (v : Word) : (s.setG r v).unused = s.unused := rfl
@[simp] theorem State.setG_xwin (r : Nat) (v : Word) : (s.setG r v).xwin = s.xwin := rfl
@[simp] theorem State.setG_adc (r : Nat) (v : Word) : (s.setG r v).adc = s.adc := rfl
@[simp] theorem State.setG_pos (r : Nat) (v : Word) : (s.setG r v).pos = s.pos := rfl
@[simp] theorem State.setG_loops (r : Nat) (v : Word) : (s.setG r v).loops = s.loops := rfl
@[simp] theorem State.setG_rcu (r : Nat) (v : Word) : (s.setG r v).rcu = s.rcu := rfl
@[simp] theorem State.setG_pwm (r : Nat) (v : Word) : (s.setG r v).pwm = s.pwm := rfl
@[simp] theorem State.setG_isl (r : Nat) (v : Word) : (s.setG r v).isl = s.isl := rfl
@[simp] theorem State.setG_sag (r : Nat) (v : Word) : (s.setG r v).sag = s.sag := rfl
@[simp] theorem State.setG_cone (r : Nat) (v : Word) : (s.setG r v).cone = s.cone := rfl
@[simp] theorem State.setG_safe (r : Nat) (v : Word) : (s.setG r v).safe = s.safe := rfl
@[simp] theorem State.setG_nor (r : Nat) (v : Word) : (s.setG r v).nor = s.nor := rfl
@[simp] theorem State.setG_otp (r : Nat) (v : Word) : (s.setG r v).otp = s.otp := rfl
@[simp] theorem State.setG_sec (r : Nat) (v : Word) : (s.setG r v).sec = s.sec := rfl
@[simp] theorem State.setG_queues (r : Nat) (v : Word) : (s.setG r v).queues = s.queues := rfl
@[simp] theorem State.setG_can (r : Nat) (v : Word) : (s.setG r v).can = s.can := rfl
@[simp] theorem State.setG_eth (r : Nat) (v : Word) : (s.setG r v).eth = s.eth := rfl
@[simp] theorem State.setG_hspi (r : Nat) (v : Word) : (s.setG r v).hspi = s.hspi := rfl
@[simp] theorem State.setG_shard (r : Nat) (v : Word) : (s.setG r v).shard = s.shard := rfl
@[simp] theorem State.setG_pwr (r : Nat) (v : Word) : (s.setG r v).pwr = s.pwr := rfl
@[simp] theorem State.setG_bist (r : Nat) (v : Word) : (s.setG r v).bist = s.bist := rfl
@[simp] theorem State.setG_pins (r : Nat) (v : Word) : (s.setG r v).pins = s.pins := rfl
@[simp] theorem State.setG_rdata (r : Nat) (v : Word) : (s.setG r v).rdata = s.rdata := rfl

@[simp] theorem State.later_pending (d : Nat) (e : Effect) : (s.later d e).pending = s.pending := rfl
@[simp] theorem State.later_variant (d : Nat) (e : Effect) : (s.later d e).variant = s.variant := rfl
@[simp] theorem State.later_dev (d : Nat) (e : Effect) : (s.later d e).dev = s.dev := rfl
@[simp] theorem State.later_cycle (d : Nat) (e : Effect) : (s.later d e).cycle = s.cycle := rfl
@[simp] theorem State.later_tsc (d : Nat) (e : Effect) : (s.later d e).tsc = s.tsc := rfl
@[simp] theorem State.later_pll (d : Nat) (e : Effect) : (s.later d e).pll = s.pll := rfl
@[simp] theorem State.later_cause (d : Nat) (e : Effect) : (s.later d e).cause = s.cause := rfl
@[simp] theorem State.later_free (d : Nat) (e : Effect) : (s.later d e).free = s.free := rfl
@[simp] theorem State.later_regs (d : Nat) (e : Effect) : (s.later d e).regs = s.regs := rfl
@[simp] theorem State.later_mem (d : Nat) (e : Effect) : (s.later d e).mem = s.mem := rfl
@[simp] theorem State.later_contract (d : Nat) (e : Effect) : (s.later d e).contract = s.contract := rfl
@[simp] theorem State.later_unused (d : Nat) (e : Effect) : (s.later d e).unused = s.unused := rfl
@[simp] theorem State.later_xwin (d : Nat) (e : Effect) : (s.later d e).xwin = s.xwin := rfl
@[simp] theorem State.later_adc (d : Nat) (e : Effect) : (s.later d e).adc = s.adc := rfl
@[simp] theorem State.later_pos (d : Nat) (e : Effect) : (s.later d e).pos = s.pos := rfl
@[simp] theorem State.later_loops (d : Nat) (e : Effect) : (s.later d e).loops = s.loops := rfl
@[simp] theorem State.later_rcu (d : Nat) (e : Effect) : (s.later d e).rcu = s.rcu := rfl
@[simp] theorem State.later_pwm (d : Nat) (e : Effect) : (s.later d e).pwm = s.pwm := rfl
@[simp] theorem State.later_isl (d : Nat) (e : Effect) : (s.later d e).isl = s.isl := rfl
@[simp] theorem State.later_sag (d : Nat) (e : Effect) : (s.later d e).sag = s.sag := rfl
@[simp] theorem State.later_cone (d : Nat) (e : Effect) : (s.later d e).cone = s.cone := rfl
@[simp] theorem State.later_safe (d : Nat) (e : Effect) : (s.later d e).safe = s.safe := rfl
@[simp] theorem State.later_nor (d : Nat) (e : Effect) : (s.later d e).nor = s.nor := rfl
@[simp] theorem State.later_otp (d : Nat) (e : Effect) : (s.later d e).otp = s.otp := rfl
@[simp] theorem State.later_sec (d : Nat) (e : Effect) : (s.later d e).sec = s.sec := rfl
@[simp] theorem State.later_queues (d : Nat) (e : Effect) : (s.later d e).queues = s.queues := rfl
@[simp] theorem State.later_can (d : Nat) (e : Effect) : (s.later d e).can = s.can := rfl
@[simp] theorem State.later_eth (d : Nat) (e : Effect) : (s.later d e).eth = s.eth := rfl
@[simp] theorem State.later_hspi (d : Nat) (e : Effect) : (s.later d e).hspi = s.hspi := rfl
@[simp] theorem State.later_shard (d : Nat) (e : Effect) : (s.later d e).shard = s.shard := rfl
@[simp] theorem State.later_pwr (d : Nat) (e : Effect) : (s.later d e).pwr = s.pwr := rfl
@[simp] theorem State.later_bist (d : Nat) (e : Effect) : (s.later d e).bist = s.bist := rfl
@[simp] theorem State.later_pins (d : Nat) (e : Effect) : (s.later d e).pins = s.pins := rfl
@[simp] theorem State.later_rdata (d : Nat) (e : Effect) : (s.later d e).rdata = s.rdata := rfl

@[simp] theorem State.inFlight_pending (l : List (Nat × Effect)) : (s.inFlight l).pending = s.pending := rfl
@[simp] theorem State.inFlight_variant (l : List (Nat × Effect)) : (s.inFlight l).variant = s.variant := rfl
@[simp] theorem State.inFlight_dev (l : List (Nat × Effect)) : (s.inFlight l).dev = s.dev := rfl
@[simp] theorem State.inFlight_cycle (l : List (Nat × Effect)) : (s.inFlight l).cycle = s.cycle := rfl
@[simp] theorem State.inFlight_tsc (l : List (Nat × Effect)) : (s.inFlight l).tsc = s.tsc := rfl
@[simp] theorem State.inFlight_pll (l : List (Nat × Effect)) : (s.inFlight l).pll = s.pll := rfl
@[simp] theorem State.inFlight_cause (l : List (Nat × Effect)) : (s.inFlight l).cause = s.cause := rfl
@[simp] theorem State.inFlight_free (l : List (Nat × Effect)) : (s.inFlight l).free = s.free := rfl
@[simp] theorem State.inFlight_regs (l : List (Nat × Effect)) : (s.inFlight l).regs = s.regs := rfl
@[simp] theorem State.inFlight_mem (l : List (Nat × Effect)) : (s.inFlight l).mem = s.mem := rfl
@[simp] theorem State.inFlight_contract (l : List (Nat × Effect)) : (s.inFlight l).contract = s.contract := rfl
@[simp] theorem State.inFlight_unused (l : List (Nat × Effect)) : (s.inFlight l).unused = s.unused := rfl
@[simp] theorem State.inFlight_xwin (l : List (Nat × Effect)) : (s.inFlight l).xwin = s.xwin := rfl
@[simp] theorem State.inFlight_adc (l : List (Nat × Effect)) : (s.inFlight l).adc = s.adc := rfl
@[simp] theorem State.inFlight_pos (l : List (Nat × Effect)) : (s.inFlight l).pos = s.pos := rfl
@[simp] theorem State.inFlight_loops (l : List (Nat × Effect)) : (s.inFlight l).loops = s.loops := rfl
@[simp] theorem State.inFlight_rcu (l : List (Nat × Effect)) : (s.inFlight l).rcu = s.rcu := rfl
@[simp] theorem State.inFlight_pwm (l : List (Nat × Effect)) : (s.inFlight l).pwm = s.pwm := rfl
@[simp] theorem State.inFlight_isl (l : List (Nat × Effect)) : (s.inFlight l).isl = s.isl := rfl
@[simp] theorem State.inFlight_sag (l : List (Nat × Effect)) : (s.inFlight l).sag = s.sag := rfl
@[simp] theorem State.inFlight_cone (l : List (Nat × Effect)) : (s.inFlight l).cone = s.cone := rfl
@[simp] theorem State.inFlight_safe (l : List (Nat × Effect)) : (s.inFlight l).safe = s.safe := rfl
@[simp] theorem State.inFlight_nor (l : List (Nat × Effect)) : (s.inFlight l).nor = s.nor := rfl
@[simp] theorem State.inFlight_otp (l : List (Nat × Effect)) : (s.inFlight l).otp = s.otp := rfl
@[simp] theorem State.inFlight_sec (l : List (Nat × Effect)) : (s.inFlight l).sec = s.sec := rfl
@[simp] theorem State.inFlight_queues (l : List (Nat × Effect)) : (s.inFlight l).queues = s.queues := rfl
@[simp] theorem State.inFlight_can (l : List (Nat × Effect)) : (s.inFlight l).can = s.can := rfl
@[simp] theorem State.inFlight_eth (l : List (Nat × Effect)) : (s.inFlight l).eth = s.eth := rfl
@[simp] theorem State.inFlight_hspi (l : List (Nat × Effect)) : (s.inFlight l).hspi = s.hspi := rfl
@[simp] theorem State.inFlight_shard (l : List (Nat × Effect)) : (s.inFlight l).shard = s.shard := rfl
@[simp] theorem State.inFlight_pwr (l : List (Nat × Effect)) : (s.inFlight l).pwr = s.pwr := rfl
@[simp] theorem State.inFlight_bist (l : List (Nat × Effect)) : (s.inFlight l).bist = s.bist := rfl
@[simp] theorem State.inFlight_pins (l : List (Nat × Effect)) : (s.inFlight l).pins = s.pins := rfl
@[simp] theorem State.inFlight_rdata (l : List (Nat × Effect)) : (s.inFlight l).rdata = s.rdata := rfl

@[simp] theorem State.setLoop_pending (l : Nat) (x : LoopSt) : (s.setLoop l x).pending = s.pending := rfl
@[simp] theorem State.setLoop_variant (l : Nat) (x : LoopSt) : (s.setLoop l x).variant = s.variant := rfl
@[simp] theorem State.setLoop_dev (l : Nat) (x : LoopSt) : (s.setLoop l x).dev = s.dev := rfl
@[simp] theorem State.setLoop_cycle (l : Nat) (x : LoopSt) : (s.setLoop l x).cycle = s.cycle := rfl
@[simp] theorem State.setLoop_tsc (l : Nat) (x : LoopSt) : (s.setLoop l x).tsc = s.tsc := rfl
@[simp] theorem State.setLoop_pll (l : Nat) (x : LoopSt) : (s.setLoop l x).pll = s.pll := rfl
@[simp] theorem State.setLoop_cause (l : Nat) (x : LoopSt) : (s.setLoop l x).cause = s.cause := rfl
@[simp] theorem State.setLoop_free (l : Nat) (x : LoopSt) : (s.setLoop l x).free = s.free := rfl
@[simp] theorem State.setLoop_regs (l : Nat) (x : LoopSt) : (s.setLoop l x).regs = s.regs := rfl
@[simp] theorem State.setLoop_wheel (l : Nat) (x : LoopSt) : (s.setLoop l x).wheel = s.wheel := rfl
@[simp] theorem State.setLoop_mem (l : Nat) (x : LoopSt) : (s.setLoop l x).mem = s.mem := rfl
@[simp] theorem State.setLoop_contract (l : Nat) (x : LoopSt) : (s.setLoop l x).contract = s.contract := rfl
@[simp] theorem State.setLoop_unused (l : Nat) (x : LoopSt) : (s.setLoop l x).unused = s.unused := rfl
@[simp] theorem State.setLoop_xwin (l : Nat) (x : LoopSt) : (s.setLoop l x).xwin = s.xwin := rfl
@[simp] theorem State.setLoop_adc (l : Nat) (x : LoopSt) : (s.setLoop l x).adc = s.adc := rfl
@[simp] theorem State.setLoop_pos (l : Nat) (x : LoopSt) : (s.setLoop l x).pos = s.pos := rfl
@[simp] theorem State.setLoop_rcu (l : Nat) (x : LoopSt) : (s.setLoop l x).rcu = s.rcu := rfl
@[simp] theorem State.setLoop_pwm (l : Nat) (x : LoopSt) : (s.setLoop l x).pwm = s.pwm := rfl
@[simp] theorem State.setLoop_isl (l : Nat) (x : LoopSt) : (s.setLoop l x).isl = s.isl := rfl
@[simp] theorem State.setLoop_sag (l : Nat) (x : LoopSt) : (s.setLoop l x).sag = s.sag := rfl
@[simp] theorem State.setLoop_cone (l : Nat) (x : LoopSt) : (s.setLoop l x).cone = s.cone := rfl
@[simp] theorem State.setLoop_safe (l : Nat) (x : LoopSt) : (s.setLoop l x).safe = s.safe := rfl
@[simp] theorem State.setLoop_nor (l : Nat) (x : LoopSt) : (s.setLoop l x).nor = s.nor := rfl
@[simp] theorem State.setLoop_otp (l : Nat) (x : LoopSt) : (s.setLoop l x).otp = s.otp := rfl
@[simp] theorem State.setLoop_sec (l : Nat) (x : LoopSt) : (s.setLoop l x).sec = s.sec := rfl
@[simp] theorem State.setLoop_queues (l : Nat) (x : LoopSt) : (s.setLoop l x).queues = s.queues := rfl
@[simp] theorem State.setLoop_can (l : Nat) (x : LoopSt) : (s.setLoop l x).can = s.can := rfl
@[simp] theorem State.setLoop_eth (l : Nat) (x : LoopSt) : (s.setLoop l x).eth = s.eth := rfl
@[simp] theorem State.setLoop_hspi (l : Nat) (x : LoopSt) : (s.setLoop l x).hspi = s.hspi := rfl
@[simp] theorem State.setLoop_shard (l : Nat) (x : LoopSt) : (s.setLoop l x).shard = s.shard := rfl
@[simp] theorem State.setLoop_pwr (l : Nat) (x : LoopSt) : (s.setLoop l x).pwr = s.pwr := rfl
@[simp] theorem State.setLoop_bist (l : Nat) (x : LoopSt) : (s.setLoop l x).bist = s.bist := rfl
@[simp] theorem State.setLoop_pins (l : Nat) (x : LoopSt) : (s.setLoop l x).pins = s.pins := rfl
@[simp] theorem State.setLoop_rdata (l : Nat) (x : LoopSt) : (s.setLoop l x).rdata = s.rdata := rfl

@[simp] theorem State.setIsland_pending (i : Nat) (x : Isl) : (s.setIsland i x).pending = s.pending := rfl
@[simp] theorem State.setIsland_variant (i : Nat) (x : Isl) : (s.setIsland i x).variant = s.variant := rfl
@[simp] theorem State.setIsland_dev (i : Nat) (x : Isl) : (s.setIsland i x).dev = s.dev := rfl
@[simp] theorem State.setIsland_cycle (i : Nat) (x : Isl) : (s.setIsland i x).cycle = s.cycle := rfl
@[simp] theorem State.setIsland_tsc (i : Nat) (x : Isl) : (s.setIsland i x).tsc = s.tsc := rfl
@[simp] theorem State.setIsland_pll (i : Nat) (x : Isl) : (s.setIsland i x).pll = s.pll := rfl
@[simp] theorem State.setIsland_cause (i : Nat) (x : Isl) : (s.setIsland i x).cause = s.cause := rfl
@[simp] theorem State.setIsland_free (i : Nat) (x : Isl) : (s.setIsland i x).free = s.free := rfl
@[simp] theorem State.setIsland_regs (i : Nat) (x : Isl) : (s.setIsland i x).regs = s.regs := rfl
@[simp] theorem State.setIsland_wheel (i : Nat) (x : Isl) : (s.setIsland i x).wheel = s.wheel := rfl
@[simp] theorem State.setIsland_mem (i : Nat) (x : Isl) : (s.setIsland i x).mem = s.mem := rfl
@[simp] theorem State.setIsland_contract (i : Nat) (x : Isl) : (s.setIsland i x).contract = s.contract := rfl
@[simp] theorem State.setIsland_unused (i : Nat) (x : Isl) : (s.setIsland i x).unused = s.unused := rfl
@[simp] theorem State.setIsland_xwin (i : Nat) (x : Isl) : (s.setIsland i x).xwin = s.xwin := rfl
@[simp] theorem State.setIsland_adc (i : Nat) (x : Isl) : (s.setIsland i x).adc = s.adc := rfl
@[simp] theorem State.setIsland_pos (i : Nat) (x : Isl) : (s.setIsland i x).pos = s.pos := rfl
@[simp] theorem State.setIsland_loops (i : Nat) (x : Isl) : (s.setIsland i x).loops = s.loops := rfl
@[simp] theorem State.setIsland_rcu (i : Nat) (x : Isl) : (s.setIsland i x).rcu = s.rcu := rfl
@[simp] theorem State.setIsland_pwm (i : Nat) (x : Isl) : (s.setIsland i x).pwm = s.pwm := rfl
@[simp] theorem State.setIsland_sag (i : Nat) (x : Isl) : (s.setIsland i x).sag = s.sag := rfl
@[simp] theorem State.setIsland_cone (i : Nat) (x : Isl) : (s.setIsland i x).cone = s.cone := rfl
@[simp] theorem State.setIsland_safe (i : Nat) (x : Isl) : (s.setIsland i x).safe = s.safe := rfl
@[simp] theorem State.setIsland_nor (i : Nat) (x : Isl) : (s.setIsland i x).nor = s.nor := rfl
@[simp] theorem State.setIsland_otp (i : Nat) (x : Isl) : (s.setIsland i x).otp = s.otp := rfl
@[simp] theorem State.setIsland_sec (i : Nat) (x : Isl) : (s.setIsland i x).sec = s.sec := rfl
@[simp] theorem State.setIsland_queues (i : Nat) (x : Isl) : (s.setIsland i x).queues = s.queues := rfl
@[simp] theorem State.setIsland_can (i : Nat) (x : Isl) : (s.setIsland i x).can = s.can := rfl
@[simp] theorem State.setIsland_eth (i : Nat) (x : Isl) : (s.setIsland i x).eth = s.eth := rfl
@[simp] theorem State.setIsland_hspi (i : Nat) (x : Isl) : (s.setIsland i x).hspi = s.hspi := rfl
@[simp] theorem State.setIsland_shard (i : Nat) (x : Isl) : (s.setIsland i x).shard = s.shard := rfl
@[simp] theorem State.setIsland_pwr (i : Nat) (x : Isl) : (s.setIsland i x).pwr = s.pwr := rfl
@[simp] theorem State.setIsland_bist (i : Nat) (x : Isl) : (s.setIsland i x).bist = s.bist := rfl
@[simp] theorem State.setIsland_pins (i : Nat) (x : Isl) : (s.setIsland i x).pins = s.pins := rfl
@[simp] theorem State.setIsland_rdata (i : Nat) (x : Isl) : (s.setIsland i x).rdata = s.rdata := rfl

@[simp] theorem State.setGen_pending (n : Nat) (x : Gen) : (s.setGen n x).pending = s.pending := rfl
@[simp] theorem State.setGen_variant (n : Nat) (x : Gen) : (s.setGen n x).variant = s.variant := rfl
@[simp] theorem State.setGen_dev (n : Nat) (x : Gen) : (s.setGen n x).dev = s.dev := rfl
@[simp] theorem State.setGen_cycle (n : Nat) (x : Gen) : (s.setGen n x).cycle = s.cycle := rfl
@[simp] theorem State.setGen_tsc (n : Nat) (x : Gen) : (s.setGen n x).tsc = s.tsc := rfl
@[simp] theorem State.setGen_pll (n : Nat) (x : Gen) : (s.setGen n x).pll = s.pll := rfl
@[simp] theorem State.setGen_cause (n : Nat) (x : Gen) : (s.setGen n x).cause = s.cause := rfl
@[simp] theorem State.setGen_free (n : Nat) (x : Gen) : (s.setGen n x).free = s.free := rfl
@[simp] theorem State.setGen_regs (n : Nat) (x : Gen) : (s.setGen n x).regs = s.regs := rfl
@[simp] theorem State.setGen_wheel (n : Nat) (x : Gen) : (s.setGen n x).wheel = s.wheel := rfl
@[simp] theorem State.setGen_mem (n : Nat) (x : Gen) : (s.setGen n x).mem = s.mem := rfl
@[simp] theorem State.setGen_contract (n : Nat) (x : Gen) : (s.setGen n x).contract = s.contract := rfl
@[simp] theorem State.setGen_unused (n : Nat) (x : Gen) : (s.setGen n x).unused = s.unused := rfl
@[simp] theorem State.setGen_xwin (n : Nat) (x : Gen) : (s.setGen n x).xwin = s.xwin := rfl
@[simp] theorem State.setGen_adc (n : Nat) (x : Gen) : (s.setGen n x).adc = s.adc := rfl
@[simp] theorem State.setGen_pos (n : Nat) (x : Gen) : (s.setGen n x).pos = s.pos := rfl
@[simp] theorem State.setGen_loops (n : Nat) (x : Gen) : (s.setGen n x).loops = s.loops := rfl
@[simp] theorem State.setGen_rcu (n : Nat) (x : Gen) : (s.setGen n x).rcu = s.rcu := rfl
@[simp] theorem State.setGen_isl (n : Nat) (x : Gen) : (s.setGen n x).isl = s.isl := rfl
@[simp] theorem State.setGen_sag (n : Nat) (x : Gen) : (s.setGen n x).sag = s.sag := rfl
@[simp] theorem State.setGen_cone (n : Nat) (x : Gen) : (s.setGen n x).cone = s.cone := rfl
@[simp] theorem State.setGen_safe (n : Nat) (x : Gen) : (s.setGen n x).safe = s.safe := rfl
@[simp] theorem State.setGen_nor (n : Nat) (x : Gen) : (s.setGen n x).nor = s.nor := rfl
@[simp] theorem State.setGen_otp (n : Nat) (x : Gen) : (s.setGen n x).otp = s.otp := rfl
@[simp] theorem State.setGen_sec (n : Nat) (x : Gen) : (s.setGen n x).sec = s.sec := rfl
@[simp] theorem State.setGen_queues (n : Nat) (x : Gen) : (s.setGen n x).queues = s.queues := rfl
@[simp] theorem State.setGen_can (n : Nat) (x : Gen) : (s.setGen n x).can = s.can := rfl
@[simp] theorem State.setGen_eth (n : Nat) (x : Gen) : (s.setGen n x).eth = s.eth := rfl
@[simp] theorem State.setGen_hspi (n : Nat) (x : Gen) : (s.setGen n x).hspi = s.hspi := rfl
@[simp] theorem State.setGen_shard (n : Nat) (x : Gen) : (s.setGen n x).shard = s.shard := rfl
@[simp] theorem State.setGen_pwr (n : Nat) (x : Gen) : (s.setGen n x).pwr = s.pwr := rfl
@[simp] theorem State.setGen_bist (n : Nat) (x : Gen) : (s.setGen n x).bist = s.bist := rfl
@[simp] theorem State.setGen_pins (n : Nat) (x : Gen) : (s.setGen n x).pins = s.pins := rfl
@[simp] theorem State.setGen_rdata (n : Nat) (x : Gen) : (s.setGen n x).rdata = s.rdata := rfl

@[simp] theorem State.setQueue_pending (q : Nat) (x : Queue) : (s.setQueue q x).pending = s.pending := rfl
@[simp] theorem State.setQueue_variant (q : Nat) (x : Queue) : (s.setQueue q x).variant = s.variant := rfl
@[simp] theorem State.setQueue_dev (q : Nat) (x : Queue) : (s.setQueue q x).dev = s.dev := rfl
@[simp] theorem State.setQueue_cycle (q : Nat) (x : Queue) : (s.setQueue q x).cycle = s.cycle := rfl
@[simp] theorem State.setQueue_tsc (q : Nat) (x : Queue) : (s.setQueue q x).tsc = s.tsc := rfl
@[simp] theorem State.setQueue_pll (q : Nat) (x : Queue) : (s.setQueue q x).pll = s.pll := rfl
@[simp] theorem State.setQueue_cause (q : Nat) (x : Queue) : (s.setQueue q x).cause = s.cause := rfl
@[simp] theorem State.setQueue_free (q : Nat) (x : Queue) : (s.setQueue q x).free = s.free := rfl
@[simp] theorem State.setQueue_regs (q : Nat) (x : Queue) : (s.setQueue q x).regs = s.regs := rfl
@[simp] theorem State.setQueue_wheel (q : Nat) (x : Queue) : (s.setQueue q x).wheel = s.wheel := rfl
@[simp] theorem State.setQueue_mem (q : Nat) (x : Queue) : (s.setQueue q x).mem = s.mem := rfl
@[simp] theorem State.setQueue_contract (q : Nat) (x : Queue) : (s.setQueue q x).contract = s.contract := rfl
@[simp] theorem State.setQueue_unused (q : Nat) (x : Queue) : (s.setQueue q x).unused = s.unused := rfl
@[simp] theorem State.setQueue_xwin (q : Nat) (x : Queue) : (s.setQueue q x).xwin = s.xwin := rfl
@[simp] theorem State.setQueue_adc (q : Nat) (x : Queue) : (s.setQueue q x).adc = s.adc := rfl
@[simp] theorem State.setQueue_pos (q : Nat) (x : Queue) : (s.setQueue q x).pos = s.pos := rfl
@[simp] theorem State.setQueue_loops (q : Nat) (x : Queue) : (s.setQueue q x).loops = s.loops := rfl
@[simp] theorem State.setQueue_rcu (q : Nat) (x : Queue) : (s.setQueue q x).rcu = s.rcu := rfl
@[simp] theorem State.setQueue_pwm (q : Nat) (x : Queue) : (s.setQueue q x).pwm = s.pwm := rfl
@[simp] theorem State.setQueue_isl (q : Nat) (x : Queue) : (s.setQueue q x).isl = s.isl := rfl
@[simp] theorem State.setQueue_sag (q : Nat) (x : Queue) : (s.setQueue q x).sag = s.sag := rfl
@[simp] theorem State.setQueue_cone (q : Nat) (x : Queue) : (s.setQueue q x).cone = s.cone := rfl
@[simp] theorem State.setQueue_safe (q : Nat) (x : Queue) : (s.setQueue q x).safe = s.safe := rfl
@[simp] theorem State.setQueue_nor (q : Nat) (x : Queue) : (s.setQueue q x).nor = s.nor := rfl
@[simp] theorem State.setQueue_otp (q : Nat) (x : Queue) : (s.setQueue q x).otp = s.otp := rfl
@[simp] theorem State.setQueue_sec (q : Nat) (x : Queue) : (s.setQueue q x).sec = s.sec := rfl
@[simp] theorem State.setQueue_can (q : Nat) (x : Queue) : (s.setQueue q x).can = s.can := rfl
@[simp] theorem State.setQueue_eth (q : Nat) (x : Queue) : (s.setQueue q x).eth = s.eth := rfl
@[simp] theorem State.setQueue_hspi (q : Nat) (x : Queue) : (s.setQueue q x).hspi = s.hspi := rfl
@[simp] theorem State.setQueue_shard (q : Nat) (x : Queue) : (s.setQueue q x).shard = s.shard := rfl
@[simp] theorem State.setQueue_pwr (q : Nat) (x : Queue) : (s.setQueue q x).pwr = s.pwr := rfl
@[simp] theorem State.setQueue_bist (q : Nat) (x : Queue) : (s.setQueue q x).bist = s.bist := rfl
@[simp] theorem State.setQueue_pins (q : Nat) (x : Queue) : (s.setQueue q x).pins = s.pins := rfl
@[simp] theorem State.setQueue_rdata (q : Nat) (x : Queue) : (s.setQueue q x).rdata = s.rdata := rfl

@[simp] theorem State.setCan_pending (x : Nat) (c : Can) : (s.setCan x c).pending = s.pending := rfl
@[simp] theorem State.setCan_variant (x : Nat) (c : Can) : (s.setCan x c).variant = s.variant := rfl
@[simp] theorem State.setCan_dev (x : Nat) (c : Can) : (s.setCan x c).dev = s.dev := rfl
@[simp] theorem State.setCan_cycle (x : Nat) (c : Can) : (s.setCan x c).cycle = s.cycle := rfl
@[simp] theorem State.setCan_tsc (x : Nat) (c : Can) : (s.setCan x c).tsc = s.tsc := rfl
@[simp] theorem State.setCan_pll (x : Nat) (c : Can) : (s.setCan x c).pll = s.pll := rfl
@[simp] theorem State.setCan_cause (x : Nat) (c : Can) : (s.setCan x c).cause = s.cause := rfl
@[simp] theorem State.setCan_free (x : Nat) (c : Can) : (s.setCan x c).free = s.free := rfl
@[simp] theorem State.setCan_regs (x : Nat) (c : Can) : (s.setCan x c).regs = s.regs := rfl
@[simp] theorem State.setCan_wheel (x : Nat) (c : Can) : (s.setCan x c).wheel = s.wheel := rfl
@[simp] theorem State.setCan_mem (x : Nat) (c : Can) : (s.setCan x c).mem = s.mem := rfl
@[simp] theorem State.setCan_contract (x : Nat) (c : Can) : (s.setCan x c).contract = s.contract := rfl
@[simp] theorem State.setCan_unused (x : Nat) (c : Can) : (s.setCan x c).unused = s.unused := rfl
@[simp] theorem State.setCan_xwin (x : Nat) (c : Can) : (s.setCan x c).xwin = s.xwin := rfl
@[simp] theorem State.setCan_adc (x : Nat) (c : Can) : (s.setCan x c).adc = s.adc := rfl
@[simp] theorem State.setCan_pos (x : Nat) (c : Can) : (s.setCan x c).pos = s.pos := rfl
@[simp] theorem State.setCan_loops (x : Nat) (c : Can) : (s.setCan x c).loops = s.loops := rfl
@[simp] theorem State.setCan_rcu (x : Nat) (c : Can) : (s.setCan x c).rcu = s.rcu := rfl
@[simp] theorem State.setCan_pwm (x : Nat) (c : Can) : (s.setCan x c).pwm = s.pwm := rfl
@[simp] theorem State.setCan_isl (x : Nat) (c : Can) : (s.setCan x c).isl = s.isl := rfl
@[simp] theorem State.setCan_sag (x : Nat) (c : Can) : (s.setCan x c).sag = s.sag := rfl
@[simp] theorem State.setCan_cone (x : Nat) (c : Can) : (s.setCan x c).cone = s.cone := rfl
@[simp] theorem State.setCan_safe (x : Nat) (c : Can) : (s.setCan x c).safe = s.safe := rfl
@[simp] theorem State.setCan_nor (x : Nat) (c : Can) : (s.setCan x c).nor = s.nor := rfl
@[simp] theorem State.setCan_otp (x : Nat) (c : Can) : (s.setCan x c).otp = s.otp := rfl
@[simp] theorem State.setCan_sec (x : Nat) (c : Can) : (s.setCan x c).sec = s.sec := rfl
@[simp] theorem State.setCan_queues (x : Nat) (c : Can) : (s.setCan x c).queues = s.queues := rfl
@[simp] theorem State.setCan_eth (x : Nat) (c : Can) : (s.setCan x c).eth = s.eth := rfl
@[simp] theorem State.setCan_hspi (x : Nat) (c : Can) : (s.setCan x c).hspi = s.hspi := rfl
@[simp] theorem State.setCan_shard (x : Nat) (c : Can) : (s.setCan x c).shard = s.shard := rfl
@[simp] theorem State.setCan_pwr (x : Nat) (c : Can) : (s.setCan x c).pwr = s.pwr := rfl
@[simp] theorem State.setCan_bist (x : Nat) (c : Can) : (s.setCan x c).bist = s.bist := rfl
@[simp] theorem State.setCan_pins (x : Nat) (c : Can) : (s.setCan x c).pins = s.pins := rfl
@[simp] theorem State.setCan_rdata (x : Nat) (c : Can) : (s.setCan x c).rdata = s.rdata := rfl

@[simp] theorem State.setExc_pending (x : Nat) (e : Exciter) : (s.setExc x e).pending = s.pending := rfl
@[simp] theorem State.setExc_variant (x : Nat) (e : Exciter) : (s.setExc x e).variant = s.variant := rfl
@[simp] theorem State.setExc_dev (x : Nat) (e : Exciter) : (s.setExc x e).dev = s.dev := rfl
@[simp] theorem State.setExc_cycle (x : Nat) (e : Exciter) : (s.setExc x e).cycle = s.cycle := rfl
@[simp] theorem State.setExc_tsc (x : Nat) (e : Exciter) : (s.setExc x e).tsc = s.tsc := rfl
@[simp] theorem State.setExc_pll (x : Nat) (e : Exciter) : (s.setExc x e).pll = s.pll := rfl
@[simp] theorem State.setExc_cause (x : Nat) (e : Exciter) : (s.setExc x e).cause = s.cause := rfl
@[simp] theorem State.setExc_free (x : Nat) (e : Exciter) : (s.setExc x e).free = s.free := rfl
@[simp] theorem State.setExc_regs (x : Nat) (e : Exciter) : (s.setExc x e).regs = s.regs := rfl
@[simp] theorem State.setExc_wheel (x : Nat) (e : Exciter) : (s.setExc x e).wheel = s.wheel := rfl
@[simp] theorem State.setExc_mem (x : Nat) (e : Exciter) : (s.setExc x e).mem = s.mem := rfl
@[simp] theorem State.setExc_contract (x : Nat) (e : Exciter) : (s.setExc x e).contract = s.contract := rfl
@[simp] theorem State.setExc_unused (x : Nat) (e : Exciter) : (s.setExc x e).unused = s.unused := rfl
@[simp] theorem State.setExc_xwin (x : Nat) (e : Exciter) : (s.setExc x e).xwin = s.xwin := rfl
@[simp] theorem State.setExc_adc (x : Nat) (e : Exciter) : (s.setExc x e).adc = s.adc := rfl
@[simp] theorem State.setExc_loops (x : Nat) (e : Exciter) : (s.setExc x e).loops = s.loops := rfl
@[simp] theorem State.setExc_rcu (x : Nat) (e : Exciter) : (s.setExc x e).rcu = s.rcu := rfl
@[simp] theorem State.setExc_pwm (x : Nat) (e : Exciter) : (s.setExc x e).pwm = s.pwm := rfl
@[simp] theorem State.setExc_isl (x : Nat) (e : Exciter) : (s.setExc x e).isl = s.isl := rfl
@[simp] theorem State.setExc_sag (x : Nat) (e : Exciter) : (s.setExc x e).sag = s.sag := rfl
@[simp] theorem State.setExc_cone (x : Nat) (e : Exciter) : (s.setExc x e).cone = s.cone := rfl
@[simp] theorem State.setExc_safe (x : Nat) (e : Exciter) : (s.setExc x e).safe = s.safe := rfl
@[simp] theorem State.setExc_nor (x : Nat) (e : Exciter) : (s.setExc x e).nor = s.nor := rfl
@[simp] theorem State.setExc_otp (x : Nat) (e : Exciter) : (s.setExc x e).otp = s.otp := rfl
@[simp] theorem State.setExc_sec (x : Nat) (e : Exciter) : (s.setExc x e).sec = s.sec := rfl
@[simp] theorem State.setExc_queues (x : Nat) (e : Exciter) : (s.setExc x e).queues = s.queues := rfl
@[simp] theorem State.setExc_can (x : Nat) (e : Exciter) : (s.setExc x e).can = s.can := rfl
@[simp] theorem State.setExc_eth (x : Nat) (e : Exciter) : (s.setExc x e).eth = s.eth := rfl
@[simp] theorem State.setExc_hspi (x : Nat) (e : Exciter) : (s.setExc x e).hspi = s.hspi := rfl
@[simp] theorem State.setExc_shard (x : Nat) (e : Exciter) : (s.setExc x e).shard = s.shard := rfl
@[simp] theorem State.setExc_pwr (x : Nat) (e : Exciter) : (s.setExc x e).pwr = s.pwr := rfl
@[simp] theorem State.setExc_bist (x : Nat) (e : Exciter) : (s.setExc x e).bist = s.bist := rfl
@[simp] theorem State.setExc_pins (x : Nat) (e : Exciter) : (s.setExc x e).pins = s.pins := rfl
@[simp] theorem State.setExc_rdata (x : Nat) (e : Exciter) : (s.setExc x e).rdata = s.rdata := rfl

@[simp] theorem State.setEnc_pending (x : Nat) (e : Encoder) : (s.setEnc x e).pending = s.pending := rfl
@[simp] theorem State.setEnc_variant (x : Nat) (e : Encoder) : (s.setEnc x e).variant = s.variant := rfl
@[simp] theorem State.setEnc_dev (x : Nat) (e : Encoder) : (s.setEnc x e).dev = s.dev := rfl
@[simp] theorem State.setEnc_cycle (x : Nat) (e : Encoder) : (s.setEnc x e).cycle = s.cycle := rfl
@[simp] theorem State.setEnc_tsc (x : Nat) (e : Encoder) : (s.setEnc x e).tsc = s.tsc := rfl
@[simp] theorem State.setEnc_pll (x : Nat) (e : Encoder) : (s.setEnc x e).pll = s.pll := rfl
@[simp] theorem State.setEnc_cause (x : Nat) (e : Encoder) : (s.setEnc x e).cause = s.cause := rfl
@[simp] theorem State.setEnc_free (x : Nat) (e : Encoder) : (s.setEnc x e).free = s.free := rfl
@[simp] theorem State.setEnc_regs (x : Nat) (e : Encoder) : (s.setEnc x e).regs = s.regs := rfl
@[simp] theorem State.setEnc_wheel (x : Nat) (e : Encoder) : (s.setEnc x e).wheel = s.wheel := rfl
@[simp] theorem State.setEnc_mem (x : Nat) (e : Encoder) : (s.setEnc x e).mem = s.mem := rfl
@[simp] theorem State.setEnc_contract (x : Nat) (e : Encoder) : (s.setEnc x e).contract = s.contract := rfl
@[simp] theorem State.setEnc_unused (x : Nat) (e : Encoder) : (s.setEnc x e).unused = s.unused := rfl
@[simp] theorem State.setEnc_xwin (x : Nat) (e : Encoder) : (s.setEnc x e).xwin = s.xwin := rfl
@[simp] theorem State.setEnc_adc (x : Nat) (e : Encoder) : (s.setEnc x e).adc = s.adc := rfl
@[simp] theorem State.setEnc_loops (x : Nat) (e : Encoder) : (s.setEnc x e).loops = s.loops := rfl
@[simp] theorem State.setEnc_rcu (x : Nat) (e : Encoder) : (s.setEnc x e).rcu = s.rcu := rfl
@[simp] theorem State.setEnc_pwm (x : Nat) (e : Encoder) : (s.setEnc x e).pwm = s.pwm := rfl
@[simp] theorem State.setEnc_isl (x : Nat) (e : Encoder) : (s.setEnc x e).isl = s.isl := rfl
@[simp] theorem State.setEnc_sag (x : Nat) (e : Encoder) : (s.setEnc x e).sag = s.sag := rfl
@[simp] theorem State.setEnc_cone (x : Nat) (e : Encoder) : (s.setEnc x e).cone = s.cone := rfl
@[simp] theorem State.setEnc_safe (x : Nat) (e : Encoder) : (s.setEnc x e).safe = s.safe := rfl
@[simp] theorem State.setEnc_nor (x : Nat) (e : Encoder) : (s.setEnc x e).nor = s.nor := rfl
@[simp] theorem State.setEnc_otp (x : Nat) (e : Encoder) : (s.setEnc x e).otp = s.otp := rfl
@[simp] theorem State.setEnc_sec (x : Nat) (e : Encoder) : (s.setEnc x e).sec = s.sec := rfl
@[simp] theorem State.setEnc_queues (x : Nat) (e : Encoder) : (s.setEnc x e).queues = s.queues := rfl
@[simp] theorem State.setEnc_can (x : Nat) (e : Encoder) : (s.setEnc x e).can = s.can := rfl
@[simp] theorem State.setEnc_eth (x : Nat) (e : Encoder) : (s.setEnc x e).eth = s.eth := rfl
@[simp] theorem State.setEnc_hspi (x : Nat) (e : Encoder) : (s.setEnc x e).hspi = s.hspi := rfl
@[simp] theorem State.setEnc_shard (x : Nat) (e : Encoder) : (s.setEnc x e).shard = s.shard := rfl
@[simp] theorem State.setEnc_pwr (x : Nat) (e : Encoder) : (s.setEnc x e).pwr = s.pwr := rfl
@[simp] theorem State.setEnc_bist (x : Nat) (e : Encoder) : (s.setEnc x e).bist = s.bist := rfl
@[simp] theorem State.setEnc_pins (x : Nat) (e : Encoder) : (s.setEnc x e).pins = s.pins := rfl
@[simp] theorem State.setEnc_rdata (x : Nat) (e : Encoder) : (s.setEnc x e).rdata = s.rdata := rfl

@[simp] theorem State.setHall_pending (x : Nat) (e : Hall) : (s.setHall x e).pending = s.pending := rfl
@[simp] theorem State.setHall_variant (x : Nat) (e : Hall) : (s.setHall x e).variant = s.variant := rfl
@[simp] theorem State.setHall_dev (x : Nat) (e : Hall) : (s.setHall x e).dev = s.dev := rfl
@[simp] theorem State.setHall_cycle (x : Nat) (e : Hall) : (s.setHall x e).cycle = s.cycle := rfl
@[simp] theorem State.setHall_tsc (x : Nat) (e : Hall) : (s.setHall x e).tsc = s.tsc := rfl
@[simp] theorem State.setHall_pll (x : Nat) (e : Hall) : (s.setHall x e).pll = s.pll := rfl
@[simp] theorem State.setHall_cause (x : Nat) (e : Hall) : (s.setHall x e).cause = s.cause := rfl
@[simp] theorem State.setHall_free (x : Nat) (e : Hall) : (s.setHall x e).free = s.free := rfl
@[simp] theorem State.setHall_regs (x : Nat) (e : Hall) : (s.setHall x e).regs = s.regs := rfl
@[simp] theorem State.setHall_wheel (x : Nat) (e : Hall) : (s.setHall x e).wheel = s.wheel := rfl
@[simp] theorem State.setHall_mem (x : Nat) (e : Hall) : (s.setHall x e).mem = s.mem := rfl
@[simp] theorem State.setHall_contract (x : Nat) (e : Hall) : (s.setHall x e).contract = s.contract := rfl
@[simp] theorem State.setHall_unused (x : Nat) (e : Hall) : (s.setHall x e).unused = s.unused := rfl
@[simp] theorem State.setHall_xwin (x : Nat) (e : Hall) : (s.setHall x e).xwin = s.xwin := rfl
@[simp] theorem State.setHall_adc (x : Nat) (e : Hall) : (s.setHall x e).adc = s.adc := rfl
@[simp] theorem State.setHall_loops (x : Nat) (e : Hall) : (s.setHall x e).loops = s.loops := rfl
@[simp] theorem State.setHall_rcu (x : Nat) (e : Hall) : (s.setHall x e).rcu = s.rcu := rfl
@[simp] theorem State.setHall_pwm (x : Nat) (e : Hall) : (s.setHall x e).pwm = s.pwm := rfl
@[simp] theorem State.setHall_isl (x : Nat) (e : Hall) : (s.setHall x e).isl = s.isl := rfl
@[simp] theorem State.setHall_sag (x : Nat) (e : Hall) : (s.setHall x e).sag = s.sag := rfl
@[simp] theorem State.setHall_cone (x : Nat) (e : Hall) : (s.setHall x e).cone = s.cone := rfl
@[simp] theorem State.setHall_safe (x : Nat) (e : Hall) : (s.setHall x e).safe = s.safe := rfl
@[simp] theorem State.setHall_nor (x : Nat) (e : Hall) : (s.setHall x e).nor = s.nor := rfl
@[simp] theorem State.setHall_otp (x : Nat) (e : Hall) : (s.setHall x e).otp = s.otp := rfl
@[simp] theorem State.setHall_sec (x : Nat) (e : Hall) : (s.setHall x e).sec = s.sec := rfl
@[simp] theorem State.setHall_queues (x : Nat) (e : Hall) : (s.setHall x e).queues = s.queues := rfl
@[simp] theorem State.setHall_can (x : Nat) (e : Hall) : (s.setHall x e).can = s.can := rfl
@[simp] theorem State.setHall_eth (x : Nat) (e : Hall) : (s.setHall x e).eth = s.eth := rfl
@[simp] theorem State.setHall_hspi (x : Nat) (e : Hall) : (s.setHall x e).hspi = s.hspi := rfl
@[simp] theorem State.setHall_shard (x : Nat) (e : Hall) : (s.setHall x e).shard = s.shard := rfl
@[simp] theorem State.setHall_pwr (x : Nat) (e : Hall) : (s.setHall x e).pwr = s.pwr := rfl
@[simp] theorem State.setHall_bist (x : Nat) (e : Hall) : (s.setHall x e).bist = s.bist := rfl
@[simp] theorem State.setHall_pins (x : Nat) (e : Hall) : (s.setHall x e).pins = s.pins := rfl
@[simp] theorem State.setHall_rdata (x : Nat) (e : Hall) : (s.setHall x e).rdata = s.rdata := rfl

@[simp] theorem State.setSent_pending (x : Nat) (e : Sent) : (s.setSent x e).pending = s.pending := rfl
@[simp] theorem State.setSent_variant (x : Nat) (e : Sent) : (s.setSent x e).variant = s.variant := rfl
@[simp] theorem State.setSent_dev (x : Nat) (e : Sent) : (s.setSent x e).dev = s.dev := rfl
@[simp] theorem State.setSent_cycle (x : Nat) (e : Sent) : (s.setSent x e).cycle = s.cycle := rfl
@[simp] theorem State.setSent_tsc (x : Nat) (e : Sent) : (s.setSent x e).tsc = s.tsc := rfl
@[simp] theorem State.setSent_pll (x : Nat) (e : Sent) : (s.setSent x e).pll = s.pll := rfl
@[simp] theorem State.setSent_cause (x : Nat) (e : Sent) : (s.setSent x e).cause = s.cause := rfl
@[simp] theorem State.setSent_free (x : Nat) (e : Sent) : (s.setSent x e).free = s.free := rfl
@[simp] theorem State.setSent_regs (x : Nat) (e : Sent) : (s.setSent x e).regs = s.regs := rfl
@[simp] theorem State.setSent_wheel (x : Nat) (e : Sent) : (s.setSent x e).wheel = s.wheel := rfl
@[simp] theorem State.setSent_mem (x : Nat) (e : Sent) : (s.setSent x e).mem = s.mem := rfl
@[simp] theorem State.setSent_contract (x : Nat) (e : Sent) : (s.setSent x e).contract = s.contract := rfl
@[simp] theorem State.setSent_unused (x : Nat) (e : Sent) : (s.setSent x e).unused = s.unused := rfl
@[simp] theorem State.setSent_xwin (x : Nat) (e : Sent) : (s.setSent x e).xwin = s.xwin := rfl
@[simp] theorem State.setSent_adc (x : Nat) (e : Sent) : (s.setSent x e).adc = s.adc := rfl
@[simp] theorem State.setSent_loops (x : Nat) (e : Sent) : (s.setSent x e).loops = s.loops := rfl
@[simp] theorem State.setSent_rcu (x : Nat) (e : Sent) : (s.setSent x e).rcu = s.rcu := rfl
@[simp] theorem State.setSent_pwm (x : Nat) (e : Sent) : (s.setSent x e).pwm = s.pwm := rfl
@[simp] theorem State.setSent_isl (x : Nat) (e : Sent) : (s.setSent x e).isl = s.isl := rfl
@[simp] theorem State.setSent_sag (x : Nat) (e : Sent) : (s.setSent x e).sag = s.sag := rfl
@[simp] theorem State.setSent_cone (x : Nat) (e : Sent) : (s.setSent x e).cone = s.cone := rfl
@[simp] theorem State.setSent_safe (x : Nat) (e : Sent) : (s.setSent x e).safe = s.safe := rfl
@[simp] theorem State.setSent_nor (x : Nat) (e : Sent) : (s.setSent x e).nor = s.nor := rfl
@[simp] theorem State.setSent_otp (x : Nat) (e : Sent) : (s.setSent x e).otp = s.otp := rfl
@[simp] theorem State.setSent_sec (x : Nat) (e : Sent) : (s.setSent x e).sec = s.sec := rfl
@[simp] theorem State.setSent_queues (x : Nat) (e : Sent) : (s.setSent x e).queues = s.queues := rfl
@[simp] theorem State.setSent_can (x : Nat) (e : Sent) : (s.setSent x e).can = s.can := rfl
@[simp] theorem State.setSent_eth (x : Nat) (e : Sent) : (s.setSent x e).eth = s.eth := rfl
@[simp] theorem State.setSent_hspi (x : Nat) (e : Sent) : (s.setSent x e).hspi = s.hspi := rfl
@[simp] theorem State.setSent_shard (x : Nat) (e : Sent) : (s.setSent x e).shard = s.shard := rfl
@[simp] theorem State.setSent_pwr (x : Nat) (e : Sent) : (s.setSent x e).pwr = s.pwr := rfl
@[simp] theorem State.setSent_bist (x : Nat) (e : Sent) : (s.setSent x e).bist = s.bist := rfl
@[simp] theorem State.setSent_pins (x : Nat) (e : Sent) : (s.setSent x e).pins = s.pins := rfl
@[simp] theorem State.setSent_rdata (x : Nat) (e : Sent) : (s.setSent x e).rdata = s.rdata := rfl

@[simp] theorem State.setSd_pending (x : Nat) (c : SdCh) : (s.setSd x c).pending = s.pending := rfl
@[simp] theorem State.setSd_variant (x : Nat) (c : SdCh) : (s.setSd x c).variant = s.variant := rfl
@[simp] theorem State.setSd_dev (x : Nat) (c : SdCh) : (s.setSd x c).dev = s.dev := rfl
@[simp] theorem State.setSd_cycle (x : Nat) (c : SdCh) : (s.setSd x c).cycle = s.cycle := rfl
@[simp] theorem State.setSd_tsc (x : Nat) (c : SdCh) : (s.setSd x c).tsc = s.tsc := rfl
@[simp] theorem State.setSd_pll (x : Nat) (c : SdCh) : (s.setSd x c).pll = s.pll := rfl
@[simp] theorem State.setSd_cause (x : Nat) (c : SdCh) : (s.setSd x c).cause = s.cause := rfl
@[simp] theorem State.setSd_free (x : Nat) (c : SdCh) : (s.setSd x c).free = s.free := rfl
@[simp] theorem State.setSd_regs (x : Nat) (c : SdCh) : (s.setSd x c).regs = s.regs := rfl
@[simp] theorem State.setSd_wheel (x : Nat) (c : SdCh) : (s.setSd x c).wheel = s.wheel := rfl
@[simp] theorem State.setSd_mem (x : Nat) (c : SdCh) : (s.setSd x c).mem = s.mem := rfl
@[simp] theorem State.setSd_contract (x : Nat) (c : SdCh) : (s.setSd x c).contract = s.contract := rfl
@[simp] theorem State.setSd_unused (x : Nat) (c : SdCh) : (s.setSd x c).unused = s.unused := rfl
@[simp] theorem State.setSd_xwin (x : Nat) (c : SdCh) : (s.setSd x c).xwin = s.xwin := rfl
@[simp] theorem State.setSd_pos (x : Nat) (c : SdCh) : (s.setSd x c).pos = s.pos := rfl
@[simp] theorem State.setSd_loops (x : Nat) (c : SdCh) : (s.setSd x c).loops = s.loops := rfl
@[simp] theorem State.setSd_rcu (x : Nat) (c : SdCh) : (s.setSd x c).rcu = s.rcu := rfl
@[simp] theorem State.setSd_pwm (x : Nat) (c : SdCh) : (s.setSd x c).pwm = s.pwm := rfl
@[simp] theorem State.setSd_isl (x : Nat) (c : SdCh) : (s.setSd x c).isl = s.isl := rfl
@[simp] theorem State.setSd_sag (x : Nat) (c : SdCh) : (s.setSd x c).sag = s.sag := rfl
@[simp] theorem State.setSd_cone (x : Nat) (c : SdCh) : (s.setSd x c).cone = s.cone := rfl
@[simp] theorem State.setSd_safe (x : Nat) (c : SdCh) : (s.setSd x c).safe = s.safe := rfl
@[simp] theorem State.setSd_nor (x : Nat) (c : SdCh) : (s.setSd x c).nor = s.nor := rfl
@[simp] theorem State.setSd_otp (x : Nat) (c : SdCh) : (s.setSd x c).otp = s.otp := rfl
@[simp] theorem State.setSd_sec (x : Nat) (c : SdCh) : (s.setSd x c).sec = s.sec := rfl
@[simp] theorem State.setSd_queues (x : Nat) (c : SdCh) : (s.setSd x c).queues = s.queues := rfl
@[simp] theorem State.setSd_can (x : Nat) (c : SdCh) : (s.setSd x c).can = s.can := rfl
@[simp] theorem State.setSd_eth (x : Nat) (c : SdCh) : (s.setSd x c).eth = s.eth := rfl
@[simp] theorem State.setSd_hspi (x : Nat) (c : SdCh) : (s.setSd x c).hspi = s.hspi := rfl
@[simp] theorem State.setSd_shard (x : Nat) (c : SdCh) : (s.setSd x c).shard = s.shard := rfl
@[simp] theorem State.setSd_pwr (x : Nat) (c : SdCh) : (s.setSd x c).pwr = s.pwr := rfl
@[simp] theorem State.setSd_bist (x : Nat) (c : SdCh) : (s.setSd x c).bist = s.bist := rfl
@[simp] theorem State.setSd_pins (x : Nat) (c : SdCh) : (s.setSd x c).pins = s.pins := rfl
@[simp] theorem State.setSd_rdata (x : Nat) (c : SdCh) : (s.setSd x c).rdata = s.rdata := rfl

@[simp] theorem State.setCond_pending (v b : Nat) (x : Bool) : (s.setCond v b x).pending = s.pending := rfl
@[simp] theorem State.setCond_variant (v b : Nat) (x : Bool) : (s.setCond v b x).variant = s.variant := rfl
@[simp] theorem State.setCond_dev (v b : Nat) (x : Bool) : (s.setCond v b x).dev = s.dev := rfl
@[simp] theorem State.setCond_cycle (v b : Nat) (x : Bool) : (s.setCond v b x).cycle = s.cycle := rfl
@[simp] theorem State.setCond_tsc (v b : Nat) (x : Bool) : (s.setCond v b x).tsc = s.tsc := rfl
@[simp] theorem State.setCond_pll (v b : Nat) (x : Bool) : (s.setCond v b x).pll = s.pll := rfl
@[simp] theorem State.setCond_cause (v b : Nat) (x : Bool) : (s.setCond v b x).cause = s.cause := rfl
@[simp] theorem State.setCond_free (v b : Nat) (x : Bool) : (s.setCond v b x).free = s.free := rfl
@[simp] theorem State.setCond_regs (v b : Nat) (x : Bool) : (s.setCond v b x).regs = s.regs := rfl
@[simp] theorem State.setCond_wheel (v b : Nat) (x : Bool) : (s.setCond v b x).wheel = s.wheel := rfl
@[simp] theorem State.setCond_mem (v b : Nat) (x : Bool) : (s.setCond v b x).mem = s.mem := rfl
@[simp] theorem State.setCond_contract (v b : Nat) (x : Bool) : (s.setCond v b x).contract = s.contract := rfl
@[simp] theorem State.setCond_unused (v b : Nat) (x : Bool) : (s.setCond v b x).unused = s.unused := rfl
@[simp] theorem State.setCond_xwin (v b : Nat) (x : Bool) : (s.setCond v b x).xwin = s.xwin := rfl
@[simp] theorem State.setCond_adc (v b : Nat) (x : Bool) : (s.setCond v b x).adc = s.adc := rfl
@[simp] theorem State.setCond_pos (v b : Nat) (x : Bool) : (s.setCond v b x).pos = s.pos := rfl
@[simp] theorem State.setCond_loops (v b : Nat) (x : Bool) : (s.setCond v b x).loops = s.loops := rfl
@[simp] theorem State.setCond_rcu (v b : Nat) (x : Bool) : (s.setCond v b x).rcu = s.rcu := rfl
@[simp] theorem State.setCond_pwm (v b : Nat) (x : Bool) : (s.setCond v b x).pwm = s.pwm := rfl
@[simp] theorem State.setCond_isl (v b : Nat) (x : Bool) : (s.setCond v b x).isl = s.isl := rfl
@[simp] theorem State.setCond_cone (v b : Nat) (x : Bool) : (s.setCond v b x).cone = s.cone := rfl
@[simp] theorem State.setCond_safe (v b : Nat) (x : Bool) : (s.setCond v b x).safe = s.safe := rfl
@[simp] theorem State.setCond_nor (v b : Nat) (x : Bool) : (s.setCond v b x).nor = s.nor := rfl
@[simp] theorem State.setCond_otp (v b : Nat) (x : Bool) : (s.setCond v b x).otp = s.otp := rfl
@[simp] theorem State.setCond_sec (v b : Nat) (x : Bool) : (s.setCond v b x).sec = s.sec := rfl
@[simp] theorem State.setCond_queues (v b : Nat) (x : Bool) : (s.setCond v b x).queues = s.queues := rfl
@[simp] theorem State.setCond_can (v b : Nat) (x : Bool) : (s.setCond v b x).can = s.can := rfl
@[simp] theorem State.setCond_eth (v b : Nat) (x : Bool) : (s.setCond v b x).eth = s.eth := rfl
@[simp] theorem State.setCond_hspi (v b : Nat) (x : Bool) : (s.setCond v b x).hspi = s.hspi := rfl
@[simp] theorem State.setCond_shard (v b : Nat) (x : Bool) : (s.setCond v b x).shard = s.shard := rfl
@[simp] theorem State.setCond_pwr (v b : Nat) (x : Bool) : (s.setCond v b x).pwr = s.pwr := rfl
@[simp] theorem State.setCond_bist (v b : Nat) (x : Bool) : (s.setCond v b x).bist = s.bist := rfl
@[simp] theorem State.setCond_pins (v b : Nat) (x : Bool) : (s.setCond v b x).pins = s.pins := rfl
@[simp] theorem State.setCond_rdata (v b : Nat) (x : Bool) : (s.setCond v b x).rdata = s.rdata := rfl


@[simp] theorem State.bumpSat_pending (f : Fld) : (s.bumpSat f).pending = s.pending := by unfold State.bumpSat; split <;> rfl
@[simp] theorem State.bumpSat_variant (f : Fld) : (s.bumpSat f).variant = s.variant := by unfold State.bumpSat; split <;> rfl
@[simp] theorem State.bumpSat_dev (f : Fld) : (s.bumpSat f).dev = s.dev := by unfold State.bumpSat; split <;> rfl
@[simp] theorem State.bumpSat_cycle (f : Fld) : (s.bumpSat f).cycle = s.cycle := by unfold State.bumpSat; split <;> rfl
@[simp] theorem State.bumpSat_tsc (f : Fld) : (s.bumpSat f).tsc = s.tsc := by unfold State.bumpSat; split <;> rfl
@[simp] theorem State.bumpSat_pll (f : Fld) : (s.bumpSat f).pll = s.pll := by unfold State.bumpSat; split <;> rfl
@[simp] theorem State.bumpSat_cause (f : Fld) : (s.bumpSat f).cause = s.cause := by unfold State.bumpSat; split <;> rfl
@[simp] theorem State.bumpSat_free (f : Fld) : (s.bumpSat f).free = s.free := by unfold State.bumpSat; split <;> rfl
@[simp] theorem State.bumpSat_wheel (f : Fld) : (s.bumpSat f).wheel = s.wheel := by unfold State.bumpSat; split <;> rfl
@[simp] theorem State.bumpSat_mem (f : Fld) : (s.bumpSat f).mem = s.mem := by unfold State.bumpSat; split <;> rfl
@[simp] theorem State.bumpSat_contract (f : Fld) : (s.bumpSat f).contract = s.contract := by unfold State.bumpSat; split <;> rfl
@[simp] theorem State.bumpSat_unused (f : Fld) : (s.bumpSat f).unused = s.unused := by unfold State.bumpSat; split <;> rfl
@[simp] theorem State.bumpSat_xwin (f : Fld) : (s.bumpSat f).xwin = s.xwin := by unfold State.bumpSat; split <;> rfl
@[simp] theorem State.bumpSat_adc (f : Fld) : (s.bumpSat f).adc = s.adc := by unfold State.bumpSat; split <;> rfl
@[simp] theorem State.bumpSat_pos (f : Fld) : (s.bumpSat f).pos = s.pos := by unfold State.bumpSat; split <;> rfl
@[simp] theorem State.bumpSat_loops (f : Fld) : (s.bumpSat f).loops = s.loops := by unfold State.bumpSat; split <;> rfl
@[simp] theorem State.bumpSat_rcu (f : Fld) : (s.bumpSat f).rcu = s.rcu := by unfold State.bumpSat; split <;> rfl
@[simp] theorem State.bumpSat_pwm (f : Fld) : (s.bumpSat f).pwm = s.pwm := by unfold State.bumpSat; split <;> rfl
@[simp] theorem State.bumpSat_isl (f : Fld) : (s.bumpSat f).isl = s.isl := by unfold State.bumpSat; split <;> rfl
@[simp] theorem State.bumpSat_sag (f : Fld) : (s.bumpSat f).sag = s.sag := by unfold State.bumpSat; split <;> rfl
@[simp] theorem State.bumpSat_cone (f : Fld) : (s.bumpSat f).cone = s.cone := by unfold State.bumpSat; split <;> rfl
@[simp] theorem State.bumpSat_safe (f : Fld) : (s.bumpSat f).safe = s.safe := by unfold State.bumpSat; split <;> rfl
@[simp] theorem State.bumpSat_nor (f : Fld) : (s.bumpSat f).nor = s.nor := by unfold State.bumpSat; split <;> rfl
@[simp] theorem State.bumpSat_otp (f : Fld) : (s.bumpSat f).otp = s.otp := by unfold State.bumpSat; split <;> rfl
@[simp] theorem State.bumpSat_sec (f : Fld) : (s.bumpSat f).sec = s.sec := by unfold State.bumpSat; split <;> rfl
@[simp] theorem State.bumpSat_queues (f : Fld) : (s.bumpSat f).queues = s.queues := by unfold State.bumpSat; split <;> rfl
@[simp] theorem State.bumpSat_can (f : Fld) : (s.bumpSat f).can = s.can := by unfold State.bumpSat; split <;> rfl
@[simp] theorem State.bumpSat_eth (f : Fld) : (s.bumpSat f).eth = s.eth := by unfold State.bumpSat; split <;> rfl
@[simp] theorem State.bumpSat_hspi (f : Fld) : (s.bumpSat f).hspi = s.hspi := by unfold State.bumpSat; split <;> rfl
@[simp] theorem State.bumpSat_shard (f : Fld) : (s.bumpSat f).shard = s.shard := by unfold State.bumpSat; split <;> rfl
@[simp] theorem State.bumpSat_pwr (f : Fld) : (s.bumpSat f).pwr = s.pwr := by unfold State.bumpSat; split <;> rfl
@[simp] theorem State.bumpSat_bist (f : Fld) : (s.bumpSat f).bist = s.bist := by unfold State.bumpSat; split <;> rfl
@[simp] theorem State.bumpSat_pins (f : Fld) : (s.bumpSat f).pins = s.pins := by unfold State.bumpSat; split <;> rfl
@[simp] theorem State.bumpSat_rdata (f : Fld) : (s.bumpSat f).rdata = s.rdata := by unfold State.bumpSat; split <;> rfl

@[simp] theorem State.setP_pending (i : Nat) (b : Bool) : (s.setP i b).pending = s.pending := by unfold State.setP; split <;> rfl
@[simp] theorem State.setP_variant (i : Nat) (b : Bool) : (s.setP i b).variant = s.variant := by unfold State.setP; split <;> rfl
@[simp] theorem State.setP_dev (i : Nat) (b : Bool) : (s.setP i b).dev = s.dev := by unfold State.setP; split <;> rfl
@[simp] theorem State.setP_cycle (i : Nat) (b : Bool) : (s.setP i b).cycle = s.cycle := by unfold State.setP; split <;> rfl
@[simp] theorem State.setP_tsc (i : Nat) (b : Bool) : (s.setP i b).tsc = s.tsc := by unfold State.setP; split <;> rfl
@[simp] theorem State.setP_pll (i : Nat) (b : Bool) : (s.setP i b).pll = s.pll := by unfold State.setP; split <;> rfl
@[simp] theorem State.setP_cause (i : Nat) (b : Bool) : (s.setP i b).cause = s.cause := by unfold State.setP; split <;> rfl
@[simp] theorem State.setP_free (i : Nat) (b : Bool) : (s.setP i b).free = s.free := by unfold State.setP; split <;> rfl
@[simp] theorem State.setP_regs (i : Nat) (b : Bool) : (s.setP i b).regs = s.regs := by unfold State.setP; split <;> rfl
@[simp] theorem State.setP_mem (i : Nat) (b : Bool) : (s.setP i b).mem = s.mem := by unfold State.setP; split <;> rfl
@[simp] theorem State.setP_contract (i : Nat) (b : Bool) : (s.setP i b).contract = s.contract := by unfold State.setP; split <;> rfl
@[simp] theorem State.setP_unused (i : Nat) (b : Bool) : (s.setP i b).unused = s.unused := by unfold State.setP; split <;> rfl
@[simp] theorem State.setP_xwin (i : Nat) (b : Bool) : (s.setP i b).xwin = s.xwin := by unfold State.setP; split <;> rfl
@[simp] theorem State.setP_adc (i : Nat) (b : Bool) : (s.setP i b).adc = s.adc := by unfold State.setP; split <;> rfl
@[simp] theorem State.setP_pos (i : Nat) (b : Bool) : (s.setP i b).pos = s.pos := by unfold State.setP; split <;> rfl
@[simp] theorem State.setP_loops (i : Nat) (b : Bool) : (s.setP i b).loops = s.loops := by unfold State.setP; split <;> rfl
@[simp] theorem State.setP_rcu (i : Nat) (b : Bool) : (s.setP i b).rcu = s.rcu := by unfold State.setP; split <;> rfl
@[simp] theorem State.setP_pwm (i : Nat) (b : Bool) : (s.setP i b).pwm = s.pwm := by unfold State.setP; split <;> rfl
@[simp] theorem State.setP_isl (i : Nat) (b : Bool) : (s.setP i b).isl = s.isl := by unfold State.setP; split <;> rfl
@[simp] theorem State.setP_sag (i : Nat) (b : Bool) : (s.setP i b).sag = s.sag := by unfold State.setP; split <;> rfl
@[simp] theorem State.setP_cone (i : Nat) (b : Bool) : (s.setP i b).cone = s.cone := by unfold State.setP; split <;> rfl
@[simp] theorem State.setP_safe (i : Nat) (b : Bool) : (s.setP i b).safe = s.safe := by unfold State.setP; split <;> rfl
@[simp] theorem State.setP_nor (i : Nat) (b : Bool) : (s.setP i b).nor = s.nor := by unfold State.setP; split <;> rfl
@[simp] theorem State.setP_otp (i : Nat) (b : Bool) : (s.setP i b).otp = s.otp := by unfold State.setP; split <;> rfl
@[simp] theorem State.setP_sec (i : Nat) (b : Bool) : (s.setP i b).sec = s.sec := by unfold State.setP; split <;> rfl
@[simp] theorem State.setP_queues (i : Nat) (b : Bool) : (s.setP i b).queues = s.queues := by unfold State.setP; split <;> rfl
@[simp] theorem State.setP_can (i : Nat) (b : Bool) : (s.setP i b).can = s.can := by unfold State.setP; split <;> rfl
@[simp] theorem State.setP_eth (i : Nat) (b : Bool) : (s.setP i b).eth = s.eth := by unfold State.setP; split <;> rfl
@[simp] theorem State.setP_hspi (i : Nat) (b : Bool) : (s.setP i b).hspi = s.hspi := by unfold State.setP; split <;> rfl
@[simp] theorem State.setP_shard (i : Nat) (b : Bool) : (s.setP i b).shard = s.shard := by unfold State.setP; split <;> rfl
@[simp] theorem State.setP_pwr (i : Nat) (b : Bool) : (s.setP i b).pwr = s.pwr := by unfold State.setP; split <;> rfl
@[simp] theorem State.setP_bist (i : Nat) (b : Bool) : (s.setP i b).bist = s.bist := by unfold State.setP; split <;> rfl
@[simp] theorem State.setP_pins (i : Nat) (b : Bool) : (s.setP i b).pins = s.pins := by unfold State.setP; split <;> rfl
@[simp] theorem State.setP_rdata (i : Nat) (b : Bool) : (s.setP i b).rdata = s.rdata := by unfold State.setP; split <;> rfl

@[simp] theorem State.setG_get (r : Nat) (v : Word) (h : Fld) : (s.setG r v).get h = s.get h := rfl
@[simp] theorem State.setG_on (r : Nat) (v : Word) (h : Fld) : (s.setG r v).on h = s.on h := rfl
@[simp] theorem State.later_get (d : Nat) (e : Effect) (h : Fld) : (s.later d e).get h = s.get h := rfl
@[simp] theorem State.later_on (d : Nat) (e : Effect) (h : Fld) : (s.later d e).on h = s.on h := rfl
@[simp] theorem State.inFlight_get (l : List (Nat × Effect)) (h : Fld) : (s.inFlight l).get h = s.get h := rfl
@[simp] theorem State.inFlight_on (l : List (Nat × Effect)) (h : Fld) : (s.inFlight l).on h = s.on h := rfl
@[simp] theorem State.setLoop_get (l : Nat) (x : LoopSt) (h : Fld) : (s.setLoop l x).get h = s.get h := rfl
@[simp] theorem State.setLoop_on (l : Nat) (x : LoopSt) (h : Fld) : (s.setLoop l x).on h = s.on h := rfl
@[simp] theorem State.setIsland_get (i : Nat) (x : Isl) (h : Fld) : (s.setIsland i x).get h = s.get h := rfl
@[simp] theorem State.setIsland_on (i : Nat) (x : Isl) (h : Fld) : (s.setIsland i x).on h = s.on h := rfl
@[simp] theorem State.setGen_get (n : Nat) (x : Gen) (h : Fld) : (s.setGen n x).get h = s.get h := rfl
@[simp] theorem State.setGen_on (n : Nat) (x : Gen) (h : Fld) : (s.setGen n x).on h = s.on h := rfl
@[simp] theorem State.setQueue_get (q : Nat) (x : Queue) (h : Fld) : (s.setQueue q x).get h = s.get h := rfl
@[simp] theorem State.setQueue_on (q : Nat) (x : Queue) (h : Fld) : (s.setQueue q x).on h = s.on h := rfl
@[simp] theorem State.setCan_get (x : Nat) (c : Can) (h : Fld) : (s.setCan x c).get h = s.get h := rfl
@[simp] theorem State.setCan_on (x : Nat) (c : Can) (h : Fld) : (s.setCan x c).on h = s.on h := rfl
@[simp] theorem State.setExc_get (x : Nat) (e : Exciter) (h : Fld) : (s.setExc x e).get h = s.get h := rfl
@[simp] theorem State.setExc_on (x : Nat) (e : Exciter) (h : Fld) : (s.setExc x e).on h = s.on h := rfl
@[simp] theorem State.setEnc_get (x : Nat) (e : Encoder) (h : Fld) : (s.setEnc x e).get h = s.get h := rfl
@[simp] theorem State.setEnc_on (x : Nat) (e : Encoder) (h : Fld) : (s.setEnc x e).on h = s.on h := rfl
@[simp] theorem State.setHall_get (x : Nat) (e : Hall) (h : Fld) : (s.setHall x e).get h = s.get h := rfl
@[simp] theorem State.setHall_on (x : Nat) (e : Hall) (h : Fld) : (s.setHall x e).on h = s.on h := rfl
@[simp] theorem State.setSent_get (x : Nat) (e : Sent) (h : Fld) : (s.setSent x e).get h = s.get h := rfl
@[simp] theorem State.setSent_on (x : Nat) (e : Sent) (h : Fld) : (s.setSent x e).on h = s.on h := rfl
@[simp] theorem State.setSd_get (x : Nat) (c : SdCh) (h : Fld) : (s.setSd x c).get h = s.get h := rfl
@[simp] theorem State.setSd_on (x : Nat) (c : SdCh) (h : Fld) : (s.setSd x c).on h = s.on h := rfl
@[simp] theorem State.setCond_get (v b : Nat) (x : Bool) (h : Fld) : (s.setCond v b x).get h = s.get h := rfl
@[simp] theorem State.setCond_on (v b : Nat) (x : Bool) (h : Fld) : (s.setCond v b x).on h = s.on h := rfl
@[simp] theorem State.put_g (f : Fld) (v : Nat) (h : Nat) : (s.put f v).g h = s.g h := rfl
@[simp] theorem State.put_p (f : Fld) (v : Nat) (h : Nat) : (s.put f v).p h = s.p h := rfl
@[simp] theorem State.put_ar (f : Fld) (v : Nat) (h : Nat) : (s.put f v).ar h = s.ar h := rfl
@[simp] theorem State.put_cp (f : Fld) (v : Nat) (h : Nat) : (s.put f v).cp h = s.cp h := rfl
@[simp] theorem State.raise_g (f : Fld) (h : Nat) : (s.raise f).g h = s.g h := rfl
@[simp] theorem State.raise_p (f : Fld) (h : Nat) : (s.raise f).p h = s.p h := rfl
@[simp] theorem State.raise_ar (f : Fld) (h : Nat) : (s.raise f).ar h = s.ar h := rfl
@[simp] theorem State.raise_cp (f : Fld) (h : Nat) : (s.raise f).cp h = s.cp h := rfl
@[simp] theorem State.clear_g (f : Fld) (h : Nat) : (s.clear f).g h = s.g h := rfl
@[simp] theorem State.clear_p (f : Fld) (h : Nat) : (s.clear f).p h = s.p h := rfl
@[simp] theorem State.clear_ar (f : Fld) (h : Nat) : (s.clear f).ar h = s.ar h := rfl
@[simp] theorem State.clear_cp (f : Fld) (h : Nat) : (s.clear f).cp h = s.cp h := rfl
@[simp] theorem State.putB_g (f : Fld) (b : Bool) (h : Nat) : (s.putB f b).g h = s.g h := rfl
@[simp] theorem State.putB_p (f : Fld) (b : Bool) (h : Nat) : (s.putB f b).p h = s.p h := rfl
@[simp] theorem State.putB_ar (f : Fld) (b : Bool) (h : Nat) : (s.putB f b).ar h = s.ar h := rfl
@[simp] theorem State.putB_cp (f : Fld) (b : Bool) (h : Nat) : (s.putB f b).cp h = s.cp h := rfl
@[simp] theorem State.putBit_g (f : Fld) (i : Nat) (b : Bool) (h : Nat) : (s.putBit f i b).g h = s.g h := rfl
@[simp] theorem State.putBit_p (f : Fld) (i : Nat) (b : Bool) (h : Nat) : (s.putBit f i b).p h = s.p h := rfl
@[simp] theorem State.putBit_ar (f : Fld) (i : Nat) (b : Bool) (h : Nat) : (s.putBit f i b).ar h = s.ar h := rfl
@[simp] theorem State.putBit_cp (f : Fld) (i : Nat) (b : Bool) (h : Nat) : (s.putBit f i b).cp h = s.cp h := rfl
@[simp] theorem State.addSat_g (f : Fld) (n : Nat) (h : Nat) : (s.addSat f n).g h = s.g h := rfl
@[simp] theorem State.addSat_p (f : Fld) (n : Nat) (h : Nat) : (s.addSat f n).p h = s.p h := rfl
@[simp] theorem State.addSat_ar (f : Fld) (n : Nat) (h : Nat) : (s.addSat f n).ar h = s.ar h := rfl
@[simp] theorem State.addSat_cp (f : Fld) (n : Nat) (h : Nat) : (s.addSat f n).cp h = s.cp h := rfl
@[simp] theorem State.bumpWrap_g (f : Fld) (h : Nat) : (s.bumpWrap f).g h = s.g h := rfl
@[simp] theorem State.bumpWrap_p (f : Fld) (h : Nat) : (s.bumpWrap f).p h = s.p h := rfl
@[simp] theorem State.bumpWrap_ar (f : Fld) (h : Nat) : (s.bumpWrap f).ar h = s.ar h := rfl
@[simp] theorem State.bumpWrap_cp (f : Fld) (h : Nat) : (s.bumpWrap f).cp h = s.cp h := rfl
@[simp] theorem State.resetRange_g (lo hi : Nat) (h : Nat) : (s.resetRange lo hi).g h = s.g h := rfl
@[simp] theorem State.resetRange_p (lo hi : Nat) (h : Nat) : (s.resetRange lo hi).p h = s.p h := rfl
@[simp] theorem State.resetRange_ar (lo hi : Nat) (h : Nat) : (s.resetRange lo hi).ar h = s.ar h := rfl
@[simp] theorem State.resetRange_cp (lo hi : Nat) (h : Nat) : (s.resetRange lo hi).cp h = s.cp h := rfl
@[simp] theorem State.later_g (d : Nat) (e : Effect) (h : Nat) : (s.later d e).g h = s.g h := rfl
@[simp] theorem State.later_p (d : Nat) (e : Effect) (h : Nat) : (s.later d e).p h = s.p h := rfl
@[simp] theorem State.later_ar (d : Nat) (e : Effect) (h : Nat) : (s.later d e).ar h = s.ar h := rfl
@[simp] theorem State.later_cp (d : Nat) (e : Effect) (h : Nat) : (s.later d e).cp h = s.cp h := rfl
@[simp] theorem State.inFlight_g (l : List (Nat × Effect)) (h : Nat) : (s.inFlight l).g h = s.g h := rfl
@[simp] theorem State.inFlight_p (l : List (Nat × Effect)) (h : Nat) : (s.inFlight l).p h = s.p h := rfl
@[simp] theorem State.inFlight_ar (l : List (Nat × Effect)) (h : Nat) : (s.inFlight l).ar h = s.ar h := rfl
@[simp] theorem State.inFlight_cp (l : List (Nat × Effect)) (h : Nat) : (s.inFlight l).cp h = s.cp h := rfl
@[simp] theorem State.setLoop_g (l : Nat) (x : LoopSt) (h : Nat) : (s.setLoop l x).g h = s.g h := rfl
@[simp] theorem State.setLoop_p (l : Nat) (x : LoopSt) (h : Nat) : (s.setLoop l x).p h = s.p h := rfl
@[simp] theorem State.setLoop_ar (l : Nat) (x : LoopSt) (h : Nat) : (s.setLoop l x).ar h = s.ar h := rfl
@[simp] theorem State.setLoop_cp (l : Nat) (x : LoopSt) (h : Nat) : (s.setLoop l x).cp h = s.cp h := rfl
@[simp] theorem State.setIsland_g (i : Nat) (x : Isl) (h : Nat) : (s.setIsland i x).g h = s.g h := rfl
@[simp] theorem State.setIsland_p (i : Nat) (x : Isl) (h : Nat) : (s.setIsland i x).p h = s.p h := rfl
@[simp] theorem State.setIsland_ar (i : Nat) (x : Isl) (h : Nat) : (s.setIsland i x).ar h = s.ar h := rfl
@[simp] theorem State.setIsland_cp (i : Nat) (x : Isl) (h : Nat) : (s.setIsland i x).cp h = s.cp h := rfl
@[simp] theorem State.setGen_g (n : Nat) (x : Gen) (h : Nat) : (s.setGen n x).g h = s.g h := rfl
@[simp] theorem State.setGen_p (n : Nat) (x : Gen) (h : Nat) : (s.setGen n x).p h = s.p h := rfl
@[simp] theorem State.setGen_ar (n : Nat) (x : Gen) (h : Nat) : (s.setGen n x).ar h = s.ar h := rfl
@[simp] theorem State.setGen_cp (n : Nat) (x : Gen) (h : Nat) : (s.setGen n x).cp h = s.cp h := rfl
@[simp] theorem State.setQueue_g (q : Nat) (x : Queue) (h : Nat) : (s.setQueue q x).g h = s.g h := rfl
@[simp] theorem State.setQueue_p (q : Nat) (x : Queue) (h : Nat) : (s.setQueue q x).p h = s.p h := rfl
@[simp] theorem State.setQueue_ar (q : Nat) (x : Queue) (h : Nat) : (s.setQueue q x).ar h = s.ar h := rfl
@[simp] theorem State.setQueue_cp (q : Nat) (x : Queue) (h : Nat) : (s.setQueue q x).cp h = s.cp h := rfl
@[simp] theorem State.setCan_g (x : Nat) (c : Can) (h : Nat) : (s.setCan x c).g h = s.g h := rfl
@[simp] theorem State.setCan_p (x : Nat) (c : Can) (h : Nat) : (s.setCan x c).p h = s.p h := rfl
@[simp] theorem State.setCan_ar (x : Nat) (c : Can) (h : Nat) : (s.setCan x c).ar h = s.ar h := rfl
@[simp] theorem State.setCan_cp (x : Nat) (c : Can) (h : Nat) : (s.setCan x c).cp h = s.cp h := rfl
@[simp] theorem State.setExc_g (x : Nat) (e : Exciter) (h : Nat) : (s.setExc x e).g h = s.g h := rfl
@[simp] theorem State.setExc_p (x : Nat) (e : Exciter) (h : Nat) : (s.setExc x e).p h = s.p h := rfl
@[simp] theorem State.setExc_ar (x : Nat) (e : Exciter) (h : Nat) : (s.setExc x e).ar h = s.ar h := rfl
@[simp] theorem State.setExc_cp (x : Nat) (e : Exciter) (h : Nat) : (s.setExc x e).cp h = s.cp h := rfl
@[simp] theorem State.setEnc_g (x : Nat) (e : Encoder) (h : Nat) : (s.setEnc x e).g h = s.g h := rfl
@[simp] theorem State.setEnc_p (x : Nat) (e : Encoder) (h : Nat) : (s.setEnc x e).p h = s.p h := rfl
@[simp] theorem State.setEnc_ar (x : Nat) (e : Encoder) (h : Nat) : (s.setEnc x e).ar h = s.ar h := rfl
@[simp] theorem State.setEnc_cp (x : Nat) (e : Encoder) (h : Nat) : (s.setEnc x e).cp h = s.cp h := rfl
@[simp] theorem State.setHall_g (x : Nat) (e : Hall) (h : Nat) : (s.setHall x e).g h = s.g h := rfl
@[simp] theorem State.setHall_p (x : Nat) (e : Hall) (h : Nat) : (s.setHall x e).p h = s.p h := rfl
@[simp] theorem State.setHall_ar (x : Nat) (e : Hall) (h : Nat) : (s.setHall x e).ar h = s.ar h := rfl
@[simp] theorem State.setHall_cp (x : Nat) (e : Hall) (h : Nat) : (s.setHall x e).cp h = s.cp h := rfl
@[simp] theorem State.setSent_g (x : Nat) (e : Sent) (h : Nat) : (s.setSent x e).g h = s.g h := rfl
@[simp] theorem State.setSent_p (x : Nat) (e : Sent) (h : Nat) : (s.setSent x e).p h = s.p h := rfl
@[simp] theorem State.setSent_ar (x : Nat) (e : Sent) (h : Nat) : (s.setSent x e).ar h = s.ar h := rfl
@[simp] theorem State.setSent_cp (x : Nat) (e : Sent) (h : Nat) : (s.setSent x e).cp h = s.cp h := rfl
@[simp] theorem State.setSd_g (x : Nat) (c : SdCh) (h : Nat) : (s.setSd x c).g h = s.g h := rfl
@[simp] theorem State.setSd_p (x : Nat) (c : SdCh) (h : Nat) : (s.setSd x c).p h = s.p h := rfl
@[simp] theorem State.setSd_ar (x : Nat) (c : SdCh) (h : Nat) : (s.setSd x c).ar h = s.ar h := rfl
@[simp] theorem State.setSd_cp (x : Nat) (c : SdCh) (h : Nat) : (s.setSd x c).cp h = s.cp h := rfl
@[simp] theorem State.setCond_g (v b : Nat) (x : Bool) (h : Nat) : (s.setCond v b x).g h = s.g h := rfl
@[simp] theorem State.setCond_p (v b : Nat) (x : Bool) (h : Nat) : (s.setCond v b x).p h = s.p h := rfl
@[simp] theorem State.setCond_ar (v b : Nat) (x : Bool) (h : Nat) : (s.setCond v b x).ar h = s.ar h := rfl
@[simp] theorem State.setCond_cp (v b : Nat) (x : Bool) (h : Nat) : (s.setCond v b x).cp h = s.cp h := rfl
@[simp] theorem State.later_arOff (d : Nat) (e : Effect) (k : Nat) : (s.later d e).arOff k = s.arOff k := rfl
@[simp] theorem State.later_arNext (d : Nat) (e : Effect) (k : Nat) (i : Fin 4) : (s.later d e).arNext k i = s.arNext k i := rfl
@[simp] theorem State.inFlight_arOff (l : List (Nat × Effect)) (k : Nat) : (s.inFlight l).arOff k = s.arOff k := rfl
@[simp] theorem State.inFlight_arNext (l : List (Nat × Effect)) (k : Nat) (i : Fin 4) : (s.inFlight l).arNext k i = s.arNext k i := rfl

end Sys2Proof.Machine
end

