-- ==== Sys2Proof/Laws/Ops.lean ====
section
/-! SUPPORT. What the shared operations do, said once: register fields read after a write, results and accesses of Wheel operations as effects in flight, pointers that stay in their window. -/

namespace Sys2Proof.Machine

open Sys2Proof

/-! ## Register fields -/

/-- A field reads what was put into it, cut to its width. -/
@[simp] theorem State.get_put_self (s : State) (f : Fld) (v : Nat) : (s.put f v).get f = v % 2 ^ f.width := by
  unfold State.put State.get
  exact Sparse.get_set_self _ _ _ _

/-- A put moves no field at another place. -/
theorem State.get_put_ne (s : State) (f g : Fld) (v : Nat) (h : f.key ≠ g.key) : (s.put f v).get g = s.get g := by
  unfold State.put State.get Sparse.set
  split
  · exact Sparse.get_del_ne _ _ (fun e => h e.symm)
  · exact Sparse.get_put_ne _ _ _ (fun e => h e.symm)

theorem State.raise_eq (s : State) (f : Fld) : s.raise f = s.put f 1 := rfl
theorem State.clear_eq (s : State) (f : Fld) : s.clear f = s.put f 0 := rfl
theorem State.putB_eq (s : State) (f : Fld) (b : Bool) : s.putB f b = s.put f (if b then 1 else 0) := rfl

/-- A saturating counter moves by one, or stays at its top. -/
theorem State.bumpSat_cases (s : State) (f : Fld) :
    (s.get f + 1 < 2 ^ f.width ∧ s.bumpSat f = s.put f (s.get f + 1)) ∨ (2 ^ f.width ≤ s.get f + 1 ∧ s.bumpSat f = s) := by
  unfold State.bumpSat
  split
  · exact Or.inl ⟨‹_›, rfl⟩
  · exact Or.inr ⟨by omega, rfl⟩

/-- An operation done for each index keeps what it keeps for one. -/
theorem State.each_keeps {β : Type} (π : State → β) (f : State → Nat → State) (h : ∀ s i, π (f s i) = π s)
    (l : List Nat) (s : State) : π (s.each l f) = π s := by
  induction l generalizing s with
  | nil => rfl
  | cons a t ih => exact (ih (f s a)).trans (h s a)

/-- As `each_keeps` for a fold over any list. -/
theorem foldl_keeps {β γ : Type} (π : State → β) (f : State → γ → State) (h : ∀ s i, π (f s i) = π s)
    (l : List γ) (s : State) : π (l.foldl f s) = π s := by
  induction l generalizing s with
  | nil => rfl
  | cons a t ih => exact (ih (f s a)).trans (h s a)

/-! ## Wheel operations as effects in flight -/

theorem State.guardOn_of_issues {s : State} {gd : Guard} (h : s.Issues gd) : s.guardOn gd = true := by
  unfold State.guardOn
  simp [h.1, h.2]

/-- An operation that issues has its effect. -/
theorem State.issue_of_issues {s : State} {gd : Guard} (f : State → State) (h : s.Issues gd) : s.issue gd f = f s := by
  unfold State.issue
  simp [State.guardOn_of_issues h]

/-- An operation whose guard is false has none (R50). -/
theorem State.issue_of_guard_false {s : State} {gd : Guard} (f : State → State) (h : s.p gd.psel.val = gd.pinv) :
    s.issue gd f = s := by
  unfold State.issue State.guardOn
  simp [h]

theorem State.later_eq (s : State) (d : Nat) (e : Effect) : s.later d e = s.inFlight [(d, e)] := rfl

@[simp] theorem State.inFlight_inFlight (s : State) (l m : List (Nat × Effect)) :
    (s.inFlight l).inFlight m = s.inFlight (l ++ m) := by
  unfold State.inFlight
  simp

@[simp] theorem State.inFlight_nil (s : State) : s.inFlight [] = s := by
  unfold State.inFlight
  simp

theorem State.incAr_eq (s : State) (k : Fin 16) (inc : Fin 4) : s.incAr k.val inc = s.inFlight (s.arStep k inc) := by
  unfold State.incAr State.arStep
  split <;> simp [State.later_eq]

theorem State.incCp_eq (s : State) (j inc : Fin 4) : s.incCp j.val inc = s.inFlight (s.cpStep j inc) := by
  unfold State.incCp State.cpStep
  split <;> simp [State.later_eq]

@[simp] theorem State.inFlight_arStep (s : State) (l : List (Nat × Effect)) (k : Fin 16) (inc : Fin 4) :
    (s.inFlight l).arStep k inc = s.arStep k inc := rfl
@[simp] theorem State.inFlight_cpStep (s : State) (l : List (Nat × Effect)) (j inc : Fin 4) :
    (s.inFlight l).cpStep j inc = s.cpStep j inc := rfl
@[simp] theorem State.inFlight_loadD (s : State) (l : List (Nat × Effect)) (g : Fin 128) (k : Fin 16) (inc : Fin 4) :
    (s.inFlight l).loadD g k inc = s.loadD g k inc := rfl
@[simp] theorem State.inFlight_storeD (s : State) (l : List (Nat × Effect)) (g : Fin 128) (k : Fin 16) (inc : Fin 4) :
    (s.inFlight l).storeD g k inc = s.storeD g k inc := rfl
theorem State.FewFlips.inFlight {s : State} (h : s.FewFlips) (l : List (Nat × Effect)) : (s.inFlight l).FewFlips := h

/-- A load of a word with at most two flipped bits: what it puts in flight, and nothing else (R55, R67). -/
theorem State.loadInto_few (s : State) (g : Fin 128) (v : Word) {errs : Nat} (h : errs < 3) (mem addr cause : Nat) :
    (s.eccRead v errs).2.loadInto g.val (s.eccRead v errs).1 mem addr cause = s.inFlight (s.loadWord g v errs mem addr cause) := by
  match errs, h with
  | 0, _ => rfl
  | 1, _ => exact State.inFlight_inFlight ..
  | 2, _ => rfl

/-- A data load of a word with at most two flipped bits. -/
theorem State.dataLoad_few {s : State} (h : s.FewFlips) (g : Fin 128) (k : Fin 16) (inc : Fin 4) :
    s.dataLoad g.val k.val inc = s.inFlight (s.loadD g k inc) := by
  unfold State.dataLoad
  dsimp only
  rw [State.loadInto_few s g _ (h _).1, State.incAr_eq, State.inFlight_inFlight, State.inFlight_arStep]
  rfl

/-- A data store. -/
theorem State.dataStore_eq (s : State) (g : Fin 128) (k : Fin 16) (inc : Fin 4) :
    s.dataStore g.val k.val inc = s.inFlight (s.storeD g k inc) := by
  unfold State.dataStore
  rw [State.incAr_eq, State.later_eq, State.inFlight_inFlight, State.inFlight_arStep]
  rfl

/-- A coefficient load of a word with at most two flipped bits. -/
theorem State.coefLoad_few {s : State} (h : s.FewFlips) (g : Fin 128) (j inc : Fin 4) :
    s.coefLoad g.val j.val inc = s.inFlight (s.loadC g j inc) := by
  unfold State.coefLoad
  dsimp only
  rw [State.loadInto_few s g _ (h _).2, State.incCp_eq, State.inFlight_inFlight, State.inFlight_cpStep]
  rfl

/-! ## Pointers -/

theorem State.arLen_pos (s : State) (k : Nat) : 0 < s.arLen k := by
  unfold State.arLen
  dsimp only
  split <;> omega

/-- The offset an access uses lies below the modulo length (R63). -/
theorem State.arOff_lt (s : State) (k : Nat) : s.arOff k < s.arLen k := Nat.mod_lt _ (s.arLen_pos k)

/-! ## Units with an index -/

@[simp] theorem State.queue_setQueue_self (s : State) (q : Nat) (x : Queue) : (s.setQueue q x).queue q = x := by
  unfold State.setQueue State.queue
  exact Sparse.get_set_self _ _ _ _

theorem State.queue_setQueue_ne (s : State) {q r : Nat} (x : Queue) (h : r ≠ q) : (s.setQueue q x).queue r = s.queue r := by
  unfold State.setQueue State.queue
  exact Sparse.get_set_ne _ _ _ h

@[simp] theorem State.island_setIsland_self (s : State) (i : Nat) (x : Isl) : (s.setIsland i x).island i = x := by
  unfold State.setIsland State.island
  exact Sparse.get_set_self _ _ _ _

theorem State.island_setIsland_ne (s : State) {i j : Nat} (x : Isl) (h : j ≠ i) : (s.setIsland i x).island j = s.island j := by
  unfold State.setIsland State.island
  exact Sparse.get_set_ne _ _ _ h

@[simp] theorem State.loop_setLoop_self (s : State) (l : Nat) (x : LoopSt) : (s.setLoop l x).loop l = x := by
  unfold State.setLoop State.loop
  exact Sparse.get_set_self _ _ _ _

@[simp] theorem State.gen_setGen_self (s : State) (n : Nat) (x : Gen) : (s.setGen n x).gen n = x := by
  unfold State.setGen State.gen
  exact Sparse.get_set_self _ _ _ _

@[simp] theorem State.canx_setCan_self (s : State) (x : Nat) (c : Can) : (s.setCan x c).canx x = c := by
  unfold State.setCan State.canx
  exact Sparse.get_set_self _ _ _ _

theorem State.canx_setCan_ne (s : State) {x y : Nat} (c : Can) (h : y ≠ x) : (s.setCan x c).canx y = s.canx y := by
  unfold State.setCan State.canx
  exact Sparse.get_set_ne _ _ _ h

@[simp] theorem State.exc_setExc_self (s : State) (x : Nat) (v : Exciter) : (s.setExc x v).exc x = v := by
  unfold State.setExc State.exc
  exact Sparse.get_set_self _ _ _ _

@[simp] theorem State.enc_setEnc_self (s : State) (x : Nat) (v : Encoder) : (s.setEnc x v).enc x = v := by
  unfold State.setEnc State.enc
  exact Sparse.get_set_self _ _ _ _

@[simp] theorem State.hallSet_setHall_self (s : State) (x : Nat) (v : Hall) : (s.setHall x v).hallSet x = v := by
  unfold State.setHall State.hallSet
  exact Sparse.get_set_self _ _ _ _

@[simp] theorem State.sentCh_setSent_self (s : State) (x : Nat) (v : Sent) : (s.setSent x v).sentCh x = v := by
  unfold State.setSent State.sentCh
  exact Sparse.get_set_self _ _ _ _

@[simp] theorem State.sdCh_setSd_self (s : State) (x : Nat) (v : SdCh) : (s.setSd x v).sdCh x = v := by
  unfold State.setSd State.sdCh
  exact Sparse.get_set_self _ _ _ _

/-! ## Free values -/

/-- A drawn value lies in the range asked for. -/
theorem State.draw_lt (s : State) {n : Nat} (h : 0 < n) : (s.draw n).1 < n := Nat.mod_lt _ h

/-- A draw changes the counter of free values alone. -/
theorem State.draw_state (s : State) (n : Nat) : (s.draw n).2 = { s with free := s.free + 1 } := rfl

/-! ## Converters -/

/-- The ADCCLK edge at or after a cycle: within three cycles, on a multiple of three (R461). -/
theorem adcEdgeAt_spec (n : Nat) : n ≤ adcEdgeAt n ∧ adcEdgeAt n < n + 3 ∧ adcEdgeAt n % 3 = 0 := by
  unfold adcEdgeAt
  omega

/-- A raw code starts and ends no run. -/
theorem giveCode_length (k c : Nat) (l : List AdcRun) : (giveCode k c l).length = l.length := by
  induction l with
  | nil => rfl
  | cons r t ih =>
    unfold giveCode
    split <;> simp [ih]

/-- The run whose result is delivered is one of the list with a result that is due. -/
theorem takeReady_some {t : Nat} {l l' : List AdcRun} {r : AdcRun} (h : takeReady t l = some (r, l')) :
    r ∈ l ∧ r.ready t = true := by
  induction l generalizing l' with
  | nil => cases h
  | cons x xs ih =>
    unfold takeReady at h
    split at h
    · next hx =>
      cases h
      exact ⟨List.mem_cons_self, hx⟩
    · split at h
      · next y k hk =>
        cases h
        exact ⟨List.mem_cons_of_mem _ (ih hk).1, (ih hk).2⟩
      · cases h

/-! ## Edges on their way to an island -/

/-- A turn-on always joins the edges on their way, after the last of them (R214). -/
theorem egressAdd_on (q : List (Nat × Bool)) (t : Nat) :
    ∃ u, egressAdd q t true = q ++ [(u, true)] ∧ t ≤ u ∧ ∀ e, q.getLast? = some e → e.1 < u := by
  unfold egressAdd
  cases hq : q.getLast? with
  | none => exact ⟨t, by simp [List.getLast?_eq_none_iff.mp hq], Nat.le_refl _, by simp⟩
  | some e =>
    refine ⟨max t (e.1 + 1), rfl, Nat.le_max_left _ _, ?_⟩
    intro e' he
    cases he
    exact Nat.lt_of_lt_of_le (Nat.lt_succ_self _) (Nat.le_max_right _ _)

/-- A turn-off that would leave before the edge ahead of it cancels that edge with itself (R214). -/
theorem egressAdd_cancel {q : List (Nat × Bool)} {t : Nat} {e : Nat × Bool} (hq : q.getLast? = some e) (h : t ≤ e.1) :
    egressAdd q t false = q.dropLast := by
  unfold egressAdd
  rw [hq]
  simp [h]

/-! ## Effects in flight -/

/-- Where nothing of a kind is due, nothing takes place (R52). -/
theorem State.take_none {s : State} {p : Effect → Bool}
    (h : ∀ e ∈ s.wheel.inflight, (decide (e.1 ≤ s.cycle) && p e.2) = false) : s.take p = s := by
  have hd : (s.wheel.inflight.filter fun e => decide (e.1 ≤ s.cycle) && p e.2) = [] :=
    List.filter_eq_nil_iff.mpr fun e he => by simp [h e he]
  have hk : (s.wheel.inflight.filter fun e => !(decide (e.1 ≤ s.cycle) && p e.2)) = s.wheel.inflight :=
    List.filter_eq_self.mpr fun e he => by simp [h e he]
  unfold State.take
  rw [hd, hk]
  rfl

end Sys2Proof.Machine
end

