-- ==== Sys2Proof/Machine/Lands.lean ====
section
/-! DEFINITION. The lands and what drives or loads them (R302, R393, R400, R419, R479–R482): a view of the state that no command reads. -/

namespace Sys2Proof.Machine

open Sys2Proof

/-- Lands and groups of lands of one state (R477, R481). -/
inductive Land where
  | ain (k : Fin 48) | cain (k : Fin 8) | vref
  | vrefDec | vcoreDec
  /-- RES_EXC_A, RES_EXC_B. -/
  | resExc (x : Fin 2)
  /-- SOx_H, SOx_L. -/
  | soHigh (x : Fin 4) | soLow (x : Fin 4)
  | en (v : Fin 2) | nTrip (v : Fin 2)
  | comm | adtrig | sd (j : Fin 6)
  | pwmAux (k : Fin 2) | sdClk
  | enc (e : Fin 2) | hall (h : Fin 2) | sent (j : Fin 4)
  | canTx (x : Fin 4) | canRx (x : Fin 4)
  | hspiNcs
  /-- HSPI_SCK, HSPI_MOSI. -/
  | hspiIn
  | hspiMiso | nIrq
  | dbgTck
  /-- DBG_TMS, DBG_TDI. -/
  | dbgIn
  | dbgTdo
  | nrst | test
  /-- XTAL_IN, XTAL_OUT. -/
  | xtal
  /-- ETH_TXC, ETH_TX_CTL, ETH_TXD0–3, ETH_MDC. -/
  | ethTx
  /-- ETH_RXC, ETH_RX_CTL, ETH_RXD0–3. -/
  | ethRx
  | ethMdio | ethNwake
  /-- ETH_SG_TXP/N, ETH_SG_RXP/N. -/
  | ethSgTx | ethSgRx
  | xspiClk | xspiNcs | xspiDq | xspiDqs | xspiNrst
  /-- NF_nCE0, NF_nCE1, NF_RE, NF_WE. -/
  | nfStrobe
  | nfNwp
  /-- NF_ALE, NF_CLE. -/
  | nfLatch
  /-- NF_DQ0–7, NF_DQS. -/
  | nfDq
  | nfRnB | vhold
  /-- The lands of island i. -/
  | island (i : Fin 12)
  deriving DecidableEq, Repr

/-- What drives or loads a land. -/
inductive LandDrive where
  | low | high
  /-- High-impedance, or an input without a pull. -/
  | highZ
  /-- Released, by an open-drain output or an open switch. -/
  | open_
  /-- A pull to the land's rail, or to ground, in ohms. -/
  | pullUp (ohm : Nat) | pullDown (ohm : Nat)
  /-- The common-mode level of a differential pair, without data. -/
  | commonMode
  /-- A receiver's termination that is off. -/
  | termOff
  /-- A regulator node that is discharged. -/
  | discharged
  /-- The oscillator, running or not. -/
  | oscillating | still
  /-- No connection inside the module. -/
  | unconnected
  /-- The unit behind the land drives or uses it. -/
  | unit
  deriving DecidableEq, Repr

/-- The usual pulls of R481. -/
def pullUp50 : LandDrive := .pullUp 50000
def pullDown50 : LandDrive := .pullDown 50000

/-- The load of an input land, the same in every state (R481); none of an output. -/
def inputLoad : Land → Option LandDrive
  | .ain _ => some .highZ
  | .cain _ => some .highZ
  | .vref => some .highZ
  | .en _ => some (.pullDown 100000)
  | .nTrip _ => some pullUp50
  | .comm => some pullDown50
  | .adtrig => some pullDown50
  | .sd _ => some pullDown50
  | .enc _ => some .highZ
  | .hall _ => some pullUp50
  | .sent _ => some pullUp50
  | .canRx _ => some .highZ
  | .hspiNcs => some pullUp50
  | .hspiIn => some pullDown50
  | .dbgTck => some pullDown50
  | .dbgIn => some pullUp50
  | .nrst => some pullDown50
  | .test => some pullDown50
  | .ethRx => some .highZ
  | .ethNwake => some pullUp50
  | .xspiDqs => some pullDown50
  | .nfRnB => some (.pullUp 10000)
  | .vhold => some .unit
  | _ => none

/-- The state of an output land in OFF (R481). -/
def offDrive : Land → LandDrive
  | .vrefDec => .discharged
  | .vcoreDec => .discharged
  | .soHigh _ => .open_
  | .soLow _ => .open_
  | .pwmAux _ => .low
  | .sdClk => .low
  | .canTx _ => .high
  | .nIrq => .open_
  | .ethTx => .low
  | .ethSgTx => .commonMode
  | .ethSgRx => .termOff
  | .xspiClk => .low
  | .xspiNcs => .high
  | .xspiDq => pullDown50
  | .xspiNrst => .low
  | .nfStrobe => .high
  | .nfNwp => .low
  | .nfLatch => .low
  | _ => .highZ

/-- The land is connected on this variant (R482). -/
def State.landHere (s : State) : Land → Bool
  | .ain k => decide (k.val < 24) || decide (s.nInv = 2)
  | .canTx x => decide (x.val < s.nCan)
  | .canRx x => decide (x.val < s.nCan)
  | .ethTx => s.hasEth
  | .ethRx => s.hasEth
  | .ethMdio => s.hasEth
  | .ethNwake => s.hasEth
  | .ethSgTx => s.hasEth
  | .ethSgRx => s.hasEth
  | .nfStrobe => s.hasShard
  | .nfNwp => s.hasShard
  | .nfLatch => s.hasShard
  | .nfDq => s.hasShard
  | .nfRnB => s.hasShard
  | .vhold => s.hasShard
  | .island i => decide (i.val < s.nIsl)
  | _ => true

/-- The debug port is open to its requester in some register (R330, R480). -/
def State.debugAny (s : State) : Bool := s.debugFull || s.debugSec || s.debugChal

/-- The NAND lands are parked, and the hold-up domain has no unit of a power loss to complete any more (R419). -/
def State.nfParked (s : State) : Bool := s.nfNwpLow && decide (s.shard.parkEnd ≤ s.cycle)

/-- An output land outside OFF. -/
def State.upDrive (s : State) : Land → LandDrive
  | .soHigh x => if s.on (R.SAFEOUT_OSTAT_HSON x.val) then .high else .open_
  | .soLow x => if s.on (R.SAFEOUT_OSTAT_LSON x.val) then .low else .open_
  | .sdClk => if s.sdAny then .unit else .low
  | .canTx x => if s.canAct x.val && decide (s.canMode x.val ≠ 3) then .unit else .high
  | .nIrq => if s.nIrqLow then .low else .open_
  | .hspiMiso => if s.hspiAnswers then .unit else .highZ
  | .dbgTdo => if s.debugAny then .unit else .highZ
  | .nfNwp => if s.nfParked then .low else .high
  | .nfStrobe => if s.nfParked then .high else .unit
  | .nfLatch => if s.nfParked then .low else .unit
  | .nfDq => if s.nfParked then .highZ else .unit
  | .xspiNrst => if s.xspiNrst then .high else .low
  | _ => .unit

/-- The NAND lands: parked as in OFF once the hold-up domain has parked, used by the recorder until then (R419, R481). -/
def isNf : Land → Bool
  | .nfStrobe => true
  | .nfNwp => true
  | .nfLatch => true
  | .nfDq => true
  | _ => false

/-- A land in OFF, and in WEDGING where WEDGING itself does not drive it. -/
def State.restDrive (s : State) (l : Land) : LandDrive :=
  if isNf l && !s.nfParked && decide (s.dev = .off) then s.upDrive l else offDrive l

/-- What drives or loads a land: in WEDGING as in OFF but for the xSPI lands once XSPI_nRST is high, the regulators and the island groups (R300, R481, R482). -/
def State.landLevel (s : State) (l : Land) : LandDrive :=
  if !s.landHere l then .unconnected
  else match inputLoad l with
  | some d => d
  | none =>
    match l with
    | .xtal => if s.pins.noVsys then .still else .oscillating
    | .island _ => .unit
    | l =>
      if s.dev = .off then s.restDrive l
      else if s.dev = .wedging then
        (match l with
         | .xspiClk => if s.xspiNrst then .unit else offDrive l
         | .xspiNcs => if s.xspiNrst then .unit else offDrive l
         | .xspiDq => if s.xspiNrst then .unit else offDrive l
         | .xspiNrst => s.upDrive l
         | .vrefDec => .unit
         | .vcoreDec => .unit
         | l => offDrive l)
      else s.upDrive l

end Sys2Proof.Machine
end

