-- ==== Sys2Proof/Tests/Slice0.lean ====
section
/-! SUPPORT. The author's own tests: ill-formed commands the check refuses, syllables written out from the encoding tables, single steps with values computed by hand from the spec, and a witness for the hypotheses of every statement. -/

namespace Sys2Proof.Tests

set_option Elab.async false

open Sys2Proof Sys2Proof.Machine

/-! ## Small states -/

/-- READY with the supplies good and both EN lands high. -/
def ready : State := { State.reset with
  dev := .ready, pll := true, pins := { nrst := true, supOk := true, noVsys := false, enA := true, enB := true } }

/-- The same in RUN, with the Wheel idle. -/
def run : State := { ready with dev := .run }

/-- The same during a turn. -/
def turn : State := { run with wheel := { turning := true } }

/-- The same in SAFE_HOLD, the Cone running. -/
def hold : State := { ready.raise R.CONE_STAT_RUNNING with dev := .safeHold }

/-- The unguarded operation. -/
def always : Guard := ⟨0, false⟩

/-- The state an answer holds satisfies `f`. -/
def gives (o : Out) (f : State → Bool) : Bool :=
  match o with
  | .next t => f t
  | .fault _ => false
  | .refused _ => false

/-! ## Well-formedness: one ill-formed command for each check -/

theorem test_wf_sincos : Instr.wf (.sincos always 7 1) = false ∧ Instr.wf (.sincos always 6 1) = true := by decide
theorem test_wf_ldcLd : Instr.wf (.ldcLd always 4 4 0 0 1 0) = false ∧ Instr.wf (.ldcLd always 4 5 0 0 1 0) = true := by decide
theorem test_wf_ld2 : Instr.wf (.ld2 always 4 4 1 2 0 0) = false ∧ Instr.wf (.ld2 always 4 5 2 2 0 0) = false ∧
    Instr.wf (.ld2 always 4 5 1 2 0 0) = true := by decide
theorem test_wf_st2 : Instr.wf (.st2 always 4 4 3 3 0 0) = false ∧ Instr.wf (.st2 always 4 4 3 4 0 0) = true := by decide
theorem test_wf_ldst : Instr.wf (.ldst always 4 4 3 3 0 0) = false ∧ Instr.wf (.ldst always 4 4 3 4 0 0) = true := by decide
theorem test_wf_force : Instr.wf (.pwmWrForce always 6 0) = false ∧ Instr.wf (.pwmWrForce always 5 0) = true := by decide
theorem test_wf_comm : Instr.wf (.comm always 0) = false ∧ Instr.wf (.comm always 1) = true := by decide
theorem test_wf_hloop : Instr.wf (.hloop false 1 0) = false ∧ Instr.wf (.hloop false 0 1) = true := by decide
theorem test_wf_calDone : Instr.wf (.calDone [] []) = false := by decide
theorem test_wf_rwpWrite : Instr.wf (.rwpWrite .hspi 0x40400101#32 0) = false := by decide
theorem test_wf_receiveFrame : Instr.wf (.receiveFrame 0 0 0 (List.replicate 2049 0) 0 none) = false := by decide +kernel
theorem test_wf_wakeFrame : Instr.wf (.wakeFrame 0 false 0 8 (List.replicate 9 0)) = false := by decide
theorem test_wf_absentAccess : Instr.wf (.absentAccess .hspi 0x40000002#32 false) = false := by decide
theorem test_wf_registerWrite : Instr.wf (.registerWrite .hspi 0x40000001#32 0) = false := by decide

/-! ## Syllables, bit by bit from R47, R48 and R508–R511 -/

/-- F slot: FADD opcode 1, D = 3, A = 1, B = 2; SHLI opcode 25 guarded by !p2, amount 5; MOVI opcode 63. -/
theorem test_syllables_F :
    decodeSyl 0 0b000001_000_0_0000011_0000001_0000010_0 = some (.fadd ⟨0, false⟩ 3 1 2) ∧
    decodeSyl 3 0b011001_010_1_0000011_0000001_0000101_0 = some (.shli ⟨2, true⟩ 3 1 5) ∧
    decodeSyl 1 0b111111_000_0_0000101_111111111111111 = some (.movi ⟨0, false⟩ 5 0x7FFF#15) := by decide +kernel

/-- T, M and X slots: SINCOS, LD with +2, LDST with ARj = 2 and ARk = 3, TEND, HLOOP of 7 times 4 bundles. -/
theorem test_syllables_TMX :
    decodeSyl 4 0b000011_000_0_0000110_0000001_00000000 = some (.sincos ⟨0, false⟩ 6 1) ∧
    decodeSyl 6 0b000001_000_0_0000100_000000000_01_0011 = some (.ld ⟨0, false⟩ 4 3 1) ∧
    decodeSyl 6 0b110110_000_0_0000100_0000101_0010_0011 = some (.ldst ⟨0, false⟩ 4 5 2 3 1 2) ∧
    decodeSyl 7 0b011010_0000_0000000000000000000000 = some .tend ∧
    decodeSyl 7 0b011001_0000_0_000000000111_000000100 = some (.hloop false 7 4) := by decide +kernel

/-- An opcode without an operation, and a reserved bit that is 1, decode to nothing. -/
theorem test_syllables_none :
    decodeSyl 0 0b001011_000_0_0000011_0000001_0000010_0 = none ∧
    decodeSyl 0 0b000001_000_0_0000011_0000001_0000010_1 = none := by decide +kernel

/-! ## Witnesses: states and operands that meet the hypotheses of each statement, clause by clause -/

/-- A guard of predicate p1, wanted true and wanted false. -/
def onP1 : Guard := ⟨1, false⟩
def onNotP1 : Guard := ⟨1, true⟩

theorem witness_StepRunsFrontCommand :
    { ready with pending := [Instr.tend] }.pending = Instr.tend :: [] ∧ ready.pending = [] ∧
    { ready with dev := .banked }.dev = .banked ∧ { ready with dev := .banked }.on R.SAGGAR_STAT_PRESTALE = true ∧
    (State.reset.dev = .off ∧ State.reset.pll = false) := by decide +kernel
theorem witness_SyllableRoundTrip :
    (Instr.fadd always 127 0 127).wf = true ∧ encodeSyl 3 (.fadd always 127 0 127) = some 0b000001_000_0_1111111_0000000_1111111_0 ∧
    (Instr.hloop true 4095 511).wf = true ∧ (encodeSyl 7 (.hloop true 4095 511)).isSome = true := by decide +kernel
theorem witness_FalseGuardHasNoEffect : turn.p onP1.psel.val = onP1.pinv ∧ (turn.setP 1 true).p onNotP1.psel.val = onNotP1.pinv := by
  decide +kernel
/-- The hypothesis of every statement about the operations of a turn. -/
theorem witness_Issues : turn.Issues always ∧ turn.Issues onNotP1 ∧ (turn.setP 1 true).Issues onP1 := by
  unfold State.Issues; decide +kernel
/-- A turn whose register 1 holds a NaN. -/
def nanTurn : State := { turn with wheel := { turning := true, g := [(1, 0x7F800001#32)] } }
theorem witness_FSlotOperationsComplete : nanTurn.Issues always ∧ Fp32.isNan (nanTurn.g 1) = true ∧ Fp32.isNan (nanTurn.g 0) = false := by
  unfold State.Issues; decide +kernel
theorem witness_TranscendentalOperationsComplete :
    (0x80800000 ≤ (0x80800000#32 : Word).toNat ∧ (0xFF800000#32 : Word).toNat ≤ 0xFF800000) ∧
    Fp32.isNan 0xFFFFFFFF#32 = true := by decide +kernel

/-- Operands for each class of the second clause: zeros, infinities, NaNs, finite numbers, and sums of them at the limits of the format. -/
theorem witness_RoundingAndSaturation :
    (let m := fun w : Word => w.toNat % 0x80000000
     let nan := fun w : Word => decide (0x7F800000 < m w)
     let inf := fun w : Word => decide (m w = 0x7F800000)
     let zer := fun w : Word => decide (m w < 0x800000)
     zer 0x807FFFFF#32 = true ∧ zer 0x00800000#32 = false ∧ inf 0xFF800000#32 = true ∧ nan 0x7F800001#32 = true ∧
     nan 0x7F800000#32 = false ∧ m 0x7F7FFFFF#32 < 0x7F800000) ∧
    (let x := Fp32.value 0x7F7FFFFF#32
     2 ^ 128 - 2 ^ 103 ≤ |x + x| ∧ |x + Fp32.value 0x00000000#32| < 2 ^ 128 - 2 ^ 103) ∧
    (let x := Fp32.value 0x00800000#32
     1 / 2 ^ 126 - 1 / 2 ^ 151 ≤ |x + Fp32.value 0x00000000#32| ∧ |x * x| < 1 / 2 ^ 126 - 1 / 2 ^ 151 ∧ x * x ≠ 0) ∧
    (2147483647 + 1 / 2 ≤ Fp32.value 0x4F000000#32 ∧ -2147483648 - 1 / 2 ≤ Fp32.value 0xCF000000#32 ∧
      Fp32.value 0xCF000001#32 < -2147483648 - 1 / 2 ∧ 4294967295 + 1 / 2 ≤ Fp32.value 0x4F800000#32 ∧
      -1 / 2 ≤ Fp32.value 0xBF000000#32 ∧ Fp32.value 0xBF000001#32 < -1 / 2) := by decide +kernel

/-- Turns whose data word 0x0003 of bank 2 has one or two flipped bits, and whose coefficient word 7 has two. -/
def oneFlip : State := { turn with wheel := { turning := true, ar := [(2, 3)] }, mem := { derr := [(16387, 1)] } }
def twoFlips : State := { turn with wheel := { turning := true, ar := [(2, 3)] }, mem := { derr := [(16387, 2)] } }
def coefFlips : State := { turn with wheel := { turning := true, cp := [(3, 7)] }, mem := { cerr := [(7, 2)] } }
theorem witness_MemoryOperationsComplete :
    turn.FewFlips ∧ oneFlip.Issues always ∧ twoFlips.Issues always ∧ coefFlips.Issues always ∧
    Sparse.get 0 oneFlip.mem.derr (8192 * 2 + oneFlip.arOff 2) = 1 ∧
    Sparse.get 0 twoFlips.mem.derr (8192 * 2 + twoFlips.arOff 2) = 2 ∧ Sparse.get 0 coefFlips.mem.cerr (coefFlips.cp 3) = 2 := by
  refine ⟨fun _ => ⟨Nat.zero_lt_succ 2, Nat.zero_lt_succ 2⟩, ?_⟩
  unfold State.Issues; decide +kernel

/-- A turn whose exchange window 7 has a bad last word, and is critical. -/
def poisoned : State := { turn.raise (R.XWIN_CFG_CRIT 7) with xwin := { bad := [(15359, true)] } }
theorem witness_XSlotOperationsComplete :
    poisoned.Issues always ∧ Sparse.get false poisoned.xwin.bad (xwKey 7 (poisoned.xwWheelBuf 7) 1023) = true ∧
    Sparse.get false poisoned.xwin.bad (xwKey 7 (poisoned.xwWheelBuf 7) 1022) = false := by unfold State.Issues; decide +kernel
theorem witness_XSlotOperationsComplete_force : (5 : Fin 8).val < 6 ∧ ¬(6 : Fin 8).val < 6 := by decide
theorem witness_HardwareLoops :
    turn.wheel.turning = true ∧ (1 : Fin 512) ≠ 0 ∧ (0 : Fin 4096) = 0 ∧ (4095 : Fin 4096) ≠ 0 ∧
    (∀ l ∈ [HwLoop.mk 1 9 2], l.last ≠ 3 + 4) := by decide

/-- RUN between turns, with a result, or a store to the last word of bank 15, in flight that is due now. -/
def landing : State := { run.put R.SAGGAR_TSWIN_TICKS 3 with cycle := 5, wheel := { inflight := [(5, .setG 127 1#32 0)] } }
def storing : State := { run.put R.SAGGAR_TSWIN_TICKS 3 with cycle := 5, wheel := { inflight := [(6, .storeD 15 8191 1#32)] } }
theorem witness_ResultsArriveOnTime :
    landing.pending = [] ∧ landing.ModesExclusive ∧ landing.matchLate = false ∧ landing.stopLate = false ∧ landing.dev = .run ∧ landing.wheel.turning = false ∧ landing.startDue = false ∧ landing.runDue = false ∧
    landing.wheel.inflight = [(5, .setG 127 1#32 0)] ∧ 5 ≤ landing.cycle ∧ landing.cycle < 6 ∧
    storing.wheel.inflight = [(6, .storeD 15 8191 1#32)] ∧ storing.cycle < 6 ∧ 15 < 16 ∧ 8191 < 8192 := by
  unfold State.ModesExclusive; decide +kernel
theorem witness_NonFiniteOperandIsDropped :
    (0xFF800000#32 : Word).toNat / 0x800000 % 256 = 255 ∧ (0x7FFFFFFF#32 : Word).toNat / 0x800000 % 256 = 255 := by decide

/-- RUN with the Wheel as the source of FORCE and COMM for inverter B, and loop 7 enabled or closed as given. -/
def forced : State := (run.raise (forceSrc 1)).put (commSrc 1) 1
def loop7 (st : Nat) : State := (run.raise (R.LOOP_CFG_EN 7)).put (R.LOOP_LSTAT_STATE 7) st
/-- Queue 31 in word mode, fed by the Wheel, holding `n` words of 512. -/
def wheelFed (n : Nat) : State :=
  { (run.put (R.QUE_QCFG_PROD 31) 1).put (R.QUE_QCFG_SIZE 31) 1 with queues := [(31, { ents := List.replicate n (entry 0 markData) })] }
/-- R163's conditions: each holds alone somewhere, and none of a loop that may close. -/
def closeHolds (s : State) (code : Nat) : Bool :=
  (decide (code = 1) && !s.on (R.LOOP_CFG_EN 7)) || (decide (code = 2) && decide (s.loopState 7 ≠ 0)) ||
  (decide (code = 3) && s.safeApplied (s.loopInv 7)) || (decide (code = 4) && (s.fbCond 7).isSome) ||
  (decide (code = 5) && s.stopping) || (decide (code = 7) && !s.en (s.loopInv 7))
theorem witness_EffectsTakePlace_close :
    (∀ code : Fin 8, closeHolds (loop7 0) code.val = false) ∧ closeHolds run 1 = true ∧ closeHolds (loop7 1) 2 = true ∧
    closeHolds ((loop7 0).put (R.SAGGAR_LATCH_INPUTS 0) 1) 3 = true ∧
    closeHolds (((loop7 0).put (R.LOOP_FBADC_ADC 7) 0x8000).put R.ADC_FLAG_STUCK 0x8000) 4 = true ∧
    closeHolds ((loop7 0).raise R.SYS_RUNCTL_STOP) 5 = true ∧ closeHolds { loop7 0 with pins := {} } 7 = true := by decide +kernel
theorem witness_EffectsTakePlace :
    (7 : Fin 8) ≠ 0 ∧ (forced.on (forceSrc (5 / 3)) = true ∧ 12 % 8 ≤ 4) ∧ (run.on (forceSrc (5 / 3)) = false ∧ 4 < 5 % 8) ∧
    forced.on R.PWM_DBG_FROZEN = false ∧ (run.raise R.PWM_DBG_FROZEN).on R.PWM_DBG_FROZEN = true ∧
    (Fp32.notFinite 0xFF7FFFFF#32 = false ∧ Fp32.notFinite 0x7F800000#32 = true) ∧
    (loop7 0).dev = .run ∧ (loop7 0).loopState 7 = 0 ∧ (loop7 1).loopState 7 = 1 ∧ (loop7 2).loopState 7 = 2 ∧ (loop7 3).loopState 7 = 3 ∧
    ready.dev ≠ .run ∧ ((loop7 2).on (R.LOOP_LSTAT_FBL 7) = false ∧ (loop7 2).fbSource 7 = none) ∧
    ((run.raise (R.XWIN_CFG_DIR 7)).on (R.XWIN_CFG_DIR 7) = true ∧ run.on (R.XWIN_CFG_DIR 7) = false) ∧
    ((wheelFed 511).get (R.QUE_QCFG_PROD 31) = 1 ∧ (wheelFed 511).dprDue = none ∧ (wheelFed 511).qPacket 31 = false ∧
      1 ≤ (wheelFed 511).qRoom 31 ∧ (wheelFed 512).qRoom 31 = 0 ∧ run.get (R.QUE_QCFG_PROD 31) ≠ 1) := by decide +kernel

/-! Turns, RUN and debug. -/

/-- DEVELOP with debug unlocked. -/
def debugger : State := { ready.raise R.SEC_DBGSTAT_UNLOCKED with sec := { lc := .develop } }
/-- RUN with timebase 0 at the count its turn source compares with. -/
def matching : State := { run.put (R.PWM_TBPER_P 0) 1000 with contract := { evsel := 1 } }
/-- RUN with the next turn armed and due, IN window 0 to swap. -/
def armed : State := { run with cycle := 4, wheel := { matched := true, swapMask := 1 } }
/-- A run request accepted in the present FABCLK cycle. -/
def asked : State := { ready with runDue := true, cause := some (0, 3) }
/-- READY as R39 wants it for RUN: no leg used, calibrated. -/
def runnable : State := { ready.raise R.ADC_CAL_DONE with unused := 0x3F, tsc := 7 }
theorem witness_TurnMatchDecidesSwaps :
    (matching.matchDue = true ∧ matching.wheel.divCnt = 0 ∧ matching.wheel.turning = false ∧ matching.wheel.dbgHalted = false) ∧
    (let s := { matching with wheel := { turning := true } }
     s.matchDue = true ∧ s.wheel.divCnt = 0 ∧ s.wheel.turning = true) ∧
    (let s := { matching with wheel := { divCnt := 1 } }
     s.matchDue = true ∧ s.wheel.divCnt ≠ 0) ∧
    run.matchDue = false ∧ (matching.raise R.WHEEL_DBG_STEP).on R.WHEEL_DBG_STEP = true := by decide +kernel
theorem witness_TurnsBeginAndEnd :
    armed.dev = .run ∧ armed.wheel.matched = true ∧ armed.cycle = armed.wheel.matchAt + 4 ∧ turn.wheel.turning = true ∧
    (turn.stopping && turn.allOpen) = false ∧ turn.on R.WHEEL_DBG_HALT = false ∧ turn.wheel.stepping = false := by decide +kernel
/-- A SAFE_HOLD cause taken in the present FABCLK cycle. -/
def overtakenS : State := { ready.raise R.CONE_STAT_RUNNING with dev := .safeHold, cause := some (0, 1) }
theorem witness_RunWithStopIsRefused : ready.mayWrite .hspi = true ∧ hold.mayWrite .cone = true ∧ hold.mayWrite .hspi = false ∧
    (overtakenS.mayWrite .hspi = false ∧ overtakenS.overtaken .hspi = true) := by decide +kernel
/-- What of R39's conditions fails, in its order. -/
def failing (s : State) : List (Bool × Nat) := [(decide (s.dev ≠ .ready), 1), (s.entering && !s.enteredNow, 7),
  ((List.range s.nIsl).any fun i => !s.legUnused (legOfIsl i) && !s.on (R.ISL_LSTAT_TRAINED i), 2),
  (!s.on R.ADC_CAL_DONE || (List.range 8).any fun g => decide (s.get (R.ADC_GCFG_SRC g) = 1) &&
    (List.range s.nConv).any fun k => s.bit (R.ADC_GCFG_MEMBERS g) k && s.bit R.ADC_CAL_FAIL k, 3),
  (s.usedInvs.any fun v => decide (s.get (R.SAGGAR_LATCH_INPUTS v) ≠ 0), 4),
  (s.usedInvs.any fun _ => s.on R.SAGGAR_STAT_PRESTALE, 5),
  (s.on R.SAGGAR_REQ_SSREQA || s.on R.SAGGAR_REQ_SSREQB, 6)]
/-- READY with the islands of inverter A trained and the preselection fresh: only inverter B's legs are unused. -/
def usedA : State :=
  let s := (List.range 6).foldl (fun s i => s.raise (R.ISL_LSTAT_TRAINED i)) (ready.raise R.ADC_CAL_DONE)
  { s.clear R.SAGGAR_STAT_PRESTALE with unused := 0x38 }
/-- The same with one condition of R39 failing. -/
def notRunnable : List State :=
  [run, usedA.put R.PWR_BSTAT_STEP 1, usedA.clear (R.ISL_LSTAT_TRAINED 5), usedA.clear R.ADC_CAL_DONE, usedA.put (R.SAGGAR_LATCH_INPUTS 0) 1,
   usedA.raise R.SAGGAR_STAT_PRESTALE, usedA.raise R.SAGGAR_REQ_SSREQB]
/-- RUN with a stop requested in cycle 0, loop 7 closed, in cycle `c`. -/
def stopped (c : Nat) : State := { (run.raise R.SYS_RUNCTL_STOP).put (R.LOOP_LSTAT_STATE 7) 2 with cycle := c }
/-- RUN in cycle `c` with windows of 3 ticks, the last turn started and the last match taken in cycle 1. -/
def missing (c : Nat) : State :=
  { (run.put R.SAGGAR_TMWIN_TICKS 3).put R.SAGGAR_TSWIN_TICKS 3 with cycle := c, wheel := { turning := true, start := 1, matchAt := 1 } }
theorem witness_RunStopAndMissingTurnComplete :
    (runnable.mayWrite .hspi = true ∧ runnable.preempted 2 = false ∧ runnable.preempted 3 = false ∧ Requester.hspi ≠ .debug ∧
      (failing runnable).find? (fun p => p.1) = none ∧ (failing usedA).find? (fun p => p.1) = none) ∧
    notRunnable.map (fun s => ((failing s).find? fun p => p.1).map fun p => p.2) =
      [some 1, some 7, some 2, some 3, some 4, some 5, some 6] ∧
    (debugger.mayWrite .debug = true ∧ debugger.preempted 2 = false ∧ debugger.preempted 3 = false) ∧
    (run.preempted 2 = false ∧ run.mayWrite .hspi = true ∧ run.dev = .run ∧ run.stopping = false ∧ (stopped 0).stopping = true) ∧
    (asked.runDue = true ∧ asked.cause = some (asked.fab, 3) ∧ asked.mayWrite .hspi = true ∧ asked.preempted 2 = false ∧
      asked.preempted 3 = false ∧ asked.dev = .ready ∧ asked.cycle % 2 = 0) ∧
    (let s := { ready with dev := .noimage }
     s.mayWrite .hspi = true ∧ s.preempted 2 = false ∧ s.preempted 3 = false ∧ s.dev ≠ .run ∧ s.dev ≠ .ready) ∧
    ((stopped 600000).dev = .run ∧ (stopped 600000).allOpen = false ∧ (stopped 600000).stopAt + 600000 ≤ (stopped 600000).cycle ∧
      (stopped 599999).cycle < (stopped 599999).stopAt + 600000 ∧ run.allOpen = true) ∧
    (let after := fun (s : State) (c ticks : Nat) => (c + 5) / 6 * 6 + 6 * ticks ≤ s.cycle
     (missing 24).wheel.turning = true ∧ after (missing 24) 1 3 ∧ (missing 24).get R.SAGGAR_TMWIN_TICKS = 3 ∧ ¬after (missing 23) 1 3 ∧
     (missing 24).wheel.dbgHalted = false ∧ (missing 24).matchDue = false ∧ (missing 24).get R.SAGGAR_TSWIN_TICKS = 3) := by decide +kernel

/-- The same halted. -/
def halted : State := { (debugger.raise R.WHEEL_DBG_HALT).raise R.WHEEL_DBG_HALTED with dev := .run, wheel := { dbgHalted := true } }
theorem witness_DebugCommandsComplete :
    debugger.mayWrite .debug = true ∧ debugger.debugOpen = true ∧ debugger.wheel.dbgHalted = false ∧ halted.mayWrite .debug = true ∧
    halted.debugOpen = true ∧ halted.wheel.dbgHalted = true ∧ ready.debugOpen = false := by decide +kernel

/-! Windows and sampling. -/

def outWindow : State := ready.raise (R.XWIN_CFG_DIR 7)
def committed : State := ready.raise (R.XWIN_CTL_COMMIT 7)
def badWord : State := { ready with xwin := { bad := [(16383, true)] } }
theorem witness_WindowCommandsComplete :
    ready.busUp = true ∧ ready.mayWrite .hspi = true ∧ ready.cone.chal = [] ∧ ready.on (R.XWIN_CFG_DIR 7) = false ∧
    outWindow.on (R.XWIN_CFG_DIR 7) = true ∧ committed.on (R.XWIN_CTL_COMMIT 7) = true ∧ ready.on (R.XWIN_CTL_COMMIT 7) = false ∧
    (let s := { ready with cone := { chal := [(0, 0)], chalWin := 7 } }
     s.mayWrite .hspi = true ∧ s.cone.chal ≠ [] ∧ s.cone.chalWin ≠ 6 ∧ s.cone.chalWin = (7 : Fin 8).val ∧ Requester.hspi ≠ .cone) ∧
    hold.mayWrite .cone = true ∧
    Sparse.get false badWord.xwin.bad (2048 * 7 + 1024 * (if badWord.xwin.sel.testBit 7 then 0 else 1) + 1023) = true ∧
    ready.wheel.matched = false ∧
    (let s := { run with cycle := 3, wheel := { matched := true, matchAt := 2 } }
     s.wheel.matched = true ∧ s.wheel.matchAt / 2 = s.cycle / 2 ∧ s.mayWrite .hspi = true ∧
     { s with cycle := 4 }.wheel.matchAt / 2 ≠ { s with cycle := 4 }.cycle / 2) := by
  decide +kernel

/-- Group 7 of converter 15, with the source of each kind of trigger. -/
def trigGroup (src : Nat) : State :=
  (((turn.put (R.ADC_GCFG_MEMBERS 7) 0x8000).put (R.ADC_GCFG_SRC 7) src).put (R.PWM_TBPER_P 0) 1000).put R.ADC_CTL_ADTEDGE 3
theorem witness_TriggersComplete :
    (trigGroup 2).busUp = true ∧ (trigGroup 2).trigOpen = true ∧ (trigGroup 2).groupMembers 7 ≠ [] ∧
    (trigGroup 2).on R.ADC_CAL_BUSY = false ∧
    (let ev := fun (s : State) => s.get (R.ADC_GCFG_SRC 7) = 2 ∧ s.tbRuns = true ∧ s.tbP (s.get (R.ADC_GTRIG_TB 7)) ≠ 0 ∧ s.adc.trigs = []
     (ev (trigGroup 2) ∧ (trigGroup 2).get (R.ADC_GTRIG_EVT 7) = 0 ∧ (trigGroup 2).tbCount 0 = 0) ∧
     (let s := (((trigGroup 2).put (R.ADC_GTRIG_EVT 7) 1).put (R.PWM_TBCFG_MODE 0) 1).put (R.PWM_TBCNT_COUNT 0) 1000
      ev s ∧ s.get (R.ADC_GTRIG_EVT 7) = 1 ∧ s.tbUd 0 = true ∧ s.tbCount 0 = s.tbP 0) ∧
     (let s := (((trigGroup 2).put (R.ADC_GTRIG_EVT 7) 2).put (R.ADC_GTCMP_CMP 7) 5).put (R.PWM_TBCNT_COUNT 0) 5
      ev s ∧ s.get (R.ADC_GTRIG_EVT 7) = 2 ∧ s.tbCount 0 = s.get (R.ADC_GTCMP_CMP 7) ∧ s.tbFalling 0 = false) ∧
     (let s := ((((trigGroup 2).put (R.ADC_GTRIG_EVT 7) 3).put (R.ADC_GTCMP_CMP 7) 5).put (R.PWM_TBCNT_COUNT 0) 5).raise (R.PWM_TBCNT_DIR 0)
      ev s ∧ s.get (R.ADC_GTRIG_EVT 7) = 3 ∧ s.tbCount 0 = s.get (R.ADC_GTCMP_CMP 7) ∧ s.tbFalling 0 = true)) ∧
    (trigGroup 4).get (R.ADC_GCFG_SRC 7) = 4 ∧
    (trigGroup 3).bit R.ADC_CTL_ADTEDGE 0 = true ∧ (trigGroup 3).bit R.ADC_CTL_ADTEDGE 1 = true ∧
    (below 8 fun g => decide ((trigGroup 3).get (R.ADC_GCFG_SRC g) = 3)) = [7] ∧
    ((trigGroup 4).raise R.ADC_CAL_BUSY).on R.ADC_CAL_BUSY = true ∧
    ((trigGroup 4).get (R.ADC_GCFG_SRC 7) ≠ 2 ∧ (trigGroup 2).get (R.ADC_GCFG_SRC 7) ≠ 4) ∧
    (1 = max 1 ((trigGroup 3).get R.ADC_CTL_ADTFILT) ∧ 15 = max 1 (((trigGroup 3).put R.ADC_CTL_ADTFILT 15).get R.ADC_CTL_ADTFILT) ∧
      2 ≠ max 1 ((trigGroup 3).get R.ADC_CTL_ADTFILT) ∧ ((trigGroup 3).put R.ADC_CTL_ADTEDGE 0).bit R.ADC_CTL_ADTEDGE 0 = false) ∧
    (let s := (((trigGroup 2).put (R.ADC_GTRIG_EVT 7) 2).put (R.ADC_GTCMP_CMP 7) 5).put (R.PWM_TBCNT_COUNT 0) 4
     s.tbCount 0 ≠ 0 ∧ s.tbCount 0 ≠ s.tbP 0 ∧ s.tbCount 0 ≠ s.get (R.ADC_GTCMP_CMP 7)) := by decide +kernel
theorem witness_TriggersComplete_wheel :
    (trigGroup 1).Issues always ∧ (trigGroup 1).get (R.ADC_GCFG_SRC 7) = 1 ∧ (trigGroup 1).on R.ADC_CAL_BUSY = false ∧
    (trigGroup 1).trigOpen = true ∧ (trigGroup 4).get (R.ADC_GCFG_SRC 7) ≠ 1 := by unfold State.Issues; decide +kernel

/-- The acquisition of converter 15 with one slot sampled, readable in cycle 77, and the same in cycle `c`. -/
def slot15 : AdcRun :=
  { conv := 15, group := 0, t0 := 0, nacq := 3, slots := 1, snaps := [{ calgain := 32768, ugain := 0x3F800000#32 }], done := 0,
    due := 77, codes := [] }
def sampled (c : Nat) : State := { run with cycle := c, adc := { runs := [slot15] } }
theorem witness_ConverterCommandsComplete :
    ready.busUp = true ∧ ready.dev = .ready ∧ ready.stopped 11 = false ∧ ready.on R.ADC_CAL_BUSY = false ∧ ready.adcConverting = false ∧
    { ready.put R.PWR_BSTAT_STEP 12 with pwr := { agreed := [11] } }.stopped 11 = true ∧
    (ready.raise R.ADC_CAL_BUSY).on R.ADC_CAL_BUSY = true ∧ ready.on R.ADC_CTL_VREFSEL ≠ true ∧
    (sampled 77).adc.runs = [] ++ slot15 :: [] ∧ slot15.conv = (15 : Fin 16).val ∧ slot15.codes.length = slot15.done ∧
    slot15.done < slot15.snaps.length ∧ slot15.done < slot15.slots ∧
    slot15.due + slot15.done * slotCycles slot15.nacq ≤ (sampled 77).cycle ∧
    (sampled 76).cycle < slot15.due + slot15.done * slotCycles slot15.nacq ∧
    (sampled 77).on (R.ADC_GSW_DONE slot15.group) = false ∧ (sampled 1).adcConverting = true := by decide +kernel

/-- ΣΔ channel 5 enabled, synchronised to an event, its filter as given. -/
def sdOn (x : SdCh) : State := { (run.raise (R.ADC_SDCFG_EN 5)).put (R.ADC_SDCFG_SYNC 5) 1 with adc := { sdclk := 0, sd := [(5, x)] } }
theorem witness_SigmaDeltaCommandsComplete :
    (sdOn {}).sdRuns 5 = true ∧ ((sdOn { out := some (0, 8, 16) }).sdCh 5).out = some (0, 8, 16) ∧ 0 ≤ (sdOn {}).cycle ∧
    ((sdOn {}).sdCh 5).out = none ∧
    (let s := sdOn { syncAt := some 0, dec := 1 }
     (s.sdCh 5).syncAt = some 0 ∧ s.adc.sdclk = (if s.on (R.ADC_SDCFG_EDGE 5) then 16 else 0) ∧ (s.sdCh 5).dec ≠ 0) ∧
    ((sdOn { syncAt := some 0 }).sdCh 5).dec = 0 ∧ ((sdOn {}).sdCh 5).syncAt = none ∧
    ((sdOn { same := 128 }).sdCh 5).same = 128 ∧ ((sdOn { same := 127 }).sdCh 5).same ≠ 128 ∧ (sdOn {}).busUp = true := by decide +kernel

/-! Position, loops, PWM. -/

/-- Encoder 1 and Hall set 1 enabled, the last Hall code 5, and an encoder step of one count taken. -/
def rotary : State := { (run.raise (R.POS_ECFG_EN 1)).raise (R.POS_HCFG_EN 1) with
  pos := { enc := [(1, { ab := 2, dcount := 1, te := 9 })], hall := [(1, { last := 5 })] } }
def hallStart : State := run.raise (R.POS_HCFG_EN 1)
def hallTimed (c : Nat) : State := { rotary.put (R.POS_HZTO_HZTO 1) 1 with cycle := c, pos := { hall := [(1, { last := 5, tLast := some 0 })] } }
/-- Encoder 1 on its capture edge, with counts to take; with a speed waiting to be registered. -/
def capturing : State := { rotary with pos := { rotary.pos with capture := true } }
def speeding : State := { rotary with pos := { enc := [(1, { spd := some (8, 0x3F800000#32) })] } }
theorem witness_RotarySensorsComplete :
    rotary.posRuns = true ∧ rotary.on (R.POS_ECFG_EN 1) = true ∧ quadStep (rotary.enc 1).ab 3 = some 1 ∧
    quadStep (rotary.enc 1).ab 0 = some (-1) ∧ quadStep (rotary.enc 1).ab 1 = none ∧ quadStep (rotary.enc 1).ab 2 = some 0 ∧
    rotary.on (R.POS_ESTAT_ZSEEN 1) = false ∧
    (capturing.captureDue 1 = true ∧ (capturing.enc 1).dcount ≠ 0 ∧ (capturing.enc 1).tePrev < (capturing.enc 1).te) ∧
    rotary.captureDue 1 = false ∧ (speeding.enc 1).spd = some (8, 0x3F800000#32) ∧
    rotary.on (R.POS_HCFG_EN 1) = true ∧ (hallStart.hallSet 1).last = 0 ∧ (rotary.hallSet 1).last ≠ 0 ∧
    (∃ k : Fin 8, k ≠ 0 ∧ k ≠ 7 ∧ k.val ≠ 5 ∧ rotary.hallNext 1 5 ≠ k.val ∧ rotary.hallNext 1 k.val ≠ 5) ∧
    (hallTimed 600).get (R.POS_HZTO_HZTO 1) ≠ 0 ∧ ((hallTimed 600).hallSet 1).tLast = some 0 ∧
    0 + 150 * (hallTimed 600).get (R.POS_HZTO_HZTO 1) ≤ (hallTimed 600).cycle / 4 ∧
    (hallTimed 599).cycle / 4 < 0 + 150 * (hallTimed 599).get (R.POS_HZTO_HZTO 1) := by decide +kernel

/-- SENT channel 3 with a nominal tick of 3 µs and 1 nibble, as far in its frame as given; the synchronisation pulses at the edges of ±20 %. -/
def sentOn (x : Sent) : State :=
  { ((ready.raise (R.POS_SCFG_EN 3)).put (R.POS_STICK_TICK 3) 30).put (R.POS_SCFG_NIB 3) 1 with cycle := 601, pos := { sent := [(3, x)] } }
theorem witness_SentAndResolverCommandsComplete :
    (sentOn {}).posRuns = true ∧ (sentOn {}).busUp = true ∧ (sentOn {}).on (R.POS_SCFG_EN 3) = true ∧
    (let s := sentOn { stage := .sync }
     let nom := 56000 * s.get (R.POS_STICK_TICK 3)
     let near := fun (k a b : Nat) => k * (a - b) ≤ b ∧ k * (b - a) ≤ b
     (s.sentCh 3).stage = .sync ∧ (s.sentCh 3).prevSync = 0 ∧ near 5 1344000 nom ∧ near 5 2016000 nom ∧ ¬near 5 1343999 nom ∧
     near 64 1664000 1638400 ∧ ¬near 64 1664001 1638400) ∧
    ((sentOn { stage := .sync, prevSync := 1638400 }).sentCh 3).prevSync ≠ 0 ∧
    (let s := sentOn { stage := .nibble, sync := 56, nibs := [0] }
     (s.sentCh 3).stage = .nibble ∧ (s.sentCh 3).sync ≠ 0 ∧
     12 ≤ (112 * 12 + (s.sentCh 3).sync) / (2 * (s.sentCh 3).sync) ∧ (112 * 27 + (s.sentCh 3).sync) / (2 * (s.sentCh 3).sync) ≤ 27 ∧
     ((s.sentCh 3).nibs ++ [0]).length ≠ s.get (R.POS_SCFG_NIB 3) + 2) ∧
    (let s := sentOn { stage := .nibble, sync := 56, nibs := [0, 0] }
     ((s.sentCh 3).nibs ++ [10]).length = s.get (R.POS_SCFG_NIB 3) + 2 ∧
     sentCrc (s.on (R.POS_SCFG_CRCMODE 3)) ((((s.sentCh 3).nibs ++ [10]).drop 1).dropLast) = 10 ∧
     sentCrc (s.on (R.POS_SCFG_CRCMODE 3)) ((((s.sentCh 3).nibs ++ [4]).drop 1).dropLast) ≠ 4) ∧
    (let s := (sentOn { tGood := some 0 }).put (R.POS_SAGEMAX_AGEMAX 3) 1
     s.get (R.POS_SAGEMAX_AGEMAX 3) ≠ 0 ∧ (s.sentCh 3).tGood = some 0 ∧ 600 * s.get (R.POS_SAGEMAX_AGEMAX 3) < s.cycle - 0) ∧
    (let s := { run.put (R.POS_RXCFG_PER 1) 1 with pos := { exc := [(1, { since := 4 })] } }
     s.get (R.POS_RXCFG_PER 1) ≠ 0 ∧ s.dev = .run ∧ 4 * s.get (R.POS_RXCFG_PER 1) ≤ (s.exc 1).since) ∧
    ((run.put (R.POS_RXCFG_PER 1) 1).exc 1).since < 4 * (run.put (R.POS_RXCFG_PER 1) 1).get (R.POS_RXCFG_PER 1) := by decide +kernel

/-- Loop 7 closed with a stuck converter among its feedback sources. -/
def lossy : State := (((run.put (R.LOOP_LSTAT_STATE 7) 2).put (R.LOOP_FBADC_ADC 7) 0x8000).put R.ADC_FLAG_STUCK 0x8000)
theorem witness_LoopCommandsComplete :
    lossy.busUp = true ∧ lossy.dev = .run ∧ lossy.closedSide 7 = true ∧ lossy.on (R.LOOP_LSTAT_FBL 7) = false ∧
    lossy.fbCond 7 = some (1, 15) ∧ ready.dev ≠ .safeHold ∧ ready.fbSource 7 = none ∧ (lossy.fbSource 7).isSome = true ∧ hold.dev = .safeHold ∧
    hold.busUp = true ∧ ready.on R.LOOP_CWADDR_AINC = false ∧ (ready.raise R.LOOP_CWADDR_AINC).on R.LOOP_CWADDR_AINC = true ∧
    ready.coefOpen 0 = true ∧ run.coefOpen 0 = false ∧ hold.coefOpen 0 = false ∧ ready.hasRcu = true ∧
    ready.on (R.RCU_TPTR_AINC 7) = false ∧ ready.rcuOpen 7 = true := by decide +kernel

/-- A leg waiting to turn on, its dead time just run, and COMMCFG naming a land edge for inverter A. -/
def waiting : State := { run.put R.PWM_COMMCFG_PINEDGE 3 with cycle := 100, pwm := { gen := [(5, { cmdH := true, pendH := true, offL := 3200 })] } }
def waitingL : State := { run with cycle := 100, pwm := { gen := [(5, { cmdL := true, pendL := true, offH := 3200 })] } }
def landA : State := { waiting.put R.PWM_COMMCFG_SRCA 2 with variant := .vz6821 }
/-- RUN with timebase 3 at its zero, and up-down at its peak, generator 7 reloading at both. -/
def atZero : State := ((run.put (R.PWM_TBPER_P 3) 8).put (R.PWM_GCFG_TBSEL 7) 3).put (R.PWM_GCFG_RLD 7) 3
def atPeak : State := (atZero.put (R.PWM_TBCFG_MODE 3) 1).put (R.PWM_TBCNT_COUNT 3) 8
/-- RUN with generator 5 live and both of its compares given. -/
def living : State := (run.raise (R.PWM_GSTAT_LIVE 5)).put (R.PWM_CMPA_VALUE 5) 5
theorem witness_PwmEventsComplete :
    (atZero.zeroDue 3 = true ∧ atZero.genPresent 7 = true ∧ atZero.genTb 7 = 3 ∧ atZero.rldZero 7 = true ∧
      atZero.on R.PWM_DBG_FROZEN = false ∧
      (let s := (atZero.put (R.PWM_GCFG_TBSEL 3) 3).put (commSrc 1) 0
       s.zeroDue 3 = true ∧ (1 : Fin 2).val < s.nInv ∧ s.get (commSrc 1) = 0 ∧ s.genTb (3 * 1) = 3)) ∧
    run.zeroDue 3 = false ∧ (atPeak.peakDue 3 = true ∧ atPeak.genTb 7 = 3 ∧ atPeak.rldPeak 7 = true) ∧ atZero.peakDue 3 = false ∧
    (living.dev = .run ∧ living.on R.PWM_DBG_FROZEN = false ∧ living.on (R.LOOP_INVCFG_HOLD (5 / 3)) = false ∧
      living.get (R.PWM_FACT_CODE (5 / 3)) = 0 ∧ living.on (R.PWM_GSTAT_LIVE 5) = true ∧ living.legIndep 5 = false ∧ 5 < living.nLeg) ∧
    (6 ≤ (7 : Fin 8).val ∧ (5 : Fin 8).val < 6 ∧ ready.dev ≠ .run ∧ (run.raise R.PWM_DBG_FROZEN).on R.PWM_DBG_FROZEN = true) ∧
    waiting.dev = .run ∧ waiting.on R.PWM_DBG_FROZEN = false ∧ (waiting.gen 5).pendH = true ∧ (waiting.gen 5).cmdL = false ∧
    (let s := (waiting.put (R.PWM_DTACT_DTR 5) 31).raise R.PWM_STAT_DLLLOCK
     (s.gen 5).offL + s.get (R.PWM_DTACT_DTR 5) ≤ s.edgeTime 31 ∧ s.edgeTime 30 < (s.gen 5).offL + s.get (R.PWM_DTACT_DTR 5)) ∧
    (waitingL.gen 5).pendL = true ∧ (waitingL.gen 5).cmdH = false ∧
    (let s := (waitingL.put (R.PWM_DTACT_DTF 5) 31).raise R.PWM_STAT_DLLLOCK
     (s.gen 5).offH + s.get (R.PWM_DTACT_DTF 5) ≤ s.edgeTime 31 ∧ s.edgeTime 30 < (s.gen 5).offH + s.get (R.PWM_DTACT_DTF 5)) ∧
    waiting.bit R.PWM_COMMCFG_PINEDGE 0 = true ∧ waiting.bit R.PWM_COMMCFG_PINEDGE 1 = true ∧
    waiting.get R.PWM_COMMCFG_SRCA < 2 ∧ 2 ≤ landA.get R.PWM_COMMCFG_SRCA ∧ landA.nInv = 1 ∧ landA.on R.PWM_DBG_FROZEN = false ∧
    run.bit R.PWM_COMMCFG_PINEDGE 0 = false := by decide +kernel
theorem witness_DeadTimeKeepsSwitchesApart :
    (let g : Gen := { outH := true, cmdH := true }
     (false && true) = false ∧ (g.outH && g.outL) = false ∧ (g.outH = true → g.cmdH = true) ∧ (g.outL = true → g.cmdL = true) ∧
     (true && false && g.byCmp) = false) ∧
    (let g : Gen := { outL := true, cmdL := true }
     (true && false) = false ∧ (g.outH && g.outL) = false ∧ (g.outH = true → g.cmdH = true) ∧ (g.outL = true → g.cmdL = true) ∧
     (true && true && g.byCmp) = false) := by
  decide
theorem witness_PwmConfigurationCompletes :
    ready.busUp = true ∧ ready.dev = .ready ∧ ready.tbWriteOk 1 3 3000 = true ∧ ready.tbWriteOk 0 3 1 = true ∧ (ready.put (R.PWM_TBPER_P 3) 3000).tbWriteOk 2 3 3000 = false ∧
    ready.armRefused 0x80 = false ∧ (0x80#8 : BitVec 8) ≠ 0#8 ∧ (∃ m ∈ [0x01, 0x41], (ready.raise (R.PWM_GCFG_WHEEL 0)).armRefused m = true) ∧
    ((maskList 0x80).head?.bind ready.armEdge) = none ∧
    (atZero.armRefused 0x80 = false ∧ ((maskList 0x80).head?.bind atZero.armEdge) = some 0) ∧
    (let s := atZero.put (R.PWM_TBCNT_COUNT 3) 7
     s.armRefused 0x80 = false ∧ ((maskList 0x80).head?.bind s.armEdge) = some 1) ∧
    (1 : Fin 2).val < ready.nInv ∧ ready.on (forceSrc 1) = false ∧
    (4 + 8 * 4 + 64 * 4) % 512 % 8 ≤ 4 ∧ 4 < 5 % 8 ∧ (ready.raise R.PWM_STAT_DLLLOCK).on R.PWM_STAT_DLLLOCK = true := by
  decide +kernel

/-! Islands. -/

/-- Island 11 as the supplies leave it, as `f` changes it. -/
def isle (d : DevState) (f : Isl → Isl) : State := { ready with
  dev := d, isl := [(11, f { powered := true, suprdy := true, edge := true, sym := .run, trained := true })] }
/-- Island 11 conducting by its edge channel since cycle 0, both detectors on. -/
def conducting : State := isle .run fun x => { x with out := true, cfg := { dsaten := true } }
theorem isle_other (d : DevState) (f : Isl → Isl) (i : Nat) (h : i ≠ 11) : (isle d f).island i = {} := by
  unfold isle State.island; simp [Sparse.get, h]
theorem conducting_settled : conducting.IslandsSettled := by
  intro i
  by_cases h : i = 11
  · subst h; decide +kernel
  · unfold conducting; rw [isle_other _ _ _ h]; exact ⟨(fun e => nomatch e), (fun e => nomatch e)⟩
theorem witness_IslandFaultsTurnOff :
    conducting.islPresent 11 = true ∧
    (let x := ({ conducting with cycle := 1203 }).island 11
     x.out = true ∧ x.cfg.scen = true ∧ x.onAt + 3 * x.cfg.scblk + 3 ≤ 1203 ∧ scThreshold x.cfg = 400 ∧ x.cfg.dsaten = true ∧
     x.onAt + 60 * x.cfg.dsatblk + 3 ≤ 1203 ∧ 3000 + 500 * x.cfg.dsatth = 7000 ∧ x.powered = true ∧ x.suprdy = true ∧
     (11999 : Int) < 10000 + 500 * (x.cfg.vccth : Int) ∧ x.cfg.vneg = false ∧ (-1500 - 500 * (x.cfg.veeth : Int) : Int) < -2999 ∧
     (130 + 5 * (x.cfg.otth : Int)) * 16 < 2561) ∧
    (let x := (isle .run fun x => { x with cfg := { vneg := true } }).island 11
     x.cfg.vneg = true ∧ ((500 : Int) < 501 ∨ (501 : Int) < -500)) ∧
    (let x := (isle .ready fun x => { x with suprdy := false }).island 11
     x.powered = true ∧ x.suprdy = false) ∧ conducting.sagActs = true ∧
    conducting.legUnused (legOfIsl 11) = false ∧ ((isle .ready id).island 11).out = false ∧
    ((isle .ready id).island 11).cfg.dsaten = false ∧
    ((isle .run fun x => { x with out := true, cfg := { scen := false } }).island 11).cfg.scen = false := by decide +kernel
theorem witness_IslandTimersSuppliesAndEnComplete :
    conducting.IslandsSettled ∧ conducting.islPresent 11 = true ∧
    (let x := (isle .run fun x => { x with soft := true, sc := true }).island 11
     x.soft = true ∧ x.powered = true ∧ x.latched = true) ∧ (conducting.island 11).soft = false ∧
    ((isle .run fun x => { x with plateau := true }).island 11).plateau = true ∧ (conducting.island 11).plateau = false ∧
    ((isle .safeHold fun x => { x with sym := .safeOn, ascWait := true }).island 11).ascWait = true ∧
    (conducting.island 11).ascWait = false ∧ (4000 ≤ (4000 : Int) - 0 ∧ (3999 : Int) - 0 < 4000) ∧
    (10800 + 500 * ((conducting.island 11).cfg.vccth : Int) ≤ 12800 ∧ (-5000 : Int) ≤ -1800 - 500 * ((conducting.island 11).cfg.veeth : Int)) ∧
    invOfIsl 11 = (1 : Fin 2).val ∧ conducting.pins.noVsys = false ∧ (conducting.island 11).powered = true ∧ 2000 ≤ 2000 ∧ 1500 ≤ 1500 := by
  refine ⟨conducting_settled, ?_⟩
  decide +kernel
theorem witness_IslandTelemetryAndLinkComplete :
    (let s := conducting.raise (R.ISL_LSTAT_TRAINED 11)
     s.linkUp 11 = true ∧ s.get (R.ISL_LSTAT_VER 11) ≠ 1 ∧ (s.put (R.ISL_LSTAT_VER 11) 1).get (R.ISL_LSTAT_VER 11) = 1 ∧
     (decide (200 ≤ 199) && true && (s.island 11).offMark.isSome) = false ∧ (s.island 11).avgN + 1 < 16) ∧
    (let x := (isle .run fun x => { x with offMark := some 0 }).island 11
     (decide (200 ≤ 200) && true && x.offMark.isSome) = true) ∧
    (conducting.island 11).powered = true ∧ (conducting.island 11).parked = false ∧ ready.busUp = true ∧
    (frameGood 178 = true ∧ frameGood 179 = false) ∧
    ready.legUnused (legOfIsl 11) = false ∧ ready.on R.ISL_STAT_TRBUSY = false ∧
    (ready.raise R.ISL_STAT_TRBUSY).on R.ISL_STAT_TRBUSY = true ∧ run.dev ≠ .ready ∧
    islCfgOk 1 11 (11 * 256 + 12) = true ∧ islCfgOk 1 11 (12 * 256) = false ∧
    ready.on (R.ISL_LSTAT_TRAINED 11) = false ∧ ((isle .ready id).raise (R.ISL_LSTAT_TRAINED 11)).on (R.ISL_LSTAT_TRAINED 11) = true ∧
    ((isle .run fun x => { x with sc := true }).island 11).sc = true ∧ ready.on (R.ISL_FLT_SC 11) = false ∧
    (let s := { ready with islTrain := [(11, some 0)], islWrites := [(11, [(0, true)])] }
     Sparse.get none s.islTrain 11 = some 0 ∧ 0 ≤ s.cycle ∧ Sparse.get [] s.islWrites 11 = (0, true) :: [] ∧ (s.island 11).lost = false) ∧
    ((isle .ready fun x => { x with lost := true }).island 11).lost = true := by decide +kernel

/-! Saggar, Cone, safe outputs, safety configuration. -/

/-- READY with the Cone running. -/
def cone : State := ready.raise R.CONE_STAT_RUNNING
def tripped : State := conducting.put (R.SAGGAR_LATCH_INPUTS 1) 0x100000
theorem tripped_settled : tripped.IslandsSettled := conducting_settled
theorem witness_SaggarInputsComplete :
    (1 : Fin 2).val < cone.nInv ∧ cone.sagActs = true ∧ cone.coneUp = true ∧
    ((cone.put (R.SAGGAR_CMPCFG_INV 11) 2).get (R.SAGGAR_CMPCFG_INV 11)).testBit 1 = true ∧
    (cone.raise (pinEn 1)).on (pinEn 1) = true ∧ run.dev = .run ∧
    railBack 2 3300000 = true ∧ railBack 2 2970000 = false ∧ cone.sag.preAt = none ∧
    (let s := { cone with cycle := 600000, sag := { preAt := some 0 } }
     s.sag.preAt = some 0 ∧ 0 + 600000 ≤ s.cycle) ∧
    (let s := { cone with cycle := 599999, sag := { preAt := some 0 } }
     s.sag.preAt = some 0 ∧ s.cycle < 0 + 600000) := by decide +kernel
theorem witness_SafeStateReachesTheIslands :
    tripped.IslandsSettled ∧ tripped.sagActs = true ∧ tripped.islPresent 11 = true ∧ tripped.legUnused (legOfIsl 11) = false ∧
    tripped.pins.noVsys = false ∧ tripped.en (invOfIsl 11) = true ∧ tripped.sync.latched (invOfIsl 11) = true ∧
    (let s := (ready.put (R.SAGGAR_LATCH_INPUTS 1) 0x3000).put (presel 1) 1 |>.clear R.SAGGAR_STAT_PRESTALE
     s.sagFH 1 = true ∧ s.sagFL 1 = true) ∧
    ready.sagBase 1 = 0 ∧
    (let s := (ready.put (R.SAGGAR_LATCH_INPUTS 1) 0x1000).put (presel 1) 1 |>.clear R.SAGGAR_STAT_PRESTALE
     s.sagFH 1 = true ∧ s.sagFL 1 = false ∧ s.sagBase 1 ≠ 0) ∧
    (let s := (ready.put (R.SAGGAR_LATCH_INPUTS 1) 0x2000).put (presel 1) 2 |>.clear R.SAGGAR_STAT_PRESTALE
     s.sagFL 1 = true ∧ s.sagFH 1 = false ∧ s.sagBase 1 ≠ 0) := by
  refine ⟨tripped_settled, ?_⟩
  decide +kernel
/-- READY with a DC-link voltage of `n` V at input 0 of both inverters. -/
def dcLink (n : Nat) : State := { cone.put (R.CONE_CRES_RAW 0) n with cone := { par := [(0x30, 0x3F800000)] } }
theorem witness_LatchClearsComplete :
    (1 : Fin 2).val < cone.nInv ∧ cone.coneUp = true ∧ { cone with dev := .safeHold }.dev = .safeHold ∧
    { cone with dev := .safeHold }.coneUp = true ∧
    (let s := cone.put (R.SAGGAR_LATCH_INPUTS 1) 0x1000000
     s.dev ≠ .safeHold ∧ s.stuckLatch 1 = true ∧ s.clearCode 1 ≠ 0) ∧
    (let s := cone.raise R.SAGGAR_REQ_SSREQB
     s.stuckLatch 1 = false ∧ s.activeVec 1 ≠ 0) ∧
    { cone with isl := (List.range 6).map fun k => (k + 6, { powered := true }) }.clearCode 1 = 0 ∧
    (cone.raise R.SAGGAR_REQ_DISCH).dischClearCode ≠ 0 ∧ cone.dischClearCode = 0 ∧
    (let s := { cone with cone := { raised := 0x30, lastBad := 0x20 } }
     s.coneActs = true ∧ slice s.cone.raised (4 * 1) 4 &&& slice s.cone.lastBad (4 * 1) 4 ≠ 0) ∧
    (let s := { cone with dev := .safeHold, cone := { raised := 0x30, lastBad := 0x40 } }
     s.coneActs = true ∧ slice s.cone.raised (4 * 1) 4 &&& slice s.cone.lastBad (4 * 1) 4 = 0 ∧ s.clearCode 1 = 4) ∧
    (dcLink 59).coneActs = true ∧ (dcLink 59).dcLow = true ∧ (dcLink 60).dcLow = false := by
  decide +kernel
theorem witness_MonitoringComplete :
    cone.coneActs = true ∧ (1 : Fin 2).val < cone.nInv ∧ cone.tsc % 10000 = cone.cycleOffset ∧
    { cone with tsc := 1 }.tsc % 10000 ≠ { cone with tsc := 1 }.cycleOffset ∧ cone.crossOn = false ∧
    (let s := { cone with dev := .run, cone := { par := [(0x41, 1)] } }
     s.coneActs = true ∧ s.crossOn = true ∧ s.invInUse 1 = true) ∧
    (cone.preselOf 0 < 3 ∧ cone.preselOf 1 < 3) ∧
    (let s := { cone with dev := .run, cone := { par := [(0x11, 1), (0x13, 1), (0x19, 1)] } }
     s.dev = .run ∧ s.invInUse 1 = true ∧ s.cpar (0x10 + 1) = 1 ∧ s.cpar (0x12 + 1) ≤ 1 ∧ s.get (R.CONE_TMSTAT_DEVCNT 1) < 256) ∧
    cone.busUp = true ∧ Fp32.notFinite 0x7F800000#32 = true ∧
    Fp32.notFinite 0x7F7FFFFF#32 = false ∧ { cone with cone := { par := [(0x19, 1)] } }.cpar (0x18 + 1) ≠ 0 ∧ cone.cpar (0x18 + 1) = 0 ∧
    (cone.raise R.SAGGAR_REQ_DISCH).dreq = true ∧ cone.on R.CONE_DISCH_DONE = false ∧ cone.on R.CONE_DISCH_SLOW = false ∧
    cone.dreq = false := by decide +kernel

/-- Safe output 2 driven by the command register, at its level, with its tests enabled. -/
def soOn : State := { ((((ready.put (R.SAFEOUT_CFG_SRC 2) 1).put R.SAFEOUT_CMD_SO 4).put (R.SAFEOUT_CFG_OFFW 2) 1).put
    (R.SAFEOUT_CFG_ONW 2) 1) with safe := { so := [(2, { demand := true })] } }
def soHigh : State := (soOn.raise (R.SAFEOUT_OSTAT_HSON 2)).raise (R.SAFEOUT_OSTAT_LSON 2)
def soLow : State := { soOn.clear R.SAFEOUT_CMD_SO with safe := {} }
def soTest (t : SoTest) : State := { soHigh with safe := { so := [(2, { demand := true, test := some t })] } }
theorem witness_SafeOutputsComplete :
    soOn.soWorks = true ∧ (soOn.soDemand 2 ≠ ({ soOn with safe := {} }.so 2).demand) ∧ soHigh.soTests = true ∧ (soHigh.so 2).test = none ∧
    soHigh.soDemand 2 = (soHigh.so 2).demand ∧ soHigh.on (R.SAFEOUT_OSTAT_HSON 2) = true ∧ soHigh.on (R.SAFEOUT_OSTAT_LSON 2) = true ∧
    soHigh.get (R.SAFEOUT_CFG_OFFW 2) ≠ 0 ∧
    (soLow.soTests = true ∧ (soLow.so 2).test = none ∧ soLow.soDemand 2 = (soLow.so 2).demand ∧
      soLow.on (R.SAFEOUT_OSTAT_HSON 2) = false ∧ soLow.get (R.SAFEOUT_CFG_ONW 2) ≠ 0) ∧
    (let s := soTest ⟨false, true⟩
     (s.so 2).test = some ⟨false, true⟩ ∧ s.soTests = true ∧ s.soDemand 2 = (s.so 2).demand ∧
     testPass ⟨false, true⟩ 1999 0 0 = true ∧ testPass ⟨false, true⟩ 2000 0 0 = false ∧ s.on (R.SAFEOUT_OSTAT_SOFLT 2) = false) ∧
    (soTest ⟨false, true⟩).busUp = true := by decide +kernel

/-- READY with an image's password hash, and the same unlocked with a parameter named. -/
def keyed : State := { cone with safe := { hash := 1 } }
def unlocked (id v : Nat) : State := ((keyed.raise R.SAFECFG_STAT_UNLOCKED).put R.SAFECFG_PID_ID id).put R.SAFECFG_PVAL_VALUE v
theorem witness_SafetyConfigurationCompletes :
    keyed.mayWrite .hspi = true ∧ run.dev ≠ .ready ∧ keyed.dev = .ready ∧ keyed.on R.SAFECFG_STAT_BUSY = false ∧
    keyed.on R.SAFECFG_STAT_LOCKOUT = false ∧ keyed.safe.hash ≠ 0 ∧ keyed.logFree = true ∧ keyed.on R.SAFECFG_STAT_UNLOCKED = false ∧
    (unlocked 0x23 0).on R.SAFECFG_STAT_UNLOCKED = true ∧ (unlocked 0x23 0).on R.CONE_STAT_RUNNING = true ∧
    parKnown 0x0F = false ∧ parKnown 0x10 = true ∧ parKnown 0x24 = false ∧
    (unlocked 0x10 2).parOk 0x10 2 = false ∧ (unlocked 0x10 1).parOk 0x10 1 = true ∧
    isRwp (regFieldsIn 0x4040000C (RegMap.window 0x4040000C)) = true ∧ ready.rwpOk 0x4040000C 3 = false ∧
    ready.rwpOk 0x4040000C 2 = true := by decide +kernel

/-! Resets, release, supplies and clocks. -/

/-- OFF with everything released but nRST, but the supplies, but an internal reset. -/
def offN : State := { State.reset with pins := { supOk := true } }
def offS : State := { State.reset with pins := { nrst := true } }
def offH : State := { State.reset with pins := { nrst := true, supOk := true, hold := true } }
/-- WEDGING in a phase that is due in cycle `n`. -/
def wedging (p n : Nat) : State := { ready.put R.WEDGE_STAT_PHASE p with dev := .wedging, wedge := { due := n } }
theorem witness_ResetsEnterOff :
    ready.pins.nrst = true ∧ State.reset.pins.nrst = false ∧ ready.pins.supOk = true ∧ ready.mayWrite .hspi = true ∧
    4799 < railReset 0 ∧ railReset 3 ≤ 1500 ∧ ready.sec.burn = none ∧ ready.wedge.burn = none ∧
    Requester.hspi ≠ .debug ∧ ready.dev = .ready ∧ (0xA4#8 : BitVec 8) ≠ 0xA5#8 ∧ keptAddr (R.WHEEL_TURNCNT_COUNT.key / 32) = false := by
  decide +kernel
theorem witness_ReleaseLeavesOff :
    (offN.dev = .off ∧ offN.pins.nrst = false ∧ offN.pins.supOk = true ∧ offN.pins.hold = false) ∧
    (State.reset.dev = .off ∧ State.reset.pins.nrst = false ∧ State.reset.pins.supOk = false) ∧
    (offS.dev = .off ∧ offS.pins.supOk = false ∧ offS.pins.nrst = true ∧ offS.pins.hold = false ∧ offS.pins.test = false) ∧
    (offH.dev = .off ∧ offH.pins.hold = true ∧ offH.pins.holdEnd ≤ offH.cycle ∧ offH.pins.supOk = true ∧ offH.pins.nrst = true ∧
      offH.pins.test = false) ∧
    { offH with pins := { hold := true } }.pins.supOk = false ∧
    { offH with pins := { hold := true, holdEnd := 1 } }.cycle < { offH with pins := { hold := true, holdEnd := 1 } }.pins.holdEnd ∧
    ((wedging 2 0).dev = .wedging ∧ (wedging 2 0).get R.WEDGE_STAT_PHASE = 2 ∧ (wedging 2 0).sec.lc = .blank ∧
      (wedging 2 0).wedge.todo = []) ∧
    ((wedging 8 0).get R.WEDGE_STAT_PHASE = 8 ∧ (wedging 8 0).on R.ISL_STAT_TRBUSY = false) ∧
    ((wedging 8 0).raise R.ISL_STAT_TRBUSY).on R.ISL_STAT_TRBUSY = true ∧
    ((wedging 3 1).get R.WEDGE_STAT_PHASE ≠ 8 ∧ (wedging 3 1).keyRun = false ∧ (wedging 3 1).cycle < (wedging 3 1).wedge.due) := by
  decide +kernel
theorem witness_MonitorsAndDataPlaneResetComplete :
    9999 < (railWindow 4).1 + 10000 ∧ ready.dev ≠ .off ∧
    (clockBad 8 false 77 77 = false ∧ clockBad 8 false 76 84 = true ∧ clockBad 0 false 34 46 = true ∧ clockBad 0 false 35 35 = true ∧
      clockDeviates 8 77 = false ∧ clockBad 1 false 0 0 = true) ∧
    run.dev = .run ∧ (ready.dev = .ready ∧ ready.entering = false ∧ ready.scanning = false) ∧ hold.dev = .safeHold ∧
    (wedging 3 1).dev = .wedging ∧ ({ ready with dev := .noimage }.dev = .noimage ∧ { ready with dev := .noimage }.scanning = false) ∧
    ((ready.put R.PWR_BSTAT_STEP 1).dev = .ready ∧ (ready.put R.PWR_BSTAT_STEP 1).entering = true ∧
      (ready.put R.PWR_BSTAT_STEP 1).scanning = false) ∧
    ({ ready with dev := .banked }.dev = .banked ∧ (1 : Fin 9).val < 2) ∧ 2 ≤ (2 : Fin 9).val ∧ State.reset.dev = .off ∧
    (run.mayWrite .hspi = true ∧ run.busUp = true ∧ Requester.hspi ≠ .debug ∧ run.entering = false ∧ run.stopping = false) ∧ 3 < run.nCan := by
  decide +kernel

/-! Update and security. -/

/-- An update in state `u` of 0x1600 bytes, owned by the host, into slot 2, as `n` of its bytes have come. -/
def updating (u n : Nat) : State :=
  ((((((ready.put R.WEDGE_USTAT_USTATE u).put R.WEDGE_USTAT_OWNER 1).put R.WEDGE_USTAT_TARGET 2).put R.WEDGE_ULEN_LEN 0x1600).put
    R.WEDGE_UADDR_COUNT n).raise R.WEDGE_XSPI_SFDP).put R.WEDGE_STAT_BOOTSLOT 1
def paging : State := { updating 2 256 with nor := { page := List.replicate 256 0, programming := true } }
theorem witness_UpdateCompletes :
    (updating 0 0).mayWrite .hspi = true ∧ hold.mayWrite .cone = true ∧ hold.updRefusal .cone ≠ 0 ∧ (updating 0 0).updRefusal .hspi = 0 ∧
    (updating 0 0).ustate = 0 ∧ lenOk ((updating 0 0).get R.WEDGE_ULEN_LEN) = true ∧ (updating 0 0).eraseUnit ≠ 0 ∧
    (updating 4 0).updRefusal .hspi = 0 ∧ (updating 4 0).ustate ≠ 0 ∧ (updating 4 0).ustate ≠ 6 ∧ (updating 6 0).ustate = 6 ∧
    (updating 2 0x1600).ustate = 2 ∧ (updating 2 0x1600).get R.WEDGE_UADDR_COUNT = (updating 2 0x1600).get R.WEDGE_ULEN_LEN ∧
    (updating 2 0x1600).updRefusal .hspi = 0 ∧
    (updating 4 0).ustate = 4 ∧ (updating 1 0).ustate = 1 ∧ (updating 1 0).eraseUnit ≠ 0 ∧
    (updating 2 0x15FC).updDev = true ∧ (updating 2 0x15FC).updOwner .hspi = true ∧
    (updating 2 0x15FC).get R.WEDGE_UADDR_COUNT + 4 ≤ (updating 2 0x15FC).get R.WEDGE_ULEN_LEN ∧
    paging.ustate = 2 ∧ paging.nor.programming = true ∧ (updating 3 0x1600).ustate = 3 ∧
    ({ updating 3 0x1600 with sec := { jobs := [.verify] } }.ustate = 3 ∧
      { updating 3 0x1600 with sec := { jobs := [.verify] } }.sec.jobs.head? = some .verify) ∧
    (updating 3 0x1600).sec.jobs.head? ≠ some .verify ∧ (updating 5 0x1600).ustate = 5 := by
  decide +kernel

/-- A lifecycle in force in READY. -/
def inState (l : Lifecycle) : State := { ready with sec := { lc := l } }
theorem witness_LifecycleAndKeysComplete :
    (ready.raise R.CONE_STAT_RUNNING).secWrite .cone State.debugSec = true ∧ ready.secWrite .hspi State.debugSec = true ∧
    (inState .blank).secWrite .debug State.debugSec = true ∧
    (inState .develop).lcCode 2 false ≠ 0 ∧ (lifecycleOf 2 = some .develop ∧ (inState .manufacture).lcCode 2 false = 0) ∧
    (inState .rma).keyCode 2 ≠ 0 ∧ (inState .blank).keyCode 2 = 0 ∧ (2 : Fin 4).val < 3 ∧ (inState .manufacture).keyCode 3 = 0 ∧
    ((inState .rma).otp.imgKey < 2 ^ 256 ∧ (inState .rma).otp.seed < 2 ^ 256 ∧ ((inState .blank).otp.key 2).hash = 0 ∧
      (inState .manufacture).otp.imgKey = 0) := by decide +kernel

/-- DEVELOP with an identity; the same with a challenge standing for a debug unlock, and two failures. -/
def named : State := ((inState .develop).raise R.SEC_STAT_IDRDY).put R.SEC_DBGCTL_PURPOSE 1
def challenged : State := { (named.raise R.SEC_DBGSTAT_CHVALID).put R.SEC_DBGSTAT_FAILS 2 with sec := { lc := .develop, purpose := 1 } }
theorem witness_AttestationAndAuthorisationComplete :
    named.secWrite .hspi State.debugSec = true ∧ ready.attCode ≠ 0 ∧ ready.secWrite .hspi State.debugSec = true ∧ named.attCode = 0 ∧
    (let s := { named.raise R.SEC_ATTSTAT_BUSY with sec := { lc := .develop, jobs := [.report] } }
     s.on R.SEC_ATTSTAT_BUSY = true ∧ s.sec.jobs.head? = some .report ∧ s.dev ≠ .safeHold) ∧
    named.on R.SEC_ATTSTAT_BUSY = false ∧
    (named.raise R.SEC_ATTSTAT_BUSY).sec.jobs.head? ≠ some .report ∧ named.secWrite .hspi State.debugChal = true ∧
    (cone.secWrite .cone State.debugChal = true ∧ Requester.hspi ≠ .cone) ∧
    (named.put R.SEC_RESPPTR_WORD 1339).get R.SEC_RESPPTR_WORD < 1340 ∧
    named.chCode (named.get R.SEC_DBGCTL_PURPOSE) = 0 ∧ ready.chCode (ready.get R.SEC_DBGCTL_PURPOSE) ≠ 0 ∧
    (named.raise R.SEC_DBGSTAT_BUSY).on R.SEC_DBGSTAT_BUSY = true ∧ named.on R.SEC_DBGSTAT_BUSY = false ∧
    named.on R.SEC_DBGSTAT_CHVALID = false ∧ challenged.on R.SEC_DBGSTAT_CHVALID = true ∧
    challenged.tsc < challenged.sec.chalTsc + 1000000000 ∧ challenged.sec.purpose = 1 ∧
    challenged.get R.SEC_DBGSTAT_FAILS = 2 ∧
    { challenged with tsc := 1000000000 }.sec.chalTsc + 1000000000 ≤ { challenged with tsc := 1000000000 }.tsc ∧
    ready.dev ≠ .off ∧ ready.dev ≠ .safeHold ∧ ready.busUp = true ∧ Requester.hspi ≠ .debug ∧ ready.reqActs .hspi = true ∧
    hold.dev = .safeHold ∧ hold.busUp = true ∧
    (ready.raise R.SEC_RNGSTAT_FAIL).on R.SEC_RNGSTAT_FAIL = true ∧ ready.on R.SEC_RNGSTAT_FAIL = false := by decide +kernel

/-! Queues, CAN, Ethernet, host port. -/

/-- Queue 31 of one unit from the host to the host, in word or packet mode, holding `n` words. -/
def queued (packet : Bool) (n : Nat) (x : Queue) : State :=
  { (((ready.put (R.QUE_QCFG_PROD 31) 3).put (R.QUE_QCFG_CONS 31) 3).put (R.QUE_QCFG_SIZE 31) 1).putB (R.QUE_QCFG_MODE 31) packet with
    queues := [(31, { x with ents := List.replicate n (entry 7 markData) })] }
theorem witness_QueuesAreFirstInFirstOut :
    ready.mayWrite .hspi = true ∧ ready.get (R.QUE_QCFG_PROD 31) ≠ reqUnit .hspi ∧ (queued false 511 {}).mayWrite .hspi = true ∧
    (queued false 511 {}).get (R.QUE_QCFG_PROD 31) = reqUnit .hspi ∧ (queued false 511 {}).dprDue = none ∧
    { queued false 511 {} with dprDue := some 1 }.dprDue ≠ none ∧ (queued false 511 {}).qPacket 31 = false ∧
    1 ≤ (queued false 511 {}).qRoom 31 ∧ (queued false 512 {}).qRoom 31 = 0 ∧
    (queued false 511 { edge := some (0, 512, 1) }).qRoom 31 = 0 ∧ (queued true 509 {}).qPacket 31 = true ∧
    ((queued true 509 {}).queue 31).dropping = false ∧ ((queued true 509 {}).queue 31).openP = false ∧ 3 ≤ (queued true 509 {}).qRoom 31 ∧
    ((queued true 510 { openP := true }).queue 31).openP = true ∧ 2 ≤ (queued true 510 { openP := true }).qRoom 31 ∧
    1 ≤ (queued true 511 {}).qRoom 31 ∧ ready.get (R.QUE_QCFG_CONS 31) ≠ reqUnit .hspi ∧ ready.busUp = true ∧
    ready.reqActs .hspi = true ∧ (debugger.reqActs .debug = true ∧ debugger.debugFull = true) ∧
    (queued false 1 {}).get (R.QUE_QCFG_CONS 31) = reqUnit .hspi ∧ ((queued false 0 {}).queue 31).ents = [] ∧
    ((queued false 1 {}).queue 31).ents = [entry 7 markData] ∧ (queued false 1 {}).deliverable 31 = true := by decide +kernel

/-- CAN3 on the bus with a frame waiting, and the same with its attempt in progress. -/
def frame0 : CanFrame := { d0 := 2 ^ 44, d1 := 0, data := [], slot := none }
def onBus : State := { run.put (R.CAN_CFG_MODE 3) 1 with can := [(3, { integrated := true, tx := [frame0] })] }
def sending : State := { onBus.raise (R.CAN_TXSTAT_HEADACT 3) with can := [(3, { integrated := true, tx := [frame0], seen := true })] }
def delaying : State := { (onBus.raise (R.CAN_TXSTAT_HEADACT 3)).raise (R.CAN_TDC_TDCEN 3) with
  can := [(3, { integrated := true, tx := [{ frame0 with d0 := 3 * 2 ^ 44 }] })] }
/-- Queue 31 carries one packet to CAN3, or to the Ethernet MAC. -/
def feeding (unit a b : Nat) : State :=
  { (((run.put (R.QUE_QCFG_CONS 31) unit).put (R.QUE_QCFG_SIZE 31) 1).raise (R.QUE_QCFG_MODE 31)).put (R.CAN_CFG_MODE 3) 1 with
    queues := [(31, { ents := [entry 0 markHdr, entry a markData, entry b markEnd] })] }
theorem witness_CanTransmissionCompletes :
    onBus.canMayStart 3 = true ∧ sending.canAct 3 = true ∧ delaying.canAct 3 = true ∧ delaying.canTdc 3 = true ∧
    (delaying.canx 3).seen = false ∧ (sending.canx 3).seen = true ∧
    (sending.canx 3).once = false ∧ (sending.canx 3).sleepReq = false ∧ (sending.canx 3).tx = frame0 :: [] ∧
    (sending.canx 3).orphan = none ∧ d1Echo frame0.d1 = false ∧ sending.canMode 3 ≠ 3 ∧ onBus.mayWrite .hspi = true ∧ 3 < onBus.nCan ∧
    onBus.canAct 3 = false ∧ (onBus.put (R.CAN_STAT_ESTATE 3) 2).canEstate 3 = 2 ∧ (onBus.put (R.CAN_STAT_ESTATE 3) 3).canRuns 3 = true ∧
    (onBus.put (R.CAN_STAT_ESTATE 3) 3).canEstate 3 = 3 ∧ run.consQueue (0x0E + 3) = none ∧
    (let s := feeding 0x11 (2 ^ 44) 0
     s.consQueue (0x0E + 3) = some 31 ∧ s.canQueues 3 = true ∧ s.canMode 3 ≠ 2 ∧ (s.canx 3).tx.length < 32 ∧ s.qPacket 31 = true ∧
     (s.queue 31).ents = [entry 0 markHdr, entry (2 ^ 44) markData, entry 0 markEnd] ∧ (0 : Nat).testBit 0 = false ∧
     s.frameOk 3 [2 ^ 44, 0] = true) := by decide +kernel

/-- CAN0 in SAFE_HOLD with slot 3 timed and due in cycle 1, its FIFO as given; the present cycle is `c`. -/
def safeBus (c : Nat) (l : List CanFrame) : State :=
  { ((hold.put (R.CAN_CFG_MODE 0) 1).put (R.CAN0_SFCFG_PERIOD 3) 1) with cycle := c, can := [(0, { integrated := true, tx := l, sfDue := [(3, 1)] })] }
/-- CAN3 asleep, listening in wake mode `m`. -/
def asleep (m n : Nat) : State := ((ready.raise (R.CAN_STAT_SLEEPING 3)).put (R.CAN_WAKECFG_WMODE 3) m).put (R.CAN_WAKESTAT_FECNT 3) n
theorem witness_CanReceptionAndWakeComplete :
    onBus.canOnBus 3 = true ∧ onBus.canMode 3 ≠ 3 ∧ onBus.d0Ok 3 (2 ^ 44) = true ∧
    ((2 ^ 44 : Nat).testBit 47 && decide (d0Fmt (2 ^ 44) = 1)) = false ∧ 0 = d0Bytes (2 ^ 44) ∧ onBus.dev ≠ .safeHold ∧
    onBus.canFilter 3 (2 ^ 44) = none ∧ (onBus.raise (R.CAN_CFG_NOMATCH 3)).canFilter 3 (2 ^ 44) = some 0xFF ∧
    (safeBus 1 []).dev = .safeHold ∧ (safeBus 1 []).canRuns 0 = true ∧ Sparse.get 0 ((safeBus 1 []).canx 0).sfDue 3 = 1 ∧ 1 ≤ (safeBus 1 []).cycle ∧
    (safeBus 0 []).cycle < 1 ∧ (∀ f ∈ ((safeBus 1 []).canx 0).tx, f.slot ≠ some 3) ∧
    (∃ f ∈ ((safeBus 1 [{ frame0 with slot := some 3 }]).canx 0).tx, f.slot = some 3) ∧ Sparse.get 0 (hold.canx 0).sfDue 3 = 0 ∧
    onBus.mayWrite .hspi = true ∧ 3 < onBus.nCan ∧ onBus.canAsleep 3 = false ∧ onBus.canAct 3 = false ∧ (asleep 1 0).canAsleep 3 = true ∧
    (asleep 1 0).canListens 3 1 = true ∧ 249 < 250 * ((asleep 1 0).put (R.CAN_WAKECFG_WUPFILT 3) 1).get (R.CAN_WAKECFG_WUPFILT 3) ∧ (asleep 2 31).canListens 3 2 = true ∧
    (asleep 2 31).wakeMatch 3 false 0 0 [] = true ∧ (asleep 2 31).wakeMatch 3 true 0 0 [] = false ∧
    (asleep 2 31).get (R.CAN_WAKESTAT_FECNT 3) = 31 ∧ (asleep 2 30).get (R.CAN_WAKESTAT_FECNT 3) < 31 := by decide +kernel

/-- Command words with the CRC each needs. -/
def crcOf (cmd : Nat) : Nat := crc8 (bitsMsb 32 cmd)
theorem witness_HostFramesComplete :
    ready.hspiAnswers = true ∧ ready.dev ≠ .banked ∧ ready.stopped 6 = false ∧ hold.hspiAnswers = true ∧
    (0x80000044#32 : Word) ≠ 0x40000000#32 ∧ 39 < 40 ∧ crcOf 0x80000044 < 256 ∧ (crcOf 0x80000044 + 1) % 256 ≠ crcOf 0x80000044 ∧
    ¬(slice 0x41000000 24 7 = 0) ∧ slice 0x80000044 24 7 = 0 ∧ 0x80000044 % 4 = 0 ∧ ¬(0x80000045 % 4 = 0) ∧
    (0x80000044#32 : Word).getLsbD 31 = true ∧ (0x00000044#32 : Word).getLsbD 31 = false ∧
    crc8 (bitsMsb 64 (0x80000044 * 2 ^ 32)) < 256 ∧ ready.absentAddr 0x40000044 = false ∧ crcOf 0x40000000 < 256 := by decide +kernel
theorem witness_InterconnectAccessesComplete :
    ready.busUp = true ∧ ready.mayWrite .hspi = true ∧ Requester.hspi ≠ .debug ∧ 0x40000044 % 4 = 0 ∧ ready.absentAddr 0x40000044 = false ∧
    hold.scanning = false ∧ hold.mayBus .hspi = false ∧ ready.reqReaches .debug 0x40000044 = false ∧ ready.absentAddr 0x50000000 = true ∧
    ready.reqActs .hspi = true ∧ ready.reqReaches .hspi (lowHalf 0) = true ∧ ready.reqReaches .hspi (lowHalf 0 + 4) = true := by decide +kernel

def linked : State := ((run.raise R.ETH_CFG_EN).put R.ETH_CFG_POLLMS 1).raise R.ETH_STAT_LINK
/-- The same on RGMII, its PHY's poll in progress. -/
def polling : State := { linked.put R.ETH_CFG_IF 1 with eth := { polling := true } }
def fedMac (a b : Nat) : State :=
  { (((linked.put (R.QUE_QCFG_CONS 31) 0x0C).put (R.QUE_QCFG_SIZE 31) 1).raise (R.QUE_QCFG_MODE 31)) with
    queues := [(31, { ents := [entry 0 markHdr, entry a markData, entry b markEnd] })] }
theorem witness_EthernetCommandsComplete :
    polling.polls = true ∧ polling.eth.polling = true ∧ linked.eth.polling = false ∧ linked.ethRuns = true ∧ linked.get R.ETH_CFG_POLLMS ≠ 0 ∧
    (linked.put R.ETH_CFG_POLLMS 0).get R.ETH_CFG_POLLMS = 0 ∧ linked.dev ≠ .safeHold ∧ linked.stopped 1 = false ∧
    (linked.put R.ETH_CFG_IF 2).get R.ETH_CFG_IF = 2 ∧ phyMode 0x100 0x100 0 0 = some (1, false) ∧ phyMode 0 0 0x200 0x800 = some (2, false) ∧
    linked.hasEth = true ∧ linked.mayWrite .hspi = true ∧ linked.on R.ETH_MDIO_GO = false ∧
    (linked.raise R.ETH_MDIO_GO).on R.ETH_MDIO_GO = true ∧
    (let s := { run.put R.PWR_WAKEEN_EN 0x10 with eth := { asleep := true } }
     s.busUp = true ∧ s.eth.asleep = true ∧ s.stopped 1 = false ∧ s.bit R.PWR_WAKEEN_EN 4 = true) ∧
    linked.consQueue 0x0C = none ∧
    (let s := fedMac 0x10002 0
     s.consQueue 0x0C = some 31 ∧ s.ethRuns = true ∧ s.on R.ETH_STAT_LINK = true ∧ s.on R.ETH_STAT_HDX = false ∧
     s.eth.waitPoll = false ∧ s.eth.txPart = [] ∧ s.qPacket 31 = true ∧
     (s.queue 31).ents = [entry 0 markHdr, entry 0x10002 markData, entry 0 markEnd] ∧ (s.ethFrame [0x10002, 0]).isSome = true) ∧
    (fedMac 0x0D 0).ethFrame [0x0D, 0] = none ∧
    (linked.raise R.ETH_CFG_PROMISC).ethMine 0 = true ∧ linked.prodQueue 0x09 = none ∧
    (((linked.put (R.QUE_QCFG_PROD 0) 9).put (R.QUE_QCFG_SIZE 0) 1).prodQueue 0x09) = some 0 := by decide +kernel

/-! Shard log, power, self-test. -/

/-- The recorder in state `n`, one LUN in use with k = 1, its log as `f` makes it. -/
def recorder (n : Nat) (f : Shard → Shard) : State :=
  { ((ready.put R.REC_STAT_STATE n).put R.NANDIF_STAT_K 1).put R.NANDIF_LUNST_USED 1 with shard := f {} }
/-- A record of one word, and the unit that takes it, its pages on block 3. -/
def rec0 : Rec := { type := 1, flags := 0, body := [0], seq := 1, tsc := 0, bootno := 0, spans := [(0, 8)] }
def unit0 (m : Bool) (r : Nat) : CommitUnit :=
  { seq := 1, k := 1, first := 0, count := 8, recs := [rec0], pages := [(0, ⟨0, 3, 0⟩), (1, ⟨0, 3, 1⟩)], meta_ := m, retries := r }
/-- A formatted medium that holds that unit. -/
def med0 : Medium := { headers := [(0, (1, 1))], blocks := [(3, { used := 2 })], log := [unit0 true 0] }
/-- Input 2 fed by queue 31, which holds a packet. -/
def recFed : State :=
  { ((((((recorder 3 id).raise R.REC_CFG_EN).raise (R.REC_IN_EN 2)).put (R.REC_IN_KIND 2) 2).put (R.REC_IN_QUEUE 2) 31).put
      (R.QUE_QCFG_SIZE 31) 1).raise (R.QUE_QCFG_MODE 31) with
    queues := [(31, { ents := [entry 0 markHdr, entry 1 markData, entry 0 markEnd] })] }
/-- A page of block 3 of LUN 0, read once with the bit errors given. -/
def page1 (n : Nat) (e : List Nat) : PageRead := { lun := 0, block := 3, page := n, tries := [e] }
/-- A readout of that record from its word `n` on, into queue 31 of 512 entries. -/
def reading (n : Nat) : State :=
  (((recorder 3 fun x => { x with med := med0, rd := some (rec0, n) }).raise R.REC_STAT_RDBUSY).put (R.QUE_QCFG_PROD 31) 0x0A).put (R.QUE_QCFG_SIZE 31) 1
theorem witness_ShardLogCompletes :
    (let s := { recorder 3 (fun x => { x with wbuf := [(8, rec0)], inBytes := 8, closedAt := some 0, units := [unit0 true 0] }) with cycle := 1200000 }
     s.recStarts = true ∧ s.shard.unitFree = true ∧ s.shard.due = false ∧ s.unitLate = true ∧ { s with cycle := 1199999 }.unitLate = false) ∧
    (let s := recorder 3 fun x => { x with due := true }
     s.recStarts = true ∧ s.shard.unitFree = true ∧ s.shard.due = true ∧ s.shard.recheckAt ≤ s.cycle) ∧
    (recorder 3 fun x => { x with recheckAt := 1 }).cycle < (recorder 3 fun x => { x with recheckAt := 1 }).shard.recheckAt ∧
    (let s := recorder 3 fun x => { x with units := [unit0 false 0, unit0 false 0] }
     s.unitsGo = true ∧ s.shard.units = unit0 false 0 :: [unit0 false 0] ∧ (unit0 false 0).meta_ = false ∧ (unit0 false 0).placed = true ∧
     s.shard.due = false ∧ s.unitFull = false ∧ (unit0 false 0).programs 0 = some (0, ⟨0, 3, 0⟩) ∧ s.shard.parking = false ∧ s.dev ≠ .safeHold) ∧
    ((recorder 5 id).recStarts = false ∧ { recorder 3 id with dev := .safeHold }.recStarts = false ∧ { recorder 3 id with dev := .safeHold }.unitsGo = true) ∧
    ((unit0 true 0).meta_ = true ∧ (unit0 true 0).programs 0 = some (1, ⟨0, 3, 1⟩) ∧ (unit0 true 0).programs 1 = none) ∧
    (unit0 true 0).retries < ((recorder 3 id).put R.NANDIF_CFG_PRETRY 1).get R.NANDIF_CFG_PRETRY ∧
    ((recorder 3 id).put R.NANDIF_CFG_PRETRY 1).get R.NANDIF_CFG_PRETRY ≤ (unit0 true 1).retries ∧
    (let s := recorder 3 id
     s.hasShard = true ∧ s.recAlive = true ∧ s.shard.med.good 0 5 = true ∧ (s.shard.med.block (blockKey 0 5)).used = 0 ∧
     s.lunsUsed.testBit 0 = true ∧ (s.put R.NANDIF_CFG_PRETRY 0).get R.NANDIF_CFG_PRETRY = 0) ∧
    (recorder 3 id).mayWrite .hspi = true ∧ (recorder 3 id).recRuns = true ∧
    ((recorder 3 fun x => { x with streams := [(0, { capturing := true })] }).stream 0).capturing = true ∧
    (let s := ((recorder 3 id).raise (R.REC_IN_EN 0)).put (R.REC_IN_KIND 0) 1
     (s.stream 0).capturing = false ∧ s.streamOn 0 = true ∧ (s.stream 0).waitRow = none) ∧
    (recorder 5 id).recState = recStalled ∧ (recorder 3 id).recState ≠ recStalled ∧ (recorder 3 id).on R.REC_STAT_RDBUSY = false ∧
    (reading 0).on R.REC_STAT_RDBUSY = true ∧ (recorder 3 id).shard.rdWait = false ∧ (recorder 1 id).recState = recMounting ∧
    (recorder 3 id).recState ≠ recMounting ∧ (recorder 3 id).prodQueue 0x0A = none ∧
    (let s := (reading 0).clear R.REC_STAT_RDBUSY
     s.prodQueue 0x0A = some 31 ∧ (s.put R.REC_RDARG_SEQ 1).rdFind = some rec0 ∧ s.rdFind = none ∧ s.on R.REC_STAT_RDBUSY = false) ∧
    (recorder 3 id).dev = .ready ∧ (recorder 3 id).recState = recActive ∧ (recorder 4 id).recState = recParked ∧ run.dev ≠ .ready := by
  decide +kernel
theorem witness_ShardLogCompletes_medium :
    (recorder 2 id).recState = recFormatting ∧ (recorder 2 id).recAlive = true ∧ (recorder 2 id).shard.parking = false ∧
    (recorder 1 id).recState = recMounting ∧ (recorder 1 id).recAlive = true ∧ (recorder 1 id).shard.fmtWait = false ∧
    (recorder 1 id).shard.parking = false ∧ (recorder 1 id).dev ≠ .safeHold ∧
    (recorder 1 fun x => x.modMed fun m => { m with info := { m.info with onfi0 := false } }).shard.med.info.ok = false ∧
    ((recorder 1 id).shard.med.info.ok = true ∧ (recorder 1 id).shard.med.info.found ≠ 0 ∧ (recorder 1 id).shard.med.formatted = false ∧
      ((recorder 1 id).clear R.REC_CFG_AUTOFMT).on R.REC_CFG_AUTOFMT = false) ∧
    (recorder 1 fun x => { x with med := med0 }).shard.med.formatted = true ∧
    (let s := (recorder 3 fun x => { x with med := med0 }).raise R.REC_STAT_SCRUBBUSY
     s.on R.REC_STAT_SCRUBBUSY = true ∧ s.recRuns = true ∧ s.shard.due = false ∧ s.shard.med.recs = [rec0] ∧
     s.recBad [page1 0 [40]] rec0 = false ∧ s.recBad [page1 1 [0, 41]] rec0 = true) ∧
    (recorder 3 fun x => { x with due := true }).shard.due = true ∧
    (reading 0).rdRuns = true ∧ ((reading 0).put (R.QUE_QCFG_PROD 31) 0).prodQueue 0x0A = none ∧
    (let s := reading 0
     s.prodQueue 0x0A = some 31 ∧ s.dprDue = none ∧ s.rdNeed 31 (s.shard.rdWords.take 512).length ≤ s.qRoom 31 ∧
     s.rdBad [page1 0 [40]] (s.shard.rdWords.take 512).length = none ∧ s.rdBad [page1 0 [41]] (s.shard.rdWords.take 512).length ≠ none ∧
     (s.put R.NANDIF_RDLIM_LIMIT 0).get R.NANDIF_RDLIM_LIMIT = 0) ∧
    (let s := { (reading 0).raise (R.QUE_QCFG_MODE 31) with queues := [(31, { ents := List.replicate 507 (entry 0 0) })] }
     s.prodQueue 0x0A = some 31 ∧ s.qRoom 31 < s.rdNeed 31 (s.shard.rdWords.take 512).length) ∧
    (let s := { recorder 3 (fun x => { x with draining := true }) with dev := .safeHold }
     s.dev = .safeHold ∧ s.shard.draining = true ∧ s.shard.drainEnd ≤ s.cycle) ∧
    (recorder 3 fun x => { x with drainEnd := 1 }).cycle < (recorder 3 fun x => { x with drainEnd := 1 }).shard.drainEnd ∧
    (recFed.hasShard = true ∧ recFed.recState = recActive ∧ recFed.on R.REC_CFG_EN = true ∧ recFed.recStarts = true ∧
      ((List.range 8).map fun i => (recFed.shard.rr + 1 + i) % 8).find? recFed.inReady = some 2) ∧
    (let s := (recorder 3 id).raise R.REC_CFG_EN
     s.recStarts = true ∧ ((List.range 8).map fun i => (s.shard.rr + 1 + i) % 8).find? s.inReady = none) := by decide +kernel

/-- A BANKED entry that waits for block `b`. -/
def entering (b : Nat) : State := (ready.put R.PWR_BSTAT_STEP b).put R.PWR_WAKEEN_EN 0x40
/-- BANKED, taken in the present FABCLK cycle. -/
def bankedNow : State := { cone with dev := .banked }
theorem witness_SleepAndBankedComplete :
    ready.mayWrite .hspi = true ∧ ready.dev = .ready ∧ run.dev = .run ∧ hold.mayWrite .cone = true ∧ hold.dev ≠ .ready ∧ hold.dev ≠ .run ∧
    Requester.cone ≠ .debug ∧ (ready.put R.PWR_WAKEEN_EN 0).enterRefusal ≠ 0 ∧ (ready.put R.PWR_WAKEEN_EN 0x40).enterRefusal = 0 ∧ (entering 1).entering = true ∧
    ready.entering = false ∧ (entering 6).dev = .ready ∧ (entering 6).blkReady 6 = true ∧ (entering 6).get R.PWR_BSTAT_STEP = 6 ∧
    (entering 6).nextBlk 7 = some 7 ∧ (entering 15).blkReady 15 = true ∧ (entering 15).nextBlk 16 = none ∧
    (entering 6).blkRefuses 6 = true ∧
    ((entering 5).dmax 5 ≠ 0 ∧ { entering 5 with cycle := 3000000 }.pwr.askAt + 600 * (entering 5).dmax 5 ≤ 3000000 ∧
      2999999 < (entering 5).pwr.askAt + 600 * (entering 5).dmax 5) ∧ (entering 6).pwr.prep = false ∧ (entering 6).pwr.fired = 0 ∧
    (overtakenS.overtaken .hspi = true ∧ overtakenS.dev ≠ .banked ∧ bankedNow.overtaken .cone = true ∧ bankedNow.dev = .banked) ∧
    (let s := entering 8
     ((0x40#9 : BitVec 9).getLsbD 6 = true ∧ s.wakeArmed 6 = true ∧ s.dev = .ready ∧ s.entering = true) ∧
     ({ s with dev := .banked, pwr := { fired := 0x40 } }.pwr.fired.testBit 6 = true ∧ { s with dev := .banked }.wakeArmed 6 = true)) ∧
    ¬(∃ i : Fin 9, ((0#9 : BitVec 9).getLsbD i.val = true ∨ ready.pwr.fired.testBit i.val = true) ∧ ready.wakeArmed i.val = true) := by decide +kernel

/-- MANUFACTURE, with patterns and domains set as given. -/
def bist (pat mask : Nat) : State := ((inState .manufacture).put R.BIST_CFG_PATCNT pat).put R.BIST_CFG_MASK mask
def scanRun (b : Bist) : State := { (bist 1 1).raise R.BIST_STAT_RUNNING with bist := b }
theorem witness_SelfTestCompletes :
    cone.mayWrite .cone = true ∧ cone.bistWriter .cone = false ∧ (bist 0 1).mayWrite .hspi = true ∧ (bist 0 1).bistWriter .hspi = true ∧
    (bist 0 1).bistClash = false ∧ { bist 0 1 with cause := some (0, 4) }.bistClash = true ∧
    ({ bist 1 1 with bist := { startDue := true } }.bist.startDue = true ∧ (bist 1 1).cycle % 2 = 0) ∧
    (bist 0 1).dev = .ready ∧ (bist 0 1).entering = false ∧ (bist 0 1).get R.BIST_CFG_PATCNT = 0 ∧ (bist 1 0).get R.BIST_CFG_PATCNT ≠ 0 ∧
    (bist 1 0).get R.BIST_CFG_MASK = 0 ∧ (bist 1 1).get R.BIST_CFG_PATCNT ≠ 0 ∧ (bist 1 1).get R.BIST_CFG_MASK ≠ 0 ∧
    ((scanRun { count := 1 }).scanning = true ∧ (scanRun { count := 1 }).bistWriter .debug = true ∧ (scanRun { count := 1 }).patterning = true ∧ (scanRun { count := 1 }).bistOver = false) ∧
    Requester.hspi ≠ .debug ∧ (runBroken 296999 800 = some 3 ∧ runBroken 303000 779 = some 4 ∧ runBroken 297000 841 = some 5) ∧
    ((scanRun { restore := some 0 }).scanning = true ∧ (scanRun { restore := some 0 }).bistOver = true ∧
      (scanRun { restore := some 0 }).patterning = false ∧ (scanRun { restore := some 0 }).bist.broken = 0) ∧
    (scanRun { restore := some 0, broken := 3 }).bist.broken ≠ 0 ∧ (scanRun { restore := some 0, stopped := true }).bist.stopped = true ∧
    ready.scanning = false := by decide +kernel

/-! More clauses of the statements above. -/

/-- Encoder 1 past its first Z, with a tolerance of 1, at a count one, or two, from ZPOS = 0 around the modulus. -/
def zSeen (p : Nat) : State := (((rotary.raise (R.POS_ESTAT_ZSEEN 1)).put (R.POS_ECPR_CPR 1) 100).put (R.POS_ECFG_ZTOL 1) 1).put (R.POS_ECNT_POSCNT 1) p
/-- Hall set 1 with its six sectors 43 apart, in the order 5, 1, 3, 2, 6, 4. -/
def hallSix : State := (((((rotary.put (R.POS_HANG0_ANG1 1) 43).put (R.POS_HANG0_ANG3 1) 85).put (R.POS_HANG0_ANG2 1) 128).put
  (R.POS_HANG1_ANG6 1) 171).put (R.POS_HANG0_ANG4 1) 213)
theorem witness_RotarySensorsComplete_later :
    (let far := fun (s : State) => s.get (R.POS_ECFG_ZTOL 1) <
        min ((0 + 100 - s.get (R.POS_ECNT_POSCNT 1) % 100) % 100) ((s.get (R.POS_ECNT_POSCNT 1) + 100 - 0) % 100)
     (zSeen 99).on (R.POS_ESTAT_ZSEEN 1) = true ∧ ¬far (zSeen 99) ∧ ¬far (zSeen 1) ∧ far (zSeen 98) ∧ far (zSeen 2) ∧
     (zSeen 98).on (R.POS_ECFG_ZRST 1) = false) ∧
    (speeding.enc 1).spd = some (8, 0x3F800000#32) ∧ ¬(8 ≤ { speeding with cycle := 31 }.cycle / 4) ∧ 8 ≤ { speeding with cycle := 32 }.cycle / 4 ∧
    (hallSix.hallNext 1 5 = 1 ∧ hallSix.hallNext 1 4 = 5 ∧ hallSix.hallNext 1 5 ≠ 3 ∧ hallSix.hallNext 1 3 ≠ 5) ∧
    (rotary.hallSet 1).tLast = none ∧ (0 : Nat) < (hallTimed 600).per ∧ ((hallTimed 600).hallSet 1).tLast = some 0 := by decide +kernel
/-- RUN with the next turn due, loop 7 in state `st` since `n` turns with closing and opening taking 3 more, ramp 7 bound to it. -/
def ramping (st n : Nat) : State :=
  { (((((armed.put (R.LOOP_LSTAT_STATE 7) st).put (R.LOOP_CFG_CLOSEN 7) 3).put (R.LOOP_CFG_OPENN 7) 3).put (R.LOOP_RCFG_LOOPSEL 7) 7).raise
      (R.LOOP_RCFG_BOUND 7)).put (R.LOOP_RRISE_VALUE 7) 0x3F800000 with loops := [(7, { cnt := n, meas := true })] }
/-- RCU channel 7 learning on closed loop 7, its angle taken, its speed from Hall set 1, which is valid. -/
def learning : State :=
  { (((((((run.put (R.LOOP_LSTAT_STATE 7) 2).raise (R.RCU_CFG_LEARN 7)).raise (R.RCU_CFG_BOUND 7)).put (R.RCU_CFG_LOOPSEL 7) 7).put
      (R.RCU_BETA_VALUE 7) 0x3F000000).put (R.RCU_CFG_SPDSRC 7) 7).raise (R.POS_HCFG_EN 1)) with
    pos := { hall := [(1, { last := 5 })] }, rcu := { angle := [(7, some 0x3F7FFFFF#32)] } }
theorem witness_LoopsRampsAndRcu :
    ((ramping 2 0).dev = .run ∧ (ramping 2 0).wheel.matched = true ∧ (ramping 2 0).cycle = (ramping 2 0).wheel.matchAt + 4) ∧
    ((ramping 1 3).loop 7).cnt + 1 = (ramping 1 3).get (R.LOOP_CFG_CLOSEN 7) + 1 ∧ ((ramping 3 2).loop 7).cnt + 1 < (ramping 3 2).get (R.LOOP_CFG_OPENN 7) + 1 ∧
    (ramping 1 3).on (R.LOOP_RCFG_BOUND 7) = true ∧ (ramping 1 3).turnStart.loopState 7 = 2 ∧ (ramping 2 0).turnStart.loopState 7 = 2 ∧
    (ramping 3 2).turnStart.loopState 7 = 3 ∧ (ramping 3 3).turnStart.loopState 7 = 0 ∧ (ramping 1 2).turnStart.loopState 7 = 1 ∧
    (armed.on (R.LOOP_RCFG_BOUND 0) = false) ∧ (asked.runDue = true ∧ asked.dev = .ready ∧ asked.cycle % 2 = 0) ∧
    run.rcu.err = [] ∧ qWord 0x7F800000#32 = none ∧ (qWord 0x3F7FFFFF#32).isSome = true ∧
    Fp32.notFinite 0x3F800000#32 = false ∧ learning.posValid 7 = true ∧ learning.loopState 7 = 2 ∧ learning.on (R.LOOP_LSTAT_FBL 7) = false ∧
    learning.on (R.RCU_CFG_LEARN 7) = true ∧ Fp32.eq (learning.word (R.RCU_BETA_VALUE 7)) 0#32 = false ∧ learning.on (R.RCU_CFG_BOUND 7) = true ∧
    Fp32.lt (Fp32.abs (learning.posValue 7)).v (learning.word (R.RCU_SPDMIN_VALUE 7)) = false ∧
    Sparse.get none learning.rcu.angle 7 = some 0x3F7FFFFF#32 ∧ run.on (R.RCU_CFG_LEARN 7) = false ∧
    (let k := (qFloor (qAdd (qMul ((qWord 0x3F7FFFFF#32).getD (0, 1)) (qInt 2048)) (1, 2)) % 2048).toNat
     k = 0 ∧ learning.wheel.inflight = [] ∧
     { learning with wheel := { inflight := [(3, .rcuWrite 7 0 1#32)] } }.wheel.inflight.getLast? = some (3, .rcuWrite 7 k 1#32)) := by decide +kernel
/-- RUN in cycle 100 with COMM land edges due in cycles 100 and 101, inverter A following the land. -/
def landing2 : State := { run.put (commSrc 0) 2 with cycle := 100, pwm := { landAt := [100, 101] } }
theorem witness_PwmEventsComplete_lands :
    landing2.dev = .run ∧ landing2.on R.PWM_DBG_FROZEN = false ∧ (∃ d ∈ landing2.pwm.landAt, d ≤ landing2.cycle) ∧
    2 ≤ landing2.get (commSrc 0) ∧ landing2.get (commSrc 1) < 2 ∧ (∀ d ∈ ({ landing2 with cycle := 99 } : State).pwm.landAt, 99 < d) ∧
    15 = max 1 ((waiting.put R.PWM_COMMCFG_FILT 15).get R.PWM_COMMCFG_FILT) ∧ 0 ≠ max 1 (waiting.get R.PWM_COMMCFG_FILT) ∧
    (let s := waiting.put (R.PWM_DTACT_DTR 5) 31
     s.slack = 31 ∧ (s.gen 5).offL + s.get (R.PWM_DTACT_DTR 5) ≤ s.edgeTime 0 + s.slack) := by decide +kernel
theorem witness_IslandFaultsTurnOff_unready :
    (let x := (isle .ready fun x => { x with suprdy := false }).island 11
     x.powered = true ∧ x.suprdy = false ∧ (130 + 5 * (x.cfg.otth : Int)) * 16 < 2561 ∧ ¬(130 + 5 * (x.cfg.otth : Int)) * 16 < 2560) ∧
    ¬scThreshold (conducting.island 11).cfg < 400 := by decide +kernel
theorem witness_IslandTimersSuppliesAndEnComplete_partial :
    (let x := (isle .ready fun x => { x with suprdy := false, lowC := true, lowE := true, otcond := true }).island 11
     x.suprdy = false ∧ x.otcond = true ∧ (10799 : Int) < 10800 + 500 * (x.cfg.vccth : Int) ∧ x.cfg.vneg = false) ∧
    ((isle .ready fun x => { x with cfg := { vneg := true } }).island 11).cfg.vneg = true ∧ ((-500 : Int) ≤ 500 ∧ ¬(501 : Int) ≤ 500) := by
  decide +kernel
/-- Island 11 trained, with an exchange due now that will match or not, and one behind it. -/
def exchanging (ok : Bool) (f : Isl → Isl) : State :=
  { (isle .ready f).raise (R.ISL_LSTAT_TRAINED 11) with islWrites := [(11, [(0, ok), (9, true)])] }
theorem witness_IslandTelemetryAndLinkComplete_exchange :
    Sparse.get [] (exchanging true id).islWrites 11 = (0, true) :: [(9, true)] ∧ 0 ≤ (exchanging true id).cycle ∧
    ((exchanging true id).island 11).powered = true ∧ ((exchanging true id).island 11).lost = false ∧
    Sparse.get [] (exchanging false id).islWrites 11 = (0, false) :: [(9, true)] ∧
    ((exchanging true fun x => { x with powered := false }).island 11).powered = false ∧
    ((exchanging true fun x => { x with lost := true }).island 11).lost = true ∧ Sparse.get [] ready.islWrites 11 = [] ∧
    { ready.put R.PWR_BSTAT_STEP 14 with pwr := { agreed := [13] } }.stopped 13 = true ∧ ready.stopped 13 = false := by decide +kernel
/-- Phase comparator 11 for inverter B, the DC links of B watched, with limits of 1,000 and 3,000 codes of 2.5 V. -/
def watched : State :=
  (((((((cone.put (R.SAGGAR_CMPCFG_INV 11) 2).put (R.SAGGAR_CMPTH_HI 11) 3000).put (R.SAGGAR_CMPTH_LO 11) 1000).raise (R.SAGGAR_DCCFG_OVEN 1)).raise
    (R.SAGGAR_DCCFG_UVEN 1)).put (R.SAGGAR_DCTH_OV 1) 3000).put (R.SAGGAR_DCTH_UV 1) 1000).clear R.ADC_CTL_VREFSEL
theorem witness_SaggarInputsComplete_comparators :
    (let s := watched
     let codes := fun uv => 4096 * uv
     let hi := s.get (R.SAGGAR_CMPTH_HI 11)
     let lo := s.get (R.SAGGAR_CMPTH_LO 11)
     (hi * s.vrefUv < codes 1831055 ∧ ¬hi * s.vrefUv < codes 1831054) ∧ (lo ≠ 0 ∧ codes 610351 < lo * s.vrefUv ∧ ¬codes 610352 < lo * s.vrefUv) ∧
     (s.get (R.SAGGAR_CMPCFG_INV 11)).testBit 1 = true ∧
     (codes 1821289 + 16 * s.vrefUv ≤ hi * s.vrefUv ∧ ¬codes 1821290 + 16 * s.vrefUv ≤ hi * s.vrefUv) ∧
     ((lo + 16) * s.vrefUv ≤ codes 620118 ∧ ¬(lo + 16) * s.vrefUv ≤ codes 620117) ∧
     (s.on (R.SAGGAR_DCCFG_OVEN 1) = true ∧ s.get (R.SAGGAR_DCTH_OV 1) * s.vrefUv < codes 1831055) ∧
     (s.on (R.SAGGAR_DCCFG_UVEN 1) = true ∧ codes 610351 < s.get (R.SAGGAR_DCTH_UV 1) * s.vrefUv)) ∧
    (cone.put (R.SAGGAR_CMPTH_LO 11) 0).get (R.SAGGAR_CMPTH_LO 11) = 0 := by decide +kernel
/-- A clear of `f` waiting, with cycle `c` to begin. -/
def clearing (f : Fld) (c : Nat) (s : State) : State := { s.raise f with cycle := c }
/-- READY, the Cone running, the islands of inverter B with power. -/
def quiet : State := { cone with isl := (List.range 6).map fun k => (k + 6, { powered := true }) }
/-- The same in RUN with an enabled current loop 7 on inverter B. -/
def looped : State := { ((quiet.raise (R.LOOP_CFG_EN 7)).put (R.LOOP_CFG_TYPE 7) 1).put (R.LOOP_CFG_INV 7) 1 with dev := .run }
theorem witness_LatchClearsComplete_edges :
    ((clearing R.SAGGAR_CLR_CLRB 5 quiet).tscEdge = false ∧ (clearing R.SAGGAR_CLR_CLRB 6 quiet).tscEdge = true) ∧
    (∀ k : Fin 3, (clearing R.SAGGAR_CLR_CLRB 6 quiet).on (sagClr k.val) = decide (k.val = 1)) ∧
    (∀ k : Fin 3, (clearing R.SAGGAR_CLR_CLRDIS 6 quiet).on (sagClr k.val) = decide (k.val = 2)) ∧
    (clearing R.SAGGAR_CLR_CLRB 6 quiet).judgeAll.clearCode 1 = 0 ∧ (clearing R.SAGGAR_CLR_CLRB 6 cone).judgeAll.clearCode 1 ≠ 0 ∧
    (clearing R.SAGGAR_CLR_CLRDIS 6 quiet).judgeAll.dischClearCode = 0 ∧
    (clearing R.SAGGAR_CLR_CLRDIS 6 (quiet.raise R.SAGGAR_REQ_DISCH)).judgeAll.dischClearCode ≠ 0 ∧
    (looped.dev = .run ∧ looped.on (R.LOOP_INVCFG_HOLD 1) = false ∧ (∃ l : Fin 8, looped.on (R.LOOP_CFG_EN l.val) = true ∧
      looped.get (R.LOOP_CFG_TYPE l.val) = 1 ∧ looped.loopInv l.val = 1) ∧ looped.stuckLatch 1 = false ∧ looped.judgeAll.activeVec 1 = 0) ∧
    ready.coneUp = false ∧ ready.coneActs = false ∧ ready.busUp = true := by decide +kernel
theorem witness_MonitoringComplete_more :
    cone.get R.CONE_SCLR_REQ = 0 ∧
    (let s := { cone with cycle := 600000, cone := { par := [(0x19, 1)] } }
     s.cpar 0x19 ≠ 0 ∧ Sparse.get 0 s.cone.treqAt 1 + 600000 * s.cpar 0x19 ≤ s.cycle ∧ ¬(Sparse.get 0 s.cone.treqAt 1 + 600000 * s.cpar 0x19 ≤ 599999)) ∧
    (let s := { cone.raise R.SAGGAR_REQ_DISCH with cycle := 1200000000, cone := { disAt := some 0 } }
     s.dreq = true ∧ s.on R.CONE_DISCH_DONE = false ∧ s.cone.disSlow = false ∧ s.cone.disAt = some 0 ∧ 0 + 1200000000 ≤ s.cycle) ∧
    cone.cone.disAt = none := by decide +kernel
/-- Safe output 2 with a test that ended in PERCLK cycle 7, as it passed or not, in cycle `c`. -/
def soEnded (pass : Bool) (c : Nat) : State :=
  { soHigh.raise (R.SAFEOUT_CFG_FLTOFF 2) with cycle := c, safe := { so := [(2, { demand := true, ended := some (7, ⟨false, true⟩, pass) })] } }
theorem witness_SafeOutputsComplete_ties :
    (({ soOn with safe := {} }.so 2).ended = none) ∧ (soHigh.so 2).chg ≠ some (soHigh.cycle / 4) ∧
    (let s := { soHigh with safe := { so := [(2, { demand := true, chg := some 0 })] } }
     s.soTests = true ∧ (s.so 2).test = none ∧ (s.so 2).ended = none ∧ s.get (R.SAFEOUT_CFG_OFFW 2) ≠ 0 ∧ (s.so 2).chg = some (s.cycle / 4)) ∧
    ((soEnded true 31).so 2).ended = some (7, ⟨false, true⟩, true) ∧ 31 / 4 ≤ 7 ∧ 7 < (soEnded false 32).cycle / 4 ∧
    (soEnded false 32).on (R.SAFEOUT_OSTAT_SOFLT 2) = false ∧ (soEnded false 32).on (R.SAFEOUT_CFG_FLTOFF 2) = true ∧
    (let s := (soEnded true 31).put R.SAFEOUT_CMD_SO 0
     s.soDemand 2 ≠ (s.so 2).demand) := by decide +kernel
/-- Little-endian bytes at an address, as entries of a table. -/
def bytesAt (a n v : Nat) : Sparse Nat := (bytesLE n v).zipIdx.map fun p => (a + p.2, p.1)
/-- Type, offset and length of the sections of a small image. -/
def imageSects : List (Nat × Nat × Nat) :=
  [(1, 0x440, 128), (2, 0x4C0, 32), (5, 0x500, 8), (6, 0x540, 4), (7, 0x580, 80), (9, 0x600, 8), (11, 0x640, 16)]
/-- Slot A with the header and table of an image of one section of each type it must hold, its signature block begun, and its status words. -/
def imageBytes (magic len superseded : Nat) : Sparse Nat :=
  bytesAt 0 256 (magic + 2 ^ 48 + 2 ^ 64 * len + 2 ^ 96 * 0x680 + 2 ^ 128 * 7) ++
  (imageSects.zipIdx.map fun p =>
    bytesAt (0x100 + 112 * p.2) 112 (p.1.1 + 2 ^ 64 * p.1.2.1 + 2 ^ 96 * p.1.2.2)).flatten ++
  bytesAt 0x680 8 0x0001000047535A56 ++ bytesAt 0xFFF000 8 (superseded * 2 ^ 32)
/-- The Wedge in phase `p` of an attempt on slot A, the NOR holding `b`. -/
def attempt (p pass : Nat) (b : Sparse Nat) : State :=
  { (ready.put R.WEDGE_STAT_PHASE p).put R.WEDGE_XSPI_MODE 4 |>.put R.WEDGE_XSPI_FREQ 100 with
    dev := .wedging, wedge := { due := 0, todo := [(0, pass)] }, nor := { bytes := b } }
def imageA : State := attempt 3 0 (imageBytes 0x4D495A56 0x1B80 0xFFFFFFFF)
/-- An image without sections. -/
def noSects : Sparse Nat := bytesAt 0x10 2 0
/-- The contract of a schedule that is one turn of two bundles, HB and TEND, every 4,000 cycles of timebase 0. -/
def cleanTable : Nat := 0x10000 + 2 ^ 32 * 128 + 2 ^ 64 * 2 + 2 ^ 96 * 3 + 2 ^ 128 * 2 + 2 ^ 144 + 2 ^ 160 * 0xFFFF + 2 ^ 200 + 2 ^ 208 +
  2 ^ 256 * 4000 + 2 ^ 288 * 4000 + 2 ^ 336
/-- An image of that contract and of the turn period it declares, its schedule loaded. -/
def cleanBytes : Sparse Nat :=
  bytesAt 0x10 2 2 ++ bytesAt 0x100 112 (1 + 2 ^ 64 * 0x440 + 2 ^ 96 * 128) ++ bytesAt 0x170 112 (5 + 2 ^ 64 * 0x4C0 + 2 ^ 96 * 8) ++
  bytesAt 0x440 128 cleanTable ++ bytesAt 0x4C0 8 ((R.PWM_TBPER_P 0).addr + 2 ^ 32 * 4000)
def clean : State := { attempt 5 0 cleanBytes with
  mem := { imem := [(7, BitVec.ofNat 32 ((encodeSyl 7 (.hb 3)).getD 0)), (15, BitVec.ofNat 32 ((encodeSyl 7 .tend).getD 0))] } }
theorem clean_sect : clean.sectBytes 0 1 0 = bytesLE 128 cleanTable := by decide +kernel
theorem clean_recs : clean.regRecs 0 = [((R.PWM_TBPER_P 0).addr, 4000)] := by decide +kernel
theorem witness_ImagesAreCheckedAndTaken_contract : clean.contractCheck (clean.sectBytes 0 1 0) (clean.regRecs 0) = none := by
  rw [clean_sect, clean_recs]; decide +kernel
theorem witness_ImagesAreCheckedAndTaken :
    (imageA.dev = .wedging ∧ imageA.wedge.todo = ((0 : Fin 2).val, (0 : Fin 2).val) :: [] ∧ imageA.get R.WEDGE_STAT_PHASE = 3 ∧
      imageA.imageOver.otp = imageA.otp ∧ imageA.imageOver.regs = imageA.regs ∧ imageA.todoNext = []) ∧
    (imageA.statusReadable 0 = true ∧ imageA.slotSkipped 0 = false ∧ imageA.slotReadable 0 0 256 = true ∧
      imageA.slotNum 0 0 4 = 0x4D495A56 ∧ imageA.slotNum 0 4 4 / 0x10000 = 1 ∧ imageA.headerCheck 0 = none) ∧
    (let s := attempt 3 0 (imageBytes 0x4D495A56 0x1B80 0)
     s.statusReadable 0 = true ∧ s.slotSuperseded 0 = true ∧ s.todoNext = [(0, 1)]) ∧
    (let s := attempt 3 0 []
     s.statusReadable 0 = true ∧ s.slotLive 0 = false) ∧
    (let s := { attempt 3 0 [] with nor := { info := { present := false } } }
     s.statusReadable 0 = false ∧ s.slotReadable 0 0 256 = false) ∧
    ((attempt 3 1 []).slotReadable 0 0 256 = true ∧ (attempt 3 1 []).slotNum 0 0 4 ≠ 0x4D495A56) ∧
    (let s := attempt 3 1 (bytesAt 0 8 0x4D495A56)
     s.slotNum 0 0 4 = 0x4D495A56 ∧ s.slotNum 0 4 4 / 0x10000 ≠ 1) ∧
    (let s := attempt 3 1 (bytesAt 0 12 (2 ^ 48 + 0x4D495A56))
     s.slotNum 0 0 4 = 0x4D495A56 ∧ s.slotNum 0 4 4 / 0x10000 = 1 ∧ s.imgLen 0 = 0) ∧
    ((attempt 5 0 noSects).contractCheck ((attempt 5 0 noSects).sectBytes 0 1 0) ((attempt 5 0 noSects).regRecs 0)).isSome = true ∧
    ((imageA.imgFlags 0).testBit 0 = false ∧ (attempt 5 0 (bytesAt 0x16 2 1)).bist.keyDone = false ∧
      ((attempt 5 0 (bytesAt 0x16 2 1)).imgFlags 0).testBit 0 = true) ∧
    (let s := (attempt 6 0 []).put R.BIST_SIG_HI_VALUE 1
     s.bist.broken = 0 ∧ s.bist.stopped = false ∧ s.get R.BIST_SIG_LO_VALUE + 2 ^ 32 * s.get R.BIST_SIG_HI_VALUE ≠ s.bist.expect) ∧
    (let s := attempt 6 0 []
     s.get R.WEDGE_STAT_PHASE = 6 ∧ s.get R.BIST_SIG_LO_VALUE + 2 ^ 32 * s.get R.BIST_SIG_HI_VALUE = s.bist.expect) ∧
    ((attempt 7 0 noSects).get R.WEDGE_STAT_PHASE = 7 ∧ (attempt 7 0 noSects).wedge.burn = none ∧
      ((attempt 7 0 noSects).apply 0 (parseTable ((attempt 7 0 noSects).sectBytes 0 1 0))).1.isSome = true) ∧
    { attempt 7 0 noSects with wedge := { burn := some (0, 0) } }.wedge.burn ≠ none := by decide +kernel
theorem witness_ResetsEnterOff_rails :
    ready.pins.nrst = true ∧ State.reset.pins.supOk = false ∧ State.reset.pins.noVsys = true ∧ ready.pins.noVsys = false ∧
    ready.busUp = true ∧ 999 < 1000 ∧ railReset 0 ≤ 5201 ∧ 5200 < 5201 ∧ railReset 0 ≤ 5200 ∧ (1 : Fin 4) ≠ 0 ∧ railReset 1 ≤ 5000 := by
  decide +kernel
theorem witness_ReleaseLeavesOff_wedging :
    (let s := { wedging 1 300000 with pll := false, wedge := { due := 300000, pllAt := 240000 }, cycle := 240000 }
     s.dev = .wedging ∧ s.get R.WEDGE_STAT_PHASE = 1 ∧ s.keyRun = false ∧ s.pll = false ∧ s.wedge.pllAt ≤ s.cycle) ∧
    (let s := { wedging 2 0 with nor := { info := { modes := [(4, 100), (1, 0)], badModes := [4] } } }
     s.dev = .wedging ∧ s.get R.WEDGE_STAT_PHASE = 2 ∧ s.wedge.norTries = 0 ∧ s.norMode.2 = 1) ∧
    (wedging 2 0).norMode.2 ≤ (wedging 2 0).wedge.norTries ∧ { wedging 2 0 with sec := { lc := .scrapped } }.sec.lc = .scrapped ∧
    (State.reset.pll = false ∧ (wedging 3 1).pll = true) ∧ { wedging 3 1 with pll := false, wedge := { pllAt := 1 } }.cycle < 1 := by decide +kernel
theorem witness_CanTransmissionCompletes_absent :
    (let s := { ready with variant := .vz6821 }
     s.mayWrite .hspi = true ∧ s.nCan ≤ (3 : Fin 4).val) ∧
    (let s := { ready.put R.PWR_BSTAT_STEP 6 with pwr := { agreed := [5] } }
     s.mayWrite .hspi = true ∧ 3 < s.nCan ∧ s.canStopped 3 = true) ∧
    ready.mayWrite .hspi = true ∧ 3 < ready.nCan ∧ ready.canStopped 3 = false ∧ 127 < 128 := by decide +kernel
theorem witness_CanReceptionAndWakeComplete_stopped :
    (let s := { (asleep 1 0).put R.PWR_WAKEEN_EN 8 with dev := .banked }
     s.dev = .banked ∧ s.canListens 3 1 = true ∧ 250 * s.get (R.CAN_WAKECFG_WUPFILT 3) ≤ 250 * 0xFF) ∧
    (let s := { ((asleep 2 31).put R.PWR_WAKEEN_EN 8).put R.PWR_BSTAT_STEP 6 with pwr := { agreed := [5] } }
     s.dev ≠ .banked ∧ s.canStopped 3 = true ∧ s.canListens 3 2 = true ∧ s.wakeMatch 3 false 0 0 [] = true ∧ s.get (R.CAN_WAKESTAT_FECNT 3) = 31) ∧
    (asleep 1 0).dev ≠ .banked ∧ (asleep 1 0).canStopped 3 = false ∧ onBus.canOnBus 3 = true ∧ onBus.canStopped 3 = false := by decide +kernel
theorem witness_HostFramesComplete_streaming :
    (let s := { (ready.put R.PWR_BSTAT_STEP 7).put R.PWR_WAKEEN_EN 0 with pwr := { agreed := [6] } }
     s.hspiAnswers = true ∧ s.dev ≠ .banked ∧ s.wakeArmed 5 = false ∧ s.stopped 6 = true) ∧
    ready.wakeArmed 5 = false ∧ hold.wakeArmed 5 = false ∧ hold.overtaken .hspi = false ∧ ready.dev ≠ .safeHold ∧ ready.absentAddr 0x40000044 = false := by
  decide +kernel
theorem witness_InterconnectAccessesComplete_debug :
    (debugger.busUp = true ∧ debugger.debugFull = true ∧ debugWord 0x0007FFFC = some (0, 131071) ∧ debugWord 0x00080000 = none ∧
      debugWord 0x300FFFFC = some (3, 262143)) ∧
    (hold.overtaken .hspi = false ∧ hold.debugMem .hspi 0x40000044 = none) ∧
    (ready.scanning = false ∧ ready.overtaken .debug = false ∧ ready.debugMem .debug 0x40000044 = none) ∧
    (ready.mayWrite .hspi = true ∧ ready.absentAddr 0x50000000 = true ∧ 0x50000000 % 4 = 0) ∧
    (ready.reqActs .hspi = true ∧ ready.reqReaches .hspi (lowHalf 0 + 4) = true) := by decide +kernel
theorem witness_EthernetCommandsComplete_cut :
    (let s := { linked.put R.ETH_CFG_IF 2 with eth := { polling := true } }
     s.polls = true ∧ s.eth.polling = true ∧ s.get R.ETH_CFG_IF ≠ 1) ∧
    ({ linked with eth := { rxCut := some 0 } }.ethCut 0 = true ∧ { linked with eth := { rxCut := some 0 }, tsc := 1 }.ethCut 0 = false ∧
      linked.ethCut 9 = false) ∧
    (let s := { ready with variant := .vz6821 }
     s.hasEth = false ∧ s.mayWrite .hspi = true) ∧
    { linked with dev := .banked }.dev = .banked ∧ { linked.put R.PWR_BSTAT_STEP 2 with pwr := { agreed := [1] } }.stopped 1 = true ∧
    (linked.raise R.ETH_MDIO_RD).on R.ETH_MDIO_RD = true := by decide +kernel
theorem witness_Modes : ready.ModesExclusive ∧ { ready with pending := [Instr.dllLockLoss] }.ModesExclusive := by
  unfold State.ModesExclusive; decide +kernel

/-! Invariants. -/

theorem witness_Invariants :
    ready.memWf = true ∧ { ready with pending := [Instr.dllLockLoss] }.memWf = true ∧
    (match step { ready with pending := [Instr.dllLockLoss] } with | .next _ => true | _ => false) = true := by decide +kernel
end Sys2Proof.Tests
end

section
/-! PROOFS. The state after power-on (R12, R34, R466). -/

namespace Sys2Proof.Machine

open Sys2Proof

/-- No island is on, or waits to be, right after power-on. -/
theorem reset_islandsSettled : State.reset.IslandsSettled := fun _ => ⟨nofun, nofun⟩

/-- No BANKED entry, run request or self-test is in progress right after power-on. -/
theorem reset_modesExclusive : State.reset.ModesExclusive := ⟨nofun, nofun, nofun⟩

/-- Settles O2: the reset state lists no value, so that every field and every table reads its default. -/
theorem resetState : Obligations.ResetState :=
  ⟨rfl, rfl, rfl, rfl, fun _ => rfl, fun _ => rfl, fun _ _ => rfl, fun _ => rfl, fun _ => rfl, fun _ => rfl,
    fun _ => rfl, fun _ => rfl, rfl, reset_islandsSettled, reset_modesExclusive⟩

end Sys2Proof.Machine
end

section
/-! PROOFS. SENT channels, resolver monitors and flag clears (R12, R144, R153–R157). -/

namespace Sys2Proof.Machine

open Sys2Proof

/-! ## What a pulse leaves unchanged -/

/-- A key in the registers SDATA, SSLOW and SSTAT of SENT channel j, which its pulses write. -/
def sentKey (j k : Nat) : Prop := (0x4021041C + 0x40 * j) * 32 ≤ k ∧ k < (0x40210428 + 0x40 * j) * 32

/-- From s to t nothing has changed but the position block and registers of SENT channel j that its pulses write. -/
def SentOnly (j : Nat) (s t : State) : Prop :=
  ∃ regs pos, t = { s with regs := regs, pos := pos } ∧ ∀ f : Fld, ¬sentKey j f.key → t.get f = s.get f

theorem SentOnly.refl (j : Nat) (s : State) : SentOnly j s s := ⟨_, _, rfl, fun _ _ => rfl⟩

theorem SentOnly.trans {j : Nat} {s t u : State} (h : SentOnly j s t) (k : SentOnly j t u) : SentOnly j s u := by
  obtain ⟨r, p, rfl, hg⟩ := h
  obtain ⟨r', p', rfl, kg⟩ := k
  exact ⟨r', p', rfl, fun f hf => (kg f hf).trans (hg f hf)⟩

theorem SentOnly.setSent {j : Nat} {s t : State} (h : SentOnly j s t) (x : Sent) : SentOnly j s (t.setSent j x) :=
  h.trans ⟨_, _, rfl, fun _ _ => rfl⟩

theorem SentOnly.put {j : Nat} {s t : State} (h : SentOnly j s t) {f : Fld} (hf : sentKey j f.key) (v : Nat) :
    SentOnly j s (t.put f v) :=
  h.trans ⟨_, _, rfl, fun g hg => State.get_put_ne t f g v fun e => hg (e ▸ hf)⟩

theorem SentOnly.bumpSat {j : Nat} {s t : State} (h : SentOnly j s t) {f : Fld} (hf : sentKey j f.key) :
    SentOnly j s (t.bumpSat f) := by
  obtain ⟨-, e⟩ | ⟨-, e⟩ := t.bumpSat_cases f
  · rw [e]; exact h.put hf _
  · rw [e]; exact h

/-- The fields that SENT channel j's pulses write. -/
theorem sentKey_fields (j : Nat) : ∀ f ∈ [R.POS_SDATA_STATUS j, R.POS_SDATA_FC1 j, R.POS_SDATA_FC2 j, R.POS_SSLOW_ID j,
    R.POS_SSLOW_NEW j, R.POS_SSLOW_TYPE j, R.POS_SSLOW_DATA j, R.POS_SSTAT_CRCCNT j, R.POS_SSTAT_STERR j,
    R.POS_SSTAT_STALE j, R.POS_SSTAT_SYNCERR j, R.POS_SSTAT_CRCERR j], sentKey j f.key := by
  simp only [List.forall_mem_cons, List.not_mem_nil, false_implies, implies_true, and_true, sentKey, Fld.key,
    R.POS_SDATA_STATUS, R.POS_SDATA_FC1, R.POS_SDATA_FC2,
    R.POS_SSLOW_ID, R.POS_SSLOW_NEW, R.POS_SSLOW_TYPE, R.POS_SSLOW_DATA, R.POS_SSTAT_CRCCNT, R.POS_SSTAT_STERR,
    R.POS_SSTAT_STALE, R.POS_SSTAT_SYNCERR, R.POS_SSTAT_CRCERR]
  omega

theorem sentOnly_sentGood (s : State) (j status : Nat) (nibs : List Nat) : SentOnly j s (s.sentGood j status nibs) := by
  have key := sentKey_fields j
  simp only [List.forall_mem_cons] at key
  obtain ⟨kSTATUS, kFC1, kFC2, kID, kNEW, kTYPE, kDATA, kCRCCNT, kSTERR, kSTALE, -⟩ := key
  unfold State.sentGood
  extract_lets x slow s1 s2 s3 s4 s5
  have h1 : SentOnly j s s1 := (SentOnly.refl j s).setSent _
  have h2 : SentOnly j s s2 := (h1.put kCRCCNT 0).put kSTALE 0
  have h3 : SentOnly j s s3 := (h2.put kSTATUS _).put kFC1 _
  have h4 : SentOnly j s s4 := by
    unfold s4
    split
    · exact h3.put kFC2 _
    · exact h3
  have h5 : SentOnly j s s5 := h4.put kSTERR _
  split
  · exact h5
  · exact (((h5.put kID _).put kTYPE _).put kDATA _).put kNEW 1

theorem sentOnly_sentDrop (s : State) (j : Nat) (st : SentStage) : SentOnly j s (s.sentDrop j st) :=
  (SentOnly.refl j s).setSent _

theorem sentOnly_sentSync (s : State) (j len : Nat) : SentOnly j s (s.sentSync j len) := by
  unfold State.sentSync
  dsimp only
  split
  · exact (SentOnly.refl j s).setSent _
  · exact (sentOnly_sentDrop s j _).put (sentKey_fields j (R.POS_SSTAT_SYNCERR j) (by simp)) 1

theorem sentOnly_sentFinish (s : State) (j : Nat) (nibs : List Nat) : SentOnly j s (s.sentFinish j nibs) := by
  unfold State.sentFinish
  dsimp only
  split
  · exact ((sentOnly_sentDrop s j _).put (sentKey_fields j (R.POS_SSTAT_CRCERR j) (by simp)) 1).bumpSat
      (sentKey_fields j (R.POS_SSTAT_CRCCNT j) (by simp))
  · exact sentOnly_sentGood s j _ _

/-- A pulse of channel j's land changes nothing but the position block and the channel's result registers. -/
theorem sentOnly_sentPulse (s : State) (j len : Nat) : SentOnly j s (State.sentPulse j s len) := by
  have hself := SentOnly.refl j s
  unfold State.sentPulse
  extract_lets x ticks
  split
  · split
    · exact sentOnly_sentSync s j len
    · exact hself
  · exact sentOnly_sentSync s j len
  · split
    · exact sentOnly_sentSync s j len
    · split
      · exact hself.setSent _
      · exact (sentOnly_sentDrop s j _).put (sentKey_fields j (R.POS_SSTAT_SYNCERR j) (by simp)) 1
  · split
    · split
      · exact sentOnly_sentFinish s j _
      · exact hself.setSent _
    · exact sentOnly_sentDrop s j _

/-- No pulse of a channel changes whether the position block runs. -/
theorem SentOnly.posRuns {j : Nat} {s t : State} (h : SentOnly j s t) (hj : j < 4) : t.posRuns = s.posRuns := by
  obtain ⟨regs, pos, rfl, hg⟩ := h
  have hstep := hg R.PWR_BSTAT_STEP (by simp only [sentKey, Fld.key, R.PWR_BSTAT_STEP]; omega)
  have hrun := hg R.BIST_STAT_RUNNING (by simp only [sentKey, Fld.key, R.BIST_STAT_RUNNING]; omega)
  simp only [State.posRuns, State.planes, State.scanPart, State.scanning, State.stopped, State.entering, State.on, hstep, hrun]

/-- Nor whether it is enabled. -/
theorem SentOnly.on_en {j : Nat} {s t : State} (h : SentOnly j s t) : t.on (R.POS_SCFG_EN j) = s.on (R.POS_SCFG_EN j) := by
  obtain ⟨regs, pos, rfl, hg⟩ := h
  rw [State.on, hg _ (by simp only [sentKey, Fld.key, R.POS_SCFG_EN]; omega), State.on]

/-! ## One pulse -/

theorem exec_sentFrame {s : State} {j : Fin 4} (hr : s.posRuns = true) (he : s.on (R.POS_SCFG_EN j.val) = true) (l : List Nat) :
    exec (.sentFrame j l) s = .next (l.foldl (State.sentPulse j.val) s) := by
  show execSentFrame j l s = _
  simp [execSentFrame, hr, he]

/-- The pulses of a land are taken one after the other. -/
theorem exec_sentFrame_cons {s : State} {j : Fin 4} (hr : s.posRuns = true) (he : s.on (R.POS_SCFG_EN j.val) = true) (len : Nat)
    (more : List Nat) : exec (.sentFrame j (len :: more)) s = exec (.sentFrame j more) (State.sentPulse j.val s len) := by
  have hk := sentOnly_sentPulse s j.val len
  rw [exec_sentFrame hr he, exec_sentFrame ((hk.posRuns j.isLt).trans hr) (hk.on_en.trans he)]
  rfl

/-- The distance rule as two bounds of natural numbers. -/
theorem nearBy_iff (k a b : Nat) : nearBy k a b = true ↔ k * (a - b) ≤ b ∧ k * (b - a) ≤ b := by
  unfold nearBy
  rw [decide_eq_true_iff]
  split
  · next h => simp [Nat.sub_eq_zero_of_le h]
  · next h => simp [Nat.sub_eq_zero_of_le (Nat.le_of_not_le h)]

theorem sentPulse_sync {s : State} {j len : Nat} (h : (s.sentCh j).stage = .sync) : State.sentPulse j s len = s.sentSync j len := by
  simp [State.sentPulse, h]

/-- A pulse in the window and near the one before begins a frame (R154). -/
theorem sentSync_accept {s : State} {j len : Nat} (hw : nearBy 5 len (56000 * s.get (R.POS_STICK_TICK j)) = true)
    (hp : (s.sentCh j).prevSync = 0 ∨ nearBy 64 len (s.sentCh j).prevSync = true) :
    s.sentSync j len = s.setSent j { s.sentCh j with stage := .nibble, sync := len, nibs := [] } := by
  simp [State.sentSync, State.sentWindow, hw, hp]

theorem sentSync_refuse {s : State} {j len : Nat} (h : ¬nearBy 5 len (56000 * s.get (R.POS_STICK_TICK j)) = true ∨
    ((s.sentCh j).prevSync ≠ 0 ∧ ¬nearBy 64 len (s.sentCh j).prevSync = true)) :
    s.sentSync j len =
      (s.setSent j { s.sentCh j with stage := .hunt, nibs := [], slow := [] }).raise (R.POS_SSTAT_SYNCERR j) := by
  obtain h | ⟨hz, h⟩ := h <;> simp [State.sentSync, State.sentWindow, State.sentDrop, *]

/-- A pulse of 12 to 27 ticks adds its nibble; the last one of the frame lets the checksum decide (R153). -/
theorem sentPulse_nibble {s : State} {j len ticks : Nat} (h : (s.sentCh j).stage = .nibble) (hs : (s.sentCh j).sync ≠ 0)
    (ht : (112 * len + (s.sentCh j).sync) / (2 * (s.sentCh j).sync) = ticks) (h12 : 12 ≤ ticks) (h27 : ticks ≤ 27) :
    State.sentPulse j s len = if ((s.sentCh j).nibs ++ [ticks - 12]).length = s.get (R.POS_SCFG_NIB j) + 2 then
      s.sentFinish j ((s.sentCh j).nibs ++ [ticks - 12])
    else s.setSent j { s.sentCh j with nibs := (s.sentCh j).nibs ++ [ticks - 12] } := by
  simp only [State.sentPulse, h, hs, ht, h12, h27, if_false, and_self, if_true]

/-- The channel after a good frame. -/
def sentAccepted (s : State) (x : Sent) (status : Nat) : Sent :=
  { x with good := true, prevSync := x.sync, tGood := some s.cycle, stage := .afterCrc, nibs := [], slow := (status % 4 :: x.slow).take 18 }

theorem sentGood_pos (s : State) (j status : Nat) (nibs : List Nat) :
    (s.sentGood j status nibs).pos = (s.setSent j (sentAccepted s (s.sentCh j) status)).pos := by
  unfold State.sentGood
  extract_lets x slow s1 s2 s3 s4 s5
  have h4 : s4.pos = s1.pos := by
    unfold s4
    split
    · exact State.put_pos ..
    · rfl
  split
  · exact (State.putB_pos ..).trans h4
  · simp only [State.raise_pos, State.put_pos]
    exact (State.putB_pos ..).trans h4

/-- Past a good frame's counter, age flag, status and first value, only its second value, STERR and the serial message are written. -/
theorem get_sentGood (s : State) (j status : Nat) (nibs : List Nat) {f : Fld}
    (hf : ∀ g ∈ [R.POS_SDATA_FC2 j, R.POS_SSTAT_STERR j, R.POS_SSLOW_ID j, R.POS_SSLOW_TYPE j, R.POS_SSLOW_DATA j, R.POS_SSLOW_NEW j],
      g.key ≠ f.key) :
    (s.sentGood j status nibs).get f =
      ((((s.clear (R.POS_SSTAT_CRCCNT j)).clear (R.POS_SSTAT_STALE j)).put (R.POS_SDATA_STATUS j) status).put
        (R.POS_SDATA_FC1 j) (nib3 nibs 0)).get f := by
  simp only [List.forall_mem_cons] at hf
  obtain ⟨hFC2, hSTERR, hID, hTYPE, hDATA, hNEW, -⟩ := hf
  unfold State.sentGood
  extract_lets x slow s1 s2 s3 s4 s5
  have h4 : s4.get f = s3.get f := by
    unfold s4
    split
    · exact State.get_put_ne _ _ _ _ hFC2
    · rfl
  have h5 : s5.get f = s3.get f := (State.get_put_ne _ _ _ _ hSTERR).trans h4
  split
  · exact h5
  · rw [State.raise_eq, State.get_put_ne _ _ _ _ hNEW, State.get_put_ne _ _ _ _ hDATA, State.get_put_ne _ _ _ _ hTYPE,
      State.get_put_ne _ _ _ _ hID, h5]
    rfl

/-- What a good frame leaves in its registers (R157). -/
theorem sentGood_fields (s : State) (j status : Nat) (nibs : List Nat) :
    (s.sentGood j status nibs).get (R.POS_SSTAT_CRCCNT j) = 0 ∧ (s.sentGood j status nibs).get (R.POS_SDATA_STATUS j) = status % 16 ∧
    (s.sentGood j status nibs).get (R.POS_SDATA_FC1 j) = nib3 nibs 0 % 4096 ∧
    (s.sentGood j status nibs).on (R.POS_SSTAT_STALE j) = false := by
  have hk : ∀ f ∈ [R.POS_SSTAT_CRCCNT j, R.POS_SDATA_STATUS j, R.POS_SDATA_FC1 j, R.POS_SSTAT_STALE j],
      ∀ g ∈ [R.POS_SDATA_FC2 j, R.POS_SSTAT_STERR j, R.POS_SSLOW_ID j, R.POS_SSLOW_TYPE j, R.POS_SSLOW_DATA j, R.POS_SSLOW_NEW j],
      g.key ≠ f.key := by
    simp only [List.forall_mem_cons, List.not_mem_nil, false_implies, implies_true, and_true, Fld.key, R.POS_SSTAT_CRCCNT,
      R.POS_SDATA_STATUS, R.POS_SDATA_FC1, R.POS_SSTAT_STALE, R.POS_SDATA_FC2, R.POS_SSTAT_STERR, R.POS_SSLOW_ID,
      R.POS_SSLOW_TYPE, R.POS_SSLOW_DATA, R.POS_SSLOW_NEW]
    omega
  have hd : (R.POS_SDATA_FC1 j).key ≠ (R.POS_SDATA_STATUS j).key ∧ (R.POS_SSTAT_STALE j).key ≠ (R.POS_SSTAT_CRCCNT j).key ∧
      ∀ f ∈ [R.POS_SSTAT_CRCCNT j, R.POS_SSTAT_STALE j],
        (R.POS_SDATA_FC1 j).key ≠ f.key ∧ (R.POS_SDATA_STATUS j).key ≠ f.key := by
    simp only [List.forall_mem_cons, List.not_mem_nil, false_implies, implies_true, and_true, Fld.key, R.POS_SSTAT_CRCCNT,
      R.POS_SDATA_STATUS, R.POS_SDATA_FC1, R.POS_SSTAT_STALE]
    omega
  simp only [List.forall_mem_cons] at hk hd
  obtain ⟨kCRC, kSTATUS, kFC1, kSTALE, -⟩ := hk
  obtain ⟨hFC1, hSTALE, hCRC, hSTALE', -⟩ := hd
  refine ⟨?_, ?_, ?_, ?_⟩
  · rw [get_sentGood s j status nibs (by simpa using kCRC), State.get_put_ne _ _ _ _ hCRC.1, State.get_put_ne _ _ _ _ hCRC.2,
      State.clear_eq, State.get_put_ne _ _ _ _ hSTALE, State.clear_eq, State.get_put_self, Nat.zero_mod]
  · rw [get_sentGood s j status nibs (by simpa using kSTATUS), State.get_put_ne _ _ _ _ hFC1, State.get_put_self]
    rfl
  · rw [get_sentGood s j status nibs (by simpa using kFC1), State.get_put_self]
    rfl
  · rw [State.on, get_sentGood s j status nibs (by simpa using kSTALE), State.get_put_ne _ _ _ _ hSTALE'.1,
      State.get_put_ne _ _ _ _ hSTALE'.2, State.clear_eq, State.get_put_self, Nat.zero_mod]
    rfl

/-! ## Flags that a write of 1 clears (R12) -/

theorem State.w1c_cons (s : State) (mask : Nat) (f : Fld) (l : List Fld) :
    s.w1c mask (f :: l) = (if mask.testBit f.lo then s.clear f else s).w1c mask l := rfl

/-- A field outside the list reads as before. -/
theorem State.get_w1c_ne (s : State) (mask : Nat) (l : List Fld) (g : Fld) (h : ∀ f ∈ l, g.key ≠ f.key) :
    (s.w1c mask l).get g = s.get g := by
  induction l generalizing s with
  | nil => rfl
  | cons f t ih =>
    rw [List.forall_mem_cons] at h
    rw [State.w1c_cons, ih _ h.2]
    split
    · exact State.get_put_ne s f g 0 h.1.symm
    · rfl

/-- A flag of the list is cleared exactly where its bit of the mask is 1. -/
theorem State.on_w1c (s : State) (mask : Nat) (l : List Fld) (hl : l.Pairwise fun f g => f.key ≠ g.key) :
    ∀ f ∈ l, (s.w1c mask l).on f = (s.on f && !mask.testBit f.lo) := by
  induction l generalizing s with
  | nil => simp
  | cons f t ih =>
    obtain ⟨hf, ht⟩ := List.pairwise_cons.mp hl
    rw [State.w1c_cons]
    refine List.forall_mem_cons.mpr ⟨?_, fun g hg => (ih _ ht g hg).trans ?_⟩
    · rw [State.on, State.get_w1c_ne _ _ _ _ hf]
      cases mask.testBit f.lo <;> simp [State.clear_eq, State.on]
    · cases mask.testBit f.lo
      · rfl
      · rw [if_pos rfl, State.clear_eq, State.on, State.get_put_ne s f g 0 (hf g hg), State.on]

theorem State.w1c_keeps {β : Type} (π : State → β) (hπ : ∀ (t : State) f, π (t.clear f) = π t) (s : State) (mask : Nat)
    (l : List Fld) : π (s.w1c mask l) = π s :=
  foldl_keeps π _ (fun t f => by split; exacts [hπ t f, rfl]) l s

/-- The flags of a sensor. -/
def posFlags : PosUnit → List Fld
  | .res x => [R.POS_RXSTAT_AMPF x.val, R.POS_RXSTAT_LOS x.val, R.POS_RXSTAT_NOEST x.val, R.POS_RXSTAT_EXCOC x.val]
  | .enc e => [R.POS_ESTAT_ILL e.val, R.POS_ESTAT_ZERR e.val, R.POS_ESTAT_PLAUS e.val]
  | .hall h => [R.POS_HSTAT_ILL h.val, R.POS_HSTAT_SKIP h.val, R.POS_HSTAT_PLAUS h.val]
  | .sent j => [R.POS_SSTAT_CRCERR j.val, R.POS_SSTAT_SYNCERR j.val]

theorem posFlags_pairwise (u : PosUnit) : (posFlags u).Pairwise fun f g => f.key ≠ g.key := by
  cases u <;> simp [posFlags, Fld.key, R.POS_RXSTAT_AMPF, R.POS_RXSTAT_LOS, R.POS_RXSTAT_NOEST, R.POS_RXSTAT_EXCOC,
    R.POS_ESTAT_ILL, R.POS_ESTAT_ZERR, R.POS_ESTAT_PLAUS, R.POS_HSTAT_ILL, R.POS_HSTAT_SKIP, R.POS_HSTAT_PLAUS,
    R.POS_SSTAT_CRCERR, R.POS_SSTAT_SYNCERR]

theorem exec_posFlagClear {s : State} (hb : s.busUp = true) (u : PosUnit) (mask : BitVec 8) :
    exec (.posFlagClear u mask) s = .next (s.w1c mask.toNat (posFlags u)) := by
  show execPosFlagClear u mask s = _
  cases u <;> simp [execPosFlagClear, hb, posFlags]

/-- A write of 1 to a sensor's flags clears exactly those, and moves nothing else. -/
theorem posFlagClear_spec {s : State} (hb : s.busUp = true) (u : PosUnit) (mask : BitVec 8) :
    ∃ t, exec (.posFlagClear u mask) s = .next t ∧ t.pos = s.pos ∧ t.wheel = s.wheel ∧ t.mem = s.mem ∧
      (∀ f ∈ posFlags u, t.on f = (s.on f && !mask.toNat.testBit f.lo)) ∧
      ∀ f : Fld, (∀ g ∈ posFlags u, f.key ≠ g.key) → t.get f = s.get f :=
  ⟨_, exec_posFlagClear hb u mask, State.w1c_keeps (·.pos) (fun _ _ => rfl) .., State.w1c_keeps (·.wheel) (fun _ _ => rfl) ..,
    State.w1c_keeps (·.mem) (fun _ _ => rfl) .., s.on_w1c _ _ (posFlags_pairwise u), s.get_w1c_ne _ _⟩

/-! ## Ages and resolver monitors -/

/-- An age over AGEMAX sets STALE (R157). -/
theorem exec_sentAgeExpiry {s : State} {j : Fin 4} {t : Nat} (hr : s.posRuns = true) (he : s.on (R.POS_SCFG_EN j.val) = true)
    (hm : s.get (R.POS_SAGEMAX_AGEMAX j.val) ≠ 0) (ht : (s.sentCh j.val).tGood = some t) :
    exec (.sentAgeExpiry j) s = .next (if 600 * s.get (R.POS_SAGEMAX_AGEMAX j.val) < s.cycle - t then
      s.raise (R.POS_SSTAT_STALE j.val) else s) := by
  show execSentAgeExpiry j s = _
  simp [execSentAgeExpiry, State.sentStale, hr, he, hm, ht]

theorem exec_excoc {s : State} {x : Fin 2} (hr : s.posRuns = true) (hp : s.get (R.POS_RXCFG_PER x.val) ≠ 0) :
    exec (.excoc x) s = .next (s.raise (R.POS_RXSTAT_EXCOC x.val)) := by
  show execExcoc x s = _
  simp [execExcoc, hr, hp]

theorem exec_noest {s : State} {x : Fin 2} (hp : s.get (R.POS_RXCFG_PER x.val) ≠ 0) (hd : s.dev = .run)
    (hs : 4 * s.get (R.POS_RXCFG_PER x.val) ≤ (s.exc x.val).since) :
    exec (.noest x) s = .next (s.raise (R.POS_RXSTAT_NOEST x.val)) := by
  show execNoest x s = _
  simp [execNoest, State.noEstimate, hd, hp, hs]

theorem exec_noest_early {s : State} {x : Fin 2} (hs : (s.exc x.val).since < 4 * s.get (R.POS_RXCFG_PER x.val)) :
    exec (.noest x) s = .next s := by
  show execNoest x s = _
  simp [execNoest, State.noEstimate, Nat.not_le.mpr hs]

/-! ## The last nibble of a frame -/

theorem sentFinish_bad {s : State} {j : Nat} {nibs : List Nat}
    (h : sentCrc (s.on (R.POS_SCFG_CRCMODE j)) (nibs.drop 1).dropLast ≠ nibs.getLastD 0) :
    s.sentFinish j nibs = ((s.setSent j { s.sentCh j with stage := .afterCrc, nibs := [], slow := [] }).raise
      (R.POS_SSTAT_CRCERR j)).bumpSat (R.POS_SSTAT_CRCCNT j) :=
  if_pos h

theorem sentFinish_good {s : State} {j : Nat} {nibs : List Nat}
    (h : sentCrc (s.on (R.POS_SCFG_CRCMODE j)) (nibs.drop 1).dropLast = nibs.getLastD 0) :
    s.sentFinish j nibs = s.sentGood j (nibs.headD 0) (nibs.drop 1).dropLast :=
  if_neg (not_not.mpr h)

theorem sentCh_sentGood (s : State) (j status : Nat) (nibs : List Nat) :
    (s.sentGood j status nibs).sentCh j = sentAccepted s (s.sentCh j) status := by
  rw [State.sentCh, sentGood_pos]
  exact State.sentCh_setSent_self s j _

/-- What a good frame leaves: its data and its channel, and nothing of the Wheel or the memories is touched (R157). -/
theorem sentGood_spec (s : State) (j status : Nat) (nibs : List Nat) :
    let t := s.sentGood j status nibs
    t.get (R.POS_SSTAT_CRCCNT j) = 0 ∧ t.get (R.POS_SDATA_STATUS j) = status % 16 ∧ t.get (R.POS_SDATA_FC1 j) = nib3 nibs 0 % 4096 ∧
    (t.sentCh j).good = true ∧ (t.sentCh j).prevSync = (s.sentCh j).sync ∧ (t.sentCh j).tGood = some s.cycle ∧
    t.on (R.POS_SSTAT_STALE j) = false ∧ t.wheel = s.wheel ∧ t.mem = s.mem := by
  obtain ⟨hcnt, hstatus, hfc1, hstale⟩ := sentGood_fields s j status nibs
  obtain ⟨regs, pos, ht, -⟩ := sentOnly_sentGood s j status nibs
  have hch := sentCh_sentGood s j status nibs
  exact ⟨hcnt, hstatus, hfc1, by rw [hch]; rfl, by rw [hch]; rfl, by rw [hch]; rfl, hstale, by rw [ht], by rw [ht]⟩

/-- Settles O25: the pulses by the stage of the channel, the monitors and clears each by the rule of its command. -/
theorem sentAndResolverCommandsComplete : Obligations.SentAndResolverCommandsComplete := by
  intro s x j len more mask hr hb
  have hone := fun (he : s.on (R.POS_SCFG_EN j.val) = true) => exec_sentFrame hr he [len]
  refine ⟨fun he => ⟨exec_sentFrame hr he [], ⟨_, hone he, exec_sentFrame_cons hr he len more⟩, fun hst => ⟨fun hw hp => ?accept,
    fun h => ?refuse⟩, fun hst hs h12 h27 => ⟨fun hn => ?nibble, fun hn => ⟨fun hc => ?bad, fun hc => ?good⟩⟩,
    fun hm t ht => exec_sentAgeExpiry hr he hm ht⟩, fun hp => ⟨exec_excoc hr hp, exec_noest hp⟩, exec_noest_early, fun e => ?clears⟩
  case accept =>
    rw [hone he, List.foldl_cons, List.foldl_nil, sentPulse_sync hst]
    rw [sentSync_accept ((nearBy_iff ..).mpr hw) (hp.imp_right (nearBy_iff ..).mpr)]
  case refuse =>
    rw [hone he, List.foldl_cons, List.foldl_nil, sentPulse_sync hst]
    rw [sentSync_refuse (h.imp (mt (nearBy_iff ..).mp) (And.imp_right (mt (nearBy_iff ..).mp)))]
  case nibble =>
    rw [hone he, List.foldl_cons, List.foldl_nil, sentPulse_nibble hst hs rfl h12 h27, if_neg hn]
  case bad =>
    rw [hone he, List.foldl_cons, List.foldl_nil, sentPulse_nibble hst hs rfl h12 h27, if_pos hn, sentFinish_bad hc]
  case good =>
    rw [hone he, List.foldl_cons, List.foldl_nil, sentPulse_nibble hst hs rfl h12 h27, if_pos hn, sentFinish_good hc]
    exact ⟨_, rfl, sentGood_spec s j.val _ _⟩
  case clears =>
    intro p hp
    have hflags : p.2 = posFlags p.1 := by
      simp only [List.mem_cons, List.not_mem_nil, or_false] at hp
      obtain rfl | rfl | rfl | rfl := hp <;> rfl
    rw [hflags]
    exact posFlagClear_spec hb p.1 mask

end Sys2Proof.Machine
end

section
/-! PROOFS. Accesses over the interconnect (R38, R43, R330, R398, R399, R500, R503, R504). -/

namespace Sys2Proof.Machine

open Sys2Proof

/-! ## Register fields at another place -/

theorem State.get_of_regs {s t : State} (h : s.regs = t.regs) (f : Fld) : s.get f = t.get f := by
  unfold State.get
  rw [h]

theorem State.on_put_ne (s : State) (f g : Fld) (v : Nat) (h : f.key ≠ g.key) : (s.put f v).on g = s.on g := by
  unfold State.on
  rw [State.get_put_ne s f g v h]

/-- A saturating step moves no field at another place. -/
theorem State.get_bumpSat_ne (s : State) (f g : Fld) (h : f.key ≠ g.key) : (s.bumpSat f).get g = s.get g := by
  obtain ⟨-, e⟩ | ⟨-, e⟩ := s.bumpSat_cases f
  · rw [e, State.get_put_ne s f g _ h]
  · rw [e]

theorem State.on_bumpSat_ne (s : State) (f g : Fld) (h : f.key ≠ g.key) : (s.bumpSat f).on g = s.on g := by
  unfold State.on
  rw [State.get_bumpSat_ne s f g h]

/-- What a saturating step leaves in its counter depends on nothing but the counter. -/
theorem State.get_bumpSat_congr (s t : State) (f : Fld) (h : s.get f = t.get f) :
    (s.bumpSat f).get f = (t.bumpSat f).get f := by
  unfold State.bumpSat
  rw [h]
  split
  · simp
  · exact h

@[simp] theorem State.on_putB_self (s : State) (f : Fld) (b : Bool) (h : 0 < f.width) : (s.putB f b).on f = b := by
  have hw : 1 < 2 ^ f.width := Nat.one_lt_two_pow (by omega)
  rw [State.putB_eq, State.on, State.get_put_self]
  cases b <;> simp [Nat.mod_eq_of_lt hw]

/-! ## Who may make an access -/

theorem State.not_scanning_of_busUp {s : State} (h : s.busUp = true) : s.scanning = false := by
  simp only [State.busUp, Bool.and_eq_true, Bool.not_eq_true'] at h
  exact h.1.1

theorem State.dev_ne_banked_of_busUp {s : State} (h : s.busUp = true) : s.dev ≠ .banked := by
  intro hd
  simp [State.busUp, hd] at h

theorem State.mayBus_of_mayWrite {s : State} {req : Requester} (h : s.mayWrite req = true) : s.mayBus req = true := by
  simp only [State.mayWrite, Bool.and_eq_true] at h
  exact h.1

theorem State.reqActs_of_mayBus {s : State} {req : Requester} (h : s.mayBus req = true) : s.reqActs req = true := by
  simp only [State.mayBus, Bool.and_eq_true] at h
  exact h.1.2

/-- A requester that may write has not been overtaken (R38). -/
theorem State.not_overtaken_of_mayWrite {s : State} {req : Requester} (hb : s.busUp = true) (hw : s.mayWrite req = true) :
    s.overtaken req = false := by
  simp [State.overtaken, hw, State.dev_ne_banked_of_busUp hb]

theorem State.debugMem_of_ne {s : State} {req : Requester} (h : req ≠ .debug) (a : Nat) : s.debugMem req a = none := by
  simp [State.debugMem, h]

theorem State.reqReaches_of_ne {s : State} {req : Requester} (h : req ≠ .debug) (a : Nat) : s.reqReaches req a = true := by
  simp [State.reqReaches, h]

/-! ## Writes -/

/-- A write by a port other than the debug port that may write: the register's effect, or a note where the address is absent. -/
theorem State.busWrite_of_mayWrite {s : State} {req : Requester} {a : Nat} (v : Nat) (hb : s.busUp = true)
    (hw : s.mayWrite req = true) (hd : req ≠ .debug) (ha : a % 4 = 0) :
    s.busWrite req a v = if s.absentAddr a then s.noteAbsent req true a else (s.writeAt req a v).sync := by
  simp [State.busWrite, State.not_scanning_of_busUp hb, State.not_overtaken_of_mayWrite hb hw, State.debugMem_of_ne hd, hb,
    State.mayBus_of_mayWrite hw, State.reqReaches_of_ne hd, ha]

/-- A write by a requester that may not write, or that does not reach the address, has no effect. -/
theorem State.busWrite_of_barred {s : State} {req : Requester} {a : Nat} (v : Nat) (hs : s.scanning = false)
    (ho : s.overtaken req = false) (hm : s.debugMem req a = none) (h : s.mayBus req = false ∨ s.reqReaches req a = false) :
    s.busWrite req a v = s := by
  obtain h | h := h <;> simp [State.busWrite, hs, ho, hm, h]

/-! ## Memories over an open debug port -/

theorem debugWord_mem_lt {a m w : Nat} (h : debugWord a = some (m, w)) : a / 0x10000000 = m ∧ m < 4 := by
  simp only [debugWord, Option.ite_none_right_eq_some, Option.some.injEq, Prod.mk.injEq] at h
  obtain ⟨⟨-, hm, -⟩, rfl, -⟩ := h
  exact ⟨rfl, hm⟩

/-- The memories lie below the windows of the registers. -/
theorem absentAddr_of_debugWord (s : State) {a m w : Nat} (h : debugWord a = some (m, w)) : s.absentAddr a = true := by
  obtain ⟨hm, hlt⟩ := debugWord_mem_lt h
  have hw : inWindow a = false := by
    simp only [inWindow, List.contains_eq_mem, List.mem_cons, List.not_mem_nil, or_false, decide_eq_false_iff_not]
    omega
  simp [State.absentAddr, hw]

theorem State.debugMem_debug {s : State} (h : s.debugFull = true) (a : Nat) : s.debugMem .debug a = debugWord a := by
  simp [State.debugMem, h]

/-- A word stored over the debug port reads back over it (R80). -/
theorem State.debugRead_debugStore (s : State) {m : Nat} (w : Nat) (v : Word) (hm : m < 4) :
    (s.debugStore m w v).debugRead m w = { s.debugStore m w v with rdata := v.toNat } := by
  match m, hm with
  | 0, _ => simp [State.debugStore, State.debugRead]
  | 1, _ => simp [State.debugStore, State.debugRead]
  | 2, _ => simp [State.debugStore, State.debugRead]
  | 3, _ => simp [State.debugStore, State.debugRead]

/-- A store over the debug port changes memories alone. -/
theorem State.debugStore_eq (s : State) (m w : Nat) (v : Word) :
    ∃ mem cone, s.debugStore m w v = { s with mem := mem, cone := cone } := by
  unfold State.debugStore
  split <;> exact ⟨_, _, rfl⟩

/-! ## The note of an absent access -/

/-- The fields of SYS that a note of an absent access writes (R503). -/
def State.absentNoted (s : State) (req : Requester) (wr : Bool) (a : Nat) : State :=
  ((((s.raise R.SYS_ABSENT_FLAG).bumpSat R.SYS_ABSENT_COUNT).put R.SYS_ABSENT_REQ (reqIdx req + 1)).putB
    R.SYS_ABSENT_WR wr).put R.SYS_ABSENT_ADDR_ADDR a

section
variable (s : State) (req : Requester) (wr : Bool) (a : Nat)

/-- Beside the fields of SYS the note writes the host port's code. -/
def State.absentTold (s : State) (req : Requester) (wr : Bool) (a : Nat) : State :=
  if req = .hspi then (s.absentNoted req wr a).put R.HSPI_STAT_LASTCODE 5 else s.absentNoted req wr a

theorem State.noteAbsent_eq : s.noteAbsent req wr a =
    { s.absentTold req wr a with absentAt := some (s.absentTold req wr a).fab } := rfl

theorem State.noteAbsent_regs : (s.noteAbsent req wr a).regs = (s.absentTold req wr a).regs := rfl

theorem State.get_noteAbsent {f : Fld} (hf : R.HSPI_STAT_LASTCODE.key ≠ f.key) :
    (s.noteAbsent req wr a).get f = (s.absentNoted req wr a).get f := by
  rw [State.get_of_regs (State.noteAbsent_regs s req wr a), State.absentTold]
  split
  · exact State.get_put_ne _ _ _ _ hf
  · rfl

theorem State.noteAbsent_lastcode (h : req = .hspi) : (s.noteAbsent req wr a).get R.HSPI_STAT_LASTCODE = 5 := by
  rw [State.get_of_regs (State.noteAbsent_regs s req wr a), State.absentTold, if_pos h]
  exact State.get_put_self _ _ _

@[simp] theorem State.noteAbsent_wheel : (s.noteAbsent req wr a).wheel = s.wheel := by
  rw [State.noteAbsent_eq]; simp only [State.absentTold]; split <;> simp [State.absentNoted]
@[simp] theorem State.noteAbsent_mem : (s.noteAbsent req wr a).mem = s.mem := by
  rw [State.noteAbsent_eq]; simp only [State.absentTold]; split <;> simp [State.absentNoted]
@[simp] theorem State.noteAbsent_queues : (s.noteAbsent req wr a).queues = s.queues := by
  rw [State.noteAbsent_eq]; simp only [State.absentTold]; split <;> simp [State.absentNoted]
@[simp] theorem State.noteAbsent_dev : (s.noteAbsent req wr a).dev = s.dev := by
  rw [State.noteAbsent_eq]; simp only [State.absentTold]; split <;> simp [State.absentNoted]
@[simp] theorem State.noteAbsent_rdata : (s.noteAbsent req wr a).rdata = s.rdata := by
  rw [State.noteAbsent_eq]; simp only [State.absentTold]; split <;> simp [State.absentNoted]

theorem State.absentNoted_flag : (s.absentNoted req wr a).on R.SYS_ABSENT_FLAG = true := by
  simp (disch := decide) only [State.absentNoted, State.putB_eq, State.on_put_ne, State.on_bumpSat_ne]
  simp [State.raise_eq, State.on, R.SYS_ABSENT_FLAG]

theorem State.absentNoted_count :
    (s.absentNoted req wr a).get R.SYS_ABSENT_COUNT = (s.bumpSat R.SYS_ABSENT_COUNT).get R.SYS_ABSENT_COUNT := by
  simp (disch := decide) only [State.absentNoted, State.putB_eq, State.get_put_ne]
  exact State.get_bumpSat_congr _ _ _ (State.get_put_ne _ _ _ _ (by decide))

theorem State.absentNoted_req : (s.absentNoted req wr a).get R.SYS_ABSENT_REQ = reqIdx req + 1 := by
  simp (disch := decide) only [State.absentNoted, State.putB_eq, State.get_put_ne, State.get_put_self]
  cases req <;> rfl

theorem State.absentNoted_wr : (s.absentNoted req wr a).on R.SYS_ABSENT_WR = wr := by
  simp (disch := decide) only [State.absentNoted, State.on_put_ne, State.on_putB_self]

theorem State.absentNoted_addr (ha : a < 2 ^ 32) : (s.absentNoted req wr a).get R.SYS_ABSENT_ADDR_ADDR = a := by
  simp only [State.absentNoted, State.get_put_self]
  exact Nat.mod_eq_of_lt ha

end

/-! ## The snapshot of a 64-bit quantity (R399) -/

theorem regFieldsIn_tscLo : regFieldsIn 0x40000050 (RegMap.window 0x40000050) = [R.SYS_TSC_LO_COUNT] := rfl
theorem regFieldsIn_tscHi : regFieldsIn 0x40000054 (RegMap.window 0x40000054) = [R.SYS_TSC_HI_COUNT] := rfl

theorem State.readWord_tscLo (s : State) : s.readWord 0x40000050 = s.tsc % 2 ^ 32 := by
  simp [State.readWord, regFieldsIn_tscLo, State.fieldNow, State.sysNow, R.SYS_TSC_LO_COUNT, R.SYS_STATE_CUR, R.SYS_STATE_TRANS,
    R.SYS_ID_PART, R.SYS_CAP0_UNITS]

theorem State.readWord_tscHi (s : State) : s.readWord 0x40000054 = s.tsc / 2 ^ 32 % 2 ^ 32 := by
  simp [State.readWord, regFieldsIn_tscHi, State.fieldNow, State.sysNow, R.SYS_TSC_LO_COUNT, R.SYS_STATE_CUR, R.SYS_STATE_TRANS,
    R.SYS_ID_PART, R.SYS_CAP0_UNITS, R.SYS_TSC_HI_COUNT]

/-- A requester's slot holds what was put into it. -/
theorem State.slot_setSlot (s : State) (req : Requester) (x : Option (Nat × Nat)) :
    Sparse.get none (s.setSlot req x).hspi.slot (reqIdx req) = x :=
  Sparse.get_set_self none _ _ x

/-- A read of a present register by a requester that acts and reaches it. -/
theorem State.busRead_present {s : State} {req : Requester} {a : Nat} (hb : s.busUp = true) (hr : s.reqActs req = true)
    (hm : s.debugMem req a = none) (hreach : s.reqReaches req a = true) (ha : a % 4 = 0) (hp : s.absentAddr a = false) :
    s.busRead req a = s.readAt req a := by
  simp [State.busRead, State.not_scanning_of_busUp hb, hb, hr, hm, hreach, ha, hp]

theorem State.debugMem_of_debugWord {s : State} {req : Requester} {a : Nat} (h : debugWord a = none) : s.debugMem req a = none := by
  simp [State.debugMem, h]

/-- The registers of SYS are present in every variant. -/
theorem State.absentAddr_tsc (s : State) {a : Nat} (hw : a / 0x10000 = 0x4000) (hb : instanceB a = false) :
    s.absentAddr a = false := by
  simp [State.absentAddr, inWindow, State.windowPresent, hw, hb]

/-! ## The commands -/

section
variable {s : State} {req : Requester} {addr : Word}

theorem exec_registerWrite (v : Word) : exec (.registerWrite req addr v) s = .next (s.busWrite req addr.toNat v.toNat) := rfl

theorem exec_absentAccess (wr : Bool) (h : s.absentAddr addr.toNat = true) : exec (.absentAccess req addr wr) s =
    .next (if wr then (if (s.debugMem req addr.toNat).isSome then s else s.busWrite req addr.toNat 0)
      else s.busRead req addr.toNat) := by
  show execAbsentAccess req addr wr s = _
  simp [execAbsentAccess, h]

/-- An access to a present address is none to an absent one. -/
theorem exec_absentAccess_present (wr : Bool) (h : s.absentAddr addr.toNat = false) :
    exec (.absentAccess req addr wr) s = .next s := by
  show execAbsentAccess req addr wr s = _
  simp [execAbsentAccess, h]

/-- An access to an absent address by a port other than the debug port that may write is noted; a read gives zero. -/
theorem exec_absentAccess_absent (wr : Bool) (hb : s.busUp = true) (hw : s.mayWrite req = true) (hd : req ≠ .debug)
    (ha : addr.toNat % 4 = 0) (h : s.absentAddr addr.toNat = true) :
    ∃ t, exec (.absentAccess req addr wr) s = .next t ∧ t.regs = (s.noteAbsent req wr addr.toNat).regs ∧
      t.rdata = (if wr then s.rdata else 0) ∧ t.wheel = s.wheel ∧ t.mem = s.mem ∧ t.queues = s.queues ∧ t.dev = s.dev := by
  have keeps := fun w => And.intro (s.noteAbsent_wheel req w addr.toNat) <| And.intro (s.noteAbsent_mem req w addr.toNat) <|
    And.intro (s.noteAbsent_queues req w addr.toNat) (s.noteAbsent_dev req w addr.toNat)
  rw [exec_absentAccess wr h]
  cases wr with
  | true =>
    have hwr : s.busWrite req addr.toNat 0 = s.noteAbsent req true addr.toNat := by
      rw [State.busWrite_of_mayWrite 0 hb hw hd ha, if_pos h]
    refine ⟨_, ?_, rfl, s.noteAbsent_rdata req true addr.toNat, keeps true⟩
    simp [State.debugMem_of_ne hd, hwr]
  | false =>
    have hrd : s.busRead req addr.toNat = { s.noteAbsent req false addr.toNat with rdata := 0 } := by
      simp [State.busRead, State.not_scanning_of_busUp hb, hb, State.reqActs_of_mayBus (State.mayBus_of_mayWrite hw),
        State.debugMem_of_ne hd, State.reqReaches_of_ne hd, ha, h]
    exact ⟨_, congrArg Host.Outcome.next hrd, rfl, rfl, keeps false⟩

/-- A read of the low half of the TSC leaves its high half in the requester's slot (R399). -/
theorem exec_lowHalfRead_tsc (hb : s.busUp = true) (hr : s.reqActs req = true) (hreach : s.reqReaches req (lowHalf 0) = true) :
    exec (.lowHalfRead req 0) s = .next { s.setSlot req (some (lowHalf 0, s.tsc / 2 ^ 32 % 2 ^ 32)) with rdata := s.tsc % 2 ^ 32 } := by
  have hm : s.debugMem req (lowHalf 0) = none := State.debugMem_of_debugWord rfl
  have hp : s.absentAddr (lowHalf 0) = false := s.absentAddr_tsc rfl rfl
  calc exec (.lowHalfRead req 0) s
      = .next (s.busRead req (lowHalf 0)) := rfl
    _ = .next (s.readAt req (lowHalf 0)) := by rw [State.busRead_present hb hr hm hreach rfl hp]
    _ = .next (s.readLow req (lowHalf 0)) := rfl
    _ = _ := by
      rw [State.readLow, show lowHalf 0 + 4 = 0x40000054 from rfl, show lowHalf 0 = 0x40000050 from rfl, State.readWord_tscHi,
        State.readWord_tscLo]

/-- A read of the high half gives what the slot holds, whatever the counter has done since (R399). -/
theorem exec_highHalfRead_tsc {h : Nat} (hb : s.busUp = true) (hr : s.reqActs req = true)
    (hreach : s.reqReaches req (lowHalf 0 + 4) = true) (hs : Sparse.get none s.hspi.slot (reqIdx req) = some (lowHalf 0, h)) :
    exec (.highHalfRead req 0) s = .next { s.setSlot req none with rdata := h } := by
  have hm : s.debugMem req (lowHalf 0 + 4) = none := State.debugMem_of_debugWord rfl
  have hp : s.absentAddr (lowHalf 0 + 4) = false := s.absentAddr_tsc rfl rfl
  calc exec (.highHalfRead req 0) s
      = .next (s.busRead req (lowHalf 0 + 4)) := rfl
    _ = .next (s.readAt req (lowHalf 0 + 4)) := by rw [State.busRead_present hb hr hm hreach rfl hp]
    _ = .next (s.readHigh req (lowHalf 0 + 4)) := rfl
    _ = _ := by rw [State.readHigh, hs]; simp

/-- What an open debug port writes to a memory, it reads back. -/
theorem exec_debug_write_read (v : Word) (hb : s.busUp = true) (hf : s.debugFull = true) (h : debugWord addr.toNat ≠ none) :
    ∃ t, exec (.registerWrite .debug addr v) s = .next t ∧ t.regs = s.regs ∧ t.dev = s.dev ∧ t.wheel = s.wheel ∧
      exec (.absentAccess .debug addr false) t = .next { t with rdata := v.toNat } := by
  obtain ⟨⟨m, w⟩, hw⟩ := Option.ne_none_iff_exists'.mp h
  have hstore : s.busWrite .debug addr.toNat v.toNat = s.debugStore m w v := by
    simp [State.busWrite, State.not_scanning_of_busUp hb, State.overtaken, hb, State.debugMem_debug hf, hw]
  obtain ⟨mem, cone, ht⟩ := s.debugStore_eq m w v
  have hread : (s.debugStore m w v).busRead .debug addr.toNat = (s.debugStore m w v).debugRead m w := by
    have hb' : (s.debugStore m w v).busUp = true := by rw [ht]; exact hb
    have hf' : (s.debugStore m w v).debugFull = true := by rw [ht]; exact hf
    simp [State.busRead, State.not_scanning_of_busUp hb', hb', State.reqActs, State.debugMem_debug hf', hw]
  refine ⟨s.debugStore m w v, by rw [exec_registerWrite, hstore], by rw [ht], by rw [ht], by rw [ht], ?_⟩
  rw [exec_absentAccess false (absentAddr_of_debugWord _ hw)]
  simp [hread, State.debugRead_debugStore s w v (debugWord_mem_lt hw).2]

end

/-- Settles O51: each clause from the rule of its access. -/
theorem interconnectAccessesComplete : Obligations.InterconnectAccessesComplete := by
  intro s req addr v wr
  refine ⟨fun hb hw hd ha hp => ?write, fun hs ho hm h => ?barred, fun hb hf h => ?memory, exec_absentAccess_present wr,
    fun hb hw hd ha h => ?absent, fun hb hr hreach => ?halves⟩
  case write => rw [exec_registerWrite, State.busWrite_of_mayWrite _ hb hw hd ha, hp, if_neg (by decide)]
  case barred => rw [exec_registerWrite, State.busWrite_of_barred _ hs ho hm h]
  case memory =>
    obtain ⟨t, ht, hregs, hdev, hwheel, hu⟩ := exec_debug_write_read v hb hf h
    exact ⟨t, ht, hregs, hdev, hwheel, _, hu, rfl, hregs, rfl, rfl⟩
  case absent =>
    obtain ⟨t, ht, hregs, hrdata, hkeeps⟩ := exec_absentAccess_absent wr hb hw hd ha h
    have hget : ∀ f : Fld, R.HSPI_STAT_LASTCODE.key ≠ f.key → t.get f = (s.absentNoted req wr addr.toNat).get f :=
      fun f hf => (State.get_of_regs hregs f).trans (s.get_noteAbsent req wr addr.toNat hf)
    have hon : ∀ f : Fld, R.HSPI_STAT_LASTCODE.key ≠ f.key → t.on f = (s.absentNoted req wr addr.toNat).on f :=
      fun f hf => by rw [State.on, hget f hf, State.on]
    exact ⟨t, ht, (hon _ (by decide)).trans (s.absentNoted_flag ..), (hget _ (by decide)).trans (s.absentNoted_count ..),
      (hget _ (by decide)).trans (s.absentNoted_req ..), (hon _ (by decide)).trans (s.absentNoted_wr ..),
      (hget _ (by decide)).trans (s.absentNoted_addr _ _ _ addr.isLt), hrdata,
      fun hq => (State.get_of_regs hregs _).trans (s.noteAbsent_lastcode req wr _ hq), hkeeps⟩
  case halves =>
    refine ⟨_, exec_lowHalfRead_tsc hb hr hreach, rfl, rfl, rfl, rfl, fun u hub hur hureach hslot => ?_⟩
    refine ⟨_, exec_highHalfRead_tsc (h := s.tsc / 2 ^ 32 % 2 ^ 32) hub hur hureach ?_, rfl, rfl⟩
    rw [hslot]
    show Sparse.get none (s.setSlot req (some (lowHalf 0, s.tsc / 2 ^ 32 % 2 ^ 32))).hspi.slot (reqIdx req) = _
    exact s.slot_setSlot req _

end Sys2Proof.Machine
end

section
/-! PROOFS. Binary32 as the Wheel computes it (R56, R8): what a word reads as, the one rounding, overflow and flush, special operands, and the saturating results. -/

namespace Sys2Proof.Machine.Fp32

open Sys2Proof

/-! ## Rounding a quotient to an integer, ties to even -/

/-- The integer r is x rounded to the nearest, an exact tie going to the even one. -/
def RoundsTo (x : ℚ) (r : ℤ) : Prop := |x - r| ≤ 1 / 2 ∧ (|x - r| = 1 / 2 → r % 2 = 0)

theorem RoundsTo.neg {x : ℚ} {r : ℤ} (h : RoundsTo x r) : RoundsTo (-x) (-r) := by
  have e : |(-x) - ((-r : ℤ) : ℚ)| = |x - r| := by
    rw [← abs_neg]
    congr 1
    push_cast
    ring
  refine ⟨e ▸ h.1, fun ht => ?_⟩
  have := h.2 (e ▸ ht)
  omega

/-- Rounding carries x below h + 1/2 to h at most, and the odd h + 1/2 above h. -/
theorem RoundsTo.le_iff {x : ℚ} {r h : ℤ} (hr : RoundsTo x r) (hodd : h % 2 = 1) : r ≤ h ↔ x < h + 1 / 2 := by
  obtain ⟨hc, ht⟩ := hr
  have hb := abs_le.mp hc
  constructor
  · intro hle
    have hq : (r : ℚ) ≤ h := by exact_mod_cast hle
    refine lt_of_le_of_ne (by linarith) fun he => ?_
    have hrh : r = h := by
      have : (h : ℚ) ≤ r := by linarith
      exact le_antisymm hle (by exact_mod_cast this)
    subst hrh
    have := ht (by rw [he, abs_of_nonneg] <;> linarith)
    omega
  · intro hx
    have : (r : ℚ) < h + 1 := by linarith
    have : r < h + 1 := by exact_mod_cast this
    omega

/-- As `le_iff` from below: an even l is reached from l − 1/2. -/
theorem RoundsTo.ge_iff {x : ℚ} {r l : ℤ} (hr : RoundsTo x r) (heven : l % 2 = 0) : l ≤ r ↔ l - 1 / 2 ≤ x := by
  have h := hr.le_iff (h := l - 1) (by omega)
  rw [← not_lt, ← not_lt, ← Int.le_sub_one_iff, h]
  push_cast
  constructor <;> intro h1 h2 <;> apply h1 <;> linarith

/-- How far a quotient lies from an integer, in units of the denominator. -/
theorem abs_div_sub (n d R : Nat) (hd : 0 < d) :
    |(n : ℚ) / d - ((R : ℤ) : ℚ)| = ((|2 * ((n : ℤ) - d * R)| : ℤ) : ℚ) / (2 * d) := by
  have hq : (0 : ℚ) < d := by exact_mod_cast hd
  have : (n : ℚ) / d - ((R : ℤ) : ℚ) = ((2 * ((n : ℤ) - d * R) : ℤ) : ℚ) / (2 * d) := by
    push_cast
    field_simp
  rw [this, abs_div, abs_of_pos (by positivity : (0 : ℚ) < 2 * d), Int.cast_abs]

/-- n/d rounded half to even lies within half of n/d. -/
theorem roundHalfEven_spec (n d : Nat) (hd : 0 < d) : RoundsTo ((n : ℚ) / d) (roundHalfEven n d : Nat) := by
  have hq : (0 : ℚ) < d := by exact_mod_cast hd
  have hlt : n % d < d := Nat.mod_lt n hd
  have hn : (n : ℤ) = d * (n / d : Nat) + (n % d : Nat) := by exact_mod_cast (Nat.div_add_mod n d).symm
  have hle : ∀ R : Nat, |(n : ℚ) / d - ((R : ℤ) : ℚ)| ≤ 1 / 2 ↔ |2 * ((n : ℤ) - d * R)| ≤ d := fun R => by
    rw [abs_div_sub n d R hd, div_le_div_iff₀ (by positivity) (by norm_num), one_mul, mul_comm, mul_le_mul_iff_right₀ (by norm_num)]
    exact_mod_cast Iff.rfl
  have heq : ∀ R : Nat, |(n : ℚ) / d - ((R : ℤ) : ℚ)| = 1 / 2 ↔ |2 * ((n : ℤ) - d * R)| = d := fun R => by
    rw [abs_div_sub n d R hd, div_eq_div_iff (by positivity) (by norm_num), one_mul, mul_comm, mul_right_inj' (by norm_num)]
    exact_mod_cast Iff.rfl
  rw [RoundsTo, hle, heq, hn]
  unfold roundHalfEven
  generalize n / d = q at *
  generalize n % d = r at *
  dsimp only
  split
  · have e : 2 * ((d : ℤ) * q + r - d * ((q + 1 : Nat) : ℤ)) = 2 * (r - d) := by push_cast; ring
    rw [e, abs_of_nonpos (by omega)]
    omega
  · have e : 2 * ((d : ℤ) * q + r - d * (q : ℤ)) = 2 * r := by ring
    rw [e, abs_of_nonneg (by omega)]
    omega

/-! ## The significand of 24 bits -/

/-- A significand M and an exponent e are those of x > 0 rounded to 24 bits, the exponent unbounded. -/
structure SigOf (x : ℚ) (M : Nat) (e : ℤ) : Prop where
  lower : 2 ^ 23 * (2 : ℚ) ^ e ≤ x
  upper : x < 2 ^ 24 * (2 : ℚ) ^ e
  close : |x - M * (2 : ℚ) ^ e| ≤ (2 : ℚ) ^ e / 2
  tie : |x - M * (2 : ℚ) ^ e| = (2 : ℚ) ^ e / 2 → M % 2 = 0

/-- The rounding of x/2^e to an integer, in units of 2^e. -/
theorem SigOf.of_roundsTo {x : ℚ} {M : Nat} {e : ℤ} (hl : 2 ^ 23 * (2 : ℚ) ^ e ≤ x) (hu : x < 2 ^ 24 * (2 : ℚ) ^ e)
    (h : RoundsTo (x / (2 : ℚ) ^ e) M) : SigOf x M e := by
  have hp : (0 : ℚ) < (2 : ℚ) ^ e := by positivity
  have hs : |x - M * (2 : ℚ) ^ e| = |x / (2 : ℚ) ^ e - ((M : ℤ) : ℚ)| * (2 : ℚ) ^ e := by
    rw [← abs_of_pos hp, ← abs_mul, abs_of_pos hp]
    congr 1
    push_cast
    field_simp
  refine ⟨hl, hu, ?_, fun ht => ?_⟩
  · rw [hs]
    nlinarith [h.1]
  · rw [hs] at ht
    have := h.2 (mul_right_cancel₀ hp.ne' (by rw [ht]; ring))
    omega

theorem SigOf.le {x : ℚ} {M : Nat} {e : ℤ} (h : SigOf x M e) : 2 ^ 23 ≤ M ∧ M ≤ 2 ^ 24 := by
  have hp : (0 : ℚ) < (2 : ℚ) ^ e := by positivity
  obtain ⟨hl, hu, hc, -⟩ := h
  have hb := abs_le.mp hc
  constructor
  · by_contra hlt
    have : (M : ℚ) + 1 ≤ 2 ^ 23 := by exact_mod_cast (not_le.mp hlt)
    nlinarith
  · by_contra hlt
    have : (2 : ℚ) ^ 24 + 1 ≤ M := by exact_mod_cast (not_le.mp hlt)
    nlinarith

/-- A quotient scaled by a power of two on the side where the exponent is not negative. -/
theorem scaled_div (n d : Nat) (k : ℤ) :
    ((if 0 ≤ k then n * 2 ^ k.toNat else n : Nat) : ℚ) / (if 0 ≤ k then d else d * 2 ^ (-k).toNat : Nat) = n / d * (2 : ℚ) ^ k := by
  split
  · next h =>
    obtain ⟨j, rfl⟩ := Int.eq_ofNat_of_zero_le h
    simp
    ring
  · next h =>
    obtain ⟨j, rfl⟩ : ∃ j : Nat, k = -(j : ℤ) := ⟨(-k).toNat, by omega⟩
    simp
    field_simp

/-- The exponent k of n/d, with 2^k ≤ n/d < 2^(k+1): the difference of the lengths of n and d, or one less. -/
def quotExp (n d : Nat) : Int :=
  let k0 : Int := (Nat.log2 n : Int) - (Nat.log2 d : Int)
  if (if 0 ≤ k0 then d * 2 ^ k0.toNat ≤ n else d ≤ n * 2 ^ (-k0).toNat) then k0 else k0 - 1

theorem quotExp_spec {n d : Nat} (hn : 0 < n) (hd : 0 < d) :
    (2 : ℚ) ^ quotExp n d ≤ n / d ∧ (n : ℚ) / d < (2 : ℚ) ^ (quotExp n d + 1) := by
  unfold quotExp
  extract_lets k0
  have hdq : (0 : ℚ) < d := by exact_mod_cast hd
  have hnl : (2 : ℚ) ^ (Nat.log2 n) ≤ n := by exact_mod_cast Nat.log2_self_le hn.ne'
  have hnu : (n : ℚ) < 2 ^ (Nat.log2 n + 1) := by exact_mod_cast Nat.lt_log2_self
  have hdl : (2 : ℚ) ^ (Nat.log2 d) ≤ d := by exact_mod_cast Nat.log2_self_le hd.ne'
  have hdu : (d : ℚ) < 2 ^ (Nat.log2 d + 1) := by exact_mod_cast Nat.lt_log2_self
  have hge : (if 0 ≤ k0 then d * 2 ^ k0.toNat ≤ n else d ≤ n * 2 ^ (-k0).toNat) ↔ (2 : ℚ) ^ k0 ≤ n / d := by
    rw [le_div_iff₀ hdq]
    split
    · next h =>
      obtain ⟨j, hj⟩ := Int.eq_ofNat_of_zero_le h
      rw [hj, Int.toNat_natCast, zpow_natCast, mul_comm]
      exact_mod_cast Iff.rfl
    · next h =>
      obtain ⟨j, hj⟩ : ∃ j : Nat, k0 = -(j : ℤ) := ⟨(-k0).toNat, by omega⟩
      rw [hj, neg_neg, Int.toNat_natCast, zpow_neg, zpow_natCast, inv_mul_le_iff₀ (by positivity), mul_comm]
      exact_mod_cast Iff.rfl
  have hk0 : (2 : ℚ) ^ k0 = 2 ^ Nat.log2 n / 2 ^ Nat.log2 d := by
    rw [zpow_sub₀ (by norm_num), zpow_natCast, zpow_natCast]
  have hup : (n : ℚ) / d < (2 : ℚ) ^ (k0 + 1) := by
    rw [zpow_add₀ (by norm_num), hk0, zpow_one, div_mul_eq_mul_div, div_lt_div_iff₀ hdq (by positivity), ← pow_succ]
    exact mul_lt_mul hnu hdl (by positivity) (by positivity)
  have hlow : (2 : ℚ) ^ (k0 - 1) ≤ n / d := by
    rw [zpow_sub₀ (by norm_num), hk0, zpow_one, div_div, ← pow_succ, div_le_div_iff₀ (by positivity) hdq]
    exact mul_le_mul hnl hdu.le (by positivity) (by positivity)
  by_cases hc : (2 : ℚ) ^ k0 ≤ n / d
  · rw [if_pos (hge.mpr hc)]
    exact ⟨hc, hup⟩
  · rw [if_neg (mt hge.mp hc), sub_add_cancel]
    exact ⟨hlow, not_le.mp hc⟩

/-- `roundSig` scales the quotient into [2^23, 2^24) and rounds it half to even. -/
theorem roundSig_eq (n d : Nat) :
    roundSig n d = (roundHalfEven (if 0 ≤ 23 - quotExp n d then n * 2 ^ (23 - quotExp n d).toNat else n)
      (if 0 ≤ 23 - quotExp n d then d else d * 2 ^ (-(23 - quotExp n d)).toNat), quotExp n d - 23) := by
  simp only [roundSig, roundHalfEven, quotExp, Bool.or_eq_true, Bool.and_eq_true, decide_eq_true_eq]
  rfl

/-- n/d rounded to 24 bits (R56, R8). -/
theorem roundSig_sigOf {n d : Nat} (hn : 0 < n) (hd : 0 < d) :
    SigOf ((n : ℚ) / d) (roundSig n d).1 (roundSig n d).2 := by
  rw [roundSig_eq]
  obtain ⟨hl, hu⟩ := quotExp_spec hn hd
  generalize quotExp n d = k at *
  have hpos : 0 < (if 0 ≤ 23 - k then d else d * 2 ^ (-(23 - k)).toNat) := by split <;> positivity
  have h := roundHalfEven_spec (if 0 ≤ 23 - k then n * 2 ^ (23 - k).toNat else n) _ hpos
  have hs : (n : ℚ) / d * (2 : ℚ) ^ (23 - k) = n / d / (2 : ℚ) ^ (k - 23) := by
    rw [div_eq_mul_inv _ ((2 : ℚ) ^ (k - 23)), ← zpow_neg, neg_sub]
  rw [scaled_div, hs] at h
  refine SigOf.of_roundsTo ?_ ?_ h
  · rw [← zpow_natCast, ← zpow_add₀ (by norm_num)]
    simpa using hl
  · rw [← zpow_natCast, ← zpow_add₀ (by norm_num), show ((24 : ℕ) : ℤ) + (k - 23) = k + 1 by push_cast; ring]
    exact hu

/-! ## What a word reads as -/

/-- The sign-magnitude parts of a word. -/
def mag (w : Word) : Nat := w.toNat % 0x80000000
def sgn (w : Word) : Bool := decide (0x80000000 ≤ w.toNat)

theorem num_of_nan {w : Word} (h : 0x7F800000 < mag w) : num w = .nan := by
  have hlt := w.isLt
  simp only [mag] at h
  have hex : w.toNat / 0x800000 % 256 = 255 := by omega
  have hfr : w.toNat % 0x800000 ≠ 0 := by omega
  simp only [num, hex, hfr, if_true, if_false]

theorem num_of_inf {w : Word} (h : mag w = 0x7F800000) : num w = .inf (sgn w) := by
  have hlt := w.isLt
  simp only [mag] at h
  have hex : w.toNat / 0x800000 % 256 = 255 := by omega
  have hfr : w.toNat % 0x800000 = 0 := by omega
  simp only [num, hex, hfr, if_true, sgn]

theorem num_of_small {w : Word} (h : mag w < 0x800000) : num w = .fin (sgn w) 0 0 := by
  have hlt := w.isLt
  simp only [mag] at h
  have hex : w.toNat / 0x800000 % 256 = 0 := by omega
  simp only [num, hex, if_true, sgn]
  rfl

theorem num_of_normal {w : Word} (hl : 0x800000 ≤ mag w) (hu : mag w < 0x7F800000) :
    num w = .fin (sgn w) (w.toNat % 0x800000 + 0x800000) ((w.toNat / 0x800000 % 256 : Nat) - 150) := by
  have hlt := w.isLt
  simp only [mag] at hl hu
  have h255 : w.toNat / 0x800000 % 256 ≠ 255 := by omega
  have h0 : w.toNat / 0x800000 % 256 ≠ 0 := by omega
  simp only [num, h255, h0, if_false, sgn]

/-- The real number a finite reading stands for; 0 for the others. -/
def Num.val : Num → ℚ
  | .fin n m e => (if n then -1 else 1) * m * (2 : ℚ) ^ e
  | _ => 0

theorem Num.val_neg (x : Num) : x.neg.val = -x.val := by
  cases x with
  | nan => simp [Num.neg, Num.val]
  | inf n => simp [Num.neg, Num.val]
  | fin n m e => cases n <;> simp [Num.neg, Num.val]

/-- A finite word reads as the number it holds; as one without a significand exactly where it is zero or subnormal. -/
theorem num_of_finite {w : Word} (h : mag w < 0x7F800000) :
    ∃ m e, num w = .fin (sgn w) m e ∧ value w = (Num.fin (sgn w) m e).val ∧ (m = 0 ↔ mag w < 0x800000) := by
  have hlt := w.isLt
  by_cases hz : mag w < 0x800000
  · refine ⟨0, 0, num_of_small hz, ?_, by simp [hz]⟩
    simp only [mag] at hz
    have hex : (w.toNat : ℤ) / 0x800000 % 256 = 0 := by omega
    simp [value, hex, Num.val]
  · refine ⟨_, _, num_of_normal (not_lt.mp hz) h, ?_, by simp [hz]⟩
    simp only [mag] at hz
    have hex : (w.toNat : ℤ) / 0x800000 % 256 ≠ 0 := by omega
    simp [value, hex, Num.val, sgn]

theorem value_eq {w : Word} (h : mag w < 0x7F800000) : value w = (num w).val := by
  obtain ⟨m, e, hn, hv, -⟩ := num_of_finite h
  rw [hv, hn]

theorem infinity_eq (n : Bool) : infinity n = if n then 0xFF800000#32 else 0x7F800000#32 := by cases n <;> rfl
theorem zero_eq (n : Bool) : zero n = if n then 0x80000000#32 else 0x00000000#32 := by cases n <;> rfl

theorem eq_infinity {w : Word} (h : mag w = 0x7F800000) : infinity (sgn w) = w := by
  have hlt := w.isLt
  simp only [mag] at h
  apply BitVec.eq_of_toNat_eq
  rw [infinity_eq, sgn]
  by_cases hs : 0x80000000 ≤ w.toNat
  · simp [hs]
    omega
  · simp [hs]
    omega

/-! ## Delivering a number (R56) -/

/-- What R56 says of the exact result q delivered as r: a zero, an infinity with OVF, a flushed zero with UNF, or the nearest number. -/
def Delivers (r : Res) (q : ℚ) : Prop :=
  (q = 0 → mag r.v < 0x800000 ∧ r.fl = 0) ∧
  (2 ^ 128 - 2 ^ 103 ≤ |q| → r = ⟨infinity (decide (q < 0)), ovf⟩) ∧
  (q ≠ 0 → |q| < 1 / 2 ^ 126 - 1 / 2 ^ 151 → r = ⟨zero (decide (q < 0)), unf⟩) ∧
  (1 / 2 ^ 126 - 1 / 2 ^ 151 ≤ |q| → |q| < 2 ^ 128 - 2 ^ 103 →
    r.fl = 0 ∧ mag r.v < 0x7F800000 ∧ |value r.v - q| * 2 ^ 24 ≤ |value r.v|)

/-- A zero of either sign is what an exact zero gives. -/
theorem delivers_zero (n : Bool) : Delivers ⟨zero n, 0⟩ 0 := by
  refine ⟨fun _ => ⟨?_, rfl⟩, fun h => absurd h (by norm_num), fun h => absurd rfl h, fun h => absurd h (by norm_num)⟩
  cases n <;> decide

/-- The significand before and after a carry out of its 24 bits stands for the same number. -/
theorem pack_carry (n : Bool) (e : ℤ) : pack n 0x1000000 e = pack n 0x800000 (e + 1) := by
  simp [pack]

theorem pack_overflow (n : Bool) {m : Nat} {e : ℤ} (hm : m ≠ 0x1000000) (he : 104 < e) : pack n m e = ⟨infinity n, ovf⟩ := by
  have h : ¬e < -149 := by omega
  simp [pack, hm, he, h]

theorem pack_underflow (n : Bool) {m : Nat} {e : ℤ} (hm : m ≠ 0x1000000) (he : e < -149) : pack n m e = ⟨zero n, unf⟩ := by
  simp [pack, hm, he]

/-- In range the word holds the number: its sign, its significand and its exponent. -/
theorem pack_normal (n : Bool) {m : Nat} {e : ℤ} (hm : 2 ^ 23 ≤ m) (hm' : m < 2 ^ 24) (hl : -149 ≤ e) (hu : e ≤ 104) :
    (pack n m e).fl = 0 ∧ mag (pack n m e).v < 0x7F800000 ∧ value (pack n m e).v = (Num.fin n m e).val := by
  have hc : m ≠ 0x1000000 := by omega
  have h1 : ¬e < -149 := by omega
  have h2 : ¬104 < e := by omega
  have hp : pack n m e = ⟨BitVec.ofNat 32 (signBit n + (e + 150).toNat * 0x800000 + (m - 0x800000)), 0⟩ := by
    simp only [pack, hc, h1, h2, if_false]
  have hs : (n = false ∧ signBit n = 0) ∨ (n = true ∧ signBit n = 0x80000000) := by cases n <;> simp [signBit]
  have ht : (pack n m e).v.toNat = signBit n + (e + 150).toNat * 0x800000 + (m - 0x800000) := by
    rw [hp, BitVec.toNat_ofNat]
    apply Nat.mod_eq_of_lt
    omega
  have hsgn : sgn (pack n m e).v = n := by
    rw [sgn, ht]
    obtain ⟨rfl, h⟩ | ⟨rfl, h⟩ := hs
    · exact decide_eq_false (by omega)
    · exact decide_eq_true (by omega)
  have hmag : mag (pack n m e).v = (e + 150).toNat * 0x800000 + (m - 0x800000) := by
    rw [mag, ht]
    omega
  have hfin : mag (pack n m e).v < 0x7F800000 := by omega
  have hsig : (pack n m e).v.toNat % 0x800000 + 0x800000 = m := by omega
  have hexp : (((pack n m e).v.toNat / 0x800000 % 256 : Nat) : ℤ) - 150 = e := by omega
  refine ⟨by rw [hp], hfin, ?_⟩
  rw [value_eq hfin, num_of_normal (by omega) hfin, hsgn, hsig, hexp]

theorem sign_abs (n : Bool) (x : ℚ) : |(if n then -1 else 1) * x| = |x| := by
  cases n <;> simp

theorem sign_neg (n : Bool) {x : ℚ} (hx : 0 < x) : decide ((if n then -1 else 1) * x < 0) = n := by
  cases n <;> simp [hx, hx.le]

/-- Between the limits of the format a rounded significand delivers the nearest number. -/
theorem delivers_normal (n : Bool) {x : ℚ} {m M : Nat} {e e' : ℤ} (h : SigOf x M e') (hm : 2 ^ 23 ≤ m) (hm' : m < 2 ^ 24)
    (hv : (m : ℚ) * 2 ^ e = M * 2 ^ e') (hl : -149 ≤ e) (hu : e ≤ 104) (hx : 0 < x)
    (hlow : 1 / 2 ^ 126 - 1 / 2 ^ 151 ≤ x) (hhigh : x < 2 ^ 128 - 2 ^ 103) :
    Delivers (pack n m e) ((if n then -1 else 1) * x) := by
  obtain ⟨hfl, hmag, hval⟩ := pack_normal n hm hm' hl hu
  have hp : (0 : ℚ) < (2 : ℚ) ^ e' := by positivity
  rw [Delivers, sign_abs, abs_of_pos hx]
  refine ⟨fun h0 => ?_, fun hb => absurd hb (not_le.mpr hhigh), fun _ hs => absurd hlow (not_le.mpr hs), fun _ _ => ⟨hfl, hmag, ?_⟩⟩
  · exact absurd h0 (mul_ne_zero (by cases n <;> simp) hx.ne')
  · rw [hval, Num.val, mul_assoc, ← mul_sub, sign_abs, sign_abs, hv, abs_sub_comm,
      abs_of_nonneg (by positivity : (0 : ℚ) ≤ M * 2 ^ e')]
    have hM : (2 : ℚ) ^ 23 ≤ M := by exact_mod_cast h.le.1
    nlinarith [h.close]

/-- The significand carries out of its 24 bits from half a unit below 2^24 on. -/
theorem SigOf.carry_iff {x : ℚ} {M : Nat} {e : ℤ} (h : SigOf x M e) : M = 2 ^ 24 ↔ (2 ^ 24 - 1 / 2) * (2 : ℚ) ^ e ≤ x := by
  have hp : (0 : ℚ) < (2 : ℚ) ^ e := by positivity
  have hc := abs_le.mp h.close
  constructor
  · rintro rfl
    push_cast at hc
    linarith [hc.1]
  · intro hx
    refine le_antisymm h.le.2 (not_lt.mp fun hlt => ?_)
    have hM : (M : ℚ) + 1 ≤ 2 ^ 24 := by exact_mod_cast hlt
    have he : x - M * (2 : ℚ) ^ e = (2 : ℚ) ^ e / 2 := le_antisymm hc.2 (by nlinarith)
    have heven := h.tie (by rw [he, abs_of_pos (by positivity)])
    have hM' : (2 : ℚ) ^ 24 ≤ M + 1 := by
      by_contra hn
      nlinarith
    have : 2 ^ 24 ≤ M + 1 := by exact_mod_cast hM'
    omega

theorem delivers_overflow (n : Bool) {x : ℚ} (hx : 2 ^ 128 - 2 ^ 103 ≤ x) :
    Delivers ⟨infinity n, ovf⟩ ((if n then -1 else 1) * x) := by
  have hpos : 0 < x := lt_of_lt_of_le (by norm_num) hx
  have hlow : 1 / 2 ^ 126 - 1 / 2 ^ 151 ≤ x := le_trans (by norm_num) hx
  rw [Delivers, sign_abs, sign_neg n hpos, abs_of_pos hpos]
  exact ⟨fun h0 => absurd h0 (mul_ne_zero (by cases n <;> simp) hpos.ne'), fun _ => rfl, fun _ hs => absurd hlow (not_le.mpr hs),
    fun _ hb => absurd hx (not_le.mpr hb)⟩

theorem delivers_underflow (n : Bool) {x : ℚ} (hpos : 0 < x) (hx : x < 1 / 2 ^ 126 - 1 / 2 ^ 151) :
    Delivers ⟨zero n, unf⟩ ((if n then -1 else 1) * x) := by
  have hhigh : x < 2 ^ 128 - 2 ^ 103 := lt_trans hx (by norm_num)
  rw [Delivers, sign_abs, sign_neg n hpos, abs_of_pos hpos]
  exact ⟨fun h0 => absurd h0 (mul_ne_zero (by cases n <;> simp) hpos.ne'), fun hb => absurd hb (not_le.mpr hhigh), fun _ _ => rfl,
    fun hl _ => absurd hl (not_le.mpr hx)⟩

/-- A positive number rounded to 24 bits and packed (R56). -/
theorem pack_delivers (n : Bool) {x : ℚ} {M : Nat} {e : ℤ} (h : SigOf x M e) : Delivers (pack n M e) ((if n then -1 else 1) * x) := by
  have hx : 0 < x := lt_of_lt_of_le (by positivity) h.lower
  have below : ∀ (i : ℤ) (b : ℚ), (2 : ℚ) ^ i = b → e ≤ i → (2 : ℚ) ^ e ≤ b :=
    fun i b hb hi => hb ▸ zpow_le_zpow_right₀ (by norm_num) hi
  have above : ∀ (i : ℤ) (b : ℚ), (2 : ℚ) ^ i = b → i ≤ e → b ≤ (2 : ℚ) ^ e :=
    fun i b hb hi => hb ▸ zpow_le_zpow_right₀ (by norm_num) hi
  have hlower := h.lower
  have hupper := h.upper
  by_cases hcarry : M = 2 ^ 24
  · have hx' := h.carry_iff.mp hcarry
    have hpack : pack n M e = pack n (2 ^ 23) (e + 1) := hcarry ▸ pack_carry n e
    rw [hpack]
    by_cases hunf : e + 1 < -149
    · have hb := below (-151) (1 / 2 ^ 151) (by norm_num) (by omega)
      rw [pack_underflow n (by norm_num) hunf]
      exact delivers_underflow n hx (by linarith)
    · by_cases hovf : 104 < e + 1
      · have hb := above 104 (2 ^ 104) (by norm_num) (by omega)
        rw [pack_overflow n (by norm_num) hovf]
        exact delivers_overflow n (by linarith)
      · have hb := below 103 (2 ^ 103) (by norm_num) (by omega)
        have hb' := above (-150) (1 / 2 ^ 150) (by norm_num) (by omega)
        refine delivers_normal n h le_rfl (by norm_num) ?_ (by omega) (by omega) hx (by linarith) (by linarith)
        rw [hcarry, zpow_add₀ (by norm_num)]
        push_cast
        ring
  · have hx' := not_le.mp (mt h.carry_iff.mpr hcarry)
    have hM : M < 2 ^ 24 := lt_of_le_of_ne h.le.2 hcarry
    by_cases hunf : e < -149
    · have hb := below (-150) (1 / 2 ^ 150) (by norm_num) (by omega)
      rw [pack_underflow n (by omega) hunf]
      exact delivers_underflow n hx (by linarith)
    · by_cases hovf : 104 < e
      · have hb := above 105 (2 ^ 105) (by norm_num) (by omega)
        rw [pack_overflow n (by omega) hovf]
        exact delivers_overflow n (by linarith)
      · have hb := below 104 (2 ^ 104) (by norm_num) (by omega)
        have hb' := above (-149) (1 / 2 ^ 149) (by norm_num) (by omega)
        exact delivers_normal n h h.le.1 hM rfl (by omega) (by omega) hx (by linarith) (by linarith)

/-- ±n/d rounded once (R56). -/
theorem ofRat_delivers (s : Bool) (n : Nat) {d : Nat} (hd : 0 < d) : Delivers (ofRat s n d) ((if s then -1 else 1) * ((n : ℚ) / d)) := by
  by_cases hn : n = 0
  · simp only [ofRat, hn, true_or, if_true, Nat.cast_zero, zero_div, mul_zero]
    exact delivers_zero s
  · have h : ¬(n = 0 ∨ d = 0) := by omega
    simp only [ofRat, h, if_false]
    exact pack_delivers s (roundSig_sigOf (Nat.pos_of_ne_zero hn) hd)

/-! ## Sums and products -/

theorem scale_div (m : Nat) (e : ℤ) : ((scale m e).1 : ℚ) / (scale m e).2 = m * (2 : ℚ) ^ e ∧ 0 < (scale m e).2 := by
  unfold scale
  split
  · next h =>
    obtain ⟨j, rfl⟩ := Int.eq_ofNat_of_zero_le h
    simp
  · next h =>
    obtain ⟨j, rfl⟩ : ∃ j : Nat, e = -(j : ℤ) := ⟨(-e).toNat, by omega⟩
    simp [div_eq_mul_inv]

/-- An integer significand delivered with its sign. -/
theorem signed_delivers (z : ℤ) (e : ℤ) :
    Delivers (ofRat (decide (z < 0)) (scale z.natAbs e).1 (scale z.natAbs e).2) (z * (2 : ℚ) ^ e) := by
  obtain ⟨hs, hpos⟩ := scale_div z.natAbs e
  have h := ofRat_delivers (decide (z < 0)) (scale z.natAbs e).1 hpos
  have hz : (z : ℚ) = (if decide (z < 0) = true then -1 else 1) * (z.natAbs : ℚ) := by
    rw [Nat.cast_natAbs, Int.cast_abs]
    by_cases h0 : z < 0
    · simp [h0, abs_of_neg (Int.cast_lt_zero.mpr h0)]
    · simp [h0, abs_of_nonneg (by exact_mod_cast not_lt.mp h0 : (0 : ℚ) ≤ z)]
  rwa [hs, ← mul_assoc, ← hz] at h

theorem alignTo_val (n : Bool) (m : Nat) {e e0 : ℤ} (h : e0 ≤ e) : (alignTo n m e e0 : ℚ) * (2 : ℚ) ^ e0 = (Num.fin n m e).val := by
  obtain ⟨j, hj⟩ := Int.eq_ofNat_of_zero_le (sub_nonneg.mpr h)
  have he : (2 : ℚ) ^ e = 2 ^ j * 2 ^ e0 := by
    rw [← zpow_natCast, ← zpow_add₀ (by norm_num)]
    congr 1
    omega
  rw [alignTo, hj, Num.val, he]
  cases n <;> simp <;> ring

/-- A term of a sum at the common exponent; a zero takes no part. -/
theorem term_val (n : Bool) (m : Nat) {e e0 : ℤ} (h : m ≠ 0 → e0 ≤ e) :
    ((if m = 0 then 0 else alignTo n m e e0 : ℤ) : ℚ) * (2 : ℚ) ^ e0 = (Num.fin n m e).val := by
  split
  · next h0 => simp [Num.val, h0]
  · next h0 => exact alignTo_val n m (h h0)

/-- The exact sum of two finite numbers, rounded once (R56). -/
theorem addFin_delivers (na : Bool) (ma : Nat) (ea : ℤ) (nb : Bool) (mb : Nat) (eb : ℤ) :
    Delivers (addFin na ma ea nb mb eb) ((Num.fin na ma ea).val + (Num.fin nb mb eb).val) := by
  by_cases hz : ma = 0 ∧ mb = 0
  · simp only [addFin, hz, and_self, if_true, Num.val, Nat.cast_zero, mul_zero, zero_mul, add_zero]
    exact delivers_zero _
  · simp only [addFin, hz, if_false]
    generalize he0 : (if ma = 0 then eb else if mb = 0 then ea else min ea eb) = e0
    generalize hsum : (if ma = 0 then (0 : ℤ) else alignTo na ma ea e0) + (if mb = 0 then 0 else alignTo nb mb eb e0) = z
    have hval : (z : ℚ) * (2 : ℚ) ^ e0 = (Num.fin na ma ea).val + (Num.fin nb mb eb).val := by
      rw [← hsum, Int.cast_add, add_mul]
      refine congrArg₂ _ (term_val na ma fun ha => ?_) (term_val nb mb fun hb => ?_)
      · rw [← he0, if_neg ha]
        split
        · exact le_rfl
        · exact min_le_left ea eb
      · rw [← he0]
        split
        · exact le_rfl
        · exact min_le_right ea eb
    rw [← hval]
    split
    · next h0 =>
      rw [h0, Int.cast_zero, zero_mul]
      exact delivers_zero _
    · exact signed_delivers z e0

/-- A finite number delivered as binary32 (R56). -/
theorem deliver_delivers (n : Bool) (m : Nat) (e : ℤ) : Delivers (deliver (.fin n m e)) (Num.fin n m e).val := by
  obtain ⟨hs, hpos⟩ := scale_div m e
  have h := ofRat_delivers n (scale m e).1 hpos
  rwa [hs, ← mul_assoc] at h

theorem val_mul (na nb : Bool) (ma mb : Nat) (ea eb : ℤ) :
    (Num.fin (na != nb) (ma * mb) (ea + eb)).val = (Num.fin na ma ea).val * (Num.fin nb mb eb).val := by
  simp only [Num.val, zpow_add₀ (two_ne_zero : (2 : ℚ) ≠ 0), Nat.cast_mul]
  cases na <;> cases nb <;> simp <;> ring

/-- The operations on finite words deliver the exact result rounded once (R56). -/
theorem finite_delivers {a b d : Word} (ha : mag a < 0x7F800000) (hb : mag b < 0x7F800000) (hd : mag d < 0x7F800000) :
    ∀ p ∈ [(add a b, value a + value b), (sub a b, value a - value b), (mul a b, value a * value b),
      (fma d a b, value d + value a * value b), (fms d a b, value d - value a * value b), (fnms d a b, value a * value b - value d)],
      Delivers p.1 p.2 := by
  obtain ⟨ma, ea, hna, hva, -⟩ := num_of_finite ha
  obtain ⟨mb, eb, hnb, hvb, -⟩ := num_of_finite hb
  obtain ⟨md, ed, hnd, hvd, -⟩ := num_of_finite hd
  have hneg : ∀ s m e, (Num.fin (!s) m e).val = -(Num.fin s m e).val := fun s m e => Num.val_neg (.fin s m e)
  have hadd : Delivers (add a b) (value a + value b) := by
    rw [add, hna, hnb, hva, hvb]
    exact addFin_delivers ..
  have hsub : Delivers (sub a b) (value a - value b) := by
    rw [sub, hna, hnb, hva, hvb, sub_eq_add_neg, ← hneg]
    exact addFin_delivers ..
  have hmul : Delivers (mul a b) (value a * value b) := by
    rw [mul, hna, hnb, hva, hvb, ← val_mul]
    exact deliver_delivers ..
  have hfma : Delivers (fma d a b) (value d + value a * value b) := by
    rw [fma, hna, hnb, hnd, hva, hvb, hvd, ← val_mul]
    exact addFin_delivers ..
  have hfms : Delivers (fms d a b) (value d - value a * value b) := by
    rw [fms, hna, hnb, hnd, hva, hvb, hvd, sub_eq_add_neg, ← neg_mul, ← hneg, ← val_mul]
    exact addFin_delivers ..
  have hfnms : Delivers (fnms d a b) (value a * value b - value d) := by
    rw [fnms, hna, hnb, hnd, hva, hvb, hvd, sub_eq_neg_add, ← hneg, ← val_mul]
    exact addFin_delivers ..
  simp only [List.forall_mem_cons]
  exact ⟨hadd, hsub, hmul, hfma, hfms, hfnms, by simp⟩

/-! ## NaN and infinity (R56) -/

/-- 0 × ∞ or ∞ × 0, a subnormal counting as 0. -/
def zeroTimesInf (a b : Word) : Bool :=
  (decide (mag a < 0x800000) && decide (mag b = 0x7F800000)) || (decide (mag a = 0x7F800000) && decide (mag b < 0x800000))

theorem addNum_nan (x : Num) : addNum x .nan = ⟨nan, 0⟩ := by cases x <;> rfl
theorem nan_addNum (x : Num) : addNum .nan x = ⟨nan, 0⟩ := rfl
theorem Num.neg_nan : Num.nan.neg = .nan := rfl

theorem Num.neg_mul (x y : Num) : x.neg.mul y = (x.mul y).map Num.neg := by
  cases x with
  | nan => rfl
  | inf n =>
    cases y with
    | nan => rfl
    | inf k => simp [Num.neg, Num.mul]
    | fin k m e => by_cases h : m = 0 <;> simp [Num.neg, Num.mul, h]
  | fin n m e =>
    cases y with
    | nan => rfl
    | inf k => by_cases h : m = 0 <;> simp [Num.neg, Num.mul, h]
    | fin k l f => simp [Num.neg, Num.mul]

theorem num_mul_zeroTimesInf {a b : Word} (h : zeroTimesInf a b = true) : (num a).mul (num b) = none := by
  simp only [zeroTimesInf, Bool.or_eq_true, Bool.and_eq_true, decide_eq_true_eq] at h
  obtain ⟨ha, hb⟩ | ⟨ha, hb⟩ := h
  · simp [num_of_small ha, num_of_inf hb, Num.mul]
  · simp [num_of_inf ha, num_of_small hb, Num.mul]

theorem num_mul_nan {a b : Word} (h : 0x7F800000 < mag a ∨ 0x7F800000 < mag b) : (num a).mul (num b) = some .nan := by
  obtain h | h := h
  · rw [num_of_nan h]; cases num b <;> rfl
  · rw [num_of_nan h]; cases num a <;> rfl

/-- Every other product is a number. -/
theorem num_mul_isSome {a b : Word} (h : zeroTimesInf a b = false) : ∃ q, (num a).mul (num b) = some q := by
  simp only [zeroTimesInf, Bool.or_eq_false_iff, Bool.and_eq_false_iff, decide_eq_false_iff_not] at h
  obtain ⟨hzi, hiz⟩ := h
  obtain ha | ha | ha := lt_trichotomy (mag a) 0x7F800000
  · obtain ⟨m, e, hna, -, hma⟩ := num_of_finite ha
    obtain hb | hb | hb := lt_trichotomy (mag b) 0x7F800000
    · obtain ⟨k, f, hnb, -⟩ := num_of_finite hb
      exact ⟨_, by rw [hna, hnb]; rfl⟩
    · have hm : m ≠ 0 := fun h0 => by simp [hma.mp h0, hb] at hzi
      exact ⟨_, by rw [hna, num_of_inf hb, Num.mul, if_neg hm]⟩
    · exact ⟨_, num_mul_nan (.inr hb)⟩
  · obtain hb | hb | hb := lt_trichotomy (mag b) 0x7F800000
    · obtain ⟨m, e, hnb, -, hmb⟩ := num_of_finite hb
      have hm : m ≠ 0 := fun h0 => by simp [hmb.mp h0, ha] at hiz
      exact ⟨_, by rw [hnb, num_of_inf ha, Num.mul, if_neg hm]⟩
    · exact ⟨_, by rw [num_of_inf ha, num_of_inf hb]; rfl⟩
    · exact ⟨_, num_mul_nan (.inr hb)⟩
  · exact ⟨_, num_mul_nan (.inl ha)⟩

theorem zeroTimesInf_invalid {a b : Word} (d : Word) (h : zeroTimesInf a b = true) :
    ∀ r ∈ [mul a b, fma d a b, fms d a b, fnms d a b], r = ⟨nan, inv⟩ := by
  have hp := num_mul_zeroTimesInf h
  simp [mul, fma, fms, fnms, addProduct, Num.neg_mul, hp]

theorem nan_operand {a b : Word} (d : Word) (h : 0x7F800000 < mag a ∨ 0x7F800000 < mag b) :
    ∀ r ∈ [add a b, sub a b, mul a b, fma d a b, fms d a b, fnms d a b], r = ⟨nan, 0⟩ := by
  have hp := num_mul_nan h
  have hadd : addNum (num a) (num b) = ⟨nan, 0⟩ ∧ addNum (num a) (num b).neg = ⟨nan, 0⟩ := by
    obtain h | h := h
    · rw [num_of_nan h]
      exact ⟨rfl, rfl⟩
    · rw [num_of_nan h]
      exact ⟨addNum_nan _, addNum_nan _⟩
  simp [add, sub, mul, fma, fms, fnms, addProduct, Num.neg_mul, hp, hadd, addNum_nan, deliver, Num.neg_nan]

/-- A NaN accumulator gives NaN without a flag where the product is valid. -/
theorem nan_accumulator {a b d : Word} (h : zeroTimesInf a b = false) (hd : 0x7F800000 < mag d) :
    ∀ r ∈ [fma d a b, fms d a b, fnms d a b], r = ⟨nan, 0⟩ := by
  obtain ⟨q, hq⟩ := num_mul_isSome h
  simp [fma, fms, fnms, addProduct, Num.neg_mul, hq, num_of_nan hd, nan_addNum, Num.neg_nan]

theorem inf_inf {a b : Word} (ha : mag a = 0x7F800000) (hb : mag b = 0x7F800000) :
    add a b = (if sgn a = sgn b then ⟨a, 0⟩ else ⟨nan, inv⟩) ∧
    sub a b = (if sgn a = sgn b then ⟨nan, inv⟩ else ⟨a, 0⟩) := by
  have he : sgn a = (!sgn b) ↔ ¬sgn a = sgn b := by cases sgn a <;> cases sgn b <;> decide
  simp only [add, sub, num_of_inf ha, num_of_inf hb, addNum, Num.neg, eq_infinity ha, he, ite_not, and_self]

theorem inf_finite {a b : Word} (ha : mag a = 0x7F800000) (hb : mag b < 0x7F800000) :
    add a b = ⟨a, 0⟩ ∧ add b a = ⟨a, 0⟩ ∧ sub a b = ⟨a, 0⟩ ∧ sub b a = ⟨infinity (!sgn a), 0⟩ := by
  obtain ⟨m, e, hnb, -⟩ := num_of_finite hb
  simp only [add, sub, num_of_inf ha, hnb, addNum, Num.neg, eq_infinity ha, and_self]

/-- An infinity times a number that is no zero. -/
theorem inf_mul {a b : Word} (ha : mag a = 0x7F800000) (hnan : mag b ≤ 0x7F800000) (hzer : 0x800000 ≤ mag b) :
    mul a b = ⟨infinity (sgn a != sgn b), 0⟩ ∧ mul b a = ⟨infinity (sgn a != sgn b), 0⟩ := by
  have hcomm : (sgn b != sgn a) = (sgn a != sgn b) := bne_comm
  obtain hb | hb := hnan.lt_or_eq
  · obtain ⟨m, e, hnb, -, hm⟩ := num_of_finite hb
    have hm0 : m ≠ 0 := fun h0 => absurd (hm.mp h0) (not_lt.mpr hzer)
    simp [mul, num_of_inf ha, hnb, Num.mul, hm0, deliver, hcomm]
  · simp [mul, num_of_inf ha, num_of_inf hb, Num.mul, deliver, hcomm]

/-! ## Minimum, maximum, absolute value and negation -/

theorem isNan_iff (w : Word) : isNan w = true ↔ 0x7F800000 < mag w := by
  obtain h | h | h := lt_trichotomy (mag w) 0x7F800000
  · obtain ⟨m, e, hn, -⟩ := num_of_finite h
    simp [isNan, hn, h.le]
  · simp [isNan, num_of_inf h, h]
  · simp [isNan, num_of_nan h, h]

theorem canon_of_nan {w : Word} (h : 0x7F800000 < mag w) : canon w = nan := by
  rw [canon, num_of_nan h]

/-- Every number that is no zero reads as itself. -/
theorem canon_of_ne_zero {w : Word} (hn : mag w ≤ 0x7F800000) (hz : 0x800000 ≤ mag w) : canon w = w := by
  obtain h | h := hn.lt_or_eq
  · obtain ⟨m, e, hw, -, hm⟩ := num_of_finite h
    have hm0 : m ≠ 0 := fun h0 => absurd (hm.mp h0) (not_lt.mpr hz)
    simp only [canon, hw, hm0, if_false]
  · simp only [canon, num_of_inf h, eq_infinity h]

theorem min_max_nan_nan {a b : Word} (ha : 0x7F800000 < mag a) (hb : 0x7F800000 < mag b) :
    fmin a b = ⟨nan, 0⟩ ∧ fmax a b = ⟨nan, 0⟩ := by
  simp only [fmin, fmax, (isNan_iff a).mpr ha, if_true, canon_of_nan hb, and_self]

theorem min_max_nan {a b : Word} (ha : 0x7F800000 < mag a) (hb : mag b ≤ 0x7F800000) (hz : 0x800000 ≤ mag b) :
    ∀ r ∈ [fmin a b, fmin b a, fmax a b, fmax b a], r = ⟨b, 0⟩ := by
  have hnb : isNan b = false := Bool.eq_false_iff.mpr fun h => absurd ((isNan_iff b).mp h) (not_lt.mpr hb)
  simp [fmin, fmax, (isNan_iff a).mpr ha, hnb, canon_of_ne_zero hb hz]

/-- Inverting bit 31 inverts the sign and keeps the magnitude. -/
theorem flip_sign (w : Word) : mag (w ^^^ 0x80000000#32) = mag w ∧ sgn (w ^^^ 0x80000000#32) = !sgn w := by
  have hlt := w.isLt
  have hx : (w ^^^ 0x80000000#32).toNat = w.toNat ^^^ 2 ^ 31 := BitVec.toNat_xor ..
  have hmod : (w.toNat ^^^ 2 ^ 31) % 2 ^ 31 = w.toNat % 2 ^ 31 := by
    rw [Nat.xor_mod_two_pow, Nat.mod_self, Nat.xor_zero]
  have hdiv : (w.toNat ^^^ 2 ^ 31) / 2 ^ 31 = w.toNat / 2 ^ 31 ^^^ 1 := by
    rw [Nat.xor_div_two_pow, Nat.div_self (by norm_num)]
  refine ⟨by rw [mag, hx]; exact hmod, ?_⟩
  rw [sgn, sgn, hx]
  by_cases h : 0x80000000 ≤ w.toNat
  · rw [show w.toNat / 2 ^ 31 = 1 by omega, Nat.xor_self] at hdiv
    have : ¬0x80000000 ≤ w.toNat ^^^ 2 ^ 31 := by omega
    rw [decide_eq_false this, decide_eq_true h, Bool.not_true]
  · rw [show w.toNat / 2 ^ 31 = 0 by omega, Nat.zero_xor] at hdiv
    have : 0x80000000 ≤ w.toNat ^^^ 2 ^ 31 := by omega
    rw [decide_eq_true this, decide_eq_false h, Bool.not_false]

/-- FABS and FNEG change the sign alone. -/
theorem abs_neg_sign {a : Word} (hn : mag a ≤ 0x7F800000) (hz : 0x800000 ≤ mag a) :
    mag (abs a).v = mag a ∧ sgn (abs a).v = false ∧ (abs a).fl = 0 ∧
    mag (neg a).v = mag a ∧ sgn (neg a).v = !sgn a ∧ (neg a).fl = 0 := by
  have hna : isNan a = false := Bool.eq_false_iff.mpr fun h => absurd ((isNan_iff a).mp h) (not_lt.mpr hn)
  have hlt : mag a < 0x80000000 := Nat.mod_lt _ (by norm_num)
  have habs : abs a = ⟨BitVec.ofNat 32 (mag a), 0⟩ := by
    simp only [abs, hna, canon_of_ne_zero hn hz, mag]
    rfl
  have hneg : neg a = ⟨a ^^^ 0x80000000#32, 0⟩ := by
    simp only [neg, hna, canon_of_ne_zero hn hz]
    rfl
  have hv : (BitVec.ofNat 32 (mag a)).toNat = mag a := by
    rw [BitVec.toNat_ofNat]
    omega
  rw [habs, hneg]
  exact ⟨by rw [mag, hv]; exact Nat.mod_eq_of_lt hlt, by rw [sgn, hv]; exact decide_eq_false (by omega), rfl,
    (flip_sign a).1, (flip_sign a).2, rfl⟩

theorem abs_neg_nan {a : Word} (h : 0x7F800000 < mag a) :
    abs a = ⟨nan, 0⟩ ∧ neg a = ⟨nan, 0⟩ ∧ cvtS32 a = ⟨0#32, cvt⟩ ∧ cvtU32 a = ⟨0#32, cvt⟩ := by
  simp only [abs, neg, (isNan_iff a).mpr h, if_true, cvtS32, cvtU32, num_of_nan h, and_self]

/-! ## Conversion to integers (R56) -/

theorem toInt_roundsTo (n : Bool) (m : Nat) (e : ℤ) : RoundsTo (Num.fin n m e).val (toInt n m e) := by
  obtain ⟨hs, hpos⟩ := scale_div m e
  have h := roundHalfEven_spec (scale m e).1 (scale m e).2 hpos
  rw [hs] at h
  cases n with
  | false => simpa [Num.val, toInt] using h
  | true => simpa [Num.val, toInt] using h.neg

theorem cvt_inf {a : Word} (h : mag a = 0x7F800000) :
    cvtS32 a = ⟨if sgn a then 0x80000000#32 else 0x7FFFFFFF#32, cvt⟩ ∧
    cvtU32 a = ⟨if sgn a then 0#32 else 0xFFFFFFFF#32, cvt⟩ := by
  simp only [cvtS32, cvtU32, num_of_inf h, and_self]

/-- A finite word is rounded first, and the range is judged on the rounded number. -/
theorem cvt_finite {a : Word} (h : mag a < 0x7F800000) : ∃ r : ℤ, RoundsTo (value a) r ∧
    cvtS32 a = (if 2147483647 < r then ⟨0x7FFFFFFF#32, cvt⟩ else if r < -2147483648 then ⟨0x80000000#32, cvt⟩
      else ⟨BitVec.ofInt 32 r, 0⟩) ∧
    cvtU32 a = (if 4294967295 < r then ⟨0xFFFFFFFF#32, cvt⟩ else if r < 0 then ⟨0#32, cvt⟩ else ⟨BitVec.ofInt 32 r, 0⟩) := by
  obtain ⟨m, e, hn, hv, -⟩ := num_of_finite h
  exact ⟨toInt (sgn a) m e, hv ▸ toInt_roundsTo _ m e, by rw [cvtS32, hn], by rw [cvtU32, hn]⟩

theorem toInt_ofInt_of_range {r : ℤ} (hl : -2147483648 ≤ r) (hu : r ≤ 2147483647) : (BitVec.ofInt 32 r).toInt = r :=
  BitVec.toInt_ofInt_eq_self (by norm_num) (by norm_num; omega) (by norm_num; omega)

theorem cvtS32_finite {a : Word} (h : mag a < 0x7F800000) :
    (2147483647 + 1 / 2 ≤ value a → cvtS32 a = ⟨0x7FFFFFFF#32, cvt⟩) ∧
    (value a < -2147483648 - 1 / 2 → cvtS32 a = ⟨0x80000000#32, cvt⟩) ∧
    (-2147483648 - 1 / 2 ≤ value a → value a < 2147483647 + 1 / 2 →
      (cvtS32 a).fl = 0 ∧ |((cvtS32 a).v.toInt : ℚ) - value a| ≤ 1 / 2) := by
  obtain ⟨r, hr, he, -⟩ := cvt_finite h
  have hhi := hr.le_iff (h := 2147483647) (by norm_num)
  have hlo := hr.ge_iff (l := -2147483648) (by norm_num)
  push_cast at hhi hlo
  rw [he]
  refine ⟨fun hx => ?_, fun hx => ?_, fun hl hu => ?_⟩
  · rw [if_pos (not_le.mp (mt hhi.mp (not_lt.mpr hx)))]
  · have h1 : ¬2147483647 < r := not_lt.mpr (hhi.mpr (by linarith))
    rw [if_neg h1, if_pos (not_le.mp (mt hlo.mp (not_le.mpr hx)))]
  · have h1 := hhi.mpr hu
    have h2 := hlo.mpr hl
    rw [if_neg (not_lt.mpr h1), if_neg (not_lt.mpr h2)]
    refine ⟨rfl, ?_⟩
    rw [toInt_ofInt_of_range h2 h1, abs_sub_comm]
    exact hr.1

theorem cvtU32_finite {a : Word} (h : mag a < 0x7F800000) :
    (4294967295 + 1 / 2 ≤ value a → cvtU32 a = ⟨0xFFFFFFFF#32, cvt⟩) ∧
    (value a < -1 / 2 → cvtU32 a = ⟨0#32, cvt⟩) ∧
    (-1 / 2 ≤ value a → value a < 4294967295 + 1 / 2 →
      (cvtU32 a).fl = 0 ∧ |((cvtU32 a).v.toNat : ℚ) - value a| ≤ 1 / 2) := by
  obtain ⟨r, hr, -, he⟩ := cvt_finite h
  have hhi := hr.le_iff (h := 4294967295) (by norm_num)
  have hlo := hr.ge_iff (l := 0) (by norm_num)
  push_cast at hhi hlo
  rw [he]
  refine ⟨fun hx => ?_, fun hx => ?_, fun hl hu => ?_⟩
  · rw [if_pos (not_le.mp (mt hhi.mp (not_lt.mpr hx)))]
  · have h1 : ¬4294967295 < r := not_lt.mpr (hhi.mpr (by linarith))
    rw [if_neg h1, if_pos (not_le.mp (mt hlo.mp (not_le.mpr (by linarith))))]
  · have h1 := hhi.mpr hu
    have h2 := hlo.mpr (by linarith)
    rw [if_neg (not_lt.mpr h1), if_neg (not_lt.mpr h2)]
    refine ⟨rfl, ?_⟩
    have hv : ((BitVec.ofInt 32 r).toNat : ℤ) = r := by
      rw [BitVec.toNat_ofInt]
      omega
    rw [← Int.cast_natCast, hv, abs_sub_comm]
    exact hr.1

/-- A saturating result is exact where it fits and otherwise the nearest bound with SAT (R56). -/
theorem satS32_spec (x : ℤ) :
    (satS32 x).v.toInt = max (-2147483648) (min 2147483647 x) ∧
    ((satS32 x).fl = sat ↔ (x < -2147483648 ∨ 2147483647 < x)) ∧
    ((satS32 x).fl = 0 ↔ (-2147483648 ≤ x ∧ x ≤ 2147483647)) := by
  unfold satS32
  by_cases hhi : 2147483647 < x
  · rw [if_pos hhi]
    refine ⟨?_, by simp [hhi], by simp [sat, hhi]⟩
    rw [min_eq_left hhi.le]
    decide
  · by_cases hlo : x < -2147483648
    · rw [if_neg hhi, if_pos hlo]
      refine ⟨?_, by simp [hlo], by simp [sat, hlo]⟩
      rw [min_eq_right (by omega), max_eq_left hlo.le]
      decide
    · rw [if_neg hhi, if_neg hlo, min_eq_right (not_lt.mp hhi), max_eq_right (not_lt.mp hlo),
        toInt_ofInt_of_range (not_lt.mp hlo) (not_lt.mp hhi)]
      refine ⟨rfl, ?_, ?_⟩
      · simp [sat, hhi, hlo]
      · simp [not_lt.mp hhi, not_lt.mp hlo]

/-- Rounding to 24 bits as R56 states it: to nearest, an exact tie to the even significand. -/
theorem roundSig_spec (n d : Nat) (hn : 0 < n) (hd : 0 < d) :
    0x800000 ≤ (roundSig n d).1 ∧ (roundSig n d).1 ≤ 0x1000000 ∧
    |(n : ℚ) / d - (roundSig n d).1 * (2 : ℚ) ^ (roundSig n d).2| ≤ (2 : ℚ) ^ (roundSig n d).2 / 2 ∧
    (|(n : ℚ) / d - (roundSig n d).1 * (2 : ℚ) ^ (roundSig n d).2| = (2 : ℚ) ^ (roundSig n d).2 / 2 →
      (roundSig n d).1 % 2 = 0) := by
  have h := roundSig_sigOf hn hd
  exact ⟨h.le.1, h.le.2, h.close, h.tie⟩

end Sys2Proof.Machine.Fp32

namespace Sys2Proof.Machine

open Sys2Proof

/-- Settles O7: each clause from the lemma about its operands, the finite ones from the one rounding. -/
theorem roundingAndSaturation : Obligations.RoundingAndSaturation := by
  refine ⟨Fp32.roundSig_spec, fun a b d => ?_, by decide, by decide, Fp32.satS32_spec⟩
  intro m neg nan inf zer infinity zero qnan zi
  have nanIff : ∀ w, nan w = true ↔ 0x7F800000 < Fp32.mag w := fun w => decide_eq_true_iff
  have infIff : ∀ w, inf w = true ↔ Fp32.mag w = 0x7F800000 := fun w => decide_eq_true_iff
  have nanIff' : ∀ w, nan w = false ↔ Fp32.mag w ≤ 0x7F800000 := fun w => decide_eq_false_iff_not.trans not_lt
  have zerIff : ∀ w, zer w = true ↔ Fp32.mag w < 0x800000 := fun w => decide_eq_true_iff
  have zerIff' : ∀ w, zer w = false ↔ 0x800000 ≤ Fp32.mag w := fun w => decide_eq_false_iff_not.trans not_lt
  have hinfinity : ∀ s, infinity s = Fp32.infinity s := fun s => (Fp32.infinity_eq s).symm
  have hzero : ∀ s, zero s = Fp32.zero s := fun s => (Fp32.zero_eq s).symm
  simp only [nanIff, infIff, nanIff', zerIff', zerIff, hinfinity, hzero, Bool.or_eq_true]
  refine ⟨Fp32.zeroTimesInf_invalid d, Fp32.nan_operand d, Fp32.nan_accumulator, Fp32.inf_inf, Fp32.inf_finite, Fp32.inf_mul,
    Fp32.finite_delivers, Fp32.min_max_nan_nan, Fp32.min_max_nan, Fp32.abs_neg_sign, Fp32.abs_neg_nan, Fp32.cvt_inf, fun h => ?_⟩
  obtain ⟨habove, hbelow, hwithin⟩ := Fp32.cvtS32_finite h
  exact ⟨habove, hbelow, hwithin, Fp32.cvtU32_finite h⟩

end Sys2Proof.Machine
end

section
/-! PROOFS. Where the state holds converter settings that no multiplexer has, a result overwrites a register elsewhere (R121, R122): what the statements about modes and about results in flight leave open. -/

namespace Sys2Proof.Machine

open Sys2Proof

/-- A sequence of converter 0 whose one slot names input 2,095,624, where a converter has the inputs 0 to 2 (R121): the result register of that number is BIST.STAT. Nothing ties the settings a state holds to the converters. -/
def strayRun (codes : List Nat) : AdcRun :=
  ⟨0, 0, 0, 0, 1, [{ inp := 2095624, calgain := 32768, ugain := 0x3F800000#32 }], 0, 0, codes⟩

/-- The result register of that slot is the bit that says a self-test runs. -/
theorem strayRun_hits_running : (R.ADC_RES_VALUE 2095624).key = R.BIST_STAT_RUNNING.key := by decide

/-- RUN, with the raw code 1 arriving for that slot. -/
def strayResult : State := { State.reset with
  dev := .run, pll := true, pending := [.conversionResult 0 1#14], adc := { runs := [strayRun []] } }

theorem strayResult_exclusive : strayResult.ModesExclusive := by
  unfold State.ModesExclusive
  decide +kernel

/-- The result is 1, which the stray register reads as a self-test in progress. -/
theorem step_strayResult : ∃ t, step strayResult = .next t ∧ t.scanning = true ∧ t.dev = .run :=
  ⟨_, rfl, by decide +kernel, by decide +kernel⟩

/-- Refutes O59: in `strayResult` no mode is on, and the result that arrives raises BIST.STAT.RUNNING in RUN. -/
theorem not_modesStayExclusive : ¬ Obligations.ModesStayExclusive := by
  unfold Obligations.ModesStayExclusive
  intro h
  obtain ⟨t, hstep, hscan, hrun⟩ := step_strayResult
  obtain ⟨-, -, htest⟩ := h strayResult t strayResult_exclusive hstep
  exact htest hscan hrun

/-- RUN between turns in cycle 0, with a result for g127 due in cycle 5 and g1 holding 7. The code of the stray slot is due now, and the time of a restore has passed, as after an earlier self-test. -/
def strayRestore : State := { State.reset.put R.SAGGAR_TSWIN_TICKS 3 with
  dev := .run, pll := true, wheel := { inflight := [(5, .setG 127 1#32 0)], g := [(1, 7#32)] },
  bist := { restore := some 0 }, adc := { runs := [strayRun [1]] } }

/-- The cycle takes the self-test for one whose restore has ended, and resets the device (R452). -/
theorem step_strayRestore : ∃ t, step strayRestore = .next t ∧ t.g 1 = 0#32 :=
  ⟨_, rfl, by decide +kernel⟩

/-- Refutes O11: in `strayRestore` every premise holds, and the cycle ends in OFF with g1 cleared. -/
theorem not_resultsArriveOnTime : ¬ Obligations.ResultsArriveOnTime := by
  unfold Obligations.ResultsArriveOnTime
  intro h
  obtain ⟨t, hstep, hg⟩ := step_strayRestore
  have hmodes : strayRestore.ModesExclusive := by
    unfold State.ModesExclusive
    decide +kernel
  obtain ⟨hresult, -⟩ := h strayRestore 5 127 0 0 1#32 rfl hmodes rfl rfl rfl rfl (by decide +kernel) (by decide +kernel)
  obtain ⟨u, hu, hkept, -, -⟩ := hresult rfl
  obtain rfl : t = u := by
    rw [hstep] at hu
    exact Host.Outcome.next.inj hu
  exact absurd (hkept 1 (by decide)) (hg ▸ by decide +kernel)

end Sys2Proof.Machine
end

section
/-! PROOFS. A register frame that wakes the device and reads coefficient memory enters SAFE_HOLD from BANKED (R35, R67, R440). -/

namespace Sys2Proof.Machine

open Sys2Proof

/-- BANKED, with two flipped bits in word 0 of coefficient memory and a read of LOOP.CWDATA, whose address is 0x4050000C, in a frame of 88 edges that leaves the 50 edges a wake takes. No leg is in use, and the HSPI is armed as WAKEEN resets. -/
def bankedRead : State := { State.reset with
  dev := .banked, pll := true, unused := 63, mem := { cerr := [(0, 2)] }, pending := [.registerFrame 0x0050000C#32 232#8 0#32 0#8 88 50] }

theorem bankedRead_exclusive : bankedRead.ModesExclusive := by
  unfold State.ModesExclusive
  decide +kernel

/-- The select of the frame wakes the device to READY, and the word that cannot be corrected then enters SAFE_HOLD. -/
theorem step_bankedRead : ∃ t, step bankedRead = .next t ∧ t.dev = .safeHold :=
  ⟨_, rfl, by decide +kernel⟩

/-- Refutes O58: `bankedRead` goes from BANKED to SAFE_HOLD in one step, where the table leads only to READY and OFF. -/
theorem not_deviceStatesFollowTheTable : ¬ Obligations.DeviceStatesFollowTheTable := by
  unfold Obligations.DeviceStatesFollowTheTable
  intro h
  obtain ⟨t, hstep, hdev⟩ := step_bankedRead
  have hmem := h bankedRead t bankedRead_exclusive hstep
  rw [hdev] at hmem
  exact absurd hmem (by decide)

end Sys2Proof.Machine
end

section
/-! PROOFS. Run and stop requests, RUN entry, forced stops and missing turns (R38–R42, R54, R77, R78, R107, R108). -/

namespace Sys2Proof.Machine

open Sys2Proof

/-- Settles O17: where the requester is overtaken the first branch answers, and otherwise the one for both bits, which precede all others. -/
theorem runWithStopIsRefused : Obligations.RunWithStopIsRefused := by
  intro s req h
  by_cases ho : s.overtaken req = true
  · simp [exec, execRunRequest, execStopRequest, ho]
  · have hw : s.mayWrite req = true := h.resolve_right ho
    simp [exec, execRunRequest, execStopRequest, ho, hw]

end Sys2Proof.Machine
end

section
/-! PROOFS. What an operation of the device leaves alone, said of four views of the state, each a part of the one before: `side` (the Wheel, its memories, the windows, the causes, the registers of the system blocks, the queues), `noted` (the same without the queues), `still` (without the reason of a refused entry) and `plane` (the device state, the clocks, the Wheel and its memories). An operation that keeps a view keeps the views it holds, so one law for each operation serves every statement. -/

namespace Sys2Proof.Machine

open Sys2Proof

/-! ## The views -/

/-- The device state, the clocks, the Wheel with its memories, windows and contract, and one-time-programmable memory. -/
structure Plane where
  dev : DevState
  variant : Variant
  cycle : Nat
  tsc : Nat
  wheel : Wheel
  mem : Mems
  contract : Contract
  xwin : Xwin
  otp : Otp

/-- That, the commands that wait, the causes, the blocks that have agreed to a BANKED entry, and the registers of SYS, WEDGE, SEC and WHEEL with WAKESRC.FIRST. -/
structure Still where
  plane : Plane
  seen : Nat → Nat → Nat
  pending : List Instr
  cause : Option (Nat × Nat)
  runDue : Bool
  agreed : List Nat

/-- All of that, and REFUSER.REASON. -/
structure Noted where
  still : Still
  reason : Nat

/-- All of that, and the queues. -/
structure Side where
  noted : Noted
  queues : Sparse Queue

/-- A register field that `still` does not show. -/
def hidden (k : Nat) : Prop := 0x40110000 * 32 ≤ k ∧ k ≠ 0x40900014 * 32 + 12

/-- A register field that no view shows. -/
def unseen (k : Nat) : Prop := hidden k ∧ k ≠ 0x4090000C * 32 + 8

/-- What the views show of the registers. -/
def seenRegs (m : Sparse Nat) (k d : Nat) : Nat :=
  if 0x40110000 * 32 ≤ k ∧ k ≠ 0x40900014 * 32 + 12 then 0 else Sparse.get d m k

/-- The views of a state. -/
def State.side (s : State) : Side :=
  ⟨⟨⟨⟨s.dev, s.variant, s.cycle, s.tsc, s.wheel, s.mem, s.contract, s.xwin, s.otp⟩, seenRegs s.regs, s.pending, s.cause, s.runDue,
    s.pwr.agreed⟩, s.get R.PWR_REFUSER_REASON⟩, s.queues⟩

/-- The plane of a state. -/
abbrev State.plane (s : State) : Plane := s.side.noted.still.plane

theorem plane_of_side {s t : State} (h : t.side = s.side) : t.plane = s.plane := congrArg (·.noted.still.plane) h

theorem plane_of_noted {s t : State} (h : t.side.noted = s.side.noted) : t.plane = s.plane := congrArg (·.still.plane) h

/-- States whose planes agree agree in the Wheel, its memories, one-time-programmable memory and the device state. -/
theorem kept_of_plane {s t : State} (h : t.plane = s.plane) : t.wheel = s.wheel ∧ t.mem = s.mem ∧ t.otp = s.otp ∧ t.dev = s.dev :=
  ⟨congrArg Plane.wheel h, congrArg Plane.mem h, congrArg Plane.otp h, congrArg Plane.dev h⟩

/-! ## One block replaced -/

/-- A block replaced leaves every view that does not hold it. -/
theorem side_update :
    (∀ (s : State) (x : Adc), State.side { s with adc := x } = s.side) ∧
    (∀ (s : State) (x : Pos), State.side { s with pos := x } = s.side) ∧
    (∀ (s : State) (x : Sparse LoopSt), State.side { s with loops := x } = s.side) ∧
    (∀ (s : State) (x : Rcu), State.side { s with rcu := x } = s.side) ∧
    (∀ (s : State) (x : Pwm), State.side { s with pwm := x } = s.side) ∧
    (∀ (s : State) (x : Sparse Isl), State.side { s with isl := x } = s.side) ∧
    (∀ (s : State) (x : Sag), State.side { s with sag := x } = s.side) ∧
    (∀ (s : State) (x : Cone), State.side { s with cone := x } = s.side) ∧
    (∀ (s : State) (x : Safe), State.side { s with safe := x } = s.side) ∧
    (∀ (s : State) (x : Wedge), State.side { s with wedge := x } = s.side) ∧
    (∀ (s : State) (x : Nor), State.side { s with nor := x } = s.side) ∧
    (∀ (s : State) (x : Sec), State.side { s with sec := x } = s.side) ∧
    (∀ (s : State) (x : Sparse Can), State.side { s with can := x } = s.side) ∧
    (∀ (s : State) (x : Eth), State.side { s with eth := x } = s.side) ∧
    (∀ (s : State) (x : Hspi), State.side { s with hspi := x } = s.side) ∧
    (∀ (s : State) (x : Shard), State.side { s with shard := x } = s.side) ∧
    (∀ (s : State) (x : Bist), State.side { s with bist := x } = s.side) ∧
    (∀ (s : State) (x : Pins), State.side { s with pins := x } = s.side) ∧
    (∀ (s : State) (x : Nat), State.side { s with rdata := x } = s.side) ∧
    (∀ (s : State) (x : Nat), State.side { s with free := x } = s.side) ∧
    (∀ (s : State) (x : Nat), State.side { s with unused := x } = s.side) ∧
    (∀ (s : State) (x : Nat), State.side { s with stopAt := x } = s.side) ∧
    (∀ (s : State) (x : Bool), State.side { s with pll := x } = s.side) ∧
    (∀ (s : State) (x : Nat), State.side { s with clkDead := x } = s.side) ∧
    (∀ (s : State) (x : Pwr), x.agreed = s.pwr.agreed → State.side { s with pwr := x } = s.side) ∧
    (∀ (s : State) (x : Sparse Queue), (State.side { s with queues := x }).noted = s.side.noted) ∧
    (∀ (s : State) (x : Pwr), (State.side { s with pwr := x }).noted.still.plane = s.side.noted.still.plane) ∧
    (∀ (s : State) (x : List Instr), (State.side { s with pending := x }).noted.still.plane = s.side.noted.still.plane) ∧
    (∀ (s : State) (x : Option (Nat × Nat)), (State.side { s with cause := x }).noted.still.plane = s.side.noted.still.plane) ∧
    (∀ (s : State) (x : Bool), (State.side { s with runDue := x }).noted.still.plane = s.side.noted.still.plane) := by
  refine ⟨fun _ _ => rfl, fun _ _ => rfl, fun _ _ => rfl, fun _ _ => rfl, fun _ _ => rfl, fun _ _ => rfl, fun _ _ => rfl,
    fun _ _ => rfl, fun _ _ => rfl, fun _ _ => rfl, fun _ _ => rfl, fun _ _ => rfl, fun _ _ => rfl, fun _ _ => rfl,
    fun _ _ => rfl, fun _ _ => rfl, fun _ _ => rfl, fun _ _ => rfl, fun _ _ => rfl, fun _ _ => rfl, fun _ _ => rfl,
    fun _ _ => rfl, fun _ _ => rfl, fun _ _ => rfl, fun s x h => ?_, fun _ _ => rfl, fun _ _ => rfl, fun _ _ => rfl,
    fun _ _ => rfl, fun _ _ => rfl⟩
  simp only [State.side, State.get, h]

/-! ## A register field written -/

theorem seenRegs_set {f : Fld} (h : hidden f.key) (m : Sparse Nat) (v : Nat) : seenRegs (Sparse.set f.rst m f.key v) = seenRegs m := by
  funext k d
  unfold seenRegs
  split
  · rfl
  · rename_i hk
    have hne : k ≠ f.key := fun e => hk (e ▸ h)
    unfold Sparse.set
    split
    · exact Sparse.get_del_ne _ _ hne
    · exact Sparse.get_put_ne _ _ _ hne

theorem State.put_still {f : Fld} (h : hidden f.key) (s : State) (v : Nat) : (s.put f v).side.noted.still = s.side.noted.still := by
  have hregs : seenRegs (s.put f v).regs = seenRegs s.regs := seenRegs_set h _ _
  unfold State.side
  rw [hregs]
  rfl

theorem State.put_side {f : Fld} (h : unseen f.key) (s : State) (v : Nat) : (s.put f v).side = s.side := by
  obtain ⟨hh, hne⟩ := h
  have hstill := State.put_still hh s v
  have hreason : (s.put f v).get R.PWR_REFUSER_REASON = s.get R.PWR_REFUSER_REASON :=
    State.get_put_ne s f _ v fun e => hne (e.trans (by decide))
  show Side.mk ⟨(s.put f v).side.noted.still, (s.put f v).get R.PWR_REFUSER_REASON⟩ s.queues = _
  rw [hstill, hreason]
  rfl

/-- A written field leaves the views that do not show it. -/
theorem side_put :
    (∀ (s : State) (f : Fld) (v : Nat), unseen f.key → (s.put f v).side = s.side) ∧
    (∀ (s : State) (f : Fld), unseen f.key → (s.raise f).side = s.side) ∧
    (∀ (s : State) (f : Fld), unseen f.key → (s.clear f).side = s.side) ∧
    (∀ (s : State) (f : Fld) (b : Bool), unseen f.key → (s.putB f b).side = s.side) ∧
    (∀ (s : State) (f : Fld) (i : Nat) (b : Bool), unseen f.key → (s.putBit f i b).side = s.side) ∧
    (∀ (s : State) (f : Fld), unseen f.key → (s.bumpSat f).side = s.side) ∧
    (∀ (s : State) (f : Fld) (n : Nat), unseen f.key → (s.addSat f n).side = s.side) ∧
    (∀ (s : State) (f : Fld), unseen f.key → (s.bumpWrap f).side = s.side) := by
  refine ⟨fun s f v h => s.put_side h v, fun s f h => s.put_side h _, fun s f h => s.put_side h _, fun s f b h => s.put_side h _,
    fun s f i b h => s.put_side h _, fun s f h => ?_, fun s f n h => s.put_side h _, fun s f h => s.put_side h _⟩
  obtain ⟨-, e⟩ | ⟨-, e⟩ := s.bumpSat_cases f
  · rw [e, s.put_side h]
  · rw [e]

/-- No register field is part of the plane. -/
theorem plane_put :
    (∀ (s : State) (f : Fld) (v : Nat), (s.put f v).side.noted.still.plane = s.side.noted.still.plane) ∧
    (∀ (s : State) (f : Fld), (s.raise f).side.noted.still.plane = s.side.noted.still.plane) ∧
    (∀ (s : State) (f : Fld), (s.clear f).side.noted.still.plane = s.side.noted.still.plane) ∧
    (∀ (s : State) (f : Fld) (b : Bool), (s.putB f b).side.noted.still.plane = s.side.noted.still.plane) ∧
    (∀ (s : State) (f : Fld) (i : Nat) (b : Bool), (s.putBit f i b).side.noted.still.plane = s.side.noted.still.plane) ∧
    (∀ (s : State) (f : Fld), (s.bumpSat f).side.noted.still.plane = s.side.noted.still.plane) ∧
    (∀ (s : State) (f : Fld) (n : Nat), (s.addSat f n).side.noted.still.plane = s.side.noted.still.plane) ∧
    (∀ (s : State) (f : Fld), (s.bumpWrap f).side.noted.still.plane = s.side.noted.still.plane) ∧
    (∀ (s : State) (lo hi : Nat), (s.resetRange lo hi).side.noted.still.plane = s.side.noted.still.plane) := by
  refine ⟨fun _ _ _ => rfl, fun _ _ => rfl, fun _ _ => rfl, fun _ _ _ => rfl, fun _ _ _ _ => rfl, fun s f => ?_, fun _ _ _ => rfl,
    fun _ _ => rfl, fun _ _ _ => rfl⟩
  obtain ⟨-, e⟩ | ⟨-, e⟩ := s.bumpSat_cases f <;> rw [e]
  rfl

/-! ## Branches, indices and draws -/

/-- A view of a branch is the branch of the views. -/
theorem side_ite :
    (∀ (c : Prop) [Decidable c] (s t : State), (if c then s else t).side = if c then s.side else t.side) ∧
    (∀ (c : Prop) [Decidable c] (x y : Side), (if c then x else y).noted = if c then x.noted else y.noted) ∧
    (∀ (c : Prop) [Decidable c] (x y : Noted), (if c then x else y).still = if c then x.still else y.still) ∧
    (∀ (c : Prop) [Decidable c] (x y : Still), (if c then x else y).plane = if c then x.plane else y.plane) ∧
    (∀ (c : Prop) [Decidable c] (x : Side), (if c then x else x) = x) ∧
    (∀ (c : Prop) [Decidable c] (x : Noted), (if c then x else x) = x) ∧
    (∀ (c : Prop) [Decidable c] (x : Still), (if c then x else x) = x) ∧
    (∀ (c : Prop) [Decidable c] (x : Plane), (if c then x else x) = x) :=
  ⟨fun _ _ _ _ => apply_ite .., fun _ _ _ _ => apply_ite .., fun _ _ _ _ => apply_ite .., fun _ _ _ _ => apply_ite ..,
    fun _ _ _ => ite_self _, fun _ _ _ => ite_self _, fun _ _ _ => ite_self _, fun _ _ _ => ite_self _⟩

/-- An operation done for each index, or folded over a list, keeps a view that it keeps for one. -/
theorem side_each :
    (∀ (s : State) (l : List Nat) (f : State → Nat → State), (∀ t i, (f t i).side = t.side) → (s.each l f).side = s.side) ∧
    (∀ (s : State) (l : List Nat) (f : State → Nat → State), (∀ t i, (f t i).side.noted = t.side.noted) →
      (s.each l f).side.noted = s.side.noted) ∧
    (∀ (s : State) (l : List Nat) (f : State → Nat → State), (∀ t i, (f t i).side.noted.still = t.side.noted.still) →
      (s.each l f).side.noted.still = s.side.noted.still) ∧
    (∀ (s : State) (l : List Nat) (f : State → Nat → State), (∀ t i, (f t i).side.noted.still.plane = t.side.noted.still.plane) →
      (s.each l f).side.noted.still.plane = s.side.noted.still.plane) :=
  ⟨fun s l f h => State.each_keeps State.side f h l s, fun s l f h => State.each_keeps (·.side.noted) f h l s,
    fun s l f h => State.each_keeps (·.side.noted.still) f h l s,
    fun s l f h => State.each_keeps (·.side.noted.still.plane) f h l s⟩

theorem side_foldl {γ : Type} :
    (∀ (s : State) (l : List γ) (f : State → γ → State), (∀ t i, (f t i).side = t.side) → (l.foldl f s).side = s.side) ∧
    (∀ (s : State) (l : List γ) (f : State → γ → State), (∀ t i, (f t i).side.noted = t.side.noted) →
      (l.foldl f s).side.noted = s.side.noted) ∧
    (∀ (s : State) (l : List γ) (f : State → γ → State), (∀ t i, (f t i).side.noted.still = t.side.noted.still) →
      (l.foldl f s).side.noted.still = s.side.noted.still) ∧
    (∀ (s : State) (l : List γ) (f : State → γ → State), (∀ t i, (f t i).side.noted.still.plane = t.side.noted.still.plane) →
      (l.foldl f s).side.noted.still.plane = s.side.noted.still.plane) :=
  ⟨fun s l f h => foldl_keeps State.side f h l s, fun s l f h => foldl_keeps (·.side.noted) f h l s,
    fun s l f h => foldl_keeps (·.side.noted.still) f h l s,
    fun s l f h => foldl_keeps (·.side.noted.still.plane) f h l s⟩

theorem State.draw_frame (s : State) (n : Nat) : (s.draw n).2.side = s.side := (rfl)

/-- A field that the views show reads the same in two states whose views agree. -/
theorem get_of_still {s t : State} (h : t.side.noted.still = s.side.noted.still) {f : Fld} (hf : ¬hidden f.key) : t.get f = s.get f := by
  have hk : seenRegs t.regs f.key f.rst = seenRegs s.regs f.key f.rst := congrFun (congrFun (congrArg Still.seen h) f.key) f.rst
  unfold hidden at hf
  rwa [seenRegs, seenRegs, if_neg hf, if_neg hf] at hk

/-! ## The fields that operations write -/

theorem adc_unseen :
    unseen R.ADC_STAT_CALREJ.key := by
  simp only [unseen, hidden, Fld.key, R.ADC_STAT_CALREJ]
  omega

theorem bist_unseen :
    unseen R.BIST_STAT_BUSY_REJ.key := by
  simp only [unseen, hidden, Fld.key, R.BIST_STAT_BUSY_REJ]
  omega

theorem can_unseen :
    (∀ i, unseen (R.CAN_CMD_SLEEP i).key) ∧ (∀ i, unseen (R.CAN_DISCNT_CANCELLED i).key) ∧
    (∀ i, unseen (R.CAN_STAT_ESTATE i).key) ∧ (∀ i, unseen (R.CAN_STAT_SLEEPING i).key) ∧
    (∀ i, unseen (R.CAN_STAT_WAKEEV i).key) ∧ (∀ i, unseen (R.CAN_TXSTAT_FILL i).key) ∧
    (∀ i, unseen (R.CAN_TXSTAT_NACKN i).key) ∧ (∀ i, unseen (R.CAN_TXSTAT_STAGING i).key) ∧
    (∀ i, unseen (R.CAN_WAKESTAT_CAUSE i).key) := by
  refine ⟨fun _ => ?_, fun _ => ?_, fun _ => ?_, fun _ => ?_, fun _ => ?_, fun _ => ?_, fun _ => ?_, fun _ => ?_, fun _ => ?_⟩
  all_goals
    simp only [unseen, hidden, Fld.key,
      R.CAN_CMD_SLEEP, R.CAN_DISCNT_CANCELLED, R.CAN_STAT_ESTATE, R.CAN_STAT_SLEEPING, R.CAN_STAT_WAKEEV, R.CAN_TXSTAT_FILL,
      R.CAN_TXSTAT_NACKN, R.CAN_TXSTAT_STAGING, R.CAN_WAKESTAT_CAUSE]
    omega

theorem cone_unseen :
    unseen R.CONE_DISCH_DONE.key := by
  simp only [unseen, hidden, Fld.key, R.CONE_DISCH_DONE]
  omega

theorem loop_unseen :
    (∀ i, unseen (R.LOOP_LSTAT_FORCED i).key) ∧ (∀ i, unseen (R.LOOP_LSTAT_REJ i).key) ∧
    (∀ i, unseen (R.LOOP_LSTAT_STATE i).key) ∧ (∀ i, unseen (R.LOOP_ROUT_VALUE i).key) ∧
    (∀ i, unseen (R.LOOP_RSTAT_SEEDOUT i).key) ∧ (∀ i, unseen (R.LOOP_RTGT_VALUE i).key) ∧
    (∀ i, unseen (R.LOOP_SEED_VALUE i).key) ∧ unseen (R.LOOP_INVCFG_HOLD 0).key ∧ unseen (R.LOOP_INVCFG_HOLD 1).key := by
  refine ⟨fun _ => ?_, fun _ => ?_, fun _ => ?_, fun _ => ?_, fun _ => ?_, fun _ => ?_, fun _ => ?_, ?_, ?_⟩
  all_goals
    simp only [unseen, hidden, Fld.key,
      R.LOOP_INVCFG_HOLD, R.LOOP_LSTAT_FORCED, R.LOOP_LSTAT_REJ, R.LOOP_LSTAT_STATE, R.LOOP_ROUT_VALUE, R.LOOP_RSTAT_SEEDOUT,
      R.LOOP_RTGT_VALUE, R.LOOP_SEED_VALUE]
    omega

theorem pwm_unseen :
    (∀ i, unseen (R.PWM_CMPA_VALUE i).key) ∧ (∀ i, unseen (R.PWM_CMPB_VALUE i).key) ∧ unseen R.PWM_DBG_FROZEN.key ∧
    (∀ i, unseen (R.PWM_DTACT_DTF i).key) ∧ (∀ i, unseen (R.PWM_DTACT_DTR i).key) ∧ (∀ i, unseen (R.PWM_FACT_CODE i).key) ∧
    (∀ i, unseen (R.PWM_FSTAGE_PEND i).key) ∧ (∀ i, unseen (R.PWM_GSTAT_BSCLAMP i).key) ∧
    (∀ i, unseen (R.PWM_GSTAT_LIVE i).key) ∧ (∀ i, unseen (R.PWM_GSTAT_PDOVR i).key) ∧
    (∀ i, unseen (R.PWM_GSTAT_SHOOT_REQ i).key) ∧ (∀ i, unseen (R.PWM_GSTAT_VALIDF i).key) ∧
    (∀ i, unseen (R.PWM_GSTAT_VALIDR i).key) ∧ (∀ i, unseen (R.PWM_PDCOMP_OFFD i).key) ∧ (∀ i, unseen (R.PWM_PDCOMP_OND i).key) ∧
    (∀ i, unseen (R.PWM_TBCNT_COUNT i).key) ∧ (∀ i, unseen (R.PWM_TBCNT_DIR i).key) := by
  refine ⟨fun _ => ?_, fun _ => ?_, ?_, fun _ => ?_, fun _ => ?_, fun _ => ?_, fun _ => ?_, fun _ => ?_, fun _ => ?_, fun _ => ?_,
    fun _ => ?_, fun _ => ?_, fun _ => ?_, fun _ => ?_, fun _ => ?_, fun _ => ?_, fun _ => ?_⟩
  all_goals
    simp only [unseen, hidden, Fld.key,
      R.PWM_CMPA_VALUE, R.PWM_CMPB_VALUE, R.PWM_DBG_FROZEN, R.PWM_DTACT_DTF, R.PWM_DTACT_DTR, R.PWM_FACT_CODE, R.PWM_FSTAGE_PEND,
      R.PWM_GSTAT_BSCLAMP, R.PWM_GSTAT_LIVE, R.PWM_GSTAT_PDOVR, R.PWM_GSTAT_SHOOT_REQ, R.PWM_GSTAT_VALIDF, R.PWM_GSTAT_VALIDR,
      R.PWM_PDCOMP_OFFD, R.PWM_PDCOMP_OND, R.PWM_TBCNT_COUNT, R.PWM_TBCNT_DIR]
    omega

theorem pwr_unseen :
    unseen R.PWR_BSTAT_BUSY.key ∧ unseen R.PWR_BSTAT_CFGREJ.key ∧ unseen R.PWR_BSTAT_RESULT.key ∧ unseen R.PWR_BSTAT_STEP.key ∧
    unseen R.PWR_ISLEEP_REQ.key ∧ unseen R.PWR_WAKESRC_SRC.key := by
  refine ⟨?_, ?_, ?_, ?_, ?_, ?_⟩
  all_goals
    simp only [unseen, hidden, Fld.key,
      R.PWR_BSTAT_BUSY, R.PWR_BSTAT_CFGREJ, R.PWR_BSTAT_RESULT, R.PWR_BSTAT_STEP, R.PWR_ISLEEP_REQ, R.PWR_WAKESRC_SRC]
    omega

theorem que_unseen :
    (∀ i, unseen (R.QUE_QDROP_DROPP i).key) ∧ (∀ i, unseen (R.QUE_QDROP_DROPW i).key) ∧ (∀ i, unseen (R.QUE_QSTAT_DROP i).key) := by
  refine ⟨fun _ => ?_, fun _ => ?_, fun _ => ?_⟩
  all_goals
    simp only [unseen, hidden, Fld.key,
      R.QUE_QDROP_DROPP, R.QUE_QDROP_DROPW, R.QUE_QSTAT_DROP]
    omega

theorem rcu_unseen :
    (∀ i, unseen (R.RCU_CNT_FRZCNT i).key) ∧ (∀ i, unseen (R.RCU_CNT_LRNCNT i).key) := by
  refine ⟨fun _ => ?_, fun _ => ?_⟩
  all_goals
    simp only [unseen, hidden, Fld.key,
      R.RCU_CNT_FRZCNT, R.RCU_CNT_LRNCNT]
    omega

theorem rec_unseen :
    (∀ i, unseen (R.REC_SNAPST_CAPT i).key) ∧ (∀ i, unseen (R.REC_SNAPST_FILL i).key) ∧ unseen R.REC_STAT_SCRUBBUSY.key ∧
    unseen R.REC_STAT_STATE.key := by
  refine ⟨fun _ => ?_, fun _ => ?_, ?_, ?_⟩
  all_goals
    simp only [unseen, hidden, Fld.key,
      R.REC_SNAPST_CAPT, R.REC_SNAPST_FILL, R.REC_STAT_SCRUBBUSY, R.REC_STAT_STATE]
    omega

theorem safecfg_unseen :
    unseen R.SAFECFG_STAT_UNLOCKED.key := by
  simp only [unseen, hidden, Fld.key, R.SAFECFG_STAT_UNLOCKED]
  omega

theorem safeout_unseen :
    (∀ i, unseen (R.SAFEOUT_OSTAT_FCAUSE i).key) ∧ (∀ i, unseen (R.SAFEOUT_OSTAT_HSON i).key) ∧
    (∀ i, unseen (R.SAFEOUT_OSTAT_LSON i).key) ∧ (∀ i, unseen (R.SAFEOUT_OSTAT_SOFLT i).key) ∧
    (∀ i, unseen (R.SAFEOUT_OSTAT_TESTING i).key) ∧ (∀ i, unseen (R.SAFEOUT_TCNT_ABORTCNT i).key) ∧
    (∀ i, unseen (R.SAFEOUT_TCNT_FAILCNT i).key) ∧ (∀ i, unseen (R.SAFEOUT_TCNT_PASSCNT i).key) := by
  refine ⟨fun _ => ?_, fun _ => ?_, fun _ => ?_, fun _ => ?_, fun _ => ?_, fun _ => ?_, fun _ => ?_, fun _ => ?_⟩
  all_goals
    simp only [unseen, hidden, Fld.key,
      R.SAFEOUT_OSTAT_FCAUSE, R.SAFEOUT_OSTAT_HSON, R.SAFEOUT_OSTAT_LSON, R.SAFEOUT_OSTAT_SOFLT, R.SAFEOUT_OSTAT_TESTING,
      R.SAFEOUT_TCNT_ABORTCNT, R.SAFEOUT_TCNT_FAILCNT, R.SAFEOUT_TCNT_PASSCNT]
    omega

theorem saggar_unseen :
    (∀ i, unseen (R.SAGGAR_FIRST_INPUTS i).key) ∧ (∀ i, unseen (R.SAGGAR_LATCH_INPUTS i).key) ∧
    (∀ i, unseen (R.SAGGAR_TRIPTS_TSC i).key) := by
  refine ⟨fun _ => ?_, fun _ => ?_, fun _ => ?_⟩
  all_goals
    simp only [unseen, hidden, Fld.key,
      R.SAGGAR_FIRST_INPUTS, R.SAGGAR_LATCH_INPUTS, R.SAGGAR_TRIPTS_TSC]
    omega

theorem xwin_unseen :
    (∀ i, unseen (R.XWIN_CTL_COMMIT i).key) ∧ (∀ i, unseen (R.XWIN_STAT_HELD i).key) ∧ (∀ i, unseen (R.XWIN_STAT_SEQ i).key) ∧
    (∀ i, unseen (R.XWIN_STAT_SWAPPED i).key) := by
  refine ⟨fun _ => ?_, fun _ => ?_, fun _ => ?_, fun _ => ?_⟩
  all_goals
    simp only [unseen, hidden, Fld.key,
      R.XWIN_CTL_COMMIT, R.XWIN_STAT_HELD, R.XWIN_STAT_SEQ, R.XWIN_STAT_SWAPPED]
    omega

end Sys2Proof.Machine
end

section
/-! PROOFS. What the operations of the device leave of the views, in the order of the model's files. -/

namespace Sys2Proof.Machine

open Sys2Proof

/-! ## Units -/

theorem State.fire_frame (s : State) (i : Nat) : (s.fire i).side = s.side := by
  simp only [State.fire, side_update, side_ite]

theorem State.setLoop_frame (s : State) (l : Nat) (x : LoopSt) : (s.setLoop l x).side = s.side := (rfl)

theorem State.setIsland_frame (s : State) (i : Nat) (x : Isl) : (s.setIsland i x).side = s.side := (rfl)

theorem State.setGen_frame (s : State) (n : Nat) (x : Gen) : (s.setGen n x).side = s.side := (rfl)

theorem State.setQueue_frame (s : State) (q : Nat) (x : Queue) : (s.setQueue q x).side.noted = s.side.noted := (rfl)

theorem State.setCan_frame (s : State) (x : Nat) (c : Can) : (s.setCan x c).side = s.side := (rfl)


/-! ## Protect -/

theorem State.setCond_frame (s : State) (v : Nat) (b : Nat) (x : Bool) : (s.setCond v b x).side = s.side := (rfl)

theorem State.judge_frame (s : State) (v : Nat) (b : Nat) : (s.judge v b).side = s.side := by
  simp only [State.judge, State.setCond_frame]

theorem State.judgeAll_frame (s : State) : s.judgeAll.side = s.side := by
  simp only [State.judgeAll, side_each, implies_true, State.judge_frame]

theorem State.putIsl_frame (s : State) (i : Nat) (x : Isl) : (s.putIsl i x).side = s.side := by
  simp only [State.putIsl, State.setIsland_frame]

theorem State.modIsl_frame (s : State) (i : Nat) (f : Isl → Isl) : (s.modIsl i f).side = s.side := by
  simp only [State.modIsl, State.putIsl_frame]

theorem State.sendSymbol_frame (s : State) (i : Nat) : (s.sendSymbol i).side = s.side := by
  simp only [State.sendSymbol, side_ite, State.modIsl_frame]

theorem State.pwmTrip_frame (s : State) (v : Nat) : (s.pwmTrip v).side = s.side := by
  simp only [State.pwmTrip, side_put, side_ite, side_each, implies_true, pwm_unseen, State.setGen_frame]

theorem State.forceLoops_frame (s : State) (v : Nat) : (s.forceLoops v).side = s.side := by
  simp only [State.forceLoops, side_each, implies_true, State.setLoop_frame]

theorem State.captureFirst_frame (s : State) (v : Nat) : (s.captureFirst v).side = s.side := by
  unfold State.captureFirst
  (repeat' split) <;> simp only [side_update, side_put, side_ite, saggar_unseen]

theorem State.latchBits_frame (s : State) (v : Nat) (bits : Nat) : (s.latchBits v bits).side = s.side := by
  simp only [State.latchBits, side_update, side_put, side_ite, saggar_unseen, State.captureFirst_frame, State.fire_frame,
      State.forceLoops_frame, State.pwmTrip_frame]

theorem State.latchInputs_frame (s : State) (v : Nat) : (s.latchInputs v).side = s.side := by
  simp only [State.latchInputs, State.latchBits_frame]

theorem State.holdClear_frame (s : State) : s.holdClear.side = s.side := by
  simp only [State.holdClear, side_update, side_put, saggar_unseen]

theorem State.dischStart_frame (s : State) : s.dischStart.side = s.side := by
  unfold State.dischStart
  (repeat' split) <;> simp only [side_update, side_put, cone_unseen]

theorem State.sagSync_frame (s : State) : s.sagSync.side = s.side := by
  simp only [State.sagSync, side_ite, side_each, implies_true, State.dischStart_frame, State.holdClear_frame,
      State.judgeAll_frame, State.latchInputs_frame]

theorem State.sync_frame (s : State) : s.sync.side = s.side := by
  simp only [State.sync, side_each, implies_true, State.sagSync_frame, State.sendSymbol_frame]


/-! ## Loops -/

theorem State.enterLoop_frame (s : State) (l : Nat) (code : Nat) (forced : Bool) : (s.enterLoop l code forced).side = s.side := by
  simp only [State.enterLoop, side_put, loop_unseen, State.setLoop_frame]

theorem State.rampTurn_frame (s : State) (u : Nat) : (s.rampTurn u).side = s.side := by
  simp only [State.rampTurn, side_put, side_ite, loop_unseen]

theorem State.rampRunEntry_frame (s : State) : s.rampRunEntry.side = s.side := by
  simp only [State.rampRunEntry, side_put, side_each, implies_true, loop_unseen]

theorem State.holdEval_frame (s : State) : s.holdEval.side = s.side := by
  simp only [State.holdEval, side_put, loop_unseen]

theorem State.loopTick_frame (s : State) (l : Nat) : (s.loopTick l).side = s.side := by
  simp only [State.loopTick, State.setLoop_frame]

theorem State.loopStep1_frame (s : State) (l : Nat) : (s.loopStep1 l).side = s.side := by
  simp only [State.loopStep1, side_ite, State.enterLoop_frame]

theorem State.loopStep2_frame (s : State) (l : Nat) : (s.loopStep2 l).side = s.side := by
  simp only [State.loopStep2, side_ite, State.enterLoop_frame, State.setLoop_frame]

theorem State.loopStep3_frame (s : State) (l : Nat) : (s.loopStep3 l).side = s.side := by
  simp only [State.loopStep3, side_ite, State.enterLoop_frame]

theorem State.loopStep4_frame (s : State) (l : Nat) : (s.loopStep4 l).side = s.side := by
  simp only [State.loopStep4, side_put, side_ite, loop_unseen, State.enterLoop_frame]

theorem State.loopTurnStart_frame (s : State) : s.loopTurnStart.side = s.side := by
  simp only [State.loopTurnStart, side_update, side_each, implies_true, State.holdEval_frame, State.loopStep1_frame,
      State.loopStep2_frame, State.loopStep3_frame, State.loopStep4_frame, State.loopTick_frame, State.rampTurn_frame]

theorem State.loopsForceOpen_frame (s : State) : s.loopsForceOpen.side = s.side := by
  simp only [State.loopsForceOpen, side_each, implies_true, State.enterLoop_frame]

theorem State.loopsRunEntry_frame (s : State) : s.loopsRunEntry.side = s.side := by
  simp only [State.loopsRunEntry, side_update, side_put, side_each, implies_true, rcu_unseen, State.enterLoop_frame,
      State.holdEval_frame, State.rampRunEntry_frame, State.setLoop_frame]

theorem State.loopsLeaveRun_frame (s : State) : s.loopsLeaveRun.side = s.side := by
  simp only [State.loopsLeaveRun, State.holdEval_frame, State.loopsForceOpen_frame]


/-! ## Pwm -/

theorem State.tbSet_frame (s : State) (t : Nat) (count : Nat) (falling : Bool) : (s.tbSet t count falling).side = s.side := by
  simp only [State.tbSet, side_put, pwm_unseen]

theorem State.tbStart_frame (s : State) (t : Nat) : (s.tbStart t).side = s.side := by
  simp only [State.tbStart, side_ite, State.tbSet_frame]

theorem State.tbStartAll_frame (s : State) : s.tbStartAll.side = s.side := by
  simp only [State.tbStartAll, side_update, side_each, implies_true, State.tbStart_frame]

theorem State.legResolve_frame (s : State) (n : Nat) (f : Nat) : (s.legResolve n f).2.side = s.side := by
  unfold State.legResolve
  dsimp only
  split <;> simp only [side_put, pwm_unseen]

theorem State.present_frame (s : State) (t : Nat) (i : Nat) (on : Bool) : (s.present t i on).side = s.side := by
  simp only [State.present, side_update, side_ite]

theorem State.legDrive_frame (s : State) (t : Nat) (n : Nat) : (s.legDrive t n).side = s.side := by
  simp only [State.legDrive, State.present_frame]

theorem State.legEval_frame (s : State) (f : Nat) (n : Nat) : (s.legEval f n).side = s.side := by
  simp only [State.legEval, side_ite, State.legDrive_frame, State.legResolve_frame, State.setGen_frame]

theorem State.auxEval_frame (s : State) (f : Nat) (n : Nat) : (s.auxEval f n).side = s.side := by
  simp only [State.auxEval, side_ite, State.setGen_frame]

theorem State.outputs_frame (s : State) (f : Nat) : (s.outputs f).side = s.side := by
  simp only [State.outputs, side_each, implies_true, State.auxEval_frame, State.legEval_frame]

theorem State.legOff_frame (s : State) (n : Nat) : (s.legOff n).side = s.side := by
  simp only [State.legOff, State.legDrive_frame, State.setGen_frame]

theorem State.pwmOff_frame (s : State) : s.pwmOff.side = s.side := by
  simp only [State.pwmOff, side_update, side_put, side_each, implies_true, pwm_unseen, State.legOff_frame, State.setGen_frame]

theorem State.pdReload_frame (s : State) (i : Nat) : (s.pdReload i).side = s.side := by
  unfold State.pdReload
  dsimp only
  (repeat' split) <;> simp only [side_put, pwm_unseen]

theorem State.dtReload_frame (s : State) (n : Nat) : (s.dtReload n).side = s.side := by
  unfold State.dtReload
  dsimp only
  (repeat' split) <;> simp only [side_put, pwm_unseen, State.pdReload_frame, State.setGen_frame]

theorem State.reload_frame (s : State) (n : Nat) : (s.reload n).side = s.side := by
  simp only [State.reload, side_put, side_ite, pwm_unseen, State.dtReload_frame]

theorem State.commCodes_frame (s : State) (v : Nat) : (s.commCodes v).side = s.side := by
  simp only [State.commCodes, side_put, side_ite, pwm_unseen]

theorem State.tbEvent_frame (s : State) (t : Nat) (sel : State → Nat → Bool) : (s.tbEvent t sel).side = s.side := by
  simp only [State.tbEvent, side_each, implies_true, State.reload_frame]

theorem State.noteEvt_frame (s : State) (t : Nat) : (s.noteEvt t).side = s.side := (rfl)

theorem State.sdArm_frame (s : State) (t : Nat) (peak : Bool) : (s.sdArm t peak).side = s.side := by
  simp only [State.sdArm, side_update]

theorem State.zeroEvent_frame (s : State) (t : Nat) : (s.zeroEvent t).side = s.side := by
  simp only [State.zeroEvent, side_ite, side_each, implies_true, State.commCodes_frame, State.noteEvt_frame, State.sdArm_frame,
      State.tbEvent_frame]

theorem State.peakEvent_frame (s : State) (t : Nat) : (s.peakEvent t).side = s.side := by
  simp only [State.peakEvent, State.noteEvt_frame, State.sdArm_frame, State.tbEvent_frame]

theorem State.tbEventOf_frame (s : State) (t : Nat) : (s.tbEventOf t).side = s.side := by
  simp only [State.tbEventOf, side_ite, State.peakEvent_frame, State.zeroEvent_frame]

theorem State.tbEvents_frame (s : State) : s.tbEvents.side = s.side := by
  simp only [State.tbEvents, side_ite, side_each, implies_true, State.outputs_frame, State.tbEventOf_frame]

theorem State.genEntry_frame (s : State) (n : Nat) : (s.genEntry n).side = s.side := by
  simp only [State.genEntry, side_put, pwm_unseen, State.setGen_frame]

theorem State.deadTimeEntry_frame (s : State) (n : Nat) : (s.deadTimeEntry n).side = s.side := by
  simp only [State.deadTimeEntry, side_put, pwm_unseen]

theorem State.pwmRunEntry_frame (s : State) : s.pwmRunEntry.side = s.side := by
  simp only [State.pwmRunEntry, side_update, side_put, side_each, implies_true, pwm_unseen, State.deadTimeEntry_frame,
      State.genEntry_frame, State.tbStartAll_frame]


/-! ## Queues -/

theorem State.modQueue_frame (s : State) (q : Nat) (f : Queue → Queue) : (s.modQueue q f).side.noted = s.side.noted := by
  simp only [State.modQueue, State.setQueue_frame]

theorem State.qDropped_frame (s : State) (q : Nat) (words : Nat) (packet : Bool) : (s.qDropped q words packet).side.noted =
    s.side.noted := by
  simp only [State.qDropped, side_put, side_ite, que_unseen, State.setQueue_frame]

theorem State.qOpen_frame (s : State) (q : Nat) (word : Nat) (last : Bool) : (s.qOpen q word last).side.noted = s.side.noted := by
  simp only [State.qOpen, State.modQueue_frame]

theorem State.qMiss_frame (s : State) (q : Nat) (last : Bool) : (s.qMiss q last).side.noted = s.side.noted := by
  simp only [State.qMiss, State.modQueue_frame, State.qDropped_frame]

theorem State.qAbort_frame (s : State) (q : Nat) : (s.qAbort q).side.noted = s.side.noted := by
  simp only [State.qAbort, State.modQueue_frame]

theorem State.qWithdraw_frame (s : State) (q : Nat) : (s.qWithdraw q).side.noted = s.side.noted := by
  simp only [State.qWithdraw, State.modQueue_frame, State.qDropped_frame]

theorem State.qAppend_frame (s : State) (q : Nat) (word : Nat) (last : Bool) : (s.qAppend q word last).side.noted = s.side.noted
    := by
  simp only [State.qAppend, State.modQueue_frame]

theorem State.qOverflow_frame (s : State) (q : Nat) (last : Bool) : (s.qOverflow q last).side.noted = s.side.noted := by
  simp only [State.qOverflow, side_ite, State.modQueue_frame, State.qAbort_frame, State.qDropped_frame, State.qWithdraw_frame]

theorem State.qLost_frame (s : State) (q : Nat) (last : Bool) : (s.qLost q last).side.noted = s.side.noted := by
  simp only [State.qLost, side_ite, State.qDropped_frame, State.setQueue_frame]

theorem State.qPush_frame (s : State) (q : Nat) (word : Nat) (last : Bool) : (s.qPush q word last).side.noted = s.side.noted := by
  simp only [State.qPush, side_ite, State.modQueue_frame, State.qAppend_frame, State.qDropped_frame, State.qLost_frame,
      State.qMiss_frame, State.qOpen_frame, State.qOverflow_frame]

theorem State.qEmpty_frame (s : State) (q : Nat) : (s.qEmpty q).side.noted = s.side.noted := by
  simp only [State.qEmpty, side_ite, State.modQueue_frame, State.qAbort_frame, State.qDropped_frame, State.qWithdraw_frame,
      State.setQueue_frame]

theorem State.qPacketPush_frame (s : State) (q : Nat) (words : List Nat) : (s.qPacketPush q words).side.noted = s.side.noted := by
  induction words generalizing s with
  | nil => exact s.qEmpty_frame q
  | cons w t ih =>
    cases t with
    | nil => exact s.qPush_frame q w true
    | cons v t => exact (ih _).trans (s.qPush_frame q w false)

theorem State.wheelPacketsEnd_frame (s : State) : s.wheelPacketsEnd.side.noted = s.side.noted := by
  simp only [State.wheelPacketsEnd, side_ite, side_each, implies_true, State.qAbort_frame, State.qWithdraw_frame,
      State.setQueue_frame]

theorem State.coneRecord_frame (s : State) : s.coneRecord.side.noted = s.side.noted := by
  unfold State.coneRecord
  split <;> simp only [side_ite, State.draw_frame, State.qPacketPush_frame]


/-! ## Adc -/

theorem State.adcTrigger_frame (s : State) (g : Nat) (t0 : Nat) : (s.adcTrigger g t0).side = s.side := by
  simp only [State.adcTrigger, side_update, side_put, side_ite, adc_unseen]

theorem State.groupTake_frame (s : State) (g : Nat) : (s.groupTake g).side = s.side := by
  simp only [State.groupTake, side_ite, State.adcTrigger_frame]

theorem State.tbBegin_frame (s : State) : s.tbBegin.side = s.side := by
  simp only [State.tbBegin, side_each, implies_true, State.groupTake_frame, State.tbEvents_frame, State.tbStartAll_frame]


/-! ## Can -/

theorem State.modCan_frame (s : State) (x : Nat) (f : Can → Can) : (s.modCan x f).side = s.side := by
  simp only [State.modCan, side_put, can_unseen, State.setCan_frame]

theorem State.canDrain_frame (s : State) (x : Nat) : (s.canDrain x).side.noted = s.side.noted := by
  unfold State.canDrain
  (repeat' split) <;> simp only [State.modCan_frame, side_foldl, State.qPacketPush_frame, implies_true]

theorem State.canSleepNow_frame (s : State) (x : Nat) : (s.canSleepNow x).side = s.side := by
  simp only [State.canSleepNow, side_put, can_unseen, State.modCan_frame]

theorem State.sfStart_frame (s : State) : s.sfStart.side = s.side := by
  simp only [State.sfStart, side_ite, side_each, implies_true, State.draw_frame, State.modCan_frame]

theorem State.canEmpty_frame (s : State) : s.canEmpty.side = s.side := by
  simp only [State.canEmpty, side_put, can_unseen, State.modCan_frame, State.sfStart_frame]

theorem State.canGoSleep_frame (s : State) (x : Nat) : (s.canGoSleep x).side = s.side := by
  simp only [State.canGoSleep, side_put, side_ite, can_unseen, State.canSleepNow_frame, State.modCan_frame]

theorem State.canWakeUp_frame (s : State) (x : Nat) (cause : Nat) : (s.canWakeUp x cause).side.noted = s.side.noted := by
  simp only [State.canWakeUp, side_put, can_unseen, pwr_unseen, State.canDrain_frame, State.modCan_frame]

theorem State.canHold_frame (s : State) : s.canHold.side.noted = s.side.noted := by
  simp only [State.canHold, side_put, side_ite, side_each, implies_true, can_unseen, pwr_unseen, State.canEmpty_frame,
      State.canWakeUp_frame, State.modCan_frame]


/-! ## Eth -/

theorem State.ethGoSleep_frame (s : State) : s.ethGoSleep.side = s.side := by
  simp only [State.ethGoSleep, side_update, side_ite]


/-! ## Nor -/

theorem State.norProgram_frame (s : State) (a : Nat) (l : List Nat) : (s.norProgram a l).side = s.side := by
  unfold State.norProgram
  generalize a = n
  induction l generalizing s n with
  | nil => rfl
  | cons b l ih => exact ih _ _

theorem State.norErase_frame (s : State) (lo : Nat) (hi : Nat) : (s.norErase lo hi).side = s.side := (rfl)

theorem State.eraseUnits_frame (s : State) (l : List Nat) : (s.eraseUnits l).side = s.side := by
  simp only [State.eraseUnits, side_foldl, implies_true, State.norErase_frame]

theorem State.freeBytes_frame (s : State) (n : Nat) : (s.freeBytes n).2.side = s.side := (rfl)

theorem State.eraseFails_frame (s : State) : s.eraseFails.side = s.side := by
  simp only [State.eraseFails, State.draw_frame, State.eraseUnits_frame, State.freeBytes_frame, State.norProgram_frame]

theorem State.pageWrite_frame (s : State) (ok : Bool) : (s.pageWrite ok).side = s.side := by
  simp only [State.pageWrite, side_update, side_ite, State.freeBytes_frame, State.norProgram_frame]

theorem State.commitCut_frame (s : State) : s.commitCut.side = s.side := by
  simp only [State.commitCut, side_ite, State.draw_frame, State.norProgram_frame]

theorem State.norCut_frame (s : State) : s.norCut.side = s.side := by
  simp only [State.norCut, side_ite, State.commitCut_frame, State.eraseFails_frame, State.pageWrite_frame]

theorem State.updIdle_frame (s : State) : s.updIdle.side.noted.still.plane = s.side.noted.still.plane := by
  simp only [State.updIdle, side_update, plane_put]

theorem State.updHold_frame (s : State) : s.updHold.side.noted.still.plane = s.side.noted.still.plane := by
  simp only [State.updHold, side_update, plane_put, side_ite, State.norCut_frame, State.updIdle_frame]


/-! ## SafeOut -/

theorem State.setSo_frame (s : State) (x : Nat) (v : So) : (s.setSo x v).side = s.side := (rfl)

theorem State.soSwitch_frame (s : State) (x : Nat) (hs : Bool) (ls : Bool) : (s.soSwitch x hs ls).side = s.side := by
  simp only [State.soSwitch, side_put, safeout_unseen]

theorem State.soFollow_frame (s : State) (x : Nat) : (s.soFollow x).side = s.side := by
  simp only [State.soFollow, State.setSo_frame, State.soSwitch_frame]

theorem State.soEndTest_frame (s : State) (x : Nat) : (s.soEndTest x).side = s.side := by
  simp only [State.soEndTest, side_put, safeout_unseen, State.setSo_frame]

theorem State.soAbort_frame (s : State) (x : Nat) : (s.soAbort x).side = s.side := by
  simp only [State.soAbort, side_put, side_ite, safeout_unseen, State.soEndTest_frame]

theorem State.soResult_frame (s : State) (x : Nat) (t : SoTest) (pass : Bool) : (s.soResult x t pass).side.noted = s.side.noted
    := by
  simp only [State.soResult, side_put, side_ite, safeout_unseen, State.coneRecord_frame, State.setSo_frame]

theorem State.soSettle_frame (s : State) (x : Nat) : (s.soSettle x).side.noted = s.side.noted := by
  unfold State.soSettle
  split <;> simp only [side_ite, State.setSo_frame, State.soResult_frame]

theorem State.soChange_frame (s : State) (x : Nat) : (s.soChange x).side = s.side := by
  simp only [State.soChange, side_put, side_ite, safeout_unseen, State.setSo_frame]

theorem State.soTrack_frame (s : State) (x : Nat) : (s.soTrack x).side.noted = s.side.noted := by
  simp only [State.soTrack, side_ite, State.soAbort_frame, State.soChange_frame, State.soFollow_frame, State.soSettle_frame]

theorem State.soEnter_frame (s : State) : s.soEnter.side.noted = s.side.noted := by
  simp only [State.soEnter, side_each, implies_true, State.soTrack_frame]


/-! ## SafeCfg -/

theorem State.relock_frame (s : State) : s.relock.side = s.side := by
  simp only [State.relock, side_put, safecfg_unseen]


/-! ## Shard -/

theorem State.setRec_frame (s : State) (n : Nat) : (s.setRec n).side = s.side := by
  simp only [State.setRec, side_put, rec_unseen]

theorem State.modShard_frame (s : State) (f : Shard → Shard) : (s.modShard f).side = s.side := (rfl)

theorem State.recBytes_frame (s : State) (n : Nat) : (s.recBytes n).side = s.side := by
  simp only [State.recBytes, State.modShard_frame]

theorem State.recClose_frame (s : State) (type : Nat) (flags : Nat) (body : List Nat) (rest : Nat) (early : List (Nat × Nat)) :
    (s.recClose type flags body rest early).side = s.side := by
  simp only [State.recClose, State.modShard_frame, State.recBytes_frame]

theorem State.recPark_frame (s : State) : s.recPark.side = s.side := by
  simp only [State.recPark, side_ite, State.modShard_frame, State.setRec_frame]

theorem State.recUnpark_frame (s : State) : s.recUnpark.side = s.side := by
  simp only [State.recUnpark, side_ite, State.modShard_frame, State.setRec_frame]

theorem State.fmtStart_frame (s : State) : s.fmtStart.side = s.side := by
  simp only [State.fmtStart, side_put, side_ite, rec_unseen, State.modShard_frame, State.setRec_frame]

theorem State.setStream_frame (s : State) (n : Nat) (x : Stream) : (s.setStream n x).side = s.side := by
  simp only [State.setStream, side_put, rec_unseen, State.modShard_frame]

theorem State.snapClose_frame (s : State) (n : Nat) (trunc : Nat) : (s.snapClose n trunc).side.noted.still = s.side.noted.still
    := by
  unfold State.snapClose
  dsimp only
  refine (State.put_still (by simp only [hidden, Fld.key, R.REC_SNAPST_POSTLEFT]; omega) _ 0).trans ?_
  simp only [State.setStream_frame, State.recClose_frame]

theorem State.recMount_frame (s : State) : s.recMount.side = s.side := by
  simp only [State.recMount, side_ite, State.setRec_frame]

theorem State.closeCaptures_frame (s : State) : s.closeCaptures.side.noted.still = s.side.noted.still := by
  simp only [State.closeCaptures, side_ite, side_each, implies_true, State.snapClose_frame]

theorem State.recHold_frame (s : State) : s.recHold.side.noted.still = s.side.noted.still := by
  simp only [State.recHold, side_put, side_ite, side_each, implies_true, pwr_unseen, State.closeCaptures_frame,
      State.modShard_frame, State.recPark_frame, State.recUnpark_frame, State.setStream_frame]

theorem State.recSleep_frame (s : State) : s.recSleep.side = s.side := by
  simp only [State.recSleep, side_ite, State.modShard_frame, State.recPark_frame]

theorem State.recWake_frame (s : State) : s.recWake.side = s.side := by
  simp only [State.recWake, side_ite, State.fmtStart_frame, State.recUnpark_frame]


/-! ## Hold -/

theorem State.bistLost_frame (s : State) : s.bistLost.side = s.side := by
  simp only [State.bistLost, side_update, side_put, side_ite, bist_unseen]

theorem State.dropEntry_frame (s : State) : s.dropEntry.side.noted.still.plane = s.side.noted.still.plane := by
  simp only [State.dropEntry, side_update, plane_put, side_ite]

theorem State.dropRun_frame (s : State) : s.dropRun.side.noted.still.plane = s.side.noted.still.plane := by
  simp only [State.dropRun, side_update, plane_put, side_ite]

theorem State.haltPc_frame (s : State) : s.haltPc.side.noted.still.plane = s.side.noted.still.plane := by
  simp only [State.haltPc, plane_put, side_ite]

theorem State.notePoison_frame (s : State) : s.notePoison.side.noted.still.plane = s.side.noted.still.plane := by
  simp only [State.notePoison, plane_put, side_ite]

theorem State.holdEntry_frame (s : State) : s.holdEntry.side.noted.still.plane = s.side.noted.still.plane := by
  simp only [State.holdEntry, side_update, plane_put, side_ite, side_each, implies_true, State.modIsl_frame]


/-! ## Turns -/

theorem State.fixCycle_frame (s : State) : s.fixCycle.side = s.side := by
  simp only [State.fixCycle, side_update, side_ite]


/-! ## Power -/

theorem State.ifSleep_frame (s : State) (i : Nat) : (s.ifSleep i).side = s.side := by
  simp only [State.ifSleep, side_ite, State.canGoSleep_frame, State.ethGoSleep_frame, State.recSleep_frame]

theorem State.ethWakeUp_frame (s : State) : s.ethWakeUp.side = s.side := by
  simp only [State.ethWakeUp, side_update, side_put, pwr_unseen]

theorem State.canNoSleep_frame (s : State) (x : Nat) : (s.canNoSleep x).side = s.side := by
  simp only [State.canNoSleep, side_put, can_unseen, State.modCan_frame]

theorem State.ifWake_frame (s : State) (i : Nat) : (s.ifWake i).side.noted = s.side.noted := by
  simp only [State.ifWake, side_update, side_ite, State.canNoSleep_frame, State.canWakeUp_frame, State.ethWakeUp_frame,
      State.recWake_frame]

theorem State.isleepBit_frame (s : State) (i : Nat) (v : Bool) : (s.isleepBit i v).side.noted = s.side.noted := by
  simp only [State.isleepBit, side_update, side_ite, State.ifSleep_frame, State.ifWake_frame]

theorem State.isleepWrite_frame (s : State) (v : Nat) : (s.isleepWrite v).side.noted = s.side.noted := by
  unfold State.isleepWrite
  split
  · simp only [side_put, pwr_unseen]
  · simp only [side_put, pwr_unseen, side_each, State.isleepBit_frame, implies_true]

theorem State.stopBlk_frame (s : State) (b : Nat) : (s.stopBlk b).side.noted.still.plane = s.side.noted.still.plane := by
  simp only [State.stopBlk, side_update, side_ite, side_each, implies_true, State.soAbort_frame, State.soFollow_frame]

theorem State.restartBlk_frame (s : State) (b : Nat) : (s.restartBlk b).side.noted = s.side.noted := by
  simp only [State.restartBlk, side_ite, side_each, implies_true, State.ifWake_frame, State.modIsl_frame, State.recWake_frame]

theorem State.restartAll_frame (s : State) : s.restartAll.side.noted.still.plane = s.side.noted.still.plane := by
  simp only [State.restartAll, side_update, side_foldl, implies_true, State.restartBlk_frame]

theorem State.wakeOwn_frame (s : State) (src : Nat) : (s.wakeOwn src).side.noted = s.side.noted := by
  simp only [State.wakeOwn, side_update, side_ite, side_each, implies_true, State.canWakeUp_frame, State.ethWakeUp_frame]

theorem State.noteWake_frame (s : State) (first : Nat) (src : Nat) : (s.noteWake first src).side.noted.still.plane =
    s.side.noted.still.plane := by
  simp only [State.noteWake, plane_put]

end Sys2Proof.Machine
end

section
/-! PROOFS. The turn begins and ends (R25, R32, R76, R79, R80, R82, R89, R101). -/

namespace Sys2Proof.Machine

open Sys2Proof

/-! ## One bit of a number -/

/-- Taking a set bit's weight away clears that bit and no other. -/
theorem testBit_sub_two_pow {n i : Nat} (h : n.testBit i = true) (j : Nat) :
    (n - 2 ^ i).testBit j = (n.testBit j && decide (j ≠ i)) := by
  have hodd : n / 2 ^ i % 2 = 1 := by simpa [Nat.testBit_eq_decide_div_mod_eq] using h
  obtain ⟨q, hq⟩ : ∃ q, n / 2 ^ i = 2 * q + 1 := ⟨n / 2 ^ i / 2, by omega⟩
  have hlt : n % 2 ^ i < 2 ^ i := Nat.mod_lt _ (Nat.two_pow_pos i)
  have hn : n = 2 ^ i * (2 * q + 1) + n % 2 ^ i := by rw [← hq, Nat.div_add_mod]
  have hsub : n - 2 ^ i = 2 ^ i * (2 * q) + n % 2 ^ i := by
    rw [Nat.mul_add] at hn
    omega
  have hpair : ∀ k, (2 * q).testBit k = ((2 * q + 1).testBit k && decide (k ≠ 0))
    | 0 => by simp [Nat.testBit_zero]
    | k + 1 => by simp [Nat.testBit_succ, show (2 * q + 1) / 2 = q by omega]
  rw [hsub, Nat.testBit_two_pow_mul_add _ hlt]
  conv_rhs => rw [hn, Nat.testBit_two_pow_mul_add _ hlt]
  split
  · simp [show j ≠ i by omega]
  · rw [hpair]
    congr 1
    exact decide_eq_decide.mpr (by omega)

theorem testBit_setBit (n i j : Nat) (b : Bool) : (setBit n i b).testBit j = if j = i then b else n.testBit j := by
  unfold setBit
  cases b with
  | true =>
    simp only [if_true, Nat.testBit_or, Nat.testBit_two_pow]
    by_cases h : j = i
    · simp [h]
    · simp [h, Ne.symm h]
  | false =>
    by_cases hi : n.testBit i = true
    · rw [if_neg (by simp), if_pos hi, testBit_sub_two_pow hi]
      by_cases h : j = i <;> simp [h]
    · rw [if_neg (by simp), if_neg hi]
      by_cases h : j = i <;> simp_all

/-- States that look alike look alike with the same windows. -/
theorem side_xwin {s t : State} (h : s.side = t.side) (x : Xwin) : State.side { s with xwin := x } = State.side { t with xwin := x } :=
  congrArg (fun v : Side =>
    { v with noted := { v.noted with still := { v.noted.still with plane := { v.noted.still.plane with xwin := x } } } }) h

/-! ## The windows' swaps (R25, R82) -/

/-- The selection of window w after its swap. -/
def State.selAfter (s : State) (w : Nat) : Nat :=
  if s.wheel.swapMask.testBit w then setBit s.xwin.sel w (!s.xwin.sel.testBit w) else s.xwin.sel

theorem State.selAfter_testBit (s : State) (w j : Nat) :
    (s.selAfter w).testBit j = (s.xwin.sel.testBit j != (decide (j = w) && s.wheel.swapMask.testBit w)) := by
  unfold State.selAfter
  split
  · rw [testBit_setBit]
    by_cases h : j = w <;> simp_all
  · by_cases h : j = w <;> simp_all

/-- A window's turn at the swap moves its selection and, of what the views show, nothing else. -/
theorem State.xwSwapOne_side (s : State) (w : Nat) :
    (s.xwSwapOne w).side = State.side { s with xwin := { s.xwin with sel := s.selAfter w } } := by
  unfold State.xwSwapOne State.selAfter
  extract_lets swap u x v
  have hu : u.side = s.side := by simp only [u, side_put, xwin_unseen]
  have hx : u.xwin = s.xwin := congrArg (·.noted.still.plane.xwin) hu
  split
  · rename_i h
    rw [Bool.not_eq_true'] at h
    rw [hu, if_neg (by simp [show s.wheel.swapMask.testBit w = false from h])]
  · rename_i h
    rw [Bool.not_eq_true', Bool.not_eq_false] at h
    have hv : v.side = State.side { s with xwin := { s.xwin with sel := setBit s.xwin.sel w (!s.xwin.sel.testBit w) } } := by
      rw [← hx]
      exact side_xwin hu _
    rw [if_pos h, ← hv]
    split <;> simp only [side_put, xwin_unseen]

/-- The swaps of the windows of a list. -/
theorem State.each_xwSwapOne_side (l : List Nat) (hl : l.Nodup) (s : State) : ∃ m,
    (∀ w, m.testBit w = (s.xwin.sel.testBit w != (decide (w ∈ l) && s.wheel.swapMask.testBit w))) ∧
    (s.each l State.xwSwapOne).side = State.side { s with xwin := { s.xwin with sel := m } } := by
  induction l generalizing s with
  | nil => exact ⟨s.xwin.sel, fun w => by simp, rfl⟩
  | cons a l ih =>
    obtain ⟨ha, hl⟩ := List.nodup_cons.mp hl
    have hone := s.xwSwapOne_side a
    have hwheel : (s.xwSwapOne a).wheel = s.wheel := congrArg (·.noted.still.plane.wheel) hone
    have hxwin : (s.xwSwapOne a).xwin = { s.xwin with sel := s.selAfter a } := congrArg (·.noted.still.plane.xwin) hone
    obtain ⟨m, hm, hside⟩ := ih hl (s.xwSwapOne a)
    refine ⟨m, fun w => ?_, ?_⟩
    · rw [hm, hwheel, hxwin, s.selAfter_testBit]
      by_cases hw : w = a
      · subst hw
        simp [ha]
      · simp [hw]
    · refine hside.trans ?_
      rw [hxwin]
      exact side_xwin hone _

/-- TURN_START swaps exactly the windows the match decided on, and the swaps leave their words, the Wheel and its memories alone. -/
theorem State.xwSwap_sel (s : State) (w : Fin 8) :
    s.xwSwap.xwin.sel.testBit w.val = (s.xwin.sel.testBit w.val != s.wheel.swapMask.testBit w.val) := by
  obtain ⟨m, hm, hside⟩ := State.each_xwSwapOne_side (List.range 8) List.nodup_range s
  refine (congrArg (·.noted.still.plane.xwin.sel.testBit w.val) hside).trans ?_
  refine (hm w.val).trans ?_
  rw [decide_eq_true (List.mem_range.mpr w.isLt), Bool.true_and]

theorem State.xwSwap_keeps (s : State) : s.xwSwap.wheel = s.wheel ∧ s.xwSwap.xwin.buf = s.xwin.buf ∧ s.xwSwap.contract = s.contract ∧
    s.xwSwap.cycle = s.cycle ∧ s.xwSwap.mem = s.mem ∧ s.xwSwap.queues = s.queues ∧ s.xwSwap.dev = s.dev := by
  obtain ⟨m, -, hside⟩ := State.each_xwSwapOne_side (List.range 8) List.nodup_range s
  have hplane := congrArg (·.noted.still.plane) hside
  exact ⟨congrArg Plane.wheel hplane, congrArg (·.xwin.buf) hplane, congrArg Plane.contract hplane, congrArg Plane.cycle hplane,
    congrArg Plane.mem hplane, congrArg Side.queues hside, congrArg Plane.dev hplane⟩

/-! ## The phase counters (R89) -/

/-- The counters of the sections of a list advance; nothing else moves. -/
theorem State.each_advancePhases (l : List Nat) (hl : l.Nodup) (s : State) : ∃ ph,
    s.each l (fun s j => match s.contract.slow[j]? with
      | some r => { s with wheel := { s.wheel with
          phase := Sparse.set 0 s.wheel.phase j ((Sparse.get 0 s.wheel.phase j + 1) % max 1 r.n) } }
      | none => s) = { s with wheel := { s.wheel with phase := ph } } ∧
    (∀ j, j ∉ l → Sparse.get 0 ph j = Sparse.get 0 s.wheel.phase j) ∧
    ∀ j ∈ l, ∀ r, s.contract.slow[j]? = some r → Sparse.get 0 ph j = (Sparse.get 0 s.wheel.phase j + 1) % max 1 r.n := by
  induction l generalizing s with
  | nil => exact ⟨s.wheel.phase, rfl, fun _ _ => rfl, fun j hj => nomatch hj⟩
  | cons a l ih =>
    obtain ⟨ha, hl⟩ := List.nodup_cons.mp hl
    unfold State.each
    rw [List.foldl_cons]
    cases hr : s.contract.slow[a]? with
    | none =>
      obtain ⟨ph, heq, hout, hin⟩ := ih hl s
      refine ⟨ph, heq, fun j hj => hout j fun h => hj (List.mem_cons_of_mem _ h), fun j hj r hjr => ?_⟩
      obtain rfl | hj := List.mem_cons.mp hj
      · rw [hr] at hjr
        exact nomatch hjr
      · exact hin j hj r hjr
    | some r₀ =>
      obtain ⟨ph, heq, hout, hin⟩ := ih hl { s with wheel := { s.wheel with
          phase := Sparse.set 0 s.wheel.phase a ((Sparse.get 0 s.wheel.phase a + 1) % max 1 r₀.n) } }
      refine ⟨ph, heq, fun j hj => ?_, fun j hj r hjr => ?_⟩
      · rw [hout j fun h => hj (List.mem_cons_of_mem _ h)]
        exact Sparse.get_set_ne _ _ _ fun h => hj (h ▸ List.mem_cons_self)
      · obtain rfl | hj := List.mem_cons.mp hj
        · rw [hr] at hjr
          rw [hout _ ha, Sparse.get_set_self, Option.some.inj hjr]
        · rw [hin j hj r hjr, Sparse.get_set_ne _ _ _ fun h : j = a => ha (h ▸ hj)]

/-- Every section's counter advances modulo its N; nothing else moves. -/
theorem State.advancePhases_eq (s : State) : ∃ ph, s.advancePhases = { s with wheel := { s.wheel with phase := ph } } ∧
    ∀ j : Fin 8, ∀ r, s.contract.slow[j.val]? = some r →
      Sparse.get 0 ph j.val = (Sparse.get 0 s.wheel.phase j.val + 1) % max 1 r.n := by
  obtain ⟨ph, heq, -, hin⟩ := State.each_advancePhases (List.range 8) List.nodup_range s
  exact ⟨ph, heq, fun j r hr => hin j.val (List.mem_range.mpr j.isLt) r hr⟩

/-! ## TURN_START and TEND -/

/-- The state a TURN_START begins with: the matched turn's stamp taken. -/
def State.turnStamped (s : State) : State :=
  { s with wheel := { s.wheel with matched := false, stamp := s.tsc }, pwm := { s.pwm with dark := false } }

/-- The state once the windows have swapped and the loops, the outputs, the cycle offset and DBG.HALTED follow. -/
def State.turnSet (s : State) : State :=
  ((s.turnStamped.xwSwap.loopTurnStart.outputs 0).fixCycle).clear R.WHEEL_DBG_HALTED

/-- The Wheel issues from bundle 0. -/
def State.turnBegun (s : State) : State :=
  { s with wheel := { s.wheel with
      turning := true, idle := false, dbgHalted := false, stepping := s.on R.WHEEL_DBG_STEP, pc := 0, jump := none,
      loops := [], inSlow := none, slowTodo := below 8 s.slowActive, start := s.cycle } }

theorem State.turnStart_eq (s : State) : s.turnStart = s.turnSet.turnBegun := by
  unfold State.turnStart
  extract_lets w p stamped set
  have h : set = s.turnSet := rfl
  change set.turnBegun = _
  rw [h]

theorem State.turnSet_keeps (s : State) : s.turnSet.wheel = s.turnStamped.wheel ∧ s.turnSet.xwin.buf = s.xwin.buf ∧
    s.turnSet.contract = s.contract ∧ s.turnSet.cycle = s.cycle ∧ s.turnSet.mem = s.mem ∧ s.turnSet.queues = s.queues ∧
    s.turnSet.dev = s.dev ∧
    ∀ w : Fin 8, s.turnSet.xwin.sel.testBit w.val = (s.xwin.sel.testBit w.val != s.wheel.swapMask.testBit w.val) := by
  have hside : ((s.turnStamped.xwSwap.loopTurnStart.outputs 0).fixCycle).side = s.turnStamped.xwSwap.side := by
    simp only [State.fixCycle_frame, State.outputs_frame, State.loopTurnStart_frame]
  obtain ⟨hwheel, hbuf, hcontract, hcycle, hmem, hqueues, hdev⟩ := s.turnStamped.xwSwap_keeps
  exact ⟨(congrArg (·.noted.still.plane.wheel) hside).trans hwheel, (congrArg (·.noted.still.plane.xwin.buf) hside).trans hbuf,
    (congrArg (·.noted.still.plane.contract) hside).trans hcontract, (congrArg (·.noted.still.plane.cycle) hside).trans hcycle,
    (congrArg (·.noted.still.plane.mem) hside).trans hmem, (congrArg (·.queues) hside).trans hqueues,
    (congrArg (·.noted.still.plane.dev) hside).trans hdev,
    fun w => (congrArg (·.noted.still.plane.xwin.sel.testBit w.val) hside).trans (s.turnStamped.xwSwap_sel w)⟩

theorem State.turnSet_halted (s : State) : s.turnSet.on R.WHEEL_DBG_HALTED = false := by
  unfold State.turnSet State.on
  rw [State.clear_eq, State.get_put_self]
  rfl

theorem turnStart_begins {s : State} (hdev : s.dev = .run) (hmatched : s.wheel.matched = true)
    (hcycle : s.cycle = s.wheel.matchAt + 4) :
    ∃ t, exec .turnStart s = .next t ∧ t.wheel.turning = true ∧ t.wheel.idle = false ∧ t.wheel.matched = false ∧
       t.wheel.dbgHalted = false ∧ t.on R.WHEEL_DBG_HALTED = false ∧
       t.wheel.pc = 0 ∧ t.wheel.loops = [] ∧ t.wheel.stamp = s.tsc ∧ t.wheel.start = s.cycle ∧
       (∀ w : Fin 8, t.xwin.sel.testBit w.val = (s.xwin.sel.testBit w.val != s.wheel.swapMask.testBit w.val)) ∧
       t.wheel.slowTodo = below 8 s.slowActive ∧ t.wheel.phase = s.wheel.phase ∧
       t.xwin.buf = s.xwin.buf ∧ t.wheel.g = s.wheel.g ∧ t.mem = s.mem ∧ t.wheel.inflight = s.wheel.inflight ∧
       t.queues = s.queues ∧ t.dev = .run := by
  have hdue : s.startDue = true := by simp [State.startDue, hdev, hmatched, hcycle]
  have hhalted := s.turnSet_halted
  obtain ⟨hwheel, hbuf, hcontract, hnow, hmem, hqueues, hkept, hsel⟩ := s.turnSet_keeps
  have hactive : s.turnSet.slowActive = s.slowActive := by
    funext j
    simp only [State.slowActive, hwheel, hcontract]
    rfl
  refine ⟨s.turnStart, congrArg Host.Outcome.next (if_pos hdue), ?_⟩
  rw [State.turnStart_eq]
  generalize s.turnSet = u at *
  refine ⟨rfl, rfl, ?_, rfl, hhalted, rfl, rfl, ?_, hnow, hsel, ?_, ?_, hbuf, ?_, hmem, ?_, hqueues, hkept.trans hdev⟩
  · simp only [State.turnBegun, hwheel, State.turnStamped]
  · simp only [State.turnBegun, hwheel, State.turnStamped]
  · simp only [State.turnBegun, hactive]
  · simp only [State.turnBegun, hwheel, State.turnStamped]
  · simp only [State.turnBegun, hwheel, State.turnStamped]
  · simp only [State.turnBegun, hwheel, State.turnStamped]

/-- The Wheel idles after TEND. -/
def State.tendIdle (s : State) : State :=
  { s with wheel := { s.wheel with
      turning := false, idle := true, lastTend := s.wheel.pc, jump := none, loops := [], slowTodo := [], inSlow := none } }

/-- A turn's length and its number are all that TEND writes. -/
def State.tendCounted (s : State) : State :=
  ((s.tendIdle.put R.WHEEL_TLEN_CYCLES (s.cycle - s.wheel.start + 1)).put R.WHEEL_TLENMAX_CYCLES
    (max (s.cycle - s.wheel.start + 1) (s.tendIdle.get R.WHEEL_TLENMAX_CYCLES))).bumpWrap R.WHEEL_TURNCNT_COUNT

theorem State.tendCounted_get {s : State} {f : Fld} (hcnt : f.key ≠ R.WHEEL_TURNCNT_COUNT.key)
    (hlen : f.key ≠ R.WHEEL_TLEN_CYCLES.key) (hmax : f.key ≠ R.WHEEL_TLENMAX_CYCLES.key) : s.tendCounted.get f = s.get f := by
  unfold State.tendCounted State.bumpWrap
  rw [State.get_put_ne _ _ _ _ hcnt.symm, State.get_put_ne _ _ _ _ hmax.symm, State.get_put_ne _ _ _ _ hlen.symm]
  rfl

theorem State.tendCounted_keeps (s : State) : s.tendCounted.wheel = s.tendIdle.wheel ∧ s.tendCounted.mem = s.mem ∧
    s.tendCounted.dev = s.dev ∧ s.tendCounted.xwin = s.xwin := by
  simp [State.tendCounted, State.tendIdle]

theorem State.tendCounted_count (s : State) :
    s.tendCounted.get R.WHEEL_TURNCNT_COUNT = (s.get R.WHEEL_TURNCNT_COUNT + 1) % 2 ^ 32 := by
  unfold State.tendCounted State.bumpWrap
  rw [State.get_put_self, State.get_put_ne _ _ _ _ (by decide), State.get_put_ne _ _ _ _ (by decide)]
  rfl

theorem State.tendCounted_length (s : State) :
    s.tendCounted.get R.WHEEL_TLEN_CYCLES = (s.cycle - s.wheel.start + 1) % 2 ^ 32 := by
  unfold State.tendCounted State.bumpWrap
  rw [State.get_put_ne _ _ _ _ (by decide), State.get_put_ne _ _ _ _ (by decide), State.get_put_self]
  rfl

/-- After the counts TEND completes a stop, takes a debug halt, or is done. -/
def State.tendDone (s : State) : State :=
  if s.dev = .run ∧ s.stopping = true ∧ s.allOpen = true then s.runToReady
  else if s.on R.WHEEL_DBG_HALT || s.wheel.stepping then s.debugStop
  else s

theorem exec_tend {s : State} (hturning : s.wheel.turning = true) :
    exec .tend s = .next s.tendCounted.advancePhases.tendDone := by
  show execTend s = _
  unfold execTend
  rw [if_neg (by simp [hturning])]
  extract_lets len w u v counted
  have h : counted = s.tendCounted.advancePhases := rfl
  change Host.Outcome.next counted.tendDone = _
  rw [h]

theorem tend_ends {s : State} (hturning : s.wheel.turning = true) (hstop : (s.stopping && s.allOpen) = false)
    (hhalt : s.on R.WHEEL_DBG_HALT = false) (hstep : s.wheel.stepping = false) :
    ∃ ph, exec .tend s = .next { s.tendCounted with wheel := { s.tendCounted.wheel with phase := ph } } ∧
      ∀ j : Fin 8, ∀ r, s.contract.slow[j.val]? = some r →
        Sparse.get 0 ph j.val = (Sparse.get 0 s.wheel.phase j.val + 1) % max 1 r.n := by
  obtain ⟨ph, heq, hph⟩ := s.tendCounted.advancePhases_eq
  refine ⟨ph, ?_, hph⟩
  have hkeep : ∀ f : Fld, f.key ≠ R.WHEEL_TURNCNT_COUNT.key → f.key ≠ R.WHEEL_TLEN_CYCLES.key →
      f.key ≠ R.WHEEL_TLENMAX_CYCLES.key → s.tendCounted.advancePhases.get f = s.get f := fun f h1 h2 h3 => by
    rw [heq]
    exact State.tendCounted_get h1 h2 h3
  have hstopping : s.tendCounted.advancePhases.stopping = s.stopping := by
    unfold State.stopping State.on
    rw [hkeep _ (by decide) (by decide) (by decide)]
  have hopen : s.tendCounted.advancePhases.allOpen = s.allOpen := by
    have h (l : Nat) : s.tendCounted.advancePhases.get (R.LOOP_LSTAT_STATE l) = s.get (R.LOOP_LSTAT_STATE l) :=
      hkeep _ (by simp only [Fld.key, R.LOOP_LSTAT_STATE, R.WHEEL_TURNCNT_COUNT]; omega)
        (by simp only [Fld.key, R.LOOP_LSTAT_STATE, R.WHEEL_TLEN_CYCLES]; omega)
        (by simp only [Fld.key, R.LOOP_LSTAT_STATE, R.WHEEL_TLENMAX_CYCLES]; omega)
    exact congrArg (fun g : Nat → Nat => (List.range 8).all fun l => decide (g l = 0)) (funext h)
  have hhalt' : s.tendCounted.advancePhases.on R.WHEEL_DBG_HALT = false := by
    rw [← hhalt]
    unfold State.on
    rw [hkeep _ (by decide) (by decide) (by decide)]
  have hstep' : s.tendCounted.advancePhases.wheel.stepping = false := by
    rw [heq]
    exact hstep
  have hrun : ¬(s.tendCounted.advancePhases.dev = .run ∧ s.tendCounted.advancePhases.stopping = true ∧
      s.tendCounted.advancePhases.allOpen = true) := by
    rw [hstopping, hopen]
    rintro ⟨-, h1, h2⟩
    rw [h1, h2] at hstop
    exact nomatch hstop
  rw [exec_tend hturning, State.tendDone, if_neg hrun, if_neg (by simp [hhalt', hstep']), heq]

/-- Settles O16. -/
theorem turnsBeginAndEnd : Obligations.TurnsBeginAndEnd := by
  refine ⟨fun s hdev hmatched hcycle => turnStart_begins hdev hmatched hcycle, fun s hturning hstop hhalt hstep => ?_⟩
  obtain ⟨ph, hexec, hph⟩ := tend_ends hturning hstop hhalt hstep
  have hcount := s.tendCounted_count
  have hlength := s.tendCounted_length
  have hget (f : Fld) := State.tendCounted_get (s := s) (f := f)
  obtain ⟨hwheel, hmem, hdev, hxwin⟩ := s.tendCounted_keeps
  rw [hwheel] at hexec
  generalize s.tendCounted = u at *
  exact ⟨_, hexec, rfl, rfl, rfl, hcount, hlength, hph, hget, rfl, rfl, rfl, hmem, hdev, hxwin⟩

end Sys2Proof.Machine
end

section
/-! PROOFS. A challenge in SAFE_HOLD, where the security block has stopped (R43, R341). -/

namespace Sys2Proof.Machine

open Sys2Proof

/-- In SAFE_HOLD the expiry of a challenge does nothing, however old the challenge is. -/
theorem challengeExpiry_safeHold {s : State} (hdev : s.dev = .safeHold) : exec .challengeExpiry s = .next s :=
  congrArg Host.Outcome.next (if_neg (by simp [hdev]))

/-- SAFE_HOLD, 10 s of TSC time after the issue of a challenge that is still valid. -/
def oldChallenge : State := { State.reset.raise R.SEC_DBGSTAT_CHVALID with dev := .safeHold, tsc := 1000000000 }

theorem oldChallenge_valid : oldChallenge.on R.SEC_DBGSTAT_CHVALID = true := by decide

/-- Refutes O46: in `oldChallenge` the block has stopped, and the expiry leaves CHVALID set, where the statement has it cleared in every state. -/
theorem not_attestationAndAuthorisationComplete : ¬ Obligations.AttestationAndAuthorisationComplete := by
  unfold Obligations.AttestationAndAuthorisationComplete
  intro h
  obtain ⟨-, -, -, -, -, hexpiry, -⟩ := h oldChallenge .cone 0#32 0
  have hclear : oldChallenge = oldChallenge.clear R.SEC_DBGSTAT_CHVALID := by
    rw [challengeExpiry_safeHold rfl, if_pos ⟨oldChallenge_valid, by decide⟩] at hexpiry
    exact Host.Outcome.next.inj hexpiry
  have hoff : oldChallenge.on R.SEC_DBGSTAT_CHVALID = false := by
    rw [hclear, State.on, State.clear_eq, State.get_put_self]
    rfl
  exact Bool.false_ne_true (hoff.symm.trans oldChallenge_valid)

end Sys2Proof.Machine
end

section
/-! PROOFS. What bringing the Saggar to its inputs can move (R253–R263): registers of PWM, Saggar and Cone, the blocks of the same names, the islands, the loops' forced causes, and the wake sources that have fired. -/

namespace Sys2Proof.Machine

open Sys2Proof

/-- An operation done for each index of a list keeps what it keeps for the indices of the list. -/
theorem State.each_keeps_mem {β : Type} (π : State → β) (f : State → Nat → State) (l : List Nat)
    (h : ∀ i ∈ l, ∀ s, π (f s i) = π s) (s : State) : π (s.each l f) = π s := by
  induction l generalizing s with
  | nil => rfl
  | cons a t ih => exact (ih (fun i hi => h i (List.mem_cons_of_mem _ hi)) (f s a)).trans (h a List.mem_cons_self s)

theorem State.nInv_le (s : State) : s.nInv ≤ 2 := by
  unfold State.nInv
  split <;> decide

/-! ## The blocks that stand -/

/-- The state without what the protection moves. -/
def State.rest (s : State) : State :=
  { s with regs := [], sag := {}, isl := [], pwm := {}, loops := [], cone := {}, pwr := { s.pwr with fired := 0 } }

theorem rest_update :
    (∀ (s : State) (x : Sag), State.rest { s with sag := x } = s.rest) ∧
    (∀ (s : State) (x : Sparse Isl), State.rest { s with isl := x } = s.rest) ∧
    (∀ (s : State) (x : Pwm), State.rest { s with pwm := x } = s.rest) ∧
    (∀ (s : State) (x : Sparse LoopSt), State.rest { s with loops := x } = s.rest) ∧
    (∀ (s : State) (x : Cone), State.rest { s with cone := x } = s.rest) ∧
    (∀ (s : State) (n : Nat), State.rest { s with pwr := { s.pwr with fired := n } } = s.rest) ∧
    (∀ (s : State) (f : Fld) (v : Nat), (s.put f v).rest = s.rest) ∧
    (∀ (s : State) (f : Fld), (s.clear f).rest = s.rest) ∧
    (∀ (c : Prop) [Decidable c] (s t : State), (if c then s else t).rest = if c then s.rest else t.rest) ∧
    (∀ (s : State) (l : List Nat) (f : State → Nat → State), (∀ t i, (f t i).rest = t.rest) → (s.each l f).rest = s.rest) :=
  ⟨fun _ _ => rfl, fun _ _ => rfl, fun _ _ => rfl, fun _ _ => rfl, fun _ _ => rfl, fun _ _ => rfl, fun _ _ _ => rfl,
    fun _ _ => rfl, fun _ _ _ _ => apply_ite .., fun s l f h => State.each_keeps State.rest f h l s⟩

theorem State.judgeAll_rest (s : State) : s.judgeAll.rest = s.rest := by
  simp only [State.judgeAll, State.judge, State.setCond, rest_update, implies_true]

theorem State.pwmTrip_rest (s : State) (v : Nat) : (s.pwmTrip v).rest = s.rest := by
  have hleg (t : State) (n : Nat) (g : Gen) : (t.setGen n g).rest = t.rest := by simp only [State.setGen, rest_update]
  refine State.each_keeps State.rest _ (fun t n => ?_) _ s
  dsimp only
  split <;> simp only [rest_update, hleg]

theorem State.fire_rest (s : State) (i : Nat) : (s.fire i).rest = s.rest := by
  simp only [State.fire, rest_update, ite_self]

theorem State.forceLoops_rest (s : State) (v : Nat) : (s.forceLoops v).rest = s.rest := by
  simp only [State.forceLoops, State.setLoop, rest_update, implies_true]

theorem State.captureFirst_rest (s : State) (v : Nat) : (s.captureFirst v).rest = s.rest := by
  unfold State.captureFirst
  dsimp only
  (repeat' split) <;> simp only [rest_update]

theorem State.latchBits_rest (s : State) (v bits : Nat) : (s.latchBits v bits).rest = s.rest := by
  simp only [State.latchBits, State.captureFirst_rest, State.forceLoops_rest, State.fire_rest, State.pwmTrip_rest, rest_update, ite_self]

theorem State.dischStart_rest (s : State) : s.dischStart.rest = s.rest := by
  unfold State.dischStart
  (repeat' split) <;> simp only [rest_update]

theorem State.modIsl_rest (s : State) (i : Nat) (f : Isl → Isl) : (s.modIsl i f).rest = s.rest := by
  simp only [State.modIsl, State.putIsl, State.setIsland, rest_update]

theorem State.sendSymbol_rest (s : State) (i : Nat) : (s.sendSymbol i).rest = s.rest := by
  simp only [State.sendSymbol, rest_update, State.modIsl_rest, ite_self]

/-- Bringing the Saggar to its inputs leaves every other block. -/
theorem State.sync_rest (s : State) : s.sync.rest = s.rest := by
  simp only [State.sync, State.sagSync, State.latchInputs, State.holdClear, rest_update, State.sendSymbol_rest, State.dischStart_rest,
    State.latchBits_rest, State.judgeAll_rest, implies_true, ite_self]

theorem State.sync_wedge (s : State) : s.sync.wedge = s.wedge := by
  have h := congrArg State.wedge s.sync_rest
  exact h

theorem State.sync_pins (s : State) : s.sync.pins = s.pins := by
  have h := congrArg State.pins s.sync_rest
  exact h

theorem State.sync_pwr (s : State) : s.sync.pwr.agreed = s.pwr.agreed := by
  have h := congrArg (fun t : State => t.pwr.agreed) s.sync_rest
  exact h

/-! ## The registers that stand -/

theorem get_update (f : Fld) :
    (∀ (s : State) (x : Sag), State.get { s with sag := x } f = s.get f) ∧
    (∀ (s : State) (x : Sparse Isl), State.get { s with isl := x } f = s.get f) ∧
    (∀ (s : State) (x : Pwm), State.get { s with pwm := x } f = s.get f) ∧
    (∀ (s : State) (x : Sparse LoopSt), State.get { s with loops := x } f = s.get f) ∧
    (∀ (s : State) (x : Cone), State.get { s with cone := x } f = s.get f) ∧
    (∀ (s : State) (x : Pwr), State.get { s with pwr := x } f = s.get f) ∧
    (∀ (c : Prop) [Decidable c] (s t : State), (if c then s else t).get f = if c then s.get f else t.get f) ∧
    (∀ (s : State) (l : List Nat) (g : State → Nat → State), (∀ t i, (g t i).get f = t.get f) → (s.each l g).get f = s.get f) :=
  ⟨fun _ _ => rfl, fun _ _ => rfl, fun _ _ => rfl, fun _ _ => rfl, fun _ _ => rfl, fun _ _ => rfl,
    fun _ _ s t => apply_ite (fun u : State => u.get f) _ s t, fun s l g h => State.each_keeps (·.get f) g h l s⟩

theorem State.get_clear_ne (s : State) (f g : Fld) (h : f.key ≠ g.key) : (s.clear f).get g = s.get g := State.get_put_ne s f g 0 h

/-- A key outside the windows of PWM, ISL and the Saggar with the Cone. -/
def far (k : Nat) : Prop := k < 0x40300000 * 32 ∨ 0x40420000 * 32 ≤ k

theorem State.judgeAll_get (s : State) (f : Fld) : s.judgeAll.get f = s.get f := by
  simp only [State.judgeAll, State.judge, State.setCond, get_update, implies_true]

theorem State.fire_get (s : State) (i : Nat) (f : Fld) : (s.fire i).get f = s.get f := by
  simp only [State.fire, get_update, ite_self]

theorem State.forceLoops_get (s : State) (v : Nat) (f : Fld) : (s.forceLoops v).get f = s.get f := by
  simp only [State.forceLoops, State.setLoop, get_update, implies_true]

theorem State.sendSymbol_get (s : State) (i : Nat) (f : Fld) : (s.sendSymbol i).get f = s.get f := by
  simp only [State.sendSymbol, State.modIsl, State.putIsl, State.setIsland, get_update, ite_self]

theorem State.dischStart_get (s : State) {f : Fld} (hf : R.CONE_DISCH_DONE.key ≠ f.key) : s.dischStart.get f = s.get f := by
  unfold State.dischStart
  split
  · split
    · exact State.get_clear_ne _ _ _ hf
    · rfl
  · rfl

/-- A leg's dead-time registers lie in the window of PWM. -/
theorem State.pwmTrip_get (s : State) {v : Nat} (hv : v < 2) {f : Fld} (hf : f.key < 0x40300000 * 32 ∨ 0x40310000 * 32 ≤ f.key) :
    (s.pwmTrip v).get f = s.get f := by
  refine State.each_keeps_mem (·.get f) _ _ (fun n hn t => ?_) s
  have hleg : n < 6 := by
    simp only [List.mem_cons, List.not_mem_nil, or_false] at hn
    omega
  have hput (u : State) (g : Fld) (x : Nat) (hg : 0x40300000 * 32 ≤ g.key ∧ g.key < 0x40310000 * 32) : (u.put g x).get f = u.get f :=
    State.get_put_ne _ _ _ _ (by omega)
  have hr : 0x40300000 * 32 ≤ (R.PWM_DTACT_DTR n).key ∧ (R.PWM_DTACT_DTR n).key < 0x40310000 * 32 := by
    simp only [Fld.key, R.PWM_DTACT_DTR]
    omega
  have hf' : 0x40300000 * 32 ≤ (R.PWM_DTACT_DTF n).key ∧ (R.PWM_DTACT_DTF n).key < 0x40310000 * 32 := by
    simp only [Fld.key, R.PWM_DTACT_DTF]
    omega
  have hvr : 0x40300000 * 32 ≤ (R.PWM_GSTAT_VALIDR n).key ∧ (R.PWM_GSTAT_VALIDR n).key < 0x40310000 * 32 := by
    simp only [Fld.key, R.PWM_GSTAT_VALIDR]
    omega
  have hvf : 0x40300000 * 32 ≤ (R.PWM_GSTAT_VALIDF n).key ∧ (R.PWM_GSTAT_VALIDF n).key < 0x40310000 * 32 := by
    simp only [Fld.key, R.PWM_GSTAT_VALIDF]
    omega
  dsimp only
  split <;> simp only [State.clear_eq, hput, hr, hf', hvr, hvf, State.setGen, get_update, and_self]

theorem State.captureFirst_get (s : State) {v : Nat} {f : Fld} (hfirst : (R.SAGGAR_FIRST_INPUTS v).key ≠ f.key)
    (htrip : (R.SAGGAR_TRIPTS_TSC v).key ≠ f.key) : (s.captureFirst v).get f = s.get f := by
  unfold State.captureFirst
  dsimp only
  (repeat' split) <;> simp only [State.get_put_ne _ _ _ _ hfirst, State.get_put_ne _ _ _ _ htrip, get_update]

/-- Setting latches moves the latch, FIRST and TRIPTS of its inverter, and the dead-time registers. -/
theorem State.latchBits_get (s : State) {v : Nat} (hv : v < 2) (bits : Nat) {f : Fld}
    (hf : f.key < 0x40300000 * 32 ∨ 0x40310000 * 32 ≤ f.key) (hlatch : (R.SAGGAR_LATCH_INPUTS v).key ≠ f.key)
    (hfirst : (R.SAGGAR_FIRST_INPUTS v).key ≠ f.key) (htrip : (R.SAGGAR_TRIPTS_TSC v).key ≠ f.key) :
    (s.latchBits v bits).get f = s.get f := by
  simp only [State.latchBits, State.captureFirst_get _ hfirst htrip, State.forceLoops_get, State.fire_get, State.pwmTrip_get _ hv hf,
    State.get_put_ne _ _ _ _ hlatch, get_update, ite_self]

/-- Every synchronisation either takes in the active inputs or holds the latches clear. -/
theorem State.sagSync_get (s : State) {f : Fld} (hf : f.key < 0x40300000 * 32 ∨ 0x40310000 * 32 ≤ f.key)
    (hlatch : ∀ v < 2, (R.SAGGAR_LATCH_INPUTS v).key ≠ f.key) (hfirst : ∀ v < 2, (R.SAGGAR_FIRST_INPUTS v).key ≠ f.key)
    (htrip : ∀ v < 2, (R.SAGGAR_TRIPTS_TSC v).key ≠ f.key) (hdone : R.CONE_DISCH_DONE.key ≠ f.key) : s.sagSync.get f = s.get f := by
  unfold State.sagSync
  dsimp only
  split
  · rw [State.dischStart_get _ hdone]
    refine (State.each_keeps_mem (·.get f) _ _ (fun v hv t => ?_) _).trans (s.judgeAll_get f)
    have hlt : v < 2 := Nat.lt_of_lt_of_le (List.mem_range.mp hv) (State.nInv_le _)
    exact t.latchBits_get hlt _ hf (hlatch v hlt) (hfirst v hlt) (htrip v hlt)
  · rw [State.dischStart_get _ hdone]
    simp only [State.holdClear, get_update, State.get_clear_ne _ _ _ (hlatch 0 (by decide)), State.get_clear_ne _ _ _ (hlatch 1 (by decide)),
      State.judgeAll_get]

/-- A far field reads after the synchronisation what it read before. -/
theorem State.sync_get (s : State) {f : Fld} (hf : far f.key) : s.sync.get f = s.get f := by
  unfold far at hf
  refine (State.each_keeps (·.get f) _ (fun t i => t.sendSymbol_get i f) _ _).trans (s.sagSync_get (by omega) ?_ ?_ ?_ ?_)
  · intro v hv
    simp only [Fld.key, R.SAGGAR_LATCH_INPUTS] at hf ⊢
    omega
  · intro v hv
    simp only [Fld.key, R.SAGGAR_FIRST_INPUTS] at hf ⊢
    omega
  · intro v hv
    simp only [Fld.key, R.SAGGAR_TRIPTS_TSC] at hf ⊢
    omega
  · simp only [Fld.key, R.CONE_DISCH_DONE] at hf ⊢
    omega

/-! ## A change of the device state -/

/-- A change of state moves the registers and the state alone. -/
theorem State.setDev_eq (s : State) (d : DevState) : ∃ m, s.setDev d = { s with regs := m, dev := d } := by
  unfold State.setDev
  dsimp only
  split
  · exact ⟨_, rfl⟩
  · exact ⟨_, rfl⟩

theorem State.setDev_kept (s : State) (d : DevState) : (s.setDev d).wheel = s.wheel ∧ (s.setDev d).mem = s.mem ∧
    (s.setDev d).otp = s.otp ∧ (s.setDev d).pwr = s.pwr ∧ (s.setDev d).cycle = s.cycle := by
  obtain ⟨m, h⟩ := s.setDev_eq d
  rw [h]
  exact ⟨rfl, rfl, rfl, rfl, rfl⟩

theorem State.setDev_dev (s : State) (d : DevState) : (s.setDev d).dev = d := by
  obtain ⟨m, h⟩ := s.setDev_eq d
  rw [h]

/-- Of the registers it moves STATE.PREV and the interrupt of a change of state. -/
theorem State.setDev_get (s : State) (d : DevState) {f : Fld} (hprev : R.SYS_STATE_PREV.key ≠ f.key)
    (hirq : R.HSPI_IRQ_STATE.key ≠ f.key) : (s.setDev d).get f = s.get f := by
  unfold State.setDev
  dsimp only
  split
  · exact State.get_put_ne s _ _ _ hprev
  · exact (State.get_put_ne _ _ _ 1 hirq).trans (State.get_put_ne s _ _ _ hprev)

end Sys2Proof.Machine
end

section
/-! PROOFS. Interface sleep, the BANKED handshake and wake (R38, R430–R443). -/

namespace Sys2Proof.Machine

open Sys2Proof

/-! ## Numbers made of bits -/

theorem bitsOf_succ (n : Nat) (p : Nat → Bool) : bitsOf (n + 1) p = bitsOf n p + if p n then 2 ^ n else 0 := by
  have hinit (l : List Nat) (a : Nat) : l.foldr (fun i acc => acc + if p i then 2 ^ i else 0) a =
      l.foldr (fun i acc => acc + if p i then 2 ^ i else 0) 0 + a := by
    induction l with
    | nil => simp
    | cons i l ih => simp only [List.foldr_cons, ih]; omega
  unfold bitsOf
  rw [List.range_succ, List.foldr_append, hinit]
  simp

theorem bitsOf_lt (n : Nat) (p : Nat → Bool) : bitsOf n p < 2 ^ n := by
  induction n with
  | zero => exact Nat.one_pos
  | succ n ih =>
    rw [bitsOf_succ, Nat.pow_succ]
    split <;> omega

theorem testBit_bitsOf (n : Nat) (p : Nat → Bool) (i : Nat) : (bitsOf n p).testBit i = (decide (i < n) && p i) := by
  induction n with
  | zero => simp [bitsOf]
  | succ n ih =>
    have hword : bitsOf (n + 1) p = 2 ^ n * (if p n then 1 else 0) + bitsOf n p := by
      rw [bitsOf_succ, Nat.add_comm]
      split <;> simp
    rw [hword, Nat.testBit_two_pow_mul_add _ (bitsOf_lt n p)]
    by_cases hi : i < n
    · rw [if_pos hi, ih]
      simp [hi, Nat.lt_succ_of_lt hi]
    · rw [if_neg hi]
      by_cases he : i = n
      · subst he
        cases hp : p i <;> simp
      · have hz : (if p n then 1 else 0 : Nat).testBit (i - n) = false := by
          have hone : 1 < 2 ^ (i - n) := Nat.one_lt_two_pow (by omega)
          exact Nat.testBit_lt_two_pow (by split <;> omega)
        rw [hz]
        simp [show ¬i < n + 1 by omega]

/-- The lowest set bit of a number below 2 ^ n is set. -/
theorem below_head {n k : Nat} {p : Nat → Bool} (h : (below n p).head? = some k) : k < n ∧ p k = true := by
  have hmem := List.mem_of_mem_head? h
  simpa [below] using hmem

/-! ## The end of an entry (R437, R438) -/

theorem State.busUp_of_mayWrite {s : State} {req : Requester} (h : s.mayWrite req = true) : s.busUp = true := by
  simp only [State.mayWrite, State.mayBus, Bool.and_eq_true] at h
  exact h.1.1.1

theorem State.overtaken_of_mayWrite {s : State} {req : Requester} (h : s.mayWrite req = true) : s.overtaken req = false :=
  State.not_overtaken_of_mayWrite (State.busUp_of_mayWrite h) h

/-- The three fields of BSTAT that the end of an entry writes. -/
theorem bstat_written (s : State) (n : Nat) :
    (((s.clear R.PWR_BSTAT_STEP).clear R.PWR_BSTAT_BUSY).put R.PWR_BSTAT_RESULT n).sync.get R.PWR_BSTAT_STEP = 0 ∧
    (((s.clear R.PWR_BSTAT_STEP).clear R.PWR_BSTAT_BUSY).put R.PWR_BSTAT_RESULT n).sync.on R.PWR_BSTAT_BUSY = false ∧
    (((s.clear R.PWR_BSTAT_STEP).clear R.PWR_BSTAT_BUSY).put R.PWR_BSTAT_RESULT n).sync.get R.PWR_BSTAT_RESULT = n % 16 := by
  refine ⟨?_, ?_, ?_⟩
  · rw [State.sync_get _ (by unfold far; decide), State.get_put_ne _ _ _ _ (by decide), State.clear_eq _ R.PWR_BSTAT_BUSY,
      State.get_put_ne _ _ _ _ (by decide), State.clear_eq, State.get_put_self]
    rfl
  · rw [State.on, State.sync_get _ (by unfold far; decide), State.get_put_ne _ _ _ _ (by decide), State.clear_eq _ R.PWR_BSTAT_BUSY,
      State.get_put_self]
    rfl
  · rw [State.sync_get _ (by unfold far; decide), State.get_put_self]
    rfl

/-- A BANKED entry has ended in `t` with a result, the Wheel, the memories and the device state as in `s`. -/
def EntryEnded (s t : State) (result : Nat) : Prop :=
  t.get R.PWR_BSTAT_STEP = 0 ∧ t.on R.PWR_BSTAT_BUSY = false ∧ t.get R.PWR_BSTAT_RESULT = result ∧ t.pwr.agreed = [] ∧ t.plane = s.plane

theorem State.endEntry_ended (s : State) {n : Nat} (hn : n < 16) : EntryEnded s (s.endEntry n) n := by
  unfold State.endEntry
  extract_lets u p w
  have hu : u.plane = s.plane := (State.restartAll_frame _).trans (plane_of_noted (s.restartBlk_frame _))
  have hw : w.plane = s.plane ∧ w.pwr.agreed = [] := ⟨hu, rfl⟩
  obtain ⟨hplane, hagreed⟩ := hw
  obtain ⟨hstep, hbusy, hresult⟩ := bstat_written w n
  refine ⟨hstep, hbusy, hresult.trans (Nat.mod_eq_of_lt hn), ?_, ?_⟩
  · exact (State.sync_pwr _).trans hagreed
  · refine (plane_of_side (State.sync_frame _)).trans ?_
    simp only [plane_put]
    exact hplane

/-- The reason of a refusal stands while the entry ends. -/
theorem State.endEntry_reason (s : State) (n : Nat) : (s.endEntry n).get R.PWR_REFUSER_REASON = s.get R.PWR_REFUSER_REASON := by
  have hblk (t : State) (b : Nat) : (t.restartBlk b).get R.PWR_REFUSER_REASON = t.get R.PWR_REFUSER_REASON :=
    congrArg Noted.reason (t.restartBlk_frame b)
  have hall (t : State) : t.restartAll.get R.PWR_REFUSER_REASON = t.get R.PWR_REFUSER_REASON :=
    foldl_keeps (fun t : State => t.get R.PWR_REFUSER_REASON) _ hblk t.pwr.agreed t
  unfold State.endEntry
  extract_lets u p w
  have hw : w.get R.PWR_REFUSER_REASON = s.get R.PWR_REFUSER_REASON := (hall _).trans (hblk s _)
  rw [State.sync_get _ (by unfold far; decide), State.get_put_ne _ _ _ _ (by decide), State.get_clear_ne _ _ _ (by decide),
    State.get_clear_ne _ _ _ (by decide), hw]

/-! ## Interface sleep (R430) -/

theorem State.isleepBits_plane (s : State) (v : Nat) (l : List Nat) :
    (s.each l fun s i => s.isleepBit i (v.testBit i)).plane = s.plane :=
  plane_of_noted (State.each_keeps (·.side.noted) _ (fun t i => t.isleepBit_frame i _) _ _)

theorem State.ifPresent_of_plane {s t : State} (h : t.plane = s.plane) (i : Nat) : t.ifPresent i = s.ifPresent i := by
  have hv : t.variant = s.variant := congrArg Plane.variant h
  unfold State.ifPresent State.nCan State.nInv State.hasEth State.hasShard
  rw [hv]

theorem isleepRequest_taken {s : State} {req : Requester} {mask : BitVec 6} (hw : s.mayWrite req = true)
    (hdev : s.dev = .ready ∨ s.dev = .run) :
    ∃ t, exec (.isleepRequest req mask) s = .next t ∧ t.plane = s.plane ∧
      ∀ i : Fin 6, t.bit R.PWR_ISLEEP_REQ i.val = (s.ifPresent i.val && mask.getLsbD i.val) := by
  have hexec : exec (.isleepRequest req mask) s = .next (s.isleepWrite mask.toNat) := congrArg Host.Outcome.next (if_pos hw)
  have hopen : ¬(s.dev ≠ .ready ∧ s.dev ≠ .run) := by
    rintro ⟨h1, h2⟩
    exact hdev.elim h1 h2
  refine ⟨_, hexec, plane_of_noted (s.isleepWrite_frame _), fun i => ?_⟩
  have hplane := s.isleepBits_plane mask.toNat (below 6 s.ifPresent)
  unfold State.isleepWrite
  rw [if_neg hopen]
  dsimp only
  generalize (s.each (below 6 s.ifPresent) fun s i => s.isleepBit i (mask.toNat.testBit i)) = u at *
  have hmask : (u.put R.PWR_ISLEEP_REQ (bitsOf 6 fun i => u.ifPresent i && mask.toNat.testBit i)).get R.PWR_ISLEEP_REQ =
      bitsOf 6 fun i => u.ifPresent i && mask.toNat.testBit i :=
    (State.get_put_self ..).trans (Nat.mod_eq_of_lt (bitsOf_lt 6 _))
  rw [State.bit, hmask, testBit_bitsOf, State.ifPresent_of_plane hplane, decide_eq_true i.isLt, Bool.true_and]
  rfl

theorem isleepRequest_refused {s : State} {req : Requester} {mask : BitVec 6} (hw : s.mayWrite req = true)
    (hready : s.dev ≠ .ready) (hrun : s.dev ≠ .run) :
    exec (.isleepRequest req mask) s = .next (s.raise R.PWR_BSTAT_CFGREJ) :=
  congrArg Host.Outcome.next ((if_pos hw).trans (if_pos ⟨hready, hrun⟩))

/-! ## ENTER and EXIT (R433, R438) -/

theorem exec_pwrEnter {s : State} {req : Requester} (hw : s.mayWrite req = true) (hreq : req ≠ .debug) :
    exec (.pwrEnter req) s = .next s.pwrEnter :=
  congrArg Host.Outcome.next ((if_neg (by rw [State.overtaken_of_mayWrite hw]; decide)).trans (if_pos (by simp [hw, hreq])))

/-- Taking a cause discards requests; it leaves the plane. -/
theorem State.takeCause_plane (s : State) (p : Nat) : (s.takeCause p).plane = s.plane := by
  unfold State.takeCause
  simp only [side_update]
  split
  · simp only [side_ite, plane_put, State.dropEntry_frame, State.dropRun_frame]
  · rfl

/-- An ENTER that is taken, before it asks the first block. -/
def State.entered (s : State) : State :=
  let t := { s.takeCause 4 with pwr := { s.pwr with
    agreed := [], asleep := bitsOf 6 fun i => s.ifAsleep i || s.ifGoing i || s.bit R.PWR_ISLEEP_REQ i } }
  t.bistLost.relock.raise R.PWR_BSTAT_BUSY

theorem State.entered_keeps (s : State) : s.entered.plane = s.plane ∧ s.entered.on R.PWR_BSTAT_BUSY = true ∧
    s.entered.on R.SAFECFG_STAT_UNLOCKED = false := by
  unfold State.entered
  extract_lets c p t
  have ht : t.plane = s.plane := s.takeCause_plane 4
  refine ⟨?_, ?_, ?_⟩
  · refine (plane_of_side ?_).trans ht
    simp only [side_put, pwr_unseen, State.relock_frame, State.bistLost_frame]
  · rw [State.on, State.raise_eq, State.get_put_self]
    rfl
  · rw [State.on, State.raise_eq, State.get_put_ne _ _ _ _ (by decide), State.relock, State.clear_eq, State.get_put_self]
    rfl

theorem State.nextBlk_of_variant {s t : State} (h : t.variant = s.variant) (b : Nat) : t.nextBlk b = s.nextBlk b := by
  unfold State.nextBlk State.blkPresent State.nCan State.nInv State.hasEth State.hasShard
  rw [h]

theorem State.nextBlk_lt {s : State} {b n : Nat} (h : s.nextBlk b = some n) : n < 16 := by
  have hmem := List.mem_of_mem_head? h
  simp only [List.mem_filter, List.mem_range] at hmem
  exact hmem.1

theorem State.pwrEnter_eq {s : State} (hc : s.enterRefusal = 0) : s.pwrEnter = s.entered.ask ((s.nextBlk 1).getD 6) := by
  have hv : (s.takeCause 4).variant = s.variant := congrArg Plane.variant (s.takeCause_plane 4)
  have hblk (p : Pwr) : State.nextBlk { s.takeCause 4 with pwr := p } 1 = s.nextBlk 1 := State.nextBlk_of_variant hv 1
  unfold State.pwrEnter
  rw [if_neg (by simp [hc])]
  dsimp only
  rw [hblk]
  rfl

/-- The block asked shows in STEP, and the asking leaves every other field. -/
theorem State.ask_keeps (s : State) {n : Nat} (hn : n < 16) : (s.ask n).get R.PWR_BSTAT_STEP = n ∧ (s.ask n).plane = s.plane ∧
    (s.ask n).pwr.agreed = s.pwr.agreed ∧ (s.ask n).pwr.askAt = s.cycle ∧
    ∀ f : Fld, R.PWR_BSTAT_STEP.key ≠ f.key → (s.ask n).get f = s.get f :=
  ⟨(State.get_put_self ..).trans (Nat.mod_eq_of_lt hn), rfl, rfl, rfl, fun _ hf => State.get_put_ne _ _ _ _ hf⟩

theorem State.dev_ready_of_enterRefusal {s : State} (hc : s.enterRefusal = 0) : s.dev = .ready := by
  by_contra hdev
  unfold State.enterRefusal at hc
  rw [if_pos hdev] at hc
  split at hc <;> exact nomatch hc

theorem pwrEnter_taken {s : State} {req : Requester} (hw : s.mayWrite req = true) (hreq : req ≠ .debug) (hc : s.enterRefusal = 0) :
    ∃ t, exec (.pwrEnter req) s = .next t ∧ t.on R.PWR_BSTAT_BUSY = true ∧ t.get R.PWR_BSTAT_STEP = (s.nextBlk 1).getD 6 ∧
      t.on R.SAFECFG_STAT_UNLOCKED = false ∧ t.pwr.askAt = s.cycle ∧ t.plane = s.plane := by
  have hn : (s.nextBlk 1).getD 6 < 16 := by
    cases h : s.nextBlk 1 with
    | none => decide
    | some n => exact State.nextBlk_lt h
  obtain ⟨hplane, hbusy, hlocked⟩ := s.entered_keeps
  obtain ⟨hstep, hkept, -, hask, hget⟩ := s.entered.ask_keeps hn
  refine ⟨_, (exec_pwrEnter hw hreq).trans (congrArg _ (State.pwrEnter_eq hc)), ?_, hstep, ?_,
    hask.trans (congrArg Plane.cycle hplane), hkept.trans hplane⟩
  · rw [State.on, hget _ (by decide)]
    exact hbusy
  · rw [State.on, hget _ (by decide)]
    exact hlocked

theorem pwrExit_ends {s : State} {req : Requester} (hw : s.mayWrite req = true) (he : s.entering = true) :
    ∃ t, exec (.pwrExit req) s = .next t ∧ EntryEnded s t 4 ∧ t.get R.PWR_WAKESRC_FIRST = 0xA := by
  have hexec : exec (.pwrExit req) s = .next ((s.endEntry 4).put R.PWR_WAKESRC_FIRST 0xA) :=
    congrArg Host.Outcome.next ((if_pos hw).trans (if_pos he))
  refine ⟨_, hexec, ?_, State.get_put_self ..⟩
  obtain ⟨hstep, hbusy, hresult, hagreed, hplane⟩ := s.endEntry_ended (n := 4) (by decide)
  clear hexec
  generalize s.endEntry 4 = u at *
  exact ⟨(State.get_put_ne _ _ _ _ (by decide)).trans hstep, (State.on_put_ne _ _ _ _ (by decide)).trans hbusy,
    (State.get_put_ne _ _ _ _ (by decide)).trans hresult, hagreed, (plane_put.1 u _ _).trans hplane⟩

/-! ## The handshake (R435–R437) -/

/-- A block that agrees joins the stopped ones; nothing else the statement shows moves. -/
theorem State.stopBlk_keeps (s : State) (b : Nat) : (s.stopBlk b).plane = s.plane ∧ (s.stopBlk b).pwr.agreed = b :: s.pwr.agreed := by
  refine ⟨s.stopBlk_frame b, ?_⟩
  have hone (t : State) (x : Nat) : ((t.soAbort x).soFollow x).pwr.agreed = t.pwr.agreed := by
    have h : ((t.soAbort x).soFollow x).side.noted.still = t.side.noted.still := by
      simp only [State.soFollow_frame, State.soAbort_frame]
    exact congrArg Still.agreed h
  unfold State.stopBlk
  extract_lets p u
  split
  · refine State.each_keeps (fun t : State => t.pwr.agreed) _ (fun t x => ?_) _ u
    split
    · exact hone t x
    · rfl
  · rfl

theorem exec_pwrAgree {s : State} (hdev : s.dev = .ready) (he : s.entering = true) (hp : s.pwr.prep = false)
    (hf : s.pwr.fired = 0) (hr : s.blkReady (s.get R.PWR_BSTAT_STEP) = true) : exec .pwrAgree s = .next s.agree :=
  congrArg Host.Outcome.next (if_pos ⟨hdev, he, hp, hf, hr⟩)

theorem State.agree_asks {s : State} {n : Nat} (hn : s.nextBlk (s.get R.PWR_BSTAT_STEP + 1) = some n) :
    s.agree.get R.PWR_BSTAT_STEP = n ∧ s.agree.plane = s.plane ∧
      s.agree.pwr.agreed = s.get R.PWR_BSTAT_STEP :: s.pwr.agreed := by
  obtain ⟨hplane, hagreed⟩ := s.stopBlk_keeps (s.get R.PWR_BSTAT_STEP)
  have hblk := State.nextBlk_of_variant (congrArg Plane.variant hplane) (s.get R.PWR_BSTAT_STEP + 1)
  obtain ⟨hstep, hkept, hsame, -, -⟩ := (s.stopBlk (s.get R.PWR_BSTAT_STEP)).ask_keeps (State.nextBlk_lt hn)
  have heq : s.agree = ((s.stopBlk (s.get R.PWR_BSTAT_STEP)).ask n).sync := by
    unfold State.agree
    dsimp only
    rw [hblk, hn]
  rw [heq]
  refine ⟨(State.sync_get _ (by unfold far; decide)).trans hstep, ?_, ?_⟩
  · exact (plane_of_side (State.sync_frame _)).trans (hkept.trans hplane)
  · exact (State.sync_pwr _).trans (hsame.trans hagreed)

/-- The fields that the entry into BANKED writes, with the safety configuration locked. -/
def State.entryAgreed (s : State) : State := (((s.clear R.PWR_BSTAT_STEP).clear R.PWR_BSTAT_BUSY).put R.PWR_BSTAT_RESULT 1).relock

theorem State.entryAgreed_get (s : State) : s.entryAgreed.get R.PWR_BSTAT_STEP = 0 ∧ s.entryAgreed.get R.PWR_BSTAT_RESULT = 1 ∧
    s.entryAgreed.get R.SAFECFG_STAT_UNLOCKED = 0 := by
  unfold State.entryAgreed State.relock
  refine ⟨?_, ?_, ?_⟩ <;>
    simp (disch := decide) only [State.clear_eq, State.get_put_ne, State.get_put_self] <;> rfl

theorem State.entryAgreed_keeps (s : State) :
    s.entryAgreed.wheel = s.wheel ∧ s.entryAgreed.mem = s.mem ∧ s.entryAgreed.otp = s.otp := by
  simp [State.entryAgreed, State.relock]

theorem State.enterBanked_eq (s : State) :
    s.enterBanked = (State.setDev { s.entryAgreed with pwr := { s.pwr with since := s.cycle } } .banked).sync := rfl

/-- The last agreement enters BANKED. -/
theorem State.enterBanked_enters (s : State) : s.enterBanked.dev = .banked ∧ s.enterBanked.get R.PWR_BSTAT_STEP = 0 ∧
    s.enterBanked.get R.PWR_BSTAT_RESULT = 1 ∧ s.enterBanked.on R.SAFECFG_STAT_UNLOCKED = false ∧
    s.enterBanked.wheel = s.wheel ∧ s.enterBanked.mem = s.mem ∧ s.enterBanked.otp = s.otp := by
  obtain ⟨hstep, hresult, hlocked⟩ := s.entryAgreed_get
  obtain ⟨hwheel, hmem, hotp⟩ := s.entryAgreed_keeps
  rw [State.enterBanked_eq]
  generalize s.entryAgreed = a at *
  generalize ({ s.pwr with since := s.cycle } : Pwr) = p
  have hget (f : Fld) (hfar : far f.key) (hprev : R.SYS_STATE_PREV.key ≠ f.key) (hirq : R.HSPI_IRQ_STATE.key ≠ f.key) :
      (State.setDev { a with pwr := p } .banked).sync.get f = a.get f := by
    rw [State.sync_get _ hfar, State.setDev_get _ _ hprev hirq]
    rfl
  obtain ⟨hw, hm, ho, -, -⟩ := State.setDev_kept { a with pwr := p } .banked
  have hd := State.setDev_dev { a with pwr := p } .banked
  generalize State.setDev { a with pwr := p } .banked = b at *
  obtain ⟨hw', hm', ho', hd'⟩ := kept_of_plane (plane_of_side b.sync_frame)
  refine ⟨hd'.trans hd, (hget _ (by unfold far; decide) (by decide) (by decide)).trans hstep,
    (hget _ (by unfold far; decide) (by decide) (by decide)).trans hresult, ?_, hw'.trans (hw.trans hwheel),
    hm'.trans (hm.trans hmem), ho'.trans (ho.trans hotp)⟩
  rw [State.on, hget _ (by unfold far; decide) (by decide) (by decide), hlocked]
  rfl

theorem State.agree_banks {s : State} (hn : s.nextBlk (s.get R.PWR_BSTAT_STEP + 1) = none) :
    s.agree = (s.stopBlk (s.get R.PWR_BSTAT_STEP)).enterBanked := by
  obtain ⟨hplane, -⟩ := s.stopBlk_keeps (s.get R.PWR_BSTAT_STEP)
  have hblk := State.nextBlk_of_variant (congrArg Plane.variant hplane) (s.get R.PWR_BSTAT_STEP + 1)
  unfold State.agree
  dsimp only
  rw [hblk, hn]

/-- REFUSER names the reason, and the entry ends. -/
theorem State.refuse_ends (s : State) {r : Nat} (hr : r < 15) :
    EntryEnded s (s.refuse r) (r + 1) ∧ (s.refuse r).get R.PWR_REFUSER_REASON = r := by
  unfold State.refuse
  obtain ⟨hstep, hbusy, hresult, hagreed, hplane⟩ := (s.noteRefuser r).endEntry_ended (n := r + 1) (by omega)
  refine ⟨⟨hstep, hbusy, hresult, hagreed, hplane.trans rfl⟩, ?_⟩
  rw [State.endEntry_reason, State.noteRefuser, State.get_put_self]
  exact Nat.mod_eq_of_lt (show r < 16 by omega)

theorem pwrRefuse_ends {s : State} (he : s.entering = true) (hb : s.blkRefuses (s.get R.PWR_BSTAT_STEP) = true) :
    exec .pwrRefuse s = .next (s.refuse 1) :=
  congrArg Host.Outcome.next (if_pos (by rw [he, hb]; rfl))

theorem State.askOver_iff (s : State) : s.askOver = true ↔ s.entering = true ∧ s.dmax (s.get R.PWR_BSTAT_STEP) ≠ 0 ∧
    s.pwr.askAt + 600 * s.dmax (s.get R.PWR_BSTAT_STEP) ≤ s.cycle := by
  simp [State.askOver, and_assoc]

theorem exec_handshakeTimeout (s : State) : exec .handshakeTimeout s = .next (if s.askOver then s.refuse 2 else s) := rfl

/-! ## Wake (R438, R441–R443) -/

/-- The sources that fire, from an event's and those that have fired before. -/
def State.fired (s : State) (first : BitVec 9) : Nat :=
  bitsOf 9 fun i => (first.toNat.testBit i || s.pwr.fired.testBit i) && s.wakeArmed i

theorem exec_wakeEvent (s : State) (first later : BitVec 9) : ∃ src, exec (.wakeEvent first later) s = .next (s.wake (s.fired first) src) :=
  ⟨_, rfl⟩

theorem State.testBit_fired (s : State) (first : BitVec 9) (i : Nat) : (s.fired first).testBit i = true ↔
    i < 9 ∧ (first.getLsbD i = true ∨ s.pwr.fired.testBit i = true) ∧ s.wakeArmed i = true := by
  rw [State.fired, testBit_bitsOf]
  simp only [Bool.and_eq_true, Bool.or_eq_true, decide_eq_true_eq]
  rfl

theorem State.fired_ne_zero (s : State) (first : BitVec 9) : s.fired first ≠ 0 ↔
    ∃ i : Fin 9, (first.getLsbD i.val = true ∨ s.pwr.fired.testBit i.val = true) ∧ s.wakeArmed i.val = true := by
  constructor
  · intro h
    obtain ⟨i, hi⟩ := Nat.exists_testBit_of_ne_zero h
    obtain ⟨hlt, hi⟩ := (s.testBit_fired first i).mp hi
    exact ⟨⟨i, hlt⟩, hi⟩
  · rintro ⟨i, hi⟩ hz
    have hbit := (s.testBit_fired first i.val).mpr ⟨i.isLt, hi⟩
    rw [hz, Nat.zero_testBit] at hbit
    exact nomatch hbit

/-- The clocks count again, and no source is left to fire. -/
def State.clocksBack (s : State) : State :=
  let u := s.put R.PWR_BTIME_MS (min ((s.cycle - s.pwr.since) / 600000) (2 ^ 32 - 1))
  let d := u.draw 3
  let n := u.cycle / 6 - u.pwr.since / 6
  { d.2 with tsc := (u.tsc + max (n + d.1) 1 - 1) % 2 ^ 64, pwr := { d.2.pwr with fired := 0 } }

theorem State.leaveBanked_eq (s : State) : s.leaveBanked = (s.clocksBack.restartAll.setDev .ready).tbBegin.sync.soEnter := rfl

theorem State.clocksBack_keeps (s : State) : s.clocksBack.wheel = s.wheel ∧ s.clocksBack.mem = s.mem ∧ s.clocksBack.otp = s.otp ∧
    s.clocksBack.get R.PWR_WAKESRC_FIRST = s.get R.PWR_WAKESRC_FIRST :=
  ⟨rfl, rfl, rfl, State.get_put_ne s _ _ _ (by decide)⟩

theorem first_shown : ¬hidden R.PWR_WAKESRC_FIRST.key := by
  unfold hidden
  decide

theorem first_of_noted {s t : State} (h : t.side.noted = s.side.noted) : t.get R.PWR_WAKESRC_FIRST = s.get R.PWR_WAKESRC_FIRST :=
  get_of_still (congrArg Noted.still h) first_shown

theorem agreed_of_noted {s t : State} (h : t.side.noted = s.side.noted) : t.pwr.agreed = s.pwr.agreed :=
  congrArg (·.still.agreed) h

theorem State.restartAll_keeps (s : State) : s.restartAll.plane = s.plane ∧ s.restartAll.pwr.agreed = [] ∧
    s.restartAll.get R.PWR_WAKESRC_FIRST = s.get R.PWR_WAKESRC_FIRST :=
  ⟨s.restartAll_frame, rfl, foldl_keeps (fun t : State => t.get R.PWR_WAKESRC_FIRST) _ (fun t b => first_of_noted (t.restartBlk_frame b)) _ s⟩

/-- BANKED is left for READY: the blocks run, and the Wheel, the memories and the source that woke the device stand. -/
theorem State.leaveBanked_leaves (s : State) : s.leaveBanked.dev = .ready ∧ s.leaveBanked.pwr.agreed = [] ∧
    s.leaveBanked.get R.PWR_WAKESRC_FIRST = s.get R.PWR_WAKESRC_FIRST ∧
    s.leaveBanked.wheel = s.wheel ∧ s.leaveBanked.mem = s.mem ∧ s.leaveBanked.otp = s.otp := by
  have htail (t : State) : t.tbBegin.sync.soEnter.side.noted = t.side.noted := by
    simp only [State.soEnter_frame, State.sync_frame, State.tbBegin_frame]
  obtain ⟨hw, hm, ho, hf⟩ := s.clocksBack_keeps
  obtain ⟨hplane, hagreed, hfirst⟩ := s.clocksBack.restartAll_keeps
  obtain ⟨hwheel, hmem, hotp, -⟩ := kept_of_plane hplane
  rw [State.leaveBanked_eq]
  generalize s.clocksBack.restartAll = u at *
  obtain ⟨hw', hm', ho', hp', -⟩ := u.setDev_kept .ready
  have hget := u.setDev_get .ready (f := R.PWR_WAKESRC_FIRST) (by decide) (by decide)
  have hdev := u.setDev_dev .ready
  generalize u.setDev .ready = v at *
  obtain ⟨hwv, hmv, hov, hdv⟩ := kept_of_plane (plane_of_noted (htail v))
  refine ⟨hdv.trans hdev, ?_, (first_of_noted (htail v)).trans (hget.trans (hfirst.trans hf)), hwv.trans (hw'.trans (hwheel.trans hw)),
    hmv.trans (hm'.trans (hmem.trans hm)), hov.trans (ho'.trans (hotp.trans ho))⟩
  exact (agreed_of_noted (htail v)).trans ((congrArg Pwr.agreed hp').trans hagreed)

/-- The lowest source that fires is noted. -/
theorem State.noteWake_first (s : State) (first : BitVec 9) (src : Nat) (h : s.fired first ≠ 0) :
    1 ≤ (s.noteWake (s.fired first) src).get R.PWR_WAKESRC_FIRST ∧
    s.wakeArmed ((s.noteWake (s.fired first) src).get R.PWR_WAKESRC_FIRST - 1) = true := by
  obtain ⟨k, hk⟩ : ∃ k, (below 9 (s.fired first).testBit).head? = some k := by
    obtain ⟨i, hi⟩ := Nat.exists_testBit_of_ne_zero h
    have hmem : i ∈ below 9 (s.fired first).testBit := by
      simp [below, hi, ((s.testBit_fired first i).mp hi).1]
    cases hb : below 9 (s.fired first).testBit with
    | nil => rw [hb] at hmem; exact nomatch hmem
    | cons a l => exact ⟨a, rfl⟩
  obtain ⟨hlt, hbit⟩ := below_head hk
  have hget : (s.noteWake (s.fired first) src).get R.PWR_WAKESRC_FIRST = k + 1 := by
    rw [State.noteWake, State.get_put_self, hk]
    exact Nat.mod_eq_of_lt (show k + 1 < 16 by omega)
  rw [hget]
  exact ⟨Nat.le_add_left .., ((s.testBit_fired first k).mp hbit).2.2⟩

/-- What a wake notes and wakes by itself leaves the plane and the noted source. -/
theorem State.wakeNoted_keeps (s : State) (f src : Nat) : ((s.noteWake f src).wakeOwn src).plane = s.plane ∧
    ((s.noteWake f src).wakeOwn src).get R.PWR_WAKESRC_FIRST = (s.noteWake f src).get R.PWR_WAKESRC_FIRST :=
  ⟨(plane_of_noted (State.wakeOwn_frame _ _)).trans (s.noteWake_frame f src), first_of_noted (State.wakeOwn_frame _ _)⟩

theorem State.wake_entering {s : State} {f src : Nat} (hf : f ≠ 0) (hdev : s.dev = .ready) (he : s.entering = true) :
    s.wake f src = ((s.noteWake f src).wakeOwn src).endEntry 4 := by
  unfold State.wake
  rw [if_neg hf, if_neg (by rw [hdev]; decide), if_pos he]

theorem State.wake_banked {s : State} {f src : Nat} (hf : f ≠ 0) (hdev : s.dev = .banked) :
    s.wake f src = ((s.noteWake f src).wakeOwn src).leaveBanked := by
  unfold State.wake
  rw [if_neg hf, if_pos hdev]

/-- Settles O54. -/
theorem sleepAndBankedComplete : Obligations.SleepAndBankedComplete := by
  intro s req mask first later b same ended fires
  have hsame {t : State} (h : t.plane = s.plane) : same t :=
    let ⟨hw, hm, ho, _⟩ := kept_of_plane h
    ⟨hw, hm, ho⟩
  have hended {t : State} {n : Nat} (h : EntryEnded s t n) : ended t n := by
    obtain ⟨hstep, hbusy, hresult, hagreed, hplane⟩ := h
    exact ⟨hstep, hbusy, hresult, congrArg Plane.dev hplane, hagreed, hsame hplane⟩
  obtain ⟨src, hwake⟩ := exec_wakeEvent s first later
  refine ⟨fun ho => congrArg Host.Outcome.next (if_pos ho), fun hw => ⟨fun hdev => ?_, fun h1 h2 => isleepRequest_refused hw h1 h2,
    fun hreq => ⟨fun hc => ?_, fun hc => ?_⟩, fun he => ?_, fun he => ?_⟩, fun hdev he hp hf hr => ⟨fun n hn => ?_, fun hn => ?_⟩,
    fun he hb => ?_, fun he hm hlate => ?_, fun hearly => ?_, fun hdev he hfires => ?_, fun hdev hfires => ?_, fun hnone => ?_⟩
  · obtain ⟨t, hexec, hplane, hbits⟩ := isleepRequest_taken (mask := mask) hw hdev
    exact ⟨t, hexec, congrArg Plane.dev hplane, hsame hplane, hbits⟩
  · exact (exec_pwrEnter hw hreq).trans (congrArg Host.Outcome.next (if_pos hc))
  · obtain ⟨t, hexec, hbusy, hstep, hlocked, hask, hplane⟩ := pwrEnter_taken hw hreq hc
    exact ⟨t, hexec, hbusy, hstep, (congrArg Plane.dev hplane).trans (State.dev_ready_of_enterRefusal hc), hlocked, hask, hsame hplane⟩
  · obtain ⟨t, hexec, hend, hfirst⟩ := pwrExit_ends hw he
    exact ⟨t, hexec, hended hend, hfirst⟩
  · exact congrArg Host.Outcome.next ((if_pos hw).trans (if_neg (by rw [he]; decide)))
  · obtain ⟨hstep, hplane, hagreed⟩ := State.agree_asks hn
    exact ⟨_, exec_pwrAgree hdev he hp hf hr, hstep, (congrArg Plane.dev hplane).trans hdev, hagreed, hsame hplane⟩
  · obtain ⟨hwheel, hmem, hotp, -⟩ := kept_of_plane (s.stopBlk_keeps b).1
    obtain ⟨hbanked, hstep, hresult, hlocked, hw, hm, ho⟩ := (s.stopBlk b).enterBanked_enters
    rw [exec_pwrAgree hdev he hp hf hr, State.agree_banks hn]
    exact ⟨_, rfl, hbanked, hstep, hresult, hlocked, hw.trans hwheel, hm.trans hmem, ho.trans hotp⟩
  · obtain ⟨hend, hreason⟩ := s.refuse_ends (r := 1) (by decide)
    exact ⟨_, pwrRefuse_ends he hb, hended hend, hreason⟩
  · obtain ⟨hend, hreason⟩ := s.refuse_ends (r := 2) (by decide)
    rw [exec_handshakeTimeout, if_pos (s.askOver_iff.mpr ⟨he, hm, hlate⟩)]
    exact ⟨_, rfl, hended hend, hreason⟩
  · rw [exec_handshakeTimeout, if_neg]
    intro hover
    obtain ⟨-, -, hlate⟩ := s.askOver_iff.mp hover
    exact Nat.not_le_of_lt hearly hlate
  · have hf := (s.fired_ne_zero first).mpr hfires
    rw [hwake, State.wake_entering hf hdev he]
    obtain ⟨hplane, -⟩ := s.wakeNoted_keeps (s.fired first) src
    obtain ⟨hstep, hbusy, hresult, hagreed, hkept⟩ := ((s.noteWake (s.fired first) src).wakeOwn src).endEntry_ended (n := 4) (by decide)
    exact ⟨_, rfl, hended ⟨hstep, hbusy, hresult, hagreed, hkept.trans hplane⟩⟩
  · have hf := (s.fired_ne_zero first).mpr hfires
    rw [hwake, State.wake_banked hf hdev]
    obtain ⟨hplane, hfirst⟩ := s.wakeNoted_keeps (s.fired first) src
    obtain ⟨hwheel, hmem, hotp, -⟩ := kept_of_plane hplane
    obtain ⟨hready, hagreed, hkept, hw, hm, ho⟩ := ((s.noteWake (s.fired first) src).wakeOwn src).leaveBanked_leaves
    obtain ⟨hone, harmed⟩ := s.noteWake_first first src hf
    have hsrc := hkept.trans hfirst
    refine ⟨_, rfl, hready, hagreed, ?_, ?_, hw.trans hwheel, hm.trans hmem, ho.trans hotp⟩
    · rw [hsrc]
      exact hone
    · rw [hsrc]
      exact harmed
  · have hz : s.fired first = 0 := by
      by_contra hf
      exact hnone ((s.fired_ne_zero first).mp hf)
    rw [hwake, hz]
    rfl

end Sys2Proof.Machine
end

section
/-! PROOFS. Release from OFF and the phases of WEDGING (R35, R297–R326, R455–R461, R479). -/

namespace Sys2Proof.Machine

open Sys2Proof

/-! ## Leaving OFF (R35, R297, R461) -/

/-- A phase begins: its end is drawn within its time, and PHASE shows it. -/
theorem State.phaseBegin_keeps (s : State) (ph us : Nat) : (s.phaseBegin ph us).dev = s.dev ∧ (s.phaseBegin ph us).otp = s.otp ∧
    (s.phaseBegin ph us).wedge.since = s.wedge.since ∧ (s.phaseBegin ph us).wedge.pllAt = s.wedge.pllAt ∧
    (s.phaseBegin ph us).wedge.due = s.cycle + (s.draw (600 * us + 1)).1 ∧ (s.phaseBegin ph us).get R.WEDGE_STAT_PHASE = ph % 16 := by
  refine ⟨rfl, rfl, rfl, rfl, rfl, ?_⟩
  unfold State.phaseBegin
  exact State.get_put_self ..

/-- The device as it leaves OFF, its inputs not yet taken in. -/
def State.wedgeBegun (s : State) (pll : Nat) : State :=
  let t := State.phaseBegin { (s.draw pll).2.setDev .wedging with wedge := { since := s.cycle, pllAt := s.cycle + (s.draw pll).1 } } 1 500
  { t with wedge := { t.wedge with due := max t.wedge.due t.wedge.pllAt } }

/-- Phase 1 of WEDGING has begun in `t`, where `s` was in OFF. -/
def PhaseOneBegun (s t : State) : Prop :=
  t.dev = .wedging ∧ t.get R.WEDGE_STAT_PHASE = 1 ∧ t.wedge.since = s.cycle ∧ s.cycle ≤ t.wedge.pllAt ∧
  t.wedge.pllAt ≤ s.cycle + 240000 ∧ t.wedge.pllAt ≤ t.wedge.due ∧ t.wedge.due ≤ s.cycle + 300000 ∧ t.otp = s.otp

theorem State.wedgeBegun_begun (s : State) {n : Nat} (hpos : 0 < n) (hn : n ≤ 240001) : PhaseOneBegun s (s.wedgeBegun n) := by
  have hd := s.draw_lt hpos
  obtain ⟨-, -, hotp, -, hcycle⟩ := (s.draw n).2.setDev_kept .wedging
  have hdev := (s.draw n).2.setDev_dev .wedging
  have hdraw : (s.draw n).2.cycle = s.cycle ∧ (s.draw n).2.otp = s.otp := ⟨rfl, rfl⟩
  unfold State.wedgeBegun
  generalize (s.draw n).2.setDev .wedging = u at *
  generalize (s.draw n).1 = d at *
  obtain ⟨hdev', hotp', hsince, hpll, hdue, hphase⟩ :=
    State.phaseBegin_keeps { u with wedge := { since := s.cycle, pllAt := s.cycle + d } } 1 500
  have he := State.draw_lt { u with wedge := { since := s.cycle, pllAt := s.cycle + d } } (n := 600 * 500 + 1) (Nat.succ_pos _)
  have hu : u.cycle = s.cycle := hcycle.trans hdraw.1
  generalize (State.draw { u with wedge := { since := s.cycle, pllAt := s.cycle + d } } (600 * 500 + 1)).1 = e at *
  generalize State.phaseBegin { u with wedge := { since := s.cycle, pllAt := s.cycle + d } } 1 500 = t at *
  refine ⟨hdev'.trans hdev, hphase, hsince, ?_, ?_, ?_, ?_, hotp'.trans (hotp.trans hdraw.2)⟩ <;> simp only [hpll, hdue, hu] <;> omega

/-- What the Saggar's inputs do in phase 1 leaves the Wedge as it is. -/
theorem PhaseOneBegun.sync {s t : State} (h : PhaseOneBegun s t) : PhaseOneBegun s t.sync := by
  obtain ⟨hdev, hphase, hwedge⟩ := h
  obtain ⟨-, -, hotp, hkept⟩ := kept_of_plane (plane_of_side t.sync_frame)
  refine ⟨hkept.trans hdev, (State.sync_get _ (by unfold far; decide)).trans hphase, ?_⟩
  rw [State.sync_wedge, hotp]
  exact hwedge

/-- Pins that hold nothing in OFF: supplies valid, nRST high, no internal reset, and no production test. -/
def Pins.released (p : Pins) : Prop := p.supOk = true ∧ p.nrst = true ∧ p.hold = false ∧ p.test = false

theorem State.leaveOff_leaves {s : State} {p : Pins} (hdev : s.dev = .off) (h : p.released) :
    PhaseOneBegun s (State.leaveOff { s with pins := p }) := by
  have heq : State.leaveOff { s with pins := p } = (State.wedgeBegun { s with pins := p } 240001).sync := if_pos ⟨hdev, h⟩
  have hbegun : PhaseOneBegun s (State.wedgeBegun { s with pins := p } 240001) :=
    State.wedgeBegun_begun { s with pins := p } (Nat.succ_pos _) (le_refl _)
  rw [heq]
  exact hbegun.sync

theorem State.leaveOff_stays {s : State} (h : ¬s.pins.released) : s.leaveOff = s := if_neg fun h' => h h'.2

theorem nrstRelease_leaves {s : State} (hdev : s.dev = .off) (hlow : s.pins.nrst = false) (hsup : s.pins.supOk = true)
    (hhold : s.pins.hold = false) : ∃ t, exec (.nrstRelease false) s = .next t ∧ PhaseOneBegun s t := by
  have hexec : exec (.nrstRelease false) s = .next (State.leaveOff { s with pins := { s.pins with nrst := true, test := false } }) :=
    congrArg Host.Outcome.next (if_neg (by rw [hlow]; decide))
  exact ⟨_, hexec, State.leaveOff_leaves hdev ⟨hsup, rfl, hhold, rfl⟩⟩

theorem nrstRelease_stays {s : State} {test : Bool} (hlow : s.pins.nrst = false)
    (h : s.pins.supOk = false ∨ s.pins.hold = true ∨ test = true) :
    exec (.nrstRelease test) s = .next { s with pins := { s.pins with nrst := true, test := test } } := by
  have hexec : exec (.nrstRelease test) s = .next (State.leaveOff { s with pins := { s.pins with nrst := true, test := test } }) :=
    congrArg Host.Outcome.next (if_neg (by rw [hlow]; decide))
  have hheld : ¬Pins.released { s.pins with nrst := true, test := test } := by
    rintro ⟨hsup, -, hhold, htest⟩
    simp_all
  rw [hexec, State.leaveOff_stays hheld]

theorem internalResetRelease_leaves {s : State} (hdev : s.dev = .off) (hhold : s.pins.hold = true) (hend : s.pins.holdEnd ≤ s.cycle)
    (hsup : s.pins.supOk = true) (hnrst : s.pins.nrst = true) (htest : s.pins.test = false) :
    ∃ t, exec .internalResetRelease s = .next t ∧ PhaseOneBegun s t := by
  have hexec : exec .internalResetRelease s = .next (State.leaveOff { s with pins := { s.pins with hold := false } }) :=
    congrArg Host.Outcome.next (if_pos (by rw [hhold, decide_eq_true hend]; rfl))
  exact ⟨_, hexec, State.leaveOff_leaves hdev ⟨hsup, hnrst, rfl, htest⟩⟩

theorem internalResetRelease_stays {s : State} (hhold : s.pins.hold = true) (hend : s.pins.holdEnd ≤ s.cycle)
    (h : s.pins.supOk = false ∨ s.pins.nrst = false ∨ s.pins.test = true) :
    exec .internalResetRelease s = .next { s with pins := { s.pins with hold := false } } := by
  have hexec : exec .internalResetRelease s = .next (State.leaveOff { s with pins := { s.pins with hold := false } }) :=
    congrArg Host.Outcome.next (if_pos (by rw [hhold, decide_eq_true hend]; rfl))
  have hheld : ¬Pins.released { s.pins with hold := false } := by
    rintro ⟨hsup, hnrst, -, htest⟩
    simp_all
  rw [hexec, State.leaveOff_stays hheld]

/-! ### The supplies -/

/-- The supplies are noted as valid, after a power-on reset where AON had lost its state. -/
def State.supplied (s : State) (vsys : Nat) (por : Bool) : State :=
  let t := State.vsysBack { s with pins := { s.pins with supOk := true } } vsys
  (if por then t.porReset else t).sync

theorem exec_suppliesValid {s : State} {vsys vcore vio33 vio18 : Nat} {por : Bool} (hsup : s.pins.supOk = false)
    (hup : railsUp vsys vcore vio33 vio18 = true) :
    exec (.suppliesValid vsys vcore vio33 vio18 por) s = .next (s.supplied vsys por).leaveOff :=
  congrArg Host.Outcome.next (if_neg (by rw [hsup, hup]; decide))

/-- Of the pins only those of the supplies, and the hold of an internal reset, change. -/
theorem State.supplied_keeps (s : State) (vsys : Nat) (por : Bool) : (s.supplied vsys por).dev = s.dev ∧
    (s.supplied vsys por).cycle = s.cycle ∧ (s.supplied vsys por).otp = s.otp ∧ (s.supplied vsys por).pins.supOk = true ∧
    (s.supplied vsys por).pins.nrst = s.pins.nrst ∧ (s.supplied vsys por).pins.test = s.pins.test ∧
    (s.pins.hold = false → (s.supplied vsys por).pins.hold = false) := by
  unfold State.supplied
  extract_lets p t
  have ht : t.dev = s.dev ∧ t.cycle = s.cycle ∧ t.otp = s.otp ∧ t.pins.supOk = true ∧ t.pins.nrst = s.pins.nrst ∧
      t.pins.test = s.pins.test ∧ t.pins.hold = s.pins.hold := by
    simp only [t, State.vsysBack]
    split <;> exact ⟨rfl, rfl, rfl, rfl, rfl, rfl, rfl⟩
  have hplane (u : State) : u.sync.plane = u.plane := plane_of_side u.sync_frame
  obtain ⟨hdev, hcycle, hotp, hsup, hnrst, htest, hhold⟩ := ht
  cases por with
  | true =>
    simp only [if_true, State.sync_pins]
    exact ⟨(congrArg Plane.dev (hplane _)).trans hdev, (congrArg Plane.cycle (hplane _)).trans hcycle,
      (congrArg Plane.otp (hplane _)).trans hotp, hsup, hnrst, htest, fun _ => rfl⟩
  | false =>
    simp only [Bool.false_eq_true, if_false, State.sync_pins]
    exact ⟨(congrArg Plane.dev (hplane _)).trans hdev, (congrArg Plane.cycle (hplane _)).trans hcycle,
      (congrArg Plane.otp (hplane _)).trans hotp, hsup, hnrst, htest, fun h => hhold.trans h⟩

theorem suppliesValid_leaves {s : State} {vsys vcore vio33 vio18 : Nat} {por : Bool} (hdev : s.dev = .off) (hsup : s.pins.supOk = false)
    (hup : railsUp vsys vcore vio33 vio18 = true) (hnrst : s.pins.nrst = true) (hhold : s.pins.hold = false)
    (htest : s.pins.test = false) :
    ∃ t, exec (.suppliesValid vsys vcore vio33 vio18 por) s = .next t ∧ PhaseOneBegun s t := by
  refine ⟨_, exec_suppliesValid hsup hup, ?_⟩
  obtain ⟨hd, hc, ho, hs, hn, ht, hh⟩ := s.supplied_keeps vsys por
  generalize s.supplied vsys por = u at *
  have hbegun : PhaseOneBegun u u.leaveOff :=
    State.leaveOff_leaves (hd.trans hdev) ⟨hs, hn.trans hnrst, hh hhold, ht.trans htest⟩
  unfold PhaseOneBegun at hbegun ⊢
  rwa [hc, ho] at hbegun

theorem suppliesValid_stays {s : State} {vsys vcore vio33 vio18 : Nat} {por : Bool} (hdev : s.dev = .off) (hsup : s.pins.supOk = false)
    (hup : railsUp vsys vcore vio33 vio18 = true) (hnrst : s.pins.nrst = false) :
    ∃ t, exec (.suppliesValid vsys vcore vio33 vio18 por) s = .next t ∧ t.dev = .off ∧ t.pins.supOk = true ∧ t.otp = s.otp := by
  refine ⟨_, exec_suppliesValid hsup hup, ?_⟩
  obtain ⟨hd, -, ho, hs, hn, -, -⟩ := s.supplied_keeps vsys por
  have hheld : ¬(s.supplied vsys por).pins.released := by
    rintro ⟨-, h, -⟩
    exact Bool.false_ne_true ((hn.trans hnrst).symm.trans h)
  rw [State.leaveOff_stays hheld]
  exact ⟨hd.trans hdev, hs, ho⟩

theorem suppliesValid_low {s : State} {vsys vcore vio33 vio18 : Nat} {por : Bool}
    (h : vsys ≤ 5200 ∨ vcore ≤ 740 ∨ vio33 ≤ 2850 ∨ vio18 ≤ 1550) : exec (.suppliesValid vsys vcore vio33 vio18 por) s = .next s := by
  have hdown : railsUp vsys vcore vio33 vio18 = false := by
    simp only [railsUp, Bool.and_eq_false_iff, decide_eq_false_iff_not]
    omega
  exact congrArg Host.Outcome.next (if_pos (by rw [hdown]; simp))

/-! ## The phases (R297–R328) -/

/-- WEDGING ends in `d`, before the Saggar's inputs are taken in. -/
theorem State.wedgeEnded_setDev (s : State) (d : DevState) : ((s.wedgeEnded).setDev d).dev = d ∧
    ((s.wedgeEnded).setDev d).get R.WEDGE_STAT_PHASE = 0xF ∧ ((s.wedgeEnded).setDev d).otp = s.otp ∧
    ∀ k, ((s.wedgeEnded).setDev d).get (R.WEDGE_REP_CODE k) = s.get (R.WEDGE_REP_CODE k) := by
  refine ⟨State.setDev_dev _ d, ?_, (State.setDev_kept _ d).2.2.1, fun k => ?_⟩
  · exact (State.setDev_get _ d (by decide) (by decide)).trans (State.get_put_self ..)
  · have htime : R.WEDGE_TIME_US.key ≠ (R.WEDGE_REP_CODE k).key := by
      simp only [Fld.key, R.WEDGE_TIME_US, R.WEDGE_REP_CODE]
      omega
    have hphase : R.WEDGE_STAT_PHASE.key ≠ (R.WEDGE_REP_CODE k).key := by
      simp only [Fld.key, R.WEDGE_STAT_PHASE, R.WEDGE_REP_CODE]
      omega
    refine (State.setDev_get _ d ?_ ?_).trans ((State.get_put_ne _ _ _ _ hphase).trans (State.get_put_ne _ _ _ _ htime))
    · simp only [Fld.key, R.SYS_STATE_PREV, R.WEDGE_REP_CODE]
      omega
    · simp only [Fld.key, R.HSPI_IRQ_STATE, R.WEDGE_REP_CODE]
      omega

/-- WEDGING ends in NOIMAGE, and what it has reported of the two slots stands. -/
theorem State.noImage_ends (s : State) : s.noImage.dev = .noimage ∧ s.noImage.get R.WEDGE_STAT_PHASE = 0xF ∧
    ∀ k < 2, s.noImage.get (R.WEDGE_REP_CODE k) = s.get (R.WEDGE_REP_CODE k) := by
  obtain ⟨hdev, hphase, -, hrep⟩ := s.wedgeEnded_setDev .noimage
  unfold State.noImage
  refine ⟨(kept_of_plane (plane_of_side (State.sync_frame _))).2.2.2.trans hdev, ?_, fun k hk => ?_⟩
  · exact (State.sync_get _ (by unfold far; decide)).trans hphase
  · refine (State.sync_get _ ?_).trans (hrep k)
    simp only [far, Fld.key, R.WEDGE_REP_CODE]
    omega

theorem State.phaseEnd_two {s : State} (hph : s.get R.WEDGE_STAT_PHASE = 2) : s.phaseEnd = s.phase2End := by
  unfold State.phaseEnd
  rw [hph]
  rfl

/-- The NOR's reset is low until after its draw, its failure counted. -/
theorem State.norReset_keeps (s : State) : s.norReset.dev = s.dev ∧ s.norReset.cycle = s.cycle ∧
    s.cycle < s.norReset.wedge.norLow ∧ s.norReset.wedge.norTries = s.wedge.norTries + 1 ∧
    s.norReset.get R.WEDGE_STAT_PHASE = s.get R.WEDGE_STAT_PHASE := by
  unfold State.norReset
  extract_lets rest d e
  refine ⟨rfl, rfl, Nat.lt_of_lt_of_le (Nat.lt_succ_self _) (Nat.le_add_right _ d.1), rfl, ?_⟩
  exact State.get_put_ne e.2 R.WEDGE_XSPI_CHKFAIL R.WEDGE_STAT_PHASE _ (by decide)

/-- A failed mode check of phase 2 resets the NOR. -/
theorem State.phaseEnd_norReset {s : State} (hdev : s.dev = .wedging) (hph : s.get R.WEDGE_STAT_PHASE = 2)
    (htries : s.wedge.norTries < s.norMode.2) : s.phaseEnd.dev = .wedging ∧ s.phaseEnd.xspiNrst = false ∧
      s.phaseEnd.get R.WEDGE_STAT_PHASE = 2 ∧ s.phaseEnd.wedge.norTries = s.wedge.norTries + 1 := by
  have heq : s.phaseEnd = s.norReset := (State.phaseEnd_two hph).trans (if_pos htries)
  rw [heq]
  obtain ⟨hd, hcycle, hlow, hcount, hphase⟩ := s.norReset_keeps
  refine ⟨hd.trans hdev, ?_, hphase.trans hph, hcount⟩
  have hnot : decide (s.norReset.wedge.norLow ≤ s.norReset.cycle) = false := decide_eq_false (by omega)
  simp only [State.xspiNrst, hd, hdev, hnot, Bool.and_false]

theorem State.discover_sec (s : State) : s.discover.sec = s.sec := by
  have hput (u : State) (f : Fld) (v : Nat) : (u.put f v).sec = u.sec := rfl
  simp only [State.discover, State.putB_eq, hput]

/-- A report shows its code, and leaves that of the other slot. -/
theorem State.report_code (s : State) (k : Nat) (r : SlotRefusal) : (s.report k r).get (R.WEDGE_REP_CODE k) = r.code % 256 ∧
    ∀ j, j ≠ k → (s.report k r).get (R.WEDGE_REP_CODE j) = s.get (R.WEDGE_REP_CODE j) := by
  have hsec (j : Nat) : (R.WEDGE_REP_SSEC k).key ≠ (R.WEDGE_REP_CODE j).key := by
    simp only [Fld.key, R.WEDGE_REP_SSEC, R.WEDGE_REP_CODE]
    omega
  have hsidx (j : Nat) : (R.WEDGE_REP_SIDX k).key ≠ (R.WEDGE_REP_CODE j).key := by
    simp only [Fld.key, R.WEDGE_REP_SIDX, R.WEDGE_REP_CODE]
    omega
  have haddr (j : Nat) : (R.WEDGE_REPADDR_VALUE k).key ≠ (R.WEDGE_REP_CODE j).key := by
    simp only [Fld.key, R.WEDGE_REPADDR_VALUE, R.WEDGE_REP_CODE]
    omega
  have hcyc (j : Nat) : (R.WEDGE_REPCYC_VALUE k).key ≠ (R.WEDGE_REP_CODE j).key := by
    simp only [Fld.key, R.WEDGE_REPCYC_VALUE, R.WEDGE_REP_CODE]
    omega
  have hput (j : Nat) : (s.report k r).get (R.WEDGE_REP_CODE j) = (s.put (R.WEDGE_REP_CODE k) r.code).get (R.WEDGE_REP_CODE j) := by
    simp only [State.report, State.get_put_ne _ _ _ _ (hsec j), State.get_put_ne _ _ _ _ (hsidx j),
      State.get_put_ne _ _ _ _ (haddr j), State.get_put_ne _ _ _ _ (hcyc j)]
  refine ⟨(hput k).trans (State.get_put_self ..), fun j hj => (hput j).trans (State.get_put_ne _ _ _ _ ?_)⟩
  simp only [Fld.key, R.WEDGE_REP_CODE]
  omega

/-- With no lifecycle word, or a scrapped device, phase 2 reports both slots and ends in NOIMAGE. -/
theorem State.phaseEnd_noLifecycle {s : State} (hph : s.get R.WEDGE_STAT_PHASE = 2) (htries : s.norMode.2 ≤ s.wedge.norTries)
    (hlc : s.sec.lc = .blank ∨ s.sec.lc = .scrapped) :
    s.phaseEnd.dev = .noimage ∧ s.phaseEnd.get R.WEDGE_STAT_PHASE = 0xF ∧ s.phaseEnd.get (R.WEDGE_REP_CODE 0) = 1 ∧
      s.phaseEnd.get (R.WEDGE_REP_CODE 1) = 1 := by
  have heq : s.phaseEnd = ((s.discover.report 0 { code := 0x01 }).report 1 { code := 0x01 }).noImage :=
    (State.phaseEnd_two hph).trans ((if_neg (Nat.not_lt.mpr htries)).trans (if_pos (by rwa [State.discover_sec])))
  rw [heq]
  generalize s.discover = u
  obtain ⟨hdev, hphase, hrep⟩ := ((u.report 0 { code := 0x01 }).report 1 { code := 0x01 }).noImage_ends
  obtain ⟨hzero, -⟩ := u.report_code 0 { code := 0x01 }
  obtain ⟨hone, hkeep⟩ := (u.report 0 { code := 0x01 }).report_code 1 { code := 0x01 }
  exact ⟨hdev, hphase, (hrep 0 (by decide)).trans ((hkeep 0 (by decide)).trans hzero), (hrep 1 (by decide)).trans hone⟩

theorem State.slotBegin_none {s : State} (htodo : s.wedge.todo = []) (us : Nat) :
    (s.slotBegin us).dev = .noimage ∧ (s.slotBegin us).get R.WEDGE_STAT_PHASE = 0xF := by
  have heq : s.slotBegin us = s.noImage := by
    unfold State.slotBegin
    rw [htodo]
  rw [heq]
  exact ⟨s.noImage_ends.1, s.noImage_ends.2.1⟩

/-- WEDGING ends in READY: what begins there leaves the Wedge's registers. -/
theorem State.wedgeReady_ends (s : State) :
    s.wedgeReady.dev = .ready ∧ s.wedgeReady.get R.WEDGE_STAT_PHASE = 0xF ∧ s.wedgeReady.otp = s.otp := by
  obtain ⟨hdev, hphase, hotp, -⟩ := s.wedgeEnded_setDev .ready
  unfold State.wedgeReady
  generalize s.wedgeEnded.setDev .ready = u at *
  have hside : u.tbBegin.recMount.sync.side = u.side :=
    (State.sync_frame _).trans ((State.recMount_frame _).trans u.tbBegin_frame)
  have hnoted : u.tbBegin.recMount.sync.soEnter.side.noted = u.side.noted :=
    (State.soEnter_frame _).trans (congrArg Side.noted hside)
  obtain ⟨-, -, hotp', hdev'⟩ := kept_of_plane (plane_of_noted hnoted)
  exact ⟨hdev'.trans hdev, (get_of_still (congrArg Noted.still hnoted) (by unfold hidden; decide)).trans hphase, hotp'.trans hotp⟩

/-! ### What a cycle of WEDGING does -/

theorem State.wedgeTick_pll {s : State} (hdev : s.dev = .wedging) (hph : s.get R.WEDGE_STAT_PHASE = 1) (hrun : s.keyRun = false)
    (hpll : s.pll = false) (hat : s.wedge.pllAt ≤ s.cycle) : s.wedgeTick = s.pllLock := by
  unfold State.wedgeTick
  rw [if_neg (not_not_intro hdev), if_neg (by rw [hph]; decide), if_neg (by rw [hrun]; decide), if_pos ⟨hph, hpll, hat⟩]

/-- The PLL locks, with the TSC at 0. -/
theorem State.pllLock_locks (s : State) :
    s.pllLock.pll = true ∧ s.pllLock.tsc = 0 ∧ s.pllLock.on R.SYS_CLKSTAT_PLLLOCK = true ∧ s.pllLock.dev = s.dev :=
  ⟨rfl, rfl, (State.on_put_ne _ _ _ _ (by decide)).trans (decide_eq_true (State.get_put_self ..)), rfl⟩

theorem State.wedgeTick_eight {s : State} (hdev : s.dev = .wedging) (hph : s.get R.WEDGE_STAT_PHASE = 8) :
    s.wedgeTick = if s.on R.ISL_STAT_TRBUSY then s else s.wedgeReady := by
  unfold State.wedgeTick
  rw [if_neg (not_not_intro hdev), if_pos hph]

theorem State.wedgeTick_waits {s : State} (hdev : s.dev = .wedging) (hph : s.get R.WEDGE_STAT_PHASE ≠ 8) (hrun : s.keyRun = false)
    (hpll : s.pll = true ∨ s.cycle < s.wedge.pllAt) (hdue : s.cycle < s.wedge.due) : s.wedgeTick = s := by
  have hlocked : ¬(s.get R.WEDGE_STAT_PHASE = 1 ∧ s.pll = false ∧ s.wedge.pllAt ≤ s.cycle) := by
    rintro ⟨-, hoff, hat⟩
    rcases hpll with hon | hbefore
    · exact Bool.false_ne_true (hoff.symm.trans hon)
    · omega
  unfold State.wedgeTick
  rw [if_neg (not_not_intro hdev), if_neg hph, if_neg (by rw [hrun]; decide), if_neg hlocked, if_neg (Nat.not_le.mpr hdue)]

/-- Settles O41: each release clears the pin it stands for, and OFF is left by one function once none is held; a phase of WEDGING ends in one of the states the register PHASE and the list of slots to attempt choose. -/
theorem releaseLeavesOff : Obligations.ReleaseLeavesOff := by
  unfold Obligations.ReleaseLeavesOff
  refine ⟨fun s test por vsys vcore vio33 vio18 hdev => ?_, fun s us hdev => ?_⟩
  · intro up
    refine ⟨fun hlow => ⟨fun hsup hhold htest => ?_, nrstRelease_stays hlow⟩, fun hsup h₁ h₂ h₃ h₄ => ?_, suppliesValid_low,
      fun hhold hend => ⟨internalResetRelease_leaves hdev hhold hend, internalResetRelease_stays hhold hend⟩, fun hbefore => ?_⟩
    · subst htest
      exact nrstRelease_leaves hdev hlow hsup hhold
    · have hup : railsUp vsys vcore vio33 vio18 = true := by
        simp only [railsUp, Bool.and_eq_true, decide_eq_true_eq]
        omega
      exact ⟨suppliesValid_leaves hdev hsup hup, suppliesValid_stays hdev hsup hup⟩
    · exact congrArg Host.Outcome.next (if_neg (by rw [decide_eq_false (Nat.not_le.mpr hbefore)]; simp))
  · refine ⟨fun hph hrun hpll hat => ?_, State.phaseEnd_norReset hdev, State.phaseEnd_noLifecycle, fun htodo => State.slotBegin_none htodo us,
      fun hph htr => ?_, fun hph htr => ?_, State.wedgeTick_waits hdev⟩
    · rw [State.wedgeTick_pll hdev hph hrun hpll hat]
      obtain ⟨hlock, htsc, hon, hd⟩ := s.pllLock_locks
      exact ⟨hlock, htsc, hon, hd.trans hdev⟩
    · rw [State.wedgeTick_eight hdev hph, htr]
      exact s.wedgeReady_ends
    · rw [State.wedgeTick_eight hdev hph, htr]
      rfl

end Sys2Proof.Machine
end

section
/-! PROOFS. Entry into OFF (R35, R457, R465–R469) and the burns it cuts short (R314, R331–R335). -/

namespace Sys2Proof.Machine

open Sys2Proof

/-! ## Bits that are only burned (R331) -/

@[simp] theorem burnedInto.rfl {a : Nat} : burnedInto a a := fun _ h => h

theorem burnedInto.trans {a b c : Nat} (h : burnedInto a b) (h' : burnedInto b c) : burnedInto a c := fun i hi => h' i (h i hi)

theorem KeySlot.burnedTo.trans {a b c : KeySlot} (h : a.burnedTo b) (h' : b.burnedTo c) : a.burnedTo c := by
  obtain ⟨hhash, hprog, hrev⟩ := h
  obtain ⟨hhash', hprog', hrev'⟩ := h'
  exact ⟨hhash.trans hhash', hprog.trans hprog', fun x => hrev' (hrev x)⟩

@[simp] theorem KeySlot.burnedTo.rfl {k : KeySlot} : k.burnedTo k := ⟨burnedInto.rfl, burnedInto.rfl, fun h => h⟩

theorem Otp.burnedTo.rfl {o : Otp} : o.burnedTo o := by simp [Otp.burnedTo]

theorem Otp.burnedTo.trans {a b c : Otp} (h : a.burnedTo b) (h' : b.burnedTo c) : a.burnedTo c := by
  obtain ⟨h₁, h₂, h₃, h₄, h₅, h₆, h₇, h₈, h₉, h₁₀, h₁₁, h₁₂⟩ := h
  obtain ⟨g₁, g₂, g₃, g₄, g₅, g₆, g₇, g₈, g₉, g₁₀, g₁₁, g₁₂⟩ := h'
  exact ⟨h₁.trans g₁, h₂.trans g₂, h₃.trans g₃, h₄.trans g₄, h₅.trans g₅, h₆.trans g₆, h₇.trans g₇, h₈.trans g₈, h₉.trans g₉,
    h₁₀.trans g₁₀, h₁₁.trans g₁₁, h₁₂.trans g₁₂⟩

/-- A number whose bit `w` is 0 stays below that bit's weight in its lower bits. -/
theorem mod_lt_of_testBit {a w : Nat} (h : a.testBit w = false) : a % 2 ^ (w + 1) < 2 ^ w := by
  by_contra hle
  have hset := Nat.testBit_of_two_pow_le_and_two_pow_add_one_gt (Nat.not_lt.mp hle) (Nat.mod_lt a (Nat.two_pow_pos _))
  rw [Nat.testBit_mod_two_pow, h, Bool.and_false] at hset
  exact Bool.false_ne_true hset

/-- A bit that is 0 is added, and no other changes. -/
theorem burnedInto_add_two_pow {a w : Nat} (h : a.testBit w = false) : burnedInto a (a + 2 ^ w) := by
  intro i hi
  have hw : w ≠ i := fun hw => Bool.false_ne_true (h.symm.trans (hw ▸ hi))
  rcases Nat.lt_or_gt_of_ne hw with hlt | hgt
  · obtain ⟨j, rfl⟩ := Nat.exists_eq_add_of_lt hlt
    have hlow : a % 2 ^ (w + 1) + 2 ^ w < 2 ^ (w + 1) := by
      have hmod := mod_lt_of_testBit h
      omega
    have hdiv : (a + 2 ^ w) / 2 ^ (w + 1) = a / 2 ^ (w + 1) := by
      conv_lhs => rw [← Nat.div_add_mod a (2 ^ (w + 1)), Nat.add_assoc, Nat.mul_add_div (Nat.two_pow_pos _),
        Nat.div_eq_of_lt hlow, Nat.add_zero]
    have hshift (b : Nat) : b.testBit (w + j + 1) = (b / 2 ^ (w + 1)).testBit j := by
      rw [Nat.testBit_div_two_pow]
      congr 1
      omega
    rw [hshift, hdiv, ← hshift, hi]
  · rw [Nat.add_comm, Nat.testBit_two_pow_add_gt hgt, hi]

theorem burnedInto_burnBits (target w old n : Nat) : burnedInto old (burnBits target w old n).1 := by
  induction w with
  | zero => exact fun _ h => h
  | succ w ih =>
    unfold burnBits
    dsimp only
    split
    · next h =>
      rw [Bool.and_eq_true, Bool.not_eq_true'] at h
      split
      · exact ih
      · exact ih.trans (burnedInto_add_two_pow h.2)
    · exact ih

/-- A field burned through its accessors only gains bits. -/
theorem Otp.burnedTo_burn (o : Otp × Nat) (get : Otp → Nat) (set : Otp → Nat → Otp) (target width : Nat)
    (hset : ∀ (p : Otp) (v : Nat), burnedInto (get p) v → p.burnedTo (set p v)) : o.1.burnedTo (Otp.burn o get set target width).1 :=
  hset _ _ (burnedInto_burnBits _ _ _ _)

theorem Otp.burnedTo_setKey (o : Otp) (i : Nat) {x : KeySlot} (h : (o.key i).burnedTo x) : o.burnedTo (o.setKey i x) := by
  unfold Otp.key at h
  unfold Otp.setKey
  split
  · next hi =>
    rw [if_pos hi] at h
    simp [Otp.burnedTo, h]
  · next hi =>
    rw [if_neg hi] at h
    split
    · next hi' =>
      rw [if_pos hi'] at h
      simp [Otp.burnedTo, h]
    · next hi' =>
      rw [if_neg hi'] at h
      simp [Otp.burnedTo, h]

theorem Otp.burnedTo_burnImg (o : Otp × Nat) : o.1.burnedTo (Otp.burnImg o).1 :=
  Otp.burnedTo_burn o _ _ _ _ fun p v h => by simp [Otp.burnedTo, h]

theorem Otp.burnedTo_burnSeed (seed : Nat) (o : Otp × Nat) : o.1.burnedTo (Otp.burnSeed seed o).1 :=
  Otp.burnedTo_burn o _ _ _ _ fun p v h => by simp [Otp.burnedTo, h]

theorem Otp.burnedTo_burnSeedOk (o : Otp × Nat) : o.1.burnedTo (Otp.burnSeedOk o).1 :=
  Otp.burnedTo_burn o _ _ _ _ fun p v h => by simp [Otp.burnedTo, h]

theorem Otp.burnedTo_burnWord (o : Otp × Nat) (t : Lifecycle) : o.1.burnedTo (Otp.burnWord o t).1 := by
  cases t with
  | blank => exact Otp.burnedTo.rfl
  | manufacture => exact Otp.burnedTo_burn o _ _ _ _ fun p v h => by simp [Otp.burnedTo, h]
  | develop => exact Otp.burnedTo_burn o _ _ _ _ fun p v h => by simp [Otp.burnedTo, h]
  | production => exact Otp.burnedTo_burn o _ _ _ _ fun p v h => by simp [Otp.burnedTo, h]
  | rma => exact Otp.burnedTo_burn o _ _ _ _ fun p v h => by simp [Otp.burnedTo, h]
  | scrapped => exact Otp.burnedTo_burn o _ _ _ _ fun p v h => by simp [Otp.burnedTo, h]

/-- A lifecycle transition burns words of its own (R332, R333). -/
theorem Otp.burnedTo_transition (o : Otp × Nat) (t : Lifecycle) (seed : Nat) : o.1.burnedTo (Otp.transition o t seed).1 := by
  cases t with
  | manufacture =>
    unfold Otp.transition
    dsimp only
    split
    · exact Otp.burnedTo_burnWord ..
    · exact ((Otp.burnedTo_burnSeed seed o).trans (Otp.burnedTo_burnSeedOk _)).trans (Otp.burnedTo_burnWord ..)
  | rma => exact (Otp.burnedTo_burnImg o).trans (Otp.burnedTo_burnWord ..)
  | scrapped => exact ((Otp.burnedTo_burnSeed _ o).trans (Otp.burnedTo_burnImg _)).trans (Otp.burnedTo_burnWord ..)
  | blank => exact Otp.burnedTo_burnWord ..
  | develop => exact Otp.burnedTo_burnWord ..
  | production => exact Otp.burnedTo_burnWord ..

/-- A key command burns its slot, or the image key (R334). -/
theorem Otp.burnedTo_keyBurn (o : Otp × Nat) (slot hash img : Nat) : o.1.burnedTo (Otp.keyBurn o slot hash img).1 := by
  unfold Otp.keyBurn
  split
  · refine (Otp.burnedTo_burn o _ _ hash 512 fun p v h => ?_).trans (Otp.burnedTo_burn _ _ _ 0xFFFF 16 fun p v h => ?_)
    · exact Otp.burnedTo_setKey p slot ⟨h, burnedInto.rfl, fun h => h⟩
    · exact Otp.burnedTo_setKey p slot ⟨burnedInto.rfl, h, fun h => h⟩
  · exact Otp.burnedTo_burn o (fun o => o.imgKey) (fun o v => { o with imgKey := v }) img 256 fun p v h => by simp [Otp.burnedTo, h]

theorem OtpBurn.burnedTo_apply (n : Nat) (o : Otp) (b : OtpBurn) : o.burnedTo (b.apply n o) := by
  cases b with
  | transition t seed => exact Otp.burnedTo_transition (o, n) t seed
  | key slot hash img => exact Otp.burnedTo_keyBurn (o, n) slot hash img

/-- The acceptance of an image revokes key slots and raises the rollback counter (R313, R314). -/
theorem Otp.burnedTo_acceptBurn (o : Otp) (b : Nat × Nat) (n : Nat) : o.burnedTo (o.acceptBurn b n) := by
  have hrev (l : List Nat) (p : Otp) :
      p.burnedTo (l.foldl (fun (p : Otp) i => p.setKey i { p.key i with revoked := true }) p) := by
    induction l generalizing p with
    | nil => exact Otp.burnedTo.rfl
    | cons i l ih =>
      exact (p.burnedTo_setKey i (x := { p.key i with revoked := true }) ⟨burnedInto.rfl, burnedInto.rfl, fun _ => rfl⟩).trans (ih _)
  refine (hrev (((List.range 3).filter b.1.testBit).take n) o).trans ?_
  simp [Otp.burnedTo, Otp.acceptBurn]

/-! ## What a reset cuts short -/

/-- The state without the NOR, and without the count of the draws. -/
def State.norless (s : State) : State := { s with nor := {}, free := 0 }

theorem norless_update : (∀ (s : State) (x : Nor), State.norless { s with nor := x } = s.norless) ∧
    (∀ (s : State) (n : Nat), (s.draw n).2.norless = s.norless) ∧ (∀ (s : State) (n : Nat), (s.freeBytes n).2.norless = s.norless) ∧
    (∀ (c : Prop) [Decidable c] (s t : State), (if c then s else t).norless = if c then s.norless else t.norless) :=
  ⟨fun _ _ => rfl, fun _ _ => rfl, fun _ _ => rfl, fun _ _ _ _ => apply_ite ..⟩

theorem State.norProgram_norless (s : State) (a : Nat) (l : List Nat) : (s.norProgram a l).norless = s.norless := by
  unfold State.norProgram
  generalize hp : (s, a) = p
  have hs : s = p.1 := congrArg Prod.fst hp
  rw [hs]
  clear hp hs
  induction l generalizing p with
  | nil => rfl
  | cons b l ih => exact (ih _).trans (norless_update.1 _ _)

theorem State.eraseUnits_norless (s : State) (l : List Nat) : (s.eraseUnits l).norless = s.norless := by
  unfold State.eraseUnits
  induction l generalizing s with
  | nil => rfl
  | cons a l ih => exact (ih _).trans (norless_update.1 _ _)

theorem State.norCut_norless (s : State) : s.norCut.norless = s.norless := by
  simp only [State.norCut, State.eraseFails, State.pageWrite, State.commitCut, norless_update, State.norProgram_norless,
    State.eraseUnits_norless, ite_self]

/-- Writes to the NOR, burns and the record's medium are cut short. -/
def State.cutShort (s : State) (torn : Nat) : State := (s.norCut.burnCut.acceptCut).recPowerDown torn

/-- It leaves the registers, the pins, the waiting commands, the clocks and the device state. -/
theorem State.cutShort_keeps (s : State) (torn : Nat) : (s.cutShort torn).regs = s.regs ∧ (s.cutShort torn).pins = s.pins ∧
    (s.cutShort torn).pending = s.pending ∧ (s.cutShort torn).dev = s.dev := by
  have hnor := s.norCut_norless
  have hregs := congrArg State.regs hnor
  have hpins := congrArg State.pins hnor
  have hpend := congrArg State.pending hnor
  have hdev := congrArg State.dev hnor
  have hburn (t : State) : t.burnCut.regs = t.regs ∧ t.burnCut.pins = t.pins ∧ t.burnCut.pending = t.pending ∧ t.burnCut.dev = t.dev := by
    unfold State.burnCut
    split <;> exact ⟨rfl, rfl, rfl, rfl⟩
  have haccept (t : State) : t.acceptCut.regs = t.regs ∧ t.acceptCut.pins = t.pins ∧ t.acceptCut.pending = t.pending ∧
      t.acceptCut.dev = t.dev := by
    unfold State.acceptCut
    split <;> exact ⟨rfl, rfl, rfl, rfl⟩
  obtain ⟨a₁, a₂, a₃, a₄⟩ := haccept s.norCut.burnCut
  obtain ⟨b₁, b₂, b₃, b₄⟩ := hburn s.norCut
  exact ⟨(a₁.trans b₁).trans hregs, (a₂.trans b₂).trans hpins, (a₃.trans b₃).trans hpend, (a₄.trans b₄).trans hdev⟩

theorem State.burnCut_burnedTo (s : State) : s.otp.burnedTo s.burnCut.otp ∧ (s.sec.burn = none → s.burnCut.otp = s.otp) ∧
    s.burnCut.wedge = s.wedge := by
  unfold State.burnCut
  split
  · next b h => exact ⟨OtpBurn.burnedTo_apply _ s.otp _, fun hnone => absurd (h.symm.trans hnone) (Option.some_ne_none _), rfl⟩
  · exact ⟨Otp.burnedTo.rfl, fun _ => rfl, rfl⟩

theorem State.acceptCut_burnedTo (s : State) : s.otp.burnedTo s.acceptCut.otp ∧ (s.wedge.burn = none → s.acceptCut.otp = s.otp) := by
  unfold State.acceptCut
  split
  · next b h => exact ⟨Otp.burnedTo_acceptBurn s.otp b _, fun hnone => absurd (h.symm.trans hnone) (Option.some_ne_none _)⟩
  · exact ⟨Otp.burnedTo.rfl, fun _ => rfl⟩

/-- One-time-programmable memory stands but for a burn in progress. -/
theorem State.cutShort_otp (s : State) (torn : Nat) : s.otp.burnedTo (s.cutShort torn).otp ∧
    (s.sec.burn = none → s.wedge.burn = none → (s.cutShort torn).otp = s.otp) := by
  have hnor := s.norCut_norless
  have hotp : s.norCut.otp = s.otp := by
    have h := congrArg State.otp hnor
    exact h
  have hsec : s.norCut.sec = s.sec := by
    have h := congrArg State.sec hnor
    exact h
  have hwedge : s.norCut.wedge = s.wedge := by
    have h := congrArg State.wedge hnor
    exact h
  obtain ⟨hb, hbnone, hbwedge⟩ := s.norCut.burnCut_burnedTo
  obtain ⟨ha, hanone⟩ := s.norCut.burnCut.acceptCut_burnedTo
  rw [hotp] at hb hbnone
  rw [hsec] at hbnone
  rw [hbwedge, hwedge] at hanone
  exact ⟨hb.trans ha, fun h h' => (hanone h').trans (hbnone h)⟩

/-! ## Entry into OFF (R466–R469) -/

/-- The causes are recorded, and an internal reset is counted. -/
def State.caused (s : State) (causes : List Fld) (internal : Bool) : State :=
  let prev := if s.dev = .off then s.get R.SYS_RSTCAUSE_PREV else s.dev.code
  let t := (causes.foldl State.raise s).put R.SYS_RSTCAUSE_PREV prev
  if internal then t.bumpSat R.SYS_RSTCNT_COUNT else t

/-- The edge channel of every island falls. -/
def State.edgesFall (s : State) : State :=
  s.each (List.range s.nIsl) fun s i => (s.edgeTo i false).modIsl i fun x => { x with offMark := none, avgMark := none }

/-- What OFF keeps of `s`, its inputs not yet taken in. -/
def State.wiped (s : State) (internal bist : Bool) : State := {
    pending := s.pending, variant := s.variant, cycle := s.cycle, free := s.free, otp := s.otp, isl := s.isl,
    cause := some (s.fab, 0),
    nor := { bytes := s.nor.bytes, info := s.nor.info },
    pins := { s.pins with
      hold := s.pins.hold || internal, holdEnd := if internal then s.cycle + 12000 else s.pins.holdEnd },
    shard := s.shard,
    regs := Sparse.keep (fun k => keptAddr (k / 32) || (bist && between 0x40A00000 0x40A10000 (k / 32))) s.regs,
    sag := { cond := Nat.land s.sag.cond (2 ^ 20 + 2 ^ 52) } }

theorem State.enterOff_eq (s : State) (causes : List Fld) (internal : Bool) (torn : Nat) (bist : Bool) :
    s.enterOff causes internal torn bist = ((((s.cutShort torn).caused causes internal).edgesFall).wiped internal bist).sync := rfl

/-- Where the Saggar does not act its latches are held clear. -/
theorem State.sagSync_off {s : State} (hdev : s.dev = .off) : s.sagSync = s.judgeAll.holdClear.dischStart := by
  obtain ⟨-, -, -, hkept⟩ := kept_of_plane (plane_of_side s.judgeAll_frame)
  have hacts : s.judgeAll.sagActs = false := by
    unfold State.sagActs
    rw [hkept, hdev]
  exact if_neg (by rw [hacts]; decide)

/-- A field that reads its reset value still does where a field of reset value 0 is cleared. -/
theorem State.get_clear_reset (s : State) {f g : Fld} (hrst : g.rst = 0) (h : s.get f = f.rst) : (s.clear g).get f = f.rst := by
  by_cases hkey : f.key = g.key
  · have hzero : 0 % 2 ^ g.width = g.rst := by rw [hrst, Nat.zero_mod]
    unfold State.clear State.put State.get Sparse.set
    rw [if_pos hzero, hkey]
    exact Sparse.get_del_self ..
  · exact (s.get_clear_ne _ _ (Ne.symm hkey)).trans h

/-- In OFF the inputs disturb no field that reads its reset value. -/
theorem State.sync_get_reset {s : State} (hdev : s.dev = .off) {f : Fld} (h : s.get f = f.rst) : s.sync.get f = f.rst := by
  refine (State.each_keeps (·.get f) _ (fun t i => t.sendSymbol_get i f) _ _).trans ?_
  rw [State.sagSync_off hdev]
  have hheld : s.judgeAll.holdClear.get f = f.rst := by
    unfold State.holdClear
    simp only [get_update]
    exact State.get_clear_reset (g := R.SAGGAR_LATCH_INPUTS 1) _ rfl
      (State.get_clear_reset (g := R.SAGGAR_LATCH_INPUTS 0) _ rfl ((s.judgeAll_get f).trans h))
  generalize s.judgeAll.holdClear = u at *
  unfold State.dischStart
  split
  · split
    · refine State.get_clear_reset (g := R.CONE_DISCH_DONE) _ rfl ?_
      simp only [get_update, hheld]
    · exact hheld
  · simp only [get_update, hheld]

/-- A register of R466 keeps its value. -/
theorem State.wiped_get_kept (s : State) (internal bist : Bool) {f : Fld} (hkept : keptAddr (f.key / 32) = true) :
    (s.wiped internal bist).get f = s.get f := by
  simp only [State.get, State.wiped, Sparse.get_keep, hkept, Bool.true_or, if_true]

theorem State.wiped_get_lost (s : State) (internal : Bool) {f : Fld} (hlost : keptAddr (f.key / 32) = false) :
    (s.wiped internal false).get f = f.rst := by
  simp only [State.get, State.wiped, Sparse.get_keep, hlost, Bool.false_and, Bool.or_false, Bool.false_eq_true, if_false]

theorem State.each_isl {f : State → Nat → State} (hf : ∀ t i, ∃ x, f t i = { t with isl := x }) (l : List Nat) (s : State) :
    ∃ x, s.each l f = { s with isl := x } := by
  induction l generalizing s with
  | nil => exact ⟨s.isl, rfl⟩
  | cons i l ih =>
    obtain ⟨y, hy⟩ := ih (f s i)
    obtain ⟨x, hx⟩ := hf s i
    refine ⟨y, hy.trans ?_⟩
    rw [hx]

/-- The edges move the islands alone. -/
theorem State.edgesFall_eq (s : State) : ∃ x, s.edgesFall = { s with isl := x } := by
  refine State.each_isl (fun t i => ?_) _ s
  have hedge : ∃ x, t.edgeTo i false = { t with isl := x } := by
    unfold State.edgeTo
    dsimp only
    (repeat' split) <;> exact ⟨_, rfl⟩
  obtain ⟨x, hx⟩ := hedge
  rw [hx]
  exact ⟨_, rfl⟩

/-- The causes move registers alone. -/
theorem State.caused_eq (s : State) (causes : List Fld) (internal : Bool) : ∃ m, s.caused causes internal = { s with regs := m } := by
  have hraise (l : List Fld) (t : State) (ht : ∃ m, t = { s with regs := m }) : ∃ m, l.foldl State.raise t = { s with regs := m } := by
    induction l generalizing t with
    | nil => exact ht
    | cons f l ih =>
      obtain ⟨m, rfl⟩ := ht
      exact ih _ ⟨_, rfl⟩
  obtain ⟨m, hm⟩ := hraise causes s ⟨s.regs, rfl⟩
  unfold State.caused State.bumpSat
  rw [hm]
  dsimp only
  (repeat' split) <;> exact ⟨_, rfl⟩

/-- What every entry into OFF from `s` shows. -/
def OffFrom (s t : State) : Prop :=
  t.dev = .off ∧ t.wheel = {} ∧ t.mem = {} ∧ t.queues = [] ∧ t.can = [] ∧ t.sec = {} ∧
  s.otp.burnedTo t.otp ∧ (s.sec.burn = none → s.wedge.burn = none → t.otp = s.otp) ∧ t.pending = s.pending ∧
  ∀ f : Fld, keptAddr (f.key / 32) = false → t.get f = f.rst

/-- A state that has been wiped is in OFF, its blocks at their reset values. -/
theorem State.wiped_off (s : State) (internal : Bool) : (s.wiped internal false).sync.dev = .off ∧
    (s.wiped internal false).sync.wheel = {} ∧ (s.wiped internal false).sync.mem = {} ∧ (s.wiped internal false).sync.queues = [] ∧
    (s.wiped internal false).sync.can = [] ∧ (s.wiped internal false).sync.sec = {} ∧ (s.wiped internal false).sync.otp = s.otp ∧
    (s.wiped internal false).sync.pending = s.pending ∧
    ∀ f : Fld, keptAddr (f.key / 32) = false → (s.wiped internal false).sync.get f = f.rst := by
  have hrest := (s.wiped internal false).sync_rest
  have hwheel := congrArg State.wheel hrest
  have hmem := congrArg State.mem hrest
  have hqueues := congrArg State.queues hrest
  have hcan := congrArg State.can hrest
  have hsec := congrArg State.sec hrest
  have hotp := congrArg State.otp hrest
  have hpend := congrArg State.pending hrest
  have hdev := congrArg State.dev hrest
  exact ⟨hdev, hwheel, hmem, hqueues, hcan, hsec, hotp, hpend, fun f hf => State.sync_get_reset rfl (s.wiped_get_lost internal hf)⟩

/-- An entry into OFF wipes the state, its causes recorded and what it cuts short cut. -/
theorem State.enterOff_wiped (s : State) (causes : List Fld) (internal : Bool) (torn : Nat) :
    ∃ x, s.enterOff causes internal torn false =
      (State.wiped { s.cutShort torn with regs := ((s.cutShort torn).caused causes internal).regs, isl := x } internal false).sync := by
  obtain ⟨m, hcaused⟩ := (s.cutShort torn).caused_eq causes internal
  obtain ⟨x, hfall⟩ := State.edgesFall_eq { s.cutShort torn with regs := m }
  refine ⟨x, (s.enterOff_eq causes internal torn false).trans ?_⟩
  rw [hcaused, hfall]

theorem State.enterOff_off (s : State) (causes : List Fld) (internal : Bool) (torn : Nat) :
    OffFrom s (s.enterOff causes internal torn false) := by
  obtain ⟨-, -, hpend, -⟩ := s.cutShort_keeps torn
  obtain ⟨hburned, hsame⟩ := s.cutShort_otp torn
  obtain ⟨x, hwiped⟩ := s.enterOff_wiped causes internal torn
  rw [hwiped]
  generalize ((s.cutShort torn).caused causes internal).regs = m
  generalize s.cutShort torn = u at *
  obtain ⟨hdev, hwheel, hmem, hqueues, hcan, hsec, hotp, hpend', hreset⟩ := State.wiped_off { u with regs := m, isl := x } internal
  have hotp' : ((State.wiped { u with regs := m, isl := x } internal false).sync).otp = u.otp := hotp
  refine ⟨hdev, hwheel, hmem, hqueues, hcan, hsec, ?_, fun h h' => hotp'.trans (hsame h h'), hpend'.trans hpend, hreset⟩
  rw [hotp']
  exact hburned

/-- The pins stand, but that an internal reset holds OFF. -/
theorem State.enterOff_pins (s : State) (causes : List Fld) (internal : Bool) (torn : Nat) :
    (s.enterOff causes internal torn false).pins.nrst = s.pins.nrst ∧ (s.enterOff causes internal torn false).pins.supOk = s.pins.supOk ∧
    (s.enterOff causes internal torn false).pins.hold = (s.pins.hold || internal) := by
  obtain ⟨-, hpins, -, -⟩ := s.cutShort_keeps torn
  obtain ⟨x, hwiped⟩ := s.enterOff_wiped causes internal torn
  rw [hwiped, State.sync_pins, ← hpins]
  exact ⟨rfl, rfl, rfl⟩

theorem State.put_regs {s t : State} (h : t.regs = s.regs) (f : Fld) (v : Nat) : (t.put f v).regs = (s.put f v).regs := by
  unfold State.put
  rw [h]

theorem State.bumpSat_regs {s t : State} (h : t.regs = s.regs) (f : Fld) : (t.bumpSat f).regs = (s.bumpSat f).regs := by
  unfold State.bumpSat
  rw [State.get_of_regs h]
  split
  · exact State.put_regs h ..
  · exact h

/-- What the causes leave in the registers is a matter of the registers and the device state alone. -/
theorem State.caused_regs {s t : State} (hregs : t.regs = s.regs) (hdev : t.dev = s.dev) (causes : List Fld) (internal : Bool) :
    (t.caused causes internal).regs = (s.caused causes internal).regs := by
  have hraise : (causes.foldl State.raise t).regs = (causes.foldl State.raise s).regs := by
    clear hdev
    induction causes generalizing s t with
    | nil => exact hregs
    | cons f l ih => exact ih (State.put_regs hregs f 1)
  unfold State.caused
  rw [hdev, State.get_of_regs hregs]
  cases internal with
  | true => exact State.bumpSat_regs (State.put_regs hraise ..) _
  | false => exact State.put_regs hraise ..

/-- RSTCAUSE and RSTCNT read in OFF what the causes left in them. -/
theorem State.enterOff_get (s : State) (causes : List Fld) (internal : Bool) (torn : Nat) {f : Fld}
    (hkept : keptAddr (f.key / 32) = true) (hfar : far f.key) :
    (s.enterOff causes internal torn false).get f = (s.caused causes internal).get f := by
  obtain ⟨hregs, -, -, hdev⟩ := s.cutShort_keeps torn
  obtain ⟨x, hwiped⟩ := s.enterOff_wiped causes internal torn
  rw [hwiped, State.sync_get _ hfar, State.wiped_get_kept _ _ _ hkept, State.caused_regs hregs hdev]
  rfl

/-- A cause of RSTCAUSE, and what it stands beside. -/
def isCause (c : Fld) : Prop :=
  c.width = 1 ∧ c.key / 32 = 0x40000080 ∧ R.SYS_RSTCAUSE_PREV.key ≠ c.key ∧ R.SYS_RSTCNT_COUNT.key ≠ c.key

theorem State.caused_on (s : State) {c : Fld} (hc : isCause c) (internal : Bool) : (s.caused [c] internal).on c = true := by
  obtain ⟨hwidth, -, hprev, hcnt⟩ := hc
  have hput (p : Nat) : ((s.raise c).put R.SYS_RSTCAUSE_PREV p).on c = true := by
    rw [State.on_put_ne _ _ _ _ hprev, State.on, State.raise_eq, State.get_put_self, hwidth]
    decide
  cases internal with
  | true => exact (State.on_bumpSat_ne _ _ _ hcnt).trans (hput _)
  | false => exact hput _

theorem State.enterOff_on (s : State) {c : Fld} (hc : isCause c) (internal : Bool) (torn : Nat) :
    (s.enterOff [c] internal torn false).on c = true := by
  have haddr := hc.2.1
  have hkept : keptAddr (c.key / 32) = true := by
    rw [haddr]
    decide
  have hfar : far c.key := by
    unfold far
    omega
  have hon := s.caused_on hc internal
  unfold State.on at hon ⊢
  rw [State.enterOff_get s _ _ _ hkept hfar, hon]

/-- What the causes of a reset leave of RSTCNT. -/
theorem State.caused_count (s : State) {c : Fld} (hc : isCause c) (internal : Bool) : (s.caused [c] internal).get R.SYS_RSTCNT_COUNT =
    if internal then (s.bumpSat R.SYS_RSTCNT_COUNT).get R.SYS_RSTCNT_COUNT else s.get R.SYS_RSTCNT_COUNT := by
  obtain ⟨-, -, -, hcnt⟩ := hc
  have hput (p : Nat) : ((s.raise c).put R.SYS_RSTCAUSE_PREV p).get R.SYS_RSTCNT_COUNT = s.get R.SYS_RSTCNT_COUNT :=
    (State.get_put_ne _ _ _ _ (by decide)).trans (State.get_put_ne _ _ _ _ (Ne.symm hcnt))
  cases internal with
  | false => exact hput _
  | true =>
    exact State.get_bumpSat_congr _ s _ (hput _)

theorem State.enterOff_count (s : State) {c : Fld} (hc : isCause c) (internal : Bool) (torn : Nat) :
    (s.enterOff [c] internal torn false).get R.SYS_RSTCNT_COUNT =
      if internal then (s.bumpSat R.SYS_RSTCNT_COUNT).get R.SYS_RSTCNT_COUNT else s.get R.SYS_RSTCNT_COUNT :=
  (State.enterOff_get s _ _ _ (by decide) (by unfold far; decide)).trans (s.caused_count hc internal)

/-- A reset with one cause, whatever pins it begins with. -/
theorem State.enterOff_resets (s : State) (p : Pins) {c : Fld} (hc : isCause c) (internal : Bool) (torn : Nat) {t : State}
    (ht : State.enterOff { s with pins := p } [c] internal torn false = t) :
    OffFrom s t ∧ t.on c = true ∧
    t.get R.SYS_RSTCNT_COUNT = (if internal then (s.bumpSat R.SYS_RSTCNT_COUNT).get R.SYS_RSTCNT_COUNT else s.get R.SYS_RSTCNT_COUNT) ∧
    t.pins.nrst = p.nrst ∧ t.pins.supOk = p.supOk ∧ t.pins.hold = (p.hold || internal) := by
  have hregs : State.regs { s with pins := p } = s.regs := rfl
  have hotp : State.otp { s with pins := p } = s.otp := rfl
  have hsec : State.sec { s with pins := p } = s.sec := rfl
  have hwedge : State.wedge { s with pins := p } = s.wedge := rfl
  have hpend : State.pending { s with pins := p } = s.pending := rfl
  have hpins : State.pins { s with pins := p } = p := rfl
  generalize ({ s with pins := p } : State) = u at *
  have hoff := u.enterOff_off [c] internal torn
  have hcount := u.enterOff_count hc internal torn
  obtain ⟨hnrst, hsup, hhold⟩ := u.enterOff_pins [c] internal torn
  have hon := u.enterOff_on hc internal torn
  rw [ht] at hoff hcount hnrst hsup hhold hon
  unfold OffFrom at hoff ⊢
  rw [hotp, hsec, hwedge, hpend] at hoff
  rw [State.get_of_regs hregs, State.get_bumpSat_congr u s _ (State.get_of_regs hregs _)] at hcount
  rw [hpins] at hnrst hsup hhold
  exact ⟨hoff, hon, hcount, hnrst, hsup, hhold⟩

theorem isCause_railCause (rail : Fin 4) : isCause (railCause rail) := by
  unfold isCause
  fin_cases rail <;> decide

/-! ## What resets (R457, R465, R467) -/

theorem nrstAssert_resets {s : State} {ns : Nat} (hhigh : s.pins.nrst = true) (hlong : 10000 ≤ ns) :
    ∃ t, exec (.nrstAssert ns) s = .next t ∧ OffFrom s t ∧ t.on R.SYS_RSTCAUSE_NRST = true ∧
      t.get R.SYS_RSTCNT_COUNT = s.get R.SYS_RSTCNT_COUNT ∧ t.pins.nrst = false := by
  have htaken : s.nrstTaken ns = (true, s) := (if_neg (by omega)).trans (if_pos hlong)
  have hexec : exec (.nrstAssert ns) s =
      .next (State.enterOff { s with pins := { s.pins with nrst := false } } [R.SYS_RSTCAUSE_NRST] false 0 false) := by
    refine congrArg Host.Outcome.next ((if_neg (by rw [hhigh]; decide)).trans ?_)
    rw [htaken]
    rfl
  have hc : isCause R.SYS_RSTCAUSE_NRST := by
    unfold isCause
    decide
  obtain ⟨hoff, hon, hcount, hnrst, -, -⟩ := s.enterOff_resets { s.pins with nrst := false } hc false 0 rfl
  exact ⟨_, hexec, hoff, hon, hcount, hnrst⟩

theorem nrstAssert_none {s : State} {ns : Nat} (h : s.pins.nrst = false ∨ ns < 1000) : exec (.nrstAssert ns) s = .next s := by
  refine congrArg Host.Outcome.next ?_
  by_cases hlow : s.pins.nrst = false
  · exact if_pos (by rw [hlow]; decide)
  · have htaken : s.nrstTaken ns = (false, s) := if_pos (h.resolve_left hlow)
    refine (if_neg (by simpa using hlow)).trans ?_
    rw [htaken]
    rfl

/-- VSYS below its reset level leaves no carrier. -/
def State.vsysLost (s : State) (rail : Fin 4) : State :=
  if rail = 0 then { s with pins := { s.pins with noVsys := true } } else s

theorem State.vsysLost_eq (s : State) (rail : Fin 4) : ∃ b, s.vsysLost rail = { s with pins := { s.pins with noVsys := b } } := by
  unfold State.vsysLost
  split
  · exact ⟨_, rfl⟩
  · exact ⟨s.pins.noVsys, rfl⟩

/-- The supplies are noted as lost. -/
def State.supplyLost (s : State) (rail : Fin 4) : State :=
  { s.vsysLost rail with pins := { (s.vsysLost rail).pins with supOk := false } }

theorem exec_supplyReset_low {s : State} {rail : Fin 4} {mv : Nat} {torn : Fin 3} (hlow : mv < railReset rail) :
    exec (.supplyReset rail mv torn) s = .next (
      if (s.vsysLost rail).pins.supOk then (s.supplyLost rail).enterOff [railCause rail] true torn.val false
      else ((s.vsysLost rail).raise (railCause rail)).sync) :=
  congrArg Host.Outcome.next (if_neg (Nat.not_le.mpr hlow))

theorem State.supplyLost_eq (s : State) (rail : Fin 4) : s.supplyLost rail = { s with pins := (s.supplyLost rail).pins } := by
  obtain ⟨b, hlost⟩ := s.vsysLost_eq rail
  unfold State.supplyLost
  rw [hlost]

theorem supplyReset_resets {s : State} {rail : Fin 4} {mv : Nat} {torn : Fin 3} (hsup : s.pins.supOk = true) (hlow : mv < railReset rail) :
    ∃ t, exec (.supplyReset rail mv torn) s = .next t ∧ OffFrom s t ∧ t.on (railCause rail) = true ∧
      t.get R.SYS_RSTCNT_COUNT = (s.bumpSat R.SYS_RSTCNT_COUNT).get R.SYS_RSTCNT_COUNT ∧ t.pins.supOk = false := by
  have hvalid : (s.vsysLost rail).pins.supOk = true := by
    obtain ⟨b, hlost⟩ := s.vsysLost_eq rail
    rw [hlost, hsup]
  have hoff : (s.supplyLost rail).pins.supOk = false := rfl
  have hexec : exec (.supplyReset rail mv torn) s =
      .next (State.enterOff { s with pins := (s.supplyLost rail).pins } [railCause rail] true torn.val false) := by
    rw [exec_supplyReset_low hlow, if_pos hvalid, ← State.supplyLost_eq]
  obtain ⟨hreset, hon, hcount, -, hsup', -⟩ :=
    s.enterOff_resets (s.supplyLost rail).pins (isCause_railCause rail) true torn.val rfl
  exact ⟨_, hexec, hreset, hon, hcount, hsup'.trans hoff⟩

theorem supplyReset_notes {s : State} {rail : Fin 4} {mv : Nat} {torn : Fin 3} (hsup : s.pins.supOk = false) (hlow : mv < railReset rail) :
    ∃ t, exec (.supplyReset rail mv torn) s = .next t ∧ t.on (railCause rail) = true ∧ t.dev = s.dev ∧ t.otp = s.otp := by
  obtain ⟨b, hlost⟩ := s.vsysLost_eq rail
  have hexec : exec (.supplyReset rail mv torn) s =
      .next (State.raise { s with pins := { s.pins with noVsys := b } } (railCause rail)).sync := by
    rw [exec_supplyReset_low hlow, hlost]
    exact congrArg Host.Outcome.next (if_neg (by rw [hsup]; decide))
  obtain ⟨hwidth, haddr, -⟩ := isCause_railCause rail
  have hfar : far (railCause rail).key := by
    unfold far
    omega
  obtain ⟨-, -, hotp, hdev⟩ := kept_of_plane (plane_of_side
    (State.raise { s with pins := { s.pins with noVsys := b } } (railCause rail)).sync_frame)
  refine ⟨_, hexec, ?_, hdev, hotp⟩
  rw [State.on, State.sync_get _ hfar, State.raise_eq, State.get_put_self, hwidth]
  decide

theorem supplyReset_none {s : State} {rail : Fin 4} {mv : Nat} {torn : Fin 3} (hhigh : railReset rail ≤ mv)
    (h : rail ≠ 0 ∨ mv ≤ 5200 ∨ s.pins.noVsys = false) : exec (.supplyReset rail mv torn) s = .next s := by
  refine congrArg Host.Outcome.next ((if_pos hhigh).trans (if_neg ?_))
  rintro ⟨hrail, hmv, hno⟩
  rcases h with h | h | h
  · exact h hrail
  · omega
  · exact Bool.false_ne_true (h.symm.trans hno)

theorem supplyReset_back {s : State} {rail : Fin 4} {mv : Nat} {torn : Fin 3} (hhigh : railReset rail ≤ mv) (hrail : rail = 0)
    (hmv : 5200 < mv) (hno : s.pins.noVsys = true) :
    ∃ t, exec (.supplyReset rail mv torn) s = .next t ∧ t.pins.noVsys = false ∧ t.dev = s.dev ∧ t.otp = s.otp := by
  have hexec : exec (.supplyReset rail mv torn) s = .next (s.vsysBack mv).sync :=
    congrArg Host.Outcome.next ((if_pos hhigh).trans (if_pos ⟨hrail, hmv, hno⟩))
  have hback : s.vsysBack mv = { s with pins := { s.pins with noVsys := false } } := if_pos hmv
  rw [hback] at hexec
  obtain ⟨-, -, hotp, hdev⟩ := kept_of_plane (plane_of_side (State.sync_frame { s with pins := { s.pins with noVsys := false } }))
  refine ⟨_, hexec, ?_, hdev, hotp⟩
  rw [State.sync_pins]

theorem swrst_resets {s : State} {req : Requester} (hw : s.mayWrite req = true) (hreq : req ≠ .debug)
    (hdev : s.dev = .noimage ∨ s.dev = .ready) : ∃ t, exec (.swrst req 0xA5#8) s = .next t ∧ OffFrom s t ∧
      t.on R.SYS_RSTCAUSE_SWRST = true ∧ t.pins.hold = true := by
  have hexec : exec (.swrst req 0xA5#8) s = .next (s.enterOff [R.SYS_RSTCAUSE_SWRST] true 0 false) := by
    refine congrArg Host.Outcome.next ((if_neg (by rw [State.overtaken_of_mayWrite hw]; decide)).trans ((if_neg ?_).trans (if_pos ⟨rfl, hreq, ?_⟩)))
    · rw [hw, State.busUp_of_mayWrite hw]
      decide
    · exact hdev.elim Or.inl fun h => Or.inr (Or.inl h)
  have hc : isCause R.SYS_RSTCAUSE_SWRST := by
    unfold isCause
    decide
  have hself : ({ s with pins := s.pins } : State) = s := rfl
  obtain ⟨hoff, hon, -, -, -, hhold⟩ :=
    s.enterOff_resets s.pins hc true 0 (congrArg (·.enterOff [R.SYS_RSTCAUSE_SWRST] true 0 false) hself)
  exact ⟨_, hexec, hoff, hon, hhold.trans (Bool.or_true _)⟩

/-- A reset request with a wrong key is rejected (R467, R468). -/
theorem reset_wrongKey {s : State} {req : Requester} {key : BitVec 8} (hw : s.mayWrite req = true) (hkey : key ≠ 0xA5#8) :
    exec (.swrst req key) s = .next (s.raise R.SYS_RSTCTL_RSTREJ) ∧ exec (.dprst req key) s = .next (s.raise R.SYS_RSTCTL_RSTREJ) := by
  have hup : ¬(!s.busUp || !s.mayWrite req) = true := by
    rw [hw, State.busUp_of_mayWrite hw]
    decide
  refine ⟨congrArg Host.Outcome.next ((if_neg ?_).trans ((if_neg hup).trans (if_neg fun h => hkey h.1))),
    congrArg Host.Outcome.next ((if_neg hup).trans (if_neg fun h => hkey h.1))⟩
  rw [State.overtaken_of_mayWrite hw]
  decide

/-- Settles O40: every reset takes the one way into OFF, by which the causes are recorded, what is in progress is cut short, and the rest is wiped. -/
theorem resetsEnterOff : Obligations.ResetsEnterOff := by
  unfold Obligations.ResetsEnterOff
  intro s rail ns mv torn req key off
  refine ⟨nrstAssert_resets, nrstAssert_none, supplyReset_resets, supplyReset_notes,
    fun hhigh => ⟨supplyReset_none hhigh, supplyReset_back hhigh⟩, fun hw _ => ⟨fun hkey hreq hdev => ?_, reset_wrongKey hw⟩⟩
  subst hkey
  exact swrst_resets hw hreq hdev

end Sys2Proof.Machine
end

section
/-! PROOFS. Run requests, stops and missing turns (R38–R42, R54, R77, R78, R107, R108). -/

namespace Sys2Proof.Machine

open Sys2Proof

/-! ## The conditions of R39, in order -/

/-- The code of the first entry that fails, 0 where none does. -/
def firstCode (l : List (Bool × Nat)) : Nat := ((l.find? (·.1)).map (·.2)).getD 0

theorem firstCode_cons (b : Bool) (c : Nat) (l : List (Bool × Nat)) : firstCode ((b, c) :: l) = if b then c else firstCode l := by
  cases b <;> rfl

theorem firstCode_none {l : List (Bool × Nat)} (h : l.find? (fun p => p.1) = none) : firstCode l = 0 := by
  unfold firstCode
  rw [h]
  rfl

theorem firstCode_some {l : List (Bool × Nat)} {c : Bool × Nat} (h : l.find? (fun p => p.1) = some c) : firstCode l = c.2 := by
  unfold firstCode
  rw [h]
  rfl

/-- The conditions that R39 lists, each with its code; the state is one in which it fails. -/
def State.runFailings (s : State) : List (Bool × Nat) := [(decide (s.dev ≠ .ready), 1), (s.entering && !s.enteredNow, 7),
  ((List.range s.nIsl).any fun i => !s.legUnused (legOfIsl i) && !s.on (R.ISL_LSTAT_TRAINED i), 2),
  (!s.on R.ADC_CAL_DONE || (List.range 8).any fun g => decide (s.get (R.ADC_GCFG_SRC g) = 1) &&
    (List.range s.nConv).any fun k => s.bit (R.ADC_GCFG_MEMBERS g) k && s.bit R.ADC_CAL_FAIL k, 3),
  (s.usedInvs.any fun v => decide (s.get (R.SAGGAR_LATCH_INPUTS v) ≠ 0), 4),
  (s.usedInvs.any fun _ => s.on R.SAGGAR_STAT_PRESTALE, 5),
  (s.on R.SAGGAR_REQ_SSREQA || s.on R.SAGGAR_REQ_SSREQB, 6)]

theorem State.legsTrained_not (s : State) :
    (!s.legsTrained) = (List.range s.nIsl).any fun i => !s.legUnused (legOfIsl i) && !s.on (R.ISL_LSTAT_TRAINED i) := by
  simp only [State.legsTrained, List.not_all_eq_any_not, Bool.not_or]

theorem State.usedInvs_stale (s : State) :
    (s.stale && !s.usedInvs.isEmpty) = s.usedInvs.any fun _ => s.on R.SAGGAR_STAT_PRESTALE := by
  unfold State.stale
  cases s.usedInvs with
  | nil => simp
  | cons v l => cases s.on R.SAGGAR_STAT_PRESTALE <;> simp

/-- The refusal of a run request is the first failing condition. -/
theorem State.runRefusal_eq (s : State) : s.runRefusal = firstCode s.runFailings := by
  simp only [State.runRefusal, State.runFailings, firstCode_cons, ← State.legsTrained_not, ← State.usedInvs_stale, decide_eq_true_eq]
  rfl

/-- Every code of the list is one of R39. -/
theorem State.runFailings_code (s : State) {c : Bool × Nat} (h : s.runFailings.find? (fun p => p.1) = some c) : c.2 ≠ 0 := by
  have hmem := List.mem_of_find?_eq_some h
  simp only [State.runFailings, List.mem_cons, List.not_mem_nil, or_false] at hmem
  rcases hmem with rfl | rfl | rfl | rfl | rfl | rfl | rfl <;> exact Nat.succ_ne_zero _

/-! ## Run requests (R38–R40) -/

theorem exec_runRequest {s : State} {req : Requester} (hw : s.mayWrite req = true) (hreq : req ≠ .debug) (hpre : s.preempted 3 = false) :
    exec (.runRequest req false) s =
      .next (if s.runRefusal ≠ 0 then s.put R.SYS_RUNCTL_REFUSE s.runRefusal else s.runTaken) :=
  congrArg Host.Outcome.next ((if_neg (by rw [State.overtaken_of_mayWrite hw]; decide)).trans ((if_neg (by rw [hw]; decide)).trans
    ((if_neg (by decide)).trans ((if_neg hreq).trans (if_neg (by rw [hpre]; decide))))))

theorem runRequest_refused {s : State} {req : Requester} (hw : s.mayWrite req = true) (hreq : req ≠ .debug) (hpre : s.preempted 3 = false)
    {c : Bool × Nat} (h : s.runFailings.find? (fun p => p.1) = some c) :
    exec (.runRequest req false) s = .next (s.put R.SYS_RUNCTL_REFUSE c.2) := by
  have hcode : s.runRefusal = c.2 := s.runRefusal_eq.trans (firstCode_some h)
  rw [exec_runRequest hw hreq hpre, hcode, if_pos (s.runFailings_code h)]

theorem runRequest_taken {s : State} {req : Requester} (hw : s.mayWrite req = true) (hreq : req ≠ .debug) (hpre : s.preempted 3 = false)
    (h : s.runFailings.find? (fun p => p.1) = none) :
    exec (.runRequest req false) s = .next { (s.takeCause 3).bistLost.clear R.SYS_RUNCTL_REFUSE with runDue := true } := by
  have hcode : s.runRefusal = 0 := s.runRefusal_eq.trans (firstCode_none h)
  rw [exec_runRequest hw hreq hpre, hcode, if_neg (by decide)]
  rfl

theorem runRequest_debug {s : State} (hw : s.mayWrite .debug = true) : exec (.runRequest .debug false) s = .next s :=
  congrArg Host.Outcome.next ((if_neg (by rw [State.overtaken_of_mayWrite hw]; decide)).trans ((if_neg (by rw [hw]; decide)).trans
    ((if_neg (by decide)).trans (if_pos rfl))))

/-- A run request after a cause that outranks it in its FABCLK cycle. -/
theorem runRequest_preempted {s : State} {req : Requester} (hw : s.mayWrite req = true) (hreq : req ≠ .debug)
    (hpre : s.preempted 3 = true) : exec (.runRequest req false) s = .next (s.put R.SYS_RUNCTL_REFUSE 0xA) :=
  congrArg Host.Outcome.next ((if_neg (by rw [State.overtaken_of_mayWrite hw]; decide)).trans ((if_neg (by rw [hw]; decide)).trans
    ((if_neg (by decide)).trans ((if_neg hreq).trans (if_pos hpre)))))

/-! ## Stop requests (R41) -/

/-- A cause discards at most one request, which it leaves refused. -/
theorem State.takeCause_cases (s : State) (p : Nat) : ∃ t, s.takeCause p = { t with cause := some (t.fab, p) } ∧
    (t = s ∨ t = s.dropEntry.put R.PWR_BSTAT_REJ 5 ∨ t = s.dropRun ∨ t = s.put R.SYS_RUNCTL_REFUSE 0xA) := by
  unfold State.takeCause
  refine ⟨_, rfl, ?_⟩
  split
  · split
    · split
      · exact Or.inr (Or.inl rfl)
      · split
        · exact Or.inr (Or.inr (Or.inl rfl))
        · exact Or.inr (Or.inr (Or.inr rfl))
    · exact Or.inl rfl
  · exact Or.inl rfl

theorem State.takeCause_stop (s : State) (p : Nat) : (s.takeCause p).get R.SYS_RUNCTL_STOP = s.get R.SYS_RUNCTL_STOP := by
  have hentry : s.dropEntry.get R.SYS_RUNCTL_STOP = s.get R.SYS_RUNCTL_STOP := by
    unfold State.dropEntry
    split
    · exact (State.get_clear_ne _ R.PWR_BSTAT_BUSY _ (by decide)).trans (State.get_clear_ne _ R.PWR_BSTAT_STEP _ (by decide))
    · rfl
  have hrun : s.dropRun.get R.SYS_RUNCTL_STOP = s.get R.SYS_RUNCTL_STOP := by
    unfold State.dropRun
    split
    · exact State.get_put_ne _ R.SYS_RUNCTL_REFUSE _ _ (by decide)
    · rfl
  obtain ⟨t, htake, ht⟩ := s.takeCause_cases p
  have hget : (s.takeCause p).get R.SYS_RUNCTL_STOP = t.get R.SYS_RUNCTL_STOP := by
    rw [htake]
    rfl
  rw [hget]
  rcases ht with rfl | rfl | rfl | rfl
  · rfl
  · exact (State.get_put_ne _ _ _ _ (by decide)).trans hentry
  · exact hrun
  · exact State.get_put_ne _ _ _ _ (by decide)

theorem exec_stopRequest {s : State} {req : Requester} (hw : s.mayWrite req = true) (hpre : s.preempted 2 = false) :
    exec (.stopRequest req false) s = .next (if s.dev = .ready then s.takeCause 2 else if s.dev ≠ .run then s else
      let s := ((s.takeCause 2).clear R.SYS_RUNCTL_REFUSE)
      if s.stopping then s else { s.raise R.SYS_RUNCTL_STOP with stopAt := s.cycle }) :=
  congrArg Host.Outcome.next ((if_neg (by rw [State.overtaken_of_mayWrite hw]; decide)).trans ((if_neg (by rw [hw]; decide)).trans
    ((if_neg (by decide)).trans (if_neg (by rw [hpre]; decide)))))

theorem stopRequest_run {s : State} {req : Requester} (hw : s.mayWrite req = true) (hpre : s.preempted 2 = false) (hdev : s.dev = .run) :
    exec (.stopRequest req false) s = .next (if s.stopping then (s.takeCause 2).clear R.SYS_RUNCTL_REFUSE else
      { ((s.takeCause 2).clear R.SYS_RUNCTL_REFUSE).raise R.SYS_RUNCTL_STOP with stopAt := s.cycle }) := by
  have hstop : ((s.takeCause 2).clear R.SYS_RUNCTL_REFUSE).stopping = s.stopping := by
    simp only [State.stopping, State.on, State.get_clear_ne _ R.SYS_RUNCTL_REFUSE R.SYS_RUNCTL_STOP (by decide), State.takeCause_stop]
  have hcycle : ((s.takeCause 2).clear R.SYS_RUNCTL_REFUSE).cycle = s.cycle := congrArg Plane.cycle (s.takeCause_plane 2)
  rw [exec_stopRequest hw hpre, if_neg (by rw [hdev]; decide), if_neg (by rw [hdev]; decide)]
  dsimp only
  rw [hstop, hcycle]

theorem stopRequest_ready {s : State} {req : Requester} (hw : s.mayWrite req = true) (hpre : s.preempted 2 = false)
    (hdev : s.dev = .ready) : exec (.stopRequest req false) s = .next (s.takeCause 2) := by
  rw [exec_stopRequest hw hpre, if_pos hdev]

theorem stopRequest_other {s : State} {req : Requester} (hw : s.mayWrite req = true) (hpre : s.preempted 2 = false)
    (hrun : s.dev ≠ .run) (hready : s.dev ≠ .ready) : exec (.stopRequest req false) s = .next s := by
  rw [exec_stopRequest hw hpre, if_neg hready, if_pos hrun]

/-- A stop request discards the run request of its FABCLK cycle. -/
theorem State.takeCause_dropsRun {s : State} (hdue : s.runDue = true) (hcause : s.cause = some (s.fab, 3)) :
    (s.takeCause 2).runDue = false ∧ (s.takeCause 2).get R.SYS_RUNCTL_REFUSE = 0xA := by
  have hdrop : s.takeCause 2 = { s.dropRun with cause := some (s.dropRun.fab, 2) } := by
    unfold State.takeCause
    simp [hcause]
  have hrun : s.dropRun = { s with runDue := false }.put R.SYS_RUNCTL_REFUSE 0xA := if_pos hdue
  have hget : (s.takeCause 2).get R.SYS_RUNCTL_REFUSE = s.dropRun.get R.SYS_RUNCTL_REFUSE := by
    rw [hdrop]
    rfl
  have hkept : (s.takeCause 2).runDue = s.dropRun.runDue := by rw [hdrop]
  rw [hget, hkept, hrun]
  exact ⟨rfl, State.get_put_self ..⟩

/-- A cause taken outranks, in its FABCLK cycle, whatever comes after it with a greater number. -/
theorem State.takeCause_preempts (s : State) {p q : Nat} (h : p < q) : (s.takeCause p).preempted q = true := by
  obtain ⟨t, htake, -⟩ := s.takeCause_cases p
  rw [htake]
  simp [State.preempted, State.fab, h]

/-- What a stop request in READY leaves: no run request, and those after it in its FABCLK cycle are refused. -/
theorem stopRequest_then_run (s : State) {r : Requester} (hw : (s.takeCause 2).mayWrite r = true) (hr : r ≠ .debug) :
    exec (.runRequest r false) (s.takeCause 2) = .next ((s.takeCause 2).put R.SYS_RUNCTL_REFUSE 0xA) :=
  runRequest_preempted hw hr (s.takeCause_preempts (by decide))

/-! ## What an operation done for every index brings about -/

/-- What the operation leaves standing for each index of the list still stands. -/
theorem State.each_stands {P : State → Prop} {f : State → Nat → State} {l : List Nat} (hf : ∀ i ∈ l, ∀ t, P t → P (f t i)) {s : State}
    (hs : P s) : P (s.each l f) := by
  induction l generalizing s with
  | nil => exact hs
  | cons i l ih => exact ih (fun j hj => hf j (List.mem_cons_of_mem _ hj)) (hf i List.mem_cons_self s hs)

/-- What each index's operation brings about and every other one leaves holds of the indices of the list. -/
theorem State.each_all {P : Nat → State → Prop} {f : State → Nat → State} {l : List Nat} (hset : ∀ i ∈ l, ∀ t, P i (f t i))
    (hkeep : ∀ i ∈ l, ∀ j ∈ l, ∀ t, P i t → P i (f t j)) (s : State) {i : Nat} (hi : i ∈ l) : P i (s.each l f) := by
  have hstands := hkeep i hi
  obtain ⟨a, b, rfl⟩ := List.append_of_mem hi
  have hsplit : s.each (a ++ i :: b) f = (f (s.each a f) i).each b f := List.foldl_append ..
  rw [hsplit]
  exact State.each_stands (fun j hj => hstands j (List.mem_append_right _ (List.mem_cons_of_mem _ hj))) (hset i hi _)

/-! ## Every loop OPEN (R40, R78) -/

theorem State.enterLoop_state (s : State) (l j : Nat) : (s.enterLoop l 0 false).loopState j = if j = l then 0 else s.loopState j := by
  have hforced : (R.LOOP_LSTAT_FORCED l).key ≠ (R.LOOP_LSTAT_STATE j).key := by
    simp only [Fld.key, R.LOOP_LSTAT_FORCED, R.LOOP_LSTAT_STATE]
    omega
  unfold State.enterLoop State.loopState
  rw [State.putB_eq, State.get_put_ne _ _ _ _ hforced]
  split
  · next h =>
    rw [h, State.get_put_self]
    rfl
  · next h =>
    refine State.get_put_ne _ _ _ _ ?_
    simp only [Fld.key, R.LOOP_LSTAT_STATE]
    omega

theorem State.holdEval_state (s : State) (l : Nat) : s.holdEval.loopState l = s.loopState l := by
  have hne (v : Nat) (hv : v < 2) : (R.LOOP_INVCFG_HOLD v).key ≠ (R.LOOP_LSTAT_STATE l).key := by
    simp only [Fld.key, R.LOOP_INVCFG_HOLD, R.LOOP_LSTAT_STATE]
    omega
  unfold State.holdEval State.loopState
  rw [State.putB_eq, State.get_put_ne _ _ _ _ (hne 1 (by decide)), State.putB_eq, State.get_put_ne _ _ _ _ (hne 0 (by decide))]

/-- Loops entered OPEN one after the other are OPEN. -/
theorem State.loopsLeaveRun_open (s : State) {l : Nat} (hl : l < 8) : s.loopsLeaveRun.loopState l = 0 := by
  refine (State.holdEval_state _ l).trans ?_
  refine State.each_all (P := fun i t => t.loopState i = 0) (fun i _ t => ?_) (fun i _ j _ t ht => ?_) s (List.mem_range.mpr hl)
  · rw [State.enterLoop_state, if_pos rfl]
  · rw [State.enterLoop_state, ht, ite_self]

theorem State.rampRunEntry_state (s : State) {l : Nat} (_ : l < 8) : s.rampRunEntry.loopState l = s.loopState l := by
  refine State.each_keeps (·.loopState l) _ (fun t u => ?_) _ s
  have hrout : (R.LOOP_ROUT_VALUE u).key ≠ (R.LOOP_LSTAT_STATE l).key := by
    simp only [Fld.key, R.LOOP_ROUT_VALUE, R.LOOP_LSTAT_STATE]
    omega
  have hrtgt : (R.LOOP_RTGT_VALUE u).key ≠ (R.LOOP_LSTAT_STATE l).key := by
    simp only [Fld.key, R.LOOP_RTGT_VALUE, R.LOOP_LSTAT_STATE]
    omega
  exact (State.get_put_ne _ _ _ _ hrtgt).trans (State.get_put_ne _ _ _ _ hrout)

theorem State.rcu_loopState (s : State) (x : Rcu) (l : Nat) : State.loopState { s with rcu := x } l = s.loopState l := rfl

theorem State.loopsRunEntry_open (s : State) {l : Nat} (hl : l < 8) : s.loopsRunEntry.loopState l = 0 := by
  have hclear (t : State) (c : Nat) :
      ((t.clear (R.RCU_CNT_FRZCNT c)).clear (R.RCU_CNT_LRNCNT c)).loopState l = t.loopState l := by
    have hfrz : (R.RCU_CNT_FRZCNT c).key ≠ (R.LOOP_LSTAT_STATE l).key := by
      simp only [Fld.key, R.RCU_CNT_FRZCNT, R.LOOP_LSTAT_STATE]
      omega
    have hlrn : (R.RCU_CNT_LRNCNT c).key ≠ (R.LOOP_LSTAT_STATE l).key := by
      simp only [Fld.key, R.RCU_CNT_LRNCNT, R.LOOP_LSTAT_STATE]
      omega
    exact (State.get_clear_ne _ _ _ hlrn).trans (State.get_clear_ne _ _ _ hfrz)
  have hset (t : State) (i j : Nat) (x : LoopSt) : State.loopState (t.setLoop i x) j = t.loopState j := rfl
  have hopen : (s.each (List.range 8) fun s l => (s.enterLoop l 0 false).setLoop l {}).loopState l = 0 := by
    refine State.each_all (P := fun i t => t.loopState i = 0) (fun i _ t => ?_) (fun i _ j _ t ht => ?_) s (List.mem_range.mpr hl)
    · rw [hset, State.enterLoop_state, if_pos rfl]
    · rw [hset, State.enterLoop_state, ht, ite_self]
  unfold State.loopsRunEntry
  extract_lets u v r w x
  have hu : u.loopState l = 0 := hopen
  clear_value u
  have hv : v.loopState l = 0 := (State.rampRunEntry_state u hl).trans hu
  clear_value v
  have hw : w.loopState l = 0 := (State.rcu_loopState v r l).trans hv
  clear_value w
  have hx : x.loopState l = 0 := (State.each_keeps (·.loopState l) _ hclear _ w).trans hw
  exact (State.holdEval_state x l).trans hx

/-! ## RUN begins (R40, R54) -/

/-- The outputs of the legs move, of the registers, the shoot-through requests of PWM. -/
theorem State.outputs_get (s : State) (n : Nat) {f : Fld} (hf : f.key < 0x40300000 * 32 ∨ 0x40310000 * 32 ≤ f.key) :
    (s.outputs n).get f = s.get f := by
  have haux (t : State) (i : Nat) : (t.auxEval n i).get f = t.get f := by
    unfold State.auxEval
    split <;> rfl
  have hpresent (t : State) (a i : Nat) (on : Bool) : (t.present a i on).get f = t.get f := by
    unfold State.present
    split <;> rfl
  have hdrive (t : State) (a i : Nat) : (t.legDrive a i).get f = t.get f := (hpresent _ _ _ _).trans (hpresent _ _ _ _)
  have hresolve (t : State) (i : Nat) (hi : i < 6) : (t.legResolve i n).2.get f = t.get f := by
    unfold State.legResolve
    dsimp only
    split
    · refine State.get_put_ne _ _ _ _ ?_
      simp only [Fld.key, R.PWM_GSTAT_SHOOT_REQ] at hf ⊢
      omega
    · rfl
  have hleg (t : State) (i : Nat) (hi : i < 6) : (t.legEval n i).get f = t.get f := by
    unfold State.legEval
    split
    · rfl
    · exact (hdrive _ _ _).trans (hresolve t i hi)
  refine (haux _ 7).trans ((haux _ 6).trans (State.each_keeps_mem (·.get f) _ _ (fun i hi t => hleg t i ?_) s))
  have hinv := s.nInv_le
  have hlt := List.mem_range.mp hi
  unfold State.nLeg at hlt
  omega

/-- What the start of a run leaves of the Wheel: its registers and loops cleared, its turns not counted. -/
def RunCleared (s t : State) : Prop :=
  t.wheel = s.wheel.cleared ∧ t.mem = s.mem ∧ t.runDue = s.runDue ∧ t.cycle = s.cycle ∧ t.get R.WHEEL_TURNCNT_COUNT = 0

theorem RunCleared.clear {s t : State} (h : RunCleared s t) {f : Fld} (hf : f.key ≠ R.WHEEL_TURNCNT_COUNT.key) :
    RunCleared s (t.clear f) := by
  obtain ⟨hwheel, hmem, hdue, hcycle, hcnt⟩ := h
  exact ⟨hwheel, hmem, hdue, hcycle, (State.get_clear_ne _ _ _ hf).trans hcnt⟩

theorem RunCleared.begin (s : State) : RunCleared s ({ s with wheel := s.wheel.cleared }.clear R.WHEEL_TURNCNT_COUNT) :=
  ⟨rfl, rfl, rfl, rfl, (State.get_put_self ..).trans (Nat.zero_mod _)⟩

/-- The instant from which the first match is awaited is the last of it. -/
theorem RunCleared.matchAwaited {s u : State} (h : RunCleared s u) {t : State} {c : Cone}
    (ht : t = { u with cone := c, wheel := { u.wheel with matchAt := u.cycle } }) :
    t.wheel = { s.wheel.cleared with matchAt := s.cycle } ∧ t.mem = s.mem ∧ t.runDue = s.runDue ∧ t.get R.WHEEL_TURNCNT_COUNT = 0 := by
  obtain ⟨hwheel, hmem, hdue, hcycle, hcnt⟩ := h
  have hget : t.get R.WHEEL_TURNCNT_COUNT = u.get R.WHEEL_TURNCNT_COUNT := by
    rw [ht]
    rfl
  refine ⟨?_, ?_, ?_, hget.trans hcnt⟩
  · rw [ht, ← hwheel, ← hcycle]
  · rw [ht, ← hmem]
  · rw [ht, ← hdue]

/-- The Wheel begins a run. -/
theorem State.wheelRunEntry_clears (s : State) : s.wheelRunEntry.wheel = { s.wheel.cleared with matchAt := s.cycle } ∧
    s.wheelRunEntry.mem = s.mem ∧ s.wheelRunEntry.runDue = s.runDue ∧ s.wheelRunEntry.get R.WHEEL_TURNCNT_COUNT = 0 := by
  have hseq (u : State) (w : Nat) (h : RunCleared s u) : RunCleared s (u.clear (R.XWIN_STAT_SEQ w)) := by
    refine h.clear ?_
    simp only [Fld.key, R.XWIN_STAT_SEQ, R.WHEEL_TURNCNT_COUNT]
    omega
  have hexc (u : State) (x : Nat) (h : RunCleared s u) : RunCleared s (u.excUnlock x) := by
    obtain ⟨hwheel, hmem, hdue, hcycle, hcnt⟩ := h
    have hget : (u.excUnlock x).get R.WHEEL_TURNCNT_COUNT = u.get R.WHEEL_TURNCNT_COUNT := rfl
    exact ⟨hwheel, hmem, hdue, hcycle, hget.trans hcnt⟩
  unfold State.wheelRunEntry
  extract_lets a b c u v w
  have ha : RunCleared s a := ((RunCleared.begin s).clear (by decide)).clear (by decide)
  have hb : RunCleared s b := ((ha.clear (by decide)).clear (by decide)).clear (by decide)
  have hu : RunCleared s u := State.each_stands (fun x _ t => hexc t x) (State.each_stands (fun w _ t => hseq t w) hb)
  exact hu.matchAwaited rfl

theorem State.runTick_runs {s : State} (hdue : s.runDue = true) (hdev : s.dev = .ready) (heven : s.cycle % 2 = 0) :
    s.runTick = s.enterRun :=
  if_pos (by rw [hdue, hdev, heven]; rfl)

/-- The state as RUN begins, before PWM and the loops follow. -/
def State.runBegun (s : State) : State := ({ s with runDue := false }.relock.wheelRunEntry).setDev .run

theorem State.enterRun_eq (s : State) : s.enterRun = (s.runBegun.pwmRunEntry.loopsRunEntry.outputs 0).sync := rfl

theorem State.runBegun_begins (s : State) : s.runBegun.dev = .run ∧ s.runBegun.runDue = false ∧
    s.runBegun.wheel = { s.wheel.cleared with matchAt := s.cycle } ∧ s.runBegun.mem = s.mem ∧
    s.runBegun.get R.WHEEL_TURNCNT_COUNT = 0 := by
  have hstart : State.wheel (State.relock { s with runDue := false }) = s.wheel ∧ State.mem (State.relock { s with runDue := false }) = s.mem ∧
      State.cycle (State.relock { s with runDue := false }) = s.cycle ∧ State.runDue (State.relock { s with runDue := false }) = false :=
    ⟨rfl, rfl, rfl, rfl⟩
  unfold State.runBegun
  generalize State.relock { s with runDue := false } = a at *
  obtain ⟨hwheel, hmem, hcycle, hdue⟩ := hstart
  obtain ⟨hw, hm, hd, hcnt⟩ := a.wheelRunEntry_clears
  rw [hwheel, hcycle] at hw
  generalize a.wheelRunEntry = b at *
  obtain ⟨m, hset⟩ := b.setDev_eq .run
  obtain ⟨hw', hm', -⟩ := b.setDev_kept .run
  refine ⟨b.setDev_dev .run, ?_, hw'.trans hw, hm'.trans (hm.trans hmem), ?_⟩
  · rw [hset]
    exact hd.trans hdue
  · exact (b.setDev_get .run (by decide) (by decide)).trans hcnt

/-- RUN begins with what the Wheel, PWM and the loops begin with. -/
theorem State.enterRun_runs (s : State) : s.enterRun.dev = .run ∧ s.enterRun.runDue = false ∧
    s.enterRun.wheel = { s.wheel.cleared with matchAt := s.cycle } ∧ s.enterRun.mem = s.mem ∧
    s.enterRun.get R.WHEEL_TURNCNT_COUNT = 0 ∧ ∀ l < 8, s.enterRun.loopState l = 0 := by
  obtain ⟨hdev, hdue, hwheel, hmem, hcnt⟩ := s.runBegun_begins
  rw [State.enterRun_eq]
  generalize s.runBegun = u at *
  have hside : (u.pwmRunEntry.loopsRunEntry.outputs 0).sync.side = u.side :=
    (State.sync_frame _).trans ((State.outputs_frame _ _).trans ((State.loopsRunEntry_frame _).trans u.pwmRunEntry_frame))
  obtain ⟨hw, hm, -, hd⟩ := kept_of_plane (plane_of_side hside)
  have hopen (l : Nat) (hl : l < 8) : u.pwmRunEntry.loopsRunEntry.loopState l = 0 := State.loopsRunEntry_open _ hl
  have hget (l : Nat) (hl : l < 8) : (u.pwmRunEntry.loopsRunEntry.outputs 0).sync.loopState l = 0 := by
    have hfar : far (R.LOOP_LSTAT_STATE l).key := by
      simp only [far, Fld.key, R.LOOP_LSTAT_STATE]
      omega
    have hout : (R.LOOP_LSTAT_STATE l).key < 0x40300000 * 32 ∨ 0x40310000 * 32 ≤ (R.LOOP_LSTAT_STATE l).key := by
      unfold far at hfar
      omega
    exact (State.sync_get _ hfar).trans ((State.outputs_get _ 0 hout).trans (hopen l hl))
  generalize (u.pwmRunEntry.loopsRunEntry.outputs 0).sync = t at *
  have hdue' : t.runDue = u.runDue := congrArg (·.noted.still.runDue) hside
  have hcnt' : t.get R.WHEEL_TURNCNT_COUNT = u.get R.WHEEL_TURNCNT_COUNT :=
    get_of_still (congrArg (·.noted.still) hside) (by unfold hidden; decide)
  exact ⟨hd.trans hdev, hdue'.trans hdue, hw.trans hwheel, hm.trans hmem, hcnt'.trans hcnt, hget⟩

/-! ## The latches of the Saggar -/

theorem State.latchBits_latch (s : State) {v : Nat} (hv : v < 2) (bits : Nat) :
    (s.latchBits v bits).get (R.SAGGAR_LATCH_INPUTS v) = (s.get (R.SAGGAR_LATCH_INPUTS v) ||| bits) % 2 ^ 29 := by
  have hfirst : (R.SAGGAR_FIRST_INPUTS v).key ≠ (R.SAGGAR_LATCH_INPUTS v).key := by
    simp only [Fld.key, R.SAGGAR_FIRST_INPUTS, R.SAGGAR_LATCH_INPUTS]
    omega
  have htrip : (R.SAGGAR_TRIPTS_TSC v).key ≠ (R.SAGGAR_LATCH_INPUTS v).key := by
    simp only [Fld.key, R.SAGGAR_TRIPTS_TSC, R.SAGGAR_LATCH_INPUTS]
    omega
  have hout : (R.SAGGAR_LATCH_INPUTS v).key < 0x40300000 * 32 ∨ 0x40310000 * 32 ≤ (R.SAGGAR_LATCH_INPUTS v).key := by
    simp only [Fld.key, R.SAGGAR_LATCH_INPUTS]
    omega
  have hwidth : (R.SAGGAR_LATCH_INPUTS v).width = 29 := rfl
  simp only [State.latchBits, State.captureFirst_get _ hfirst htrip, State.forceLoops_get, State.fire_get, State.pwmTrip_get _ hv hout,
    get_update, ite_self, State.get_put_self, hwidth]

/-- The latch of inverter `v` shows bit `b`. -/
def Latched (b v : Nat) (s : State) : Prop := s.bit (R.SAGGAR_LATCH_INPUTS v) b = true

theorem State.latchBits_sets (s : State) {v b bits : Nat} (hv : v < 2) (hb : b < 29) (hbits : bits.testBit b = true) :
    Latched b v (s.latchBits v bits) := by
  unfold Latched State.bit
  rw [State.latchBits_latch s hv, Nat.testBit_mod_two_pow, Nat.testBit_or, hbits, decide_eq_true hb, Bool.or_true]
  rfl

/-- A latch that is set stays set when others are. -/
theorem Latched.latchBits {b v : Nat} {s : State} (h : Latched b v s) (hv : v < 2) (hb : b < 29) {w : Nat} (hw : w < 2) (bits : Nat) :
    Latched b v (s.latchBits w bits) := by
  unfold Latched State.bit at h ⊢
  by_cases hvw : w = v
  · subst hvw
    rw [State.latchBits_latch s hw, Nat.testBit_mod_two_pow, Nat.testBit_or, h, decide_eq_true hb]
    rfl
  · rw [State.latchBits_get s hw bits ?_ ?_ ?_ ?_, h] <;>
      simp only [Fld.key, R.SAGGAR_LATCH_INPUTS, R.SAGGAR_FIRST_INPUTS, R.SAGGAR_TRIPTS_TSC] <;> omega

theorem Latched.of_get {b v : Nat} {s t : State} (h : Latched b v s)
    (hget : t.get (R.SAGGAR_LATCH_INPUTS v) = s.get (R.SAGGAR_LATCH_INPUTS v)) : Latched b v t := by
  unfold Latched State.bit at h ⊢
  rw [hget, h]

/-- Where the Saggar acts, a latch stays set. -/
theorem Latched.sync {b v : Nat} {s : State} (h : Latched b v s) (hdev : s.dev = .ready) (hv : v < 2) (hb : b < 29) : Latched b v s.sync := by
  obtain ⟨-, -, -, hkept⟩ := kept_of_plane (plane_of_side s.judgeAll_frame)
  have hacts : s.judgeAll.sagActs = true := by
    unfold State.sagActs
    rw [hkept, hdev]
  have hsag : s.sagSync = (s.judgeAll.each (List.range s.judgeAll.nInv) State.latchInputs).dischStart := if_pos hacts
  have hjudged : Latched b v s.judgeAll := h.of_get (s.judgeAll_get _)
  have hin : Latched b v (s.judgeAll.each (List.range s.judgeAll.nInv) State.latchInputs) :=
    State.each_stands (fun w hw t ht => ht.latchBits hv hb (Nat.lt_of_lt_of_le (List.mem_range.mp hw) (State.nInv_le _)) _) hjudged
  have hdone : R.CONE_DISCH_DONE.key ≠ (R.SAGGAR_LATCH_INPUTS v).key := by
    simp only [Fld.key, R.CONE_DISCH_DONE, R.SAGGAR_LATCH_INPUTS]
    omega
  refine Latched.of_get (s := s.sagSync) ?_ (State.each_keeps (·.get (R.SAGGAR_LATCH_INPUTS v)) _ (fun t i => t.sendSymbol_get i _) _ _)
  rw [hsag]
  exact hin.of_get (State.dischStart_get _ hdone)

/-! ## RUN ends (R41, R78) -/

theorem State.loopsLeaveRun_get (s : State) {f : Fld} (hf : f.key < 0x40500000 * 32) : s.loopsLeaveRun.get f = s.get f := by
  have hput (t : State) (g : Fld) (x : Nat) (hg : 0x40500000 * 32 ≤ g.key) : (t.put g x).get f = t.get f :=
    State.get_put_ne _ _ _ _ (by omega)
  have hhold (v : Nat) : 0x40500000 * 32 ≤ (R.LOOP_INVCFG_HOLD v).key := by
    simp only [Fld.key, R.LOOP_INVCFG_HOLD]
    omega
  have hstate (l : Nat) : 0x40500000 * 32 ≤ (R.LOOP_LSTAT_STATE l).key := by
    simp only [Fld.key, R.LOOP_LSTAT_STATE]
    omega
  have hforced (l : Nat) : 0x40500000 * 32 ≤ (R.LOOP_LSTAT_FORCED l).key := by
    simp only [Fld.key, R.LOOP_LSTAT_FORCED]
    omega
  refine (hput _ _ _ (hhold 1)).trans ((hput _ _ _ (hhold 0)).trans (State.each_keeps (·.get f) _ (fun t l => ?_) _ s))
  exact (hput _ _ _ (hforced l)).trans ((hput _ _ _ (hstate l)).trans rfl)

theorem State.pwmOff_get (s : State) {f : Fld} (hf : R.PWM_DBG_FROZEN.key ≠ f.key) : s.pwmOff.get f = s.get f := by
  have hpresent (t : State) (a i : Nat) (on : Bool) : (t.present a i on).get f = t.get f := by
    unfold State.present
    split <;> rfl
  have hleg (t : State) (i : Nat) : (t.legOff i).get f = t.get f := (hpresent _ _ _ _).trans ((hpresent _ _ _ _).trans rfl)
  have hclear (t : State) : (t.clear R.PWM_DBG_FROZEN).get f = t.get f := State.get_clear_ne _ _ _ hf
  have hgen (t : State) (i : Nat) (g : Gen) : (t.setGen i g).get f = t.get f := rfl
  unfold State.pwmOff
  simp only [hgen, hclear, get_update]
  exact State.each_keeps (·.get f) _ hleg _ s

/-- The state as RUN ends, before the loops and PWM follow. -/
def State.runStopped (s : State) : State :=
  let s := { s with wheel := { s.wheel with
      turning := false, idle := false, dbgHalted := false, stepping := false, matched := false,
      jump := none, loops := [], slowTodo := [], inSlow := none } }
  let s := s.later (max s.cycle s.wheel.pushDue) .packetsEnd
  let s := ((s.clear R.SYS_RUNCTL_STOP).clear R.WHEEL_DBG_STEP).clear R.WHEEL_DBG_HALTED
  s.setDev .ready

theorem State.runToReady_eq (s : State) : s.runToReady = (s.runStopped.loopsLeaveRun.pwmOff).sync := rfl

theorem State.runStopped_stops (s : State) : s.runStopped.dev = .ready ∧ s.runStopped.wheel.turning = false ∧
    s.runStopped.wheel.matched = false ∧ s.runStopped.mem = s.mem ∧
    ∀ v, s.runStopped.get (R.SAGGAR_LATCH_INPUTS v) = s.get (R.SAGGAR_LATCH_INPUTS v) := by
  have hlatch (t : State) (v : Nat) {f : Fld} (hf : f.key < 0x40400000 * 32) :
      (t.clear f).get (R.SAGGAR_LATCH_INPUTS v) = t.get (R.SAGGAR_LATCH_INPUTS v) := by
    refine State.get_clear_ne _ _ _ ?_
    simp only [Fld.key, R.SAGGAR_LATCH_INPUTS] at hf ⊢
    omega
  unfold State.runStopped
  extract_lets w a b c
  obtain ⟨hwheel, hmem, -⟩ := c.setDev_kept .ready
  have hc : c.wheel.turning = false ∧ c.wheel.matched = false ∧ c.mem = s.mem := by
    simp [c, b, a, w, State.later]
  have hcget (v : Nat) : c.get (R.SAGGAR_LATCH_INPUTS v) = s.get (R.SAGGAR_LATCH_INPUTS v) :=
    (hlatch _ v (by decide)).trans ((hlatch _ v (by decide)).trans ((hlatch _ v (by decide)).trans rfl))
  obtain ⟨hturn, hmatch, hm⟩ := hc
  refine ⟨c.setDev_dev .ready, (congrArg Wheel.turning hwheel).trans hturn, (congrArg Wheel.matched hwheel).trans hmatch,
    hmem.trans hm, fun v => (c.setDev_get .ready ?_ ?_).trans (hcget v)⟩
  · simp only [Fld.key, R.SYS_STATE_PREV, R.SAGGAR_LATCH_INPUTS]
    omega
  · simp only [Fld.key, R.HSPI_IRQ_STATE, R.SAGGAR_LATCH_INPUTS]
    omega

/-- RUN ends in READY, every loop OPEN, and what was latched stays so. -/
theorem State.runToReady_ends (s : State) : s.runToReady.dev = .ready ∧ s.runToReady.wheel.turning = false ∧
    s.runToReady.wheel.matched = false ∧ s.runToReady.mem = s.mem ∧ (∀ l < 8, s.runToReady.loopState l = 0) ∧
    ∀ v < 2, ∀ b < 29, Latched b v s → Latched b v s.runToReady := by
  obtain ⟨hdev, hturn, hmatch, hmem, hlatch⟩ := s.runStopped_stops
  rw [State.runToReady_eq]
  generalize s.runStopped = u at *
  have hside : u.loopsLeaveRun.pwmOff.sync.side = u.side :=
    (State.sync_frame _).trans ((State.pwmOff_frame _).trans u.loopsLeaveRun_frame)
  obtain ⟨hw, hm, -, hd⟩ := kept_of_plane (plane_of_side hside)
  have hopen (l : Nat) (hl : l < 8) : u.loopsLeaveRun.pwmOff.sync.loopState l = 0 := by
    have hfar : far (R.LOOP_LSTAT_STATE l).key := by
      simp only [far, Fld.key, R.LOOP_LSTAT_STATE]
      omega
    have hfrozen : R.PWM_DBG_FROZEN.key ≠ (R.LOOP_LSTAT_STATE l).key := by
      simp only [Fld.key, R.PWM_DBG_FROZEN, R.LOOP_LSTAT_STATE]
      omega
    exact (State.sync_get _ hfar).trans ((State.pwmOff_get _ hfrozen).trans (u.loopsLeaveRun_open hl))
  have hkept (v : Nat) (hv : v < 2) (b : Nat) (hb : b < 29) (h : Latched b v s) : Latched b v u.loopsLeaveRun.pwmOff.sync := by
    have hlow : (R.SAGGAR_LATCH_INPUTS v).key < 0x40500000 * 32 := by
      simp only [Fld.key, R.SAGGAR_LATCH_INPUTS]
      omega
    have hfrozen : R.PWM_DBG_FROZEN.key ≠ (R.SAGGAR_LATCH_INPUTS v).key := by
      simp only [Fld.key, R.PWM_DBG_FROZEN, R.SAGGAR_LATCH_INPUTS]
      omega
    obtain ⟨-, -, -, hd'⟩ := kept_of_plane (plane_of_side ((State.pwmOff_frame _).trans u.loopsLeaveRun_frame))
    exact (h.of_get ((State.pwmOff_get _ hfrozen).trans ((u.loopsLeaveRun_get hlow).trans (hlatch v)))).sync (hd'.trans hdev) hv hb
  exact ⟨hd.trans hdev, (congrArg Wheel.turning hw).trans hturn, (congrArg Wheel.matched hw).trans hmatch, hm.trans hmem, hopen, hkept⟩

/-- A stop forced is latched as input 28 of every inverter, and reported (R41, R78). -/
theorem State.stopTick_stops {s : State} (hlate : s.stopLate = true) : s.stopTick.dev = .ready ∧ s.stopTick.get R.SYS_RUNCTL_REFUSE = 9 ∧
    s.stopTick.wheel.turning = false ∧ s.stopTick.wheel.matched = false ∧ (∀ l < 8, s.stopTick.loopState l = 0) ∧
    (∀ v < s.nInv, Latched 28 v s.stopTick) ∧ s.stopTick.mem = s.mem := by
  have heq : s.stopTick = ((s.each (List.range s.nInv) fun s v => s.latchBits v (2 ^ 28)).runToReady).put R.SYS_RUNCTL_REFUSE 9 := if_pos hlate
  have hinv := s.nInv_le
  have hrange : ∀ v ∈ List.range s.nInv, v < 2 := fun v hv => Nat.lt_of_lt_of_le (List.mem_range.mp hv) hinv
  have hset (v : Nat) (hv : v < s.nInv) : Latched 28 v (s.each (List.range s.nInv) fun s v => s.latchBits v (2 ^ 28)) :=
    State.each_all (P := Latched 28) (fun v hv t => t.latchBits_sets (hrange v hv) (by decide) (by decide))
      (fun v hv w hw t ht => ht.latchBits (hrange v hv) (by decide) (hrange w hw) _) s (List.mem_range.mpr hv)
  have hmem : (s.each (List.range s.nInv) fun s v => s.latchBits v (2 ^ 28)).mem = s.mem :=
    (kept_of_plane (State.each_keeps State.plane _ (fun t v => plane_of_side (t.latchBits_frame v _)) _ s)).2.1
  rw [heq]
  generalize (s.each (List.range s.nInv) fun s v => s.latchBits v (2 ^ 28)) = u at *
  obtain ⟨hdev, hturn, hmatch, hmem', hopen, hkept⟩ := u.runToReady_ends
  generalize u.runToReady = w at *
  refine ⟨hdev, State.get_put_self .., hturn, hmatch, fun l hl => ?_, fun v hv => ?_, hmem'.trans hmem⟩
  · refine (State.get_put_ne _ _ _ _ ?_).trans (hopen l hl)
    simp only [Fld.key, R.SYS_RUNCTL_REFUSE, R.LOOP_LSTAT_STATE]
    omega
  · refine (hkept v (by omega) 28 (by decide) (hset v hv)).of_get (State.get_put_ne _ _ _ _ ?_)
    simp only [Fld.key, R.SYS_RUNCTL_REFUSE, R.SAGGAR_LATCH_INPUTS]
    omega

/-! ## A missing turn (R77, R107, R108) -/

/-- What a SAFE_HOLD discards, and the outputs it turns off. -/
def State.holdBegun (s : State) : State :=
  ((s.takeCause 1).dropRun.holdEntry).each (List.range s.nInv) fun s v => if s.safeApplied v then s else s.pwmTrip v

/-- The cause is recorded and the Wheel halts. -/
def State.holdHalted (s : State) (cause : Nat) : State :=
  ((s.put R.SYS_HOLDCAUSE_CAUSE cause).put R.SYS_HOLDCAUSE_TURN (s.get R.SAGGAR_HBTURN_TURN)).wheelHalt

/-- No conversion goes on, and the calibration ends. -/
def State.convertersEnd (s : State) : State :=
  { s with adc := { s.adc with trigs := [], runs := [] } }.clear R.ADC_CAL_BUSY

/-- The packets that are open, the conversions, a stop request and an update in progress end. -/
def State.holdCut (s : State) : State := (s.wheelPacketsEnd.convertersEnd.clear R.SYS_RUNCTL_STOP).relock.updHold

theorem State.enterHold_eq {s : State} (hdev : s.dev = .ready ∨ s.dev = .run) (cause : Nat) : s.enterHold cause =
    (((((s.holdBegun.holdHalted cause).holdCut.setDev .safeHold).loopsLeaveRun.pwmOff).canHold).recHold).sync := by
  unfold State.enterHold
  rw [if_neg fun h => hdev.elim h.1 h.2]
  extract_lets a b c r d e f
  have hc : c = (s.holdBegun.holdHalted cause).wheelPacketsEnd := rfl
  clear_value c
  have hd : d = c.convertersEnd := rfl
  clear_value d
  have he : e = (d.clear R.SYS_RUNCTL_STOP).relock.updHold := rfl
  clear_value e
  rw [State.holdCut, ← hc, ← hd, ← he]

theorem State.holdBegun_plane (s : State) : s.holdBegun.plane = s.plane := by
  refine (State.each_keeps State.plane _ (fun t v => ?_) _ _).trans
    ((State.holdEntry_frame _).trans ((State.dropRun_frame _).trans (s.takeCause_plane 1)))
  split
  · rfl
  · exact plane_of_side (t.pwmTrip_frame v)

/-- The program counter at a halt, and the words poisoned by it, move registers of the Wheel alone. -/
theorem State.wheelHalt_halts (s : State) : s.wheelHalt.wheel.halted = true ∧ s.wheelHalt.wheel.turning = false ∧
    s.wheelHalt.wheel.inflight = [] ∧ s.wheelHalt.mem = s.mem ∧ s.wheelHalt.get R.SYS_HOLDCAUSE_CAUSE = s.get R.SYS_HOLDCAUSE_CAUSE := by
  have hput (t : State) (f : Fld) (v : Nat) (hf : f.key ≠ R.SYS_HOLDCAUSE_CAUSE.key) :
      (t.put f v).get R.SYS_HOLDCAUSE_CAUSE = t.get R.SYS_HOLDCAUSE_CAUSE := State.get_put_ne _ _ _ _ hf
  have hpc (t : State) : t.haltPc.get R.SYS_HOLDCAUSE_CAUSE = t.get R.SYS_HOLDCAUSE_CAUSE := by
    unfold State.haltPc
    split
    · rfl
    · split
      · exact (hput _ _ _ (by decide)).trans ((hput _ _ _ (by decide)).trans (hput _ _ _ (by decide)))
      · split
        · exact (hput _ _ _ (by decide)).trans ((hput _ _ _ (by decide)).trans (hput _ _ _ (by decide)))
        · rfl
  have hpoison (t : State) : t.notePoison.get R.SYS_HOLDCAUSE_CAUSE = t.get R.SYS_HOLDCAUSE_CAUSE := by
    unfold State.notePoison
    dsimp only
    split
    · rfl
    · exact (hput _ _ _ (by decide)).trans (hput _ _ _ (by decide))
  have hplane : s.haltPc.notePoison.plane = s.plane := (State.notePoison_frame _).trans s.haltPc_frame
  exact ⟨rfl, rfl, rfl, (kept_of_plane hplane).2.1, (hpoison _).trans (hpc s)⟩

theorem State.updHold_cause (s : State) : s.updHold.get R.SYS_HOLDCAUSE_CAUSE = s.get R.SYS_HOLDCAUSE_CAUSE := by
  have hnor (t : State) : t.norCut.get R.SYS_HOLDCAUSE_CAUSE = t.get R.SYS_HOLDCAUSE_CAUSE := by
    have hregs := congrArg State.regs t.norCut_norless
    exact State.get_of_regs hregs _
  have hidle (t : State) : t.updIdle.get R.SYS_HOLDCAUSE_CAUSE = t.get R.SYS_HOLDCAUSE_CAUSE :=
    (State.get_clear_ne _ R.WEDGE_USTAT_UBUSY _ (by decide)).trans ((State.get_clear_ne _ R.WEDGE_USTAT_USTATE _ (by decide)).trans rfl)
  have hsec (t : State) (x : Sec) : State.get { t with sec := x } R.SYS_HOLDCAUSE_CAUSE = t.get R.SYS_HOLDCAUSE_CAUSE := rfl
  unfold State.updHold
  split
  · rfl
  · refine (hidle _).trans ((hnor _).trans ((hsec _ _).trans ?_))
    split
    · exact State.get_put_ne s R.HSPI_IRQ_UPD R.SYS_HOLDCAUSE_CAUSE 1 (by decide)
    · rfl

theorem State.holdCut_keeps (s : State) : s.holdCut.plane = s.plane ∧
    s.holdCut.get R.SYS_HOLDCAUSE_CAUSE = s.get R.SYS_HOLDCAUSE_CAUSE := by
  have hnoted := s.wheelPacketsEnd_frame
  have hplane : s.wheelPacketsEnd.plane = s.plane := plane_of_noted hnoted
  have hget : s.wheelPacketsEnd.get R.SYS_HOLDCAUSE_CAUSE = s.get R.SYS_HOLDCAUSE_CAUSE :=
    get_of_still (congrArg Noted.still hnoted) (by unfold hidden; decide)
  have hclear (t : State) {f : Fld} (hf : f.key ≠ R.SYS_HOLDCAUSE_CAUSE.key) :
      (t.clear f).get R.SYS_HOLDCAUSE_CAUSE = t.get R.SYS_HOLDCAUSE_CAUSE := State.get_clear_ne _ _ _ hf
  have hv : s.wheelPacketsEnd.convertersEnd.plane = s.plane ∧
      s.wheelPacketsEnd.convertersEnd.get R.SYS_HOLDCAUSE_CAUSE = s.get R.SYS_HOLDCAUSE_CAUSE :=
    ⟨hplane, (hclear _ (by decide)).trans hget⟩
  unfold State.holdCut
  generalize s.wheelPacketsEnd.convertersEnd = v at *
  refine ⟨(State.updHold_frame _).trans ((plane_of_side (State.relock_frame _)).trans ?_),
    (State.updHold_cause _).trans ((hclear _ (by decide)).trans ((hclear _ (by decide)).trans hv.2))⟩
  exact (plane_put.1 v R.SYS_RUNCTL_STOP 0).trans hv.1

/-- SAFE_HOLD is entered: what the loops, PWM, CAN and the Shard log do at it leaves the Wheel and the registers of SYS. -/
theorem State.holdEnds (s : State) : (((s.setDev .safeHold).loopsLeaveRun.pwmOff.canHold).recHold).sync.dev = .safeHold ∧
    (((s.setDev .safeHold).loopsLeaveRun.pwmOff.canHold).recHold).sync.wheel = s.wheel ∧
    (((s.setDev .safeHold).loopsLeaveRun.pwmOff.canHold).recHold).sync.mem = s.mem ∧
    (((s.setDev .safeHold).loopsLeaveRun.pwmOff.canHold).recHold).sync.get R.SYS_HOLDCAUSE_CAUSE = s.get R.SYS_HOLDCAUSE_CAUSE := by
  obtain ⟨hwheel, hmem, -⟩ := s.setDev_kept .safeHold
  have hdev := s.setDev_dev .safeHold
  have hget := s.setDev_get .safeHold (f := R.SYS_HOLDCAUSE_CAUSE) (by decide) (by decide)
  generalize s.setDev .safeHold = u at *
  have hnoted : u.loopsLeaveRun.pwmOff.canHold.side.noted = u.side.noted :=
    (State.canHold_frame _).trans (congrArg Side.noted ((State.pwmOff_frame _).trans u.loopsLeaveRun_frame))
  have hstill : u.loopsLeaveRun.pwmOff.canHold.recHold.side.noted.still = u.side.noted.still :=
    (State.recHold_frame _).trans (congrArg Noted.still hnoted)
  have hsync : u.loopsLeaveRun.pwmOff.canHold.recHold.sync.side.noted.still = u.side.noted.still :=
    (congrArg (·.noted.still) (State.sync_frame _)).trans hstill
  generalize u.loopsLeaveRun.pwmOff.canHold.recHold.sync = t at *
  obtain ⟨hw, hm, -, hd⟩ := kept_of_plane (congrArg Still.plane hsync)
  exact ⟨hd.trans hdev, hw.trans hwheel, hm.trans hmem, (get_of_still hsync (by unfold hidden; decide)).trans hget⟩

/-- What SAFE_HOLD shows of a missing turn. -/
def HeldFrom (s t : State) : Prop := t.dev = .safeHold ∧ t.get R.SYS_HOLDCAUSE_CAUSE = 4 ∧
  t.wheel.halted = true ∧ t.wheel.turning = false ∧ t.wheel.inflight = [] ∧ t.mem = s.mem

/-- A missing turn halts the Wheel and enters SAFE_HOLD with cause 0x04. -/
theorem State.missingTurn_holds {s : State} (hdev : s.dev = .run) : HeldFrom s s.missingTurn := by
  have hside : (s.setCond 0 24 true).sync.side = s.side := (State.sync_frame _).trans (s.setCond_frame 0 24 true)
  obtain ⟨-, hmem, -, hd⟩ := kept_of_plane (plane_of_side hside)
  unfold State.missingTurn
  generalize (s.setCond 0 24 true).sync = u at *
  rw [State.enterHold_eq (Or.inr (hd.trans hdev))]
  obtain ⟨-, hmem', -, -⟩ := kept_of_plane u.holdBegun_plane
  obtain ⟨hhalted, hturn, hflight, hmem'', hcause⟩ :=
    State.wheelHalt_halts ((u.holdBegun.put R.SYS_HOLDCAUSE_CAUSE 4).put R.SYS_HOLDCAUSE_TURN (u.holdBegun.get R.SAGGAR_HBTURN_TURN))
  have hfour : (u.holdBegun.holdHalted 4).get R.SYS_HOLDCAUSE_CAUSE = 4 :=
    hcause.trans ((State.get_put_ne _ _ _ _ (by decide)).trans (State.get_put_self ..))
  obtain ⟨hplane, hget⟩ := (u.holdBegun.holdHalted 4).holdCut_keeps
  obtain ⟨hwheel₁, hmem₁, -, -⟩ := kept_of_plane hplane
  obtain ⟨hdev₂, hwheel₂, hmem₂, hget₂⟩ := (u.holdBegun.holdHalted 4).holdCut.holdEnds
  have hwheel := hwheel₂.trans hwheel₁
  refine ⟨hdev₂, hget₂.trans (hget.trans hfour), ?_, ?_, ?_, hmem₂.trans (hmem₁.trans (hmem''.trans (hmem'.trans hmem)))⟩
  · rw [hwheel]
    exact hhalted
  · rw [hwheel]
    exact hturn
  · rw [hwheel]
    exact hflight

theorem State.stopLate_iff {s : State} (hdev : s.dev = .run) :
    s.stopLate = true ↔ s.stopping = true ∧ s.allOpen = false ∧ s.stopAt + 600000 ≤ s.cycle := by
  simp [State.stopLate, hdev, and_assoc]

theorem State.tendLate_iff {s : State} (hdev : s.dev = .run) :
    s.tendLate = true ↔ s.wheel.turning = true ∧ tsEdgeAfter s.wheel.start (s.get R.SAGGAR_TMWIN_TICKS) ≤ s.cycle := by
  simp [State.tendLate, hdev]

theorem State.matchLate_iff {s : State} (hdev : s.dev = .run) : s.matchLate = true ↔ s.wheel.dbgHalted = false ∧ s.matchDue = false ∧
    tsEdgeAfter s.wheel.matchAt (s.get R.SAGGAR_TSWIN_TICKS) ≤ s.cycle := by
  simp only [State.matchLate, hdev, decide_true, Bool.true_and, Bool.and_eq_true, Bool.not_eq_true', decide_eq_true_eq]
  tauto

theorem exec_stopForced (s : State) : exec .stopForced s = .next s.stopTick := rfl

theorem exec_tmwinExpiry (s : State) : exec .tmwinExpiry s = .next (if s.tendLate then s.missingTurn else s) := rfl

theorem exec_tswinExpiry (s : State) : exec .tswinExpiry s = .next (if s.matchLate then s.missingTurn else s) := rfl

/-- Settles O18: the conditions of R39 are a list whose first failing entry is the refusal; RUN begins and ends by what each block does at it; and each window is one comparison. -/
theorem runStopAndMissingTurnComplete : Obligations.RunStopAndMissingTurnComplete := by
  unfold Obligations.RunStopAndMissingTurnComplete
  refine ⟨fun s req hw hstop hrun => ?_, fun s hdue hdev heven => ?_, fun s hdev => ?_⟩
  · intro failing
    refine ⟨fun hreq => ⟨fun c => runRequest_refused hw hreq hrun, runRequest_taken hw hreq hrun⟩, fun hreq => ?_, fun hdev hno => ?_,
      fun hdev hyes => ?_, fun hdev hdue hcause => ?_, fun hdev => ?_, stopRequest_other hw hstop⟩
    · subst hreq
      exact runRequest_debug hw
    · rw [stopRequest_run hw hstop hdev, hno]
      rfl
    · rw [stopRequest_run hw hstop hdev, hyes]
      rfl
    · obtain ⟨hdrop, hrefuse⟩ := State.takeCause_dropsRun hdue hcause
      obtain ⟨hwheel, hmem, -, hd⟩ := kept_of_plane (s.takeCause_plane 2)
      exact ⟨_, stopRequest_ready hw hstop hdev, hdrop, hrefuse, hd, hwheel, hmem⟩
    · obtain ⟨hwheel, hmem, -, -⟩ := kept_of_plane (s.takeCause_plane 2)
      exact ⟨_, stopRequest_ready hw hstop hdev, hwheel, hmem, fun r => stopRequest_then_run s⟩
  · intro t
    obtain ⟨hd, hdue', hwheel, hmem, hcnt, hopen⟩ := s.enterRun_runs
    have ht : t = s.enterRun := State.runTick_runs hdue hdev heven
    rw [ht, hwheel]
    exact ⟨hd, hdue', rfl, rfl, rfl, rfl, rfl, hcnt, fun l => hopen l.val l.isLt, hmem, rfl⟩
  · intro stop after tend miss held
    refine ⟨fun h => ?_, fun h => ?_, fun h => ?_, fun h => ?_, fun h => ?_, fun h => ?_⟩
    · obtain ⟨hd, hrefuse, hturn, hmatch, hopen, hlatch, hmem⟩ := State.stopTick_stops ((State.stopLate_iff hdev).mpr h)
      exact ⟨_, exec_stopForced s, hd, hrefuse, hturn, hmatch, fun l => hopen l.val l.isLt, fun v => hlatch v.val, hmem⟩
    · exact congrArg Host.Outcome.next (if_neg fun hlate => h ((State.stopLate_iff hdev).mp hlate))
    · exact ⟨_, (exec_tmwinExpiry s).trans (congrArg Host.Outcome.next (if_pos ((State.tendLate_iff hdev).mpr h))), State.missingTurn_holds hdev⟩
    · exact congrArg Host.Outcome.next (if_neg fun hlate => h ((State.tendLate_iff hdev).mp hlate))
    · exact ⟨_, (exec_tswinExpiry s).trans (congrArg Host.Outcome.next (if_pos ((State.matchLate_iff hdev).mpr h))), State.missingTurn_holds hdev⟩
    · exact congrArg Host.Outcome.next (if_neg fun hlate => h ((State.matchLate_iff hdev).mp hlate))

end Sys2Proof.Machine
end

section
/-! PROOFS. Guards and predicates of Wheel operations, and the operands an X operation discards (R49, R50, R72). -/

namespace Sys2Proof.Machine

open Sys2Proof

/-- The command takes place under the guard, and has no other effect. -/
def GuardedBy (gd : Guard) (c : Instr) : Prop := ∃ f, ∀ s, exec c s = .next (s.issue gd f)

theorem GuardedBy.exec_of_guard_false {gd : Guard} {c : Instr} (h : GuardedBy gd c) {s : State} (hp : s.p gd.psel.val = gd.pinv) :
    exec c s = .next s := by
  obtain ⟨f, hf⟩ := h
  rw [hf, State.issue_of_guard_false f hp]

/-- Settles O4: each of the operations is an effect under its guard. -/
theorem falseGuardHasNoEffect : Obligations.FalseGuardHasNoEffect := by
  unfold Obligations.FalseGuardHasNoEffect
  intro s gd d a b e pd pa pb pv amt imm k k2 j inc inc2 mask off ch6 src q bt hp i hi
  refine GuardedBy.exec_of_guard_false (gd := gd) ?_ hp
  revert i
  simp only [List.forall_mem_cons, List.not_mem_nil, false_imp_iff, implies_true, and_true]
  and_intros <;> exact ⟨_, fun _ => rfl⟩

/-- Settles O14. -/
theorem predicateZeroIsTrue : Obligations.PredicateZeroIsTrue := by
  unfold Obligations.PredicateZeroIsTrue
  exact fun s b => ⟨rfl, rfl, rfl, fun hturn => ⟨hturn, Bool.noConfusion⟩⟩

/-- Settles O12: each of the three targets asks first whether the operand is finite. -/
theorem nonFiniteOperandIsDropped : Obligations.NonFiniteOperandIsDropped := by
  unfold Obligations.NonFiniteOperandIsDropped
  intro s u v hexp
  have hv : Fp32.notFinite v = true := decide_eq_true hexp
  simp only [List.forall_mem_cons, List.not_mem_nil, false_imp_iff, implies_true, and_true]
  exact ⟨if_pos hv, if_pos hv, if_pos hv⟩

end Sys2Proof.Machine
end

section
/-! PROOFS. The F-slot and T-slot operations (R55–R57, R508, R509). -/

namespace Sys2Proof.Machine

open Sys2Proof

/-! ## Results in flight -/

section
variable {s : State} {gd : Guard} (h : s.Issues gd)
include h

theorem issue_fResult (d : Fin 128) (r : State → Fp32.Res) :
    (.next (s.issue gd fun s => s.fResult d (r s)) : Out) = s.givesG 4 d (r s) :=
  congrArg _ (State.issue_of_issues _ h)

theorem issue_fWord (d : Fin 128) (w : State → Word) {v : Word} (hv : w s = v) :
    (.next (s.issue gd fun s => s.fResult d (plain (w s))) : Out) = s.givesWord 4 d v :=
  (issue_fResult h d fun s => plain (w s)).trans (hv ▸ rfl)

theorem issue_fPred (pd : Fin 8) (b : State → Bool) {v : Bool} (hv : b s = v) :
    (.next (s.issue gd fun s => s.fPred pd (b s)) : Out) = s.givesP 4 pd v :=
  (congrArg _ (State.issue_of_issues _ h)).trans (hv ▸ rfl)

theorem issue_tResult (d : Fin 128) (r : State → Fp32.Res) :
    (.next (s.issue gd fun s => s.tResult d.val (r s)) : Out) = s.givesG 12 d (r s) :=
  congrArg _ (State.issue_of_issues _ h)

end

/-! ## The integer results as numbers -/

theorem word_add (a b : Word) : a + b = BitVec.ofNat 32 (a.toNat + b.toNat) := by
  rw [BitVec.ofNat_add, BitVec.ofNat_toNat, BitVec.ofNat_toNat, BitVec.setWidth_eq, BitVec.setWidth_eq]

theorem word_sub (a b : Word) : a - b = BitVec.ofInt 32 (a.toInt - b.toInt) := by
  refine BitVec.eq_of_toInt_eq ?_
  rw [BitVec.toInt_sub, BitVec.toInt_ofInt]

theorem word_mul (a b : Word) : a * b = BitVec.ofNat 32 (a.toNat * b.toNat) := by
  rw [BitVec.ofNat_mul, BitVec.ofNat_toNat, BitVec.ofNat_toNat, BitVec.setWidth_eq, BitVec.setWidth_eq]

theorem word_shiftLeft (a : Word) (n : Nat) : a <<< n = BitVec.ofNat 32 (a.toNat * 2 ^ n) := by
  refine BitVec.eq_of_toNat_eq ?_
  rw [BitVec.toNat_shiftLeft, BitVec.toNat_ofNat, Nat.shiftLeft_eq]

theorem word_shiftRight (a : Word) (n : Nat) : a >>> n = BitVec.ofNat 32 (a.toNat / 2 ^ n) := by
  refine BitVec.eq_of_toNat_eq ?_
  rw [BitVec.toNat_ushiftRight, BitVec.toNat_ofNat, Nat.shiftRight_eq_div_pow,
    Nat.mod_eq_of_lt (Nat.lt_of_le_of_lt (Nat.div_le_self _ _) a.isLt)]

theorem word_sshiftRight (a : Word) (n : Nat) : a.sshiftRight n = BitVec.ofInt 32 (a.toInt / 2 ^ n) := by
  rw [BitVec.sshiftRight, Int.shiftRight_eq_div_pow]
  norm_cast

theorem word_min (a b : Word) : (if a.toInt ≤ b.toInt then a else b) = BitVec.ofInt 32 (min a.toInt b.toInt) := by
  rw [Int.min_def, apply_ite (BitVec.ofInt 32), BitVec.ofInt_toInt, BitVec.ofInt_toInt]

theorem word_max (a b : Word) : (if a.toInt ≤ b.toInt then b else a) = BitVec.ofInt 32 (max a.toInt b.toInt) := by
  rw [Int.max_def, apply_ite (BitVec.ofInt 32), BitVec.ofInt_toInt, BitVec.ofInt_toInt]

theorem decide_word_eq (a b : Word) : decide (a = b) = decide (a.toNat = b.toNat) := by
  simp only [BitVec.toNat_inj]

theorem decide_word_ne (a b : Word) : decide (a ≠ b) = decide (a.toNat ≠ b.toNat) := by
  simp only [ne_eq, BitVec.toNat_inj]

/-! ## Compares with a NaN -/

theorem Fp32.lt_nan {a b : Word} (h : Fp32.isNan a = true ∨ Fp32.isNan b = true) : Fp32.lt a b = false ∧ Fp32.eq a b = false := by
  obtain h | h := h <;> simp [Fp32.lt, Fp32.eq, h]

/-- Settles O5: each operation is one result in flight, equal to the number of R508. -/
theorem fSlotOperationsComplete : Obligations.FSlotOperationsComplete := by
  unfold Obligations.FSlotOperationsComplete
  refine ⟨fun s gd d a b h => ?_, fun s gd d a b amt imm h => ?_, fun s gd pd pa pb a b h => ?_⟩
  · have hres := issue_fResult h
    exact ⟨rfl, hres d _, hres d _, hres d _, hres d _, hres d _, hres d _, hres d _, hres d _, hres d _, hres d _, hres d _, hres d _,
      hres d _, hres d _⟩
  · have hword := fun w v hv => issue_fWord h d w (v := v) hv
    exact ⟨hword _ _ (word_add _ _), hword _ _ (word_sub _ _), hword _ _ (word_mul _ _), hword _ _ rfl, hword _ _ rfl, hword _ _ rfl,
      hword _ _ (word_shiftLeft _ _), hword _ _ (word_shiftRight _ _), hword _ _ (word_sshiftRight _ _), hword _ _ (word_shiftLeft _ _),
      hword _ _ (word_shiftRight _ _), hword _ _ (word_sshiftRight _ _), hword _ _ (word_min _ _), hword _ _ (word_max _ _),
      issue_fResult h d _, issue_fResult h d _, issue_fResult h d _, issue_fResult h d _, hword _ _ rfl, hword _ _ rfl⟩
  · have hpred := fun b v hv => issue_fPred h pd b (v := v) hv
    refine ⟨hpred _ _ rfl, hpred _ _ rfl, hpred _ _ rfl, hpred _ _ rfl, hpred _ _ rfl, hpred _ _ rfl, fun hnan => ?_,
      hpred _ _ (decide_word_eq _ _), hpred _ _ (decide_word_ne _ _), hpred _ _ rfl, hpred _ _ rfl, hpred _ _ rfl, hpred _ _ rfl,
      hpred _ _ rfl, hpred _ _ rfl, hpred _ _ rfl, hpred _ _ rfl, hpred _ _ rfl, hpred _ _ rfl, hpred _ _ rfl,
      hpred _ _ rfl, rfl⟩
    obtain ⟨hlt, heq⟩ := Fp32.lt_nan hnan
    exact ⟨hpred _ _ hlt, hpred _ _ (congrArg (!·) heq)⟩

end Sys2Proof.Machine
end

section
/-! PROOFS. The transcendental unit's special operands and the T-slot operations (R55–R57, R509). -/

namespace Sys2Proof.Machine

open Sys2Proof

theorem Fp32.num_of_isNan {a : Word} (h : Fp32.isNan a = true) : Fp32.num a = .nan :=
  Fp32.num_of_nan ((Fp32.isNan_iff a).mp h)

/-- A negative number that is no zero has no square root. -/
theorem Fp32.sqrt_negative {a : Word} (hl : 0x80800000 ≤ a.toNat) (hu : a.toNat ≤ 0xFF800000) :
    Fp32.sqrt a = ⟨Fp32.nan, Fp32.inv⟩ ∧ Fp32.rsqrt a = ⟨Fp32.nan, Fp32.inv⟩ := by
  have hsgn : Fp32.sgn a = true := decide_eq_true (by omega)
  have hmag : Fp32.mag a = a.toNat - 0x80000000 := by
    unfold Fp32.mag
    omega
  obtain hinf | hfin : Fp32.mag a = 0x7F800000 ∨ Fp32.mag a < 0x7F800000 := by omega
  · simp [Fp32.sqrt, Fp32.rsqrt, Fp32.num_of_inf hinf, hsgn]
  · obtain ⟨m, e, hnum, -, hzero⟩ := Fp32.num_of_finite hfin
    have hm : m ≠ 0 := fun h0 => absurd (hzero.mp h0) (by omega)
    simp [Fp32.sqrt, Fp32.rsqrt, hnum, hsgn, hm]

theorem Fp32.sin_infinity {a : Word} (h : a = 0x7F800000#32 ∨ a = 0xFF800000#32) :
    Fp32.sin a = ⟨Fp32.nan, Fp32.inv⟩ ∧ Fp32.cos a = ⟨Fp32.nan, Fp32.inv⟩ := by
  obtain rfl | rfl := h <;> exact ⟨rfl, rfl⟩

theorem Fp32.nan_transcendental {a : Word} (h : Fp32.isNan a = true) :
    Fp32.sin a = ⟨Fp32.nan, 0⟩ ∧ Fp32.cos a = ⟨Fp32.nan, 0⟩ ∧ Fp32.sqrt a = ⟨Fp32.nan, 0⟩ ∧ Fp32.rcp a = ⟨Fp32.nan, 0⟩ ∧
    Fp32.rsqrt a = ⟨Fp32.nan, 0⟩ := by
  simp only [Fp32.sin, Fp32.cos, Fp32.sqrt, Fp32.rcp, Fp32.rsqrt, Fp32.num_of_isNan h, and_self]

/-- An even D has its odd neighbour among the registers. -/
theorem exec_sincos {s : State} {gd : Guard} (h : s.Issues gd) {d : Fin 128} (hd : d.val % 2 = 0) (a : Fin 128) :
    exec (.sincos gd d a) s = .next (s.inFlight [(s.cycle + 11, .setG d.val (Fp32.sin (s.g a)).v (Fp32.sin (s.g a)).fl),
      (s.cycle + 11, .setG (d.val + 1) (Fp32.cos (s.g a)).v (Fp32.cos (s.g a)).fl)]) := by
  have hnext : (d.val + 1) % 128 = d.val + 1 := by omega
  refine congrArg Host.Outcome.next ((State.issue_of_issues _ h).trans ?_)
  rw [hnext]
  exact State.inFlight_inFlight ..

/-- Settles O6: the results are in flight for 12 cycles; what each special operand reads as decides its result. -/
theorem transcendentalOperationsComplete : Obligations.TranscendentalOperationsComplete := by
  unfold Obligations.TranscendentalOperationsComplete
  refine ⟨fun s gd d a b h => ?_, rfl, rfl, rfl, rfl, rfl, rfl, fun a hl hu => Fp32.sqrt_negative hl hu, fun a ha => Fp32.sin_infinity ha,
    fun a ha => Fp32.nan_transcendental ha⟩
  have hres := issue_tResult h d
  exact ⟨hres _, hres _, fun hd => exec_sincos h hd a, hres _, hres _, hres _, hres _⟩

end Sys2Proof.Machine
end

section
/-! PROOFS. The M-slot operations and the hardware loops (R55, R59, R60, R63–R67, R510). -/

namespace Sys2Proof.Machine

open Sys2Proof

/-! ## Single accesses -/

section
variable {s : State} {gd : Guard} (h : s.Issues gd)
include h

theorem issue_inFlight {f : State → State} {l : List (Nat × Effect)} (hf : f s = s.inFlight l) :
    (.next (s.issue gd f) : Out) = .next (s.inFlight l) :=
  congrArg _ ((State.issue_of_issues _ h).trans hf)

/-- A data load of a word with `errs` flipped bits, fewer than three. -/
theorem exec_ld (g : Fin 128) (k : Fin 16) (inc : Fin 4) {errs : Nat} (he : Sparse.get 0 s.mem.derr (8192 * k.val + s.arOff k.val) = errs)
    (hfew : errs < 3) : exec (.ld gd g k inc) s = .next (s.inFlight
      (s.loadWord g (s.dataWord k.val (s.arOff k.val)) errs 2 (8192 * k.val + s.arOff k.val) 0x02 ++ s.arStep k inc)) := by
  subst he
  refine issue_inFlight h ?_
  unfold State.dataLoad
  dsimp only
  rw [State.loadInto_few s g _ hfew, State.incAr_eq, State.inFlight_inFlight, State.inFlight_arStep]
  rfl

/-- A coefficient load of a word with `errs` flipped bits, fewer than three. -/
theorem exec_ldc (g : Fin 128) (j inc : Fin 4) {errs : Nat} (he : Sparse.get 0 s.mem.cerr (s.cp j.val) = errs)
    (hfew : errs < 3) : exec (.ldc gd g j inc) s = .next (s.inFlight
      (s.loadWord g (s.coefWord (s.cp j.val)) errs 3 (s.cp j.val) 0x03 ++ s.cpStep j inc)) := by
  subst he
  refine issue_inFlight h ?_
  unfold State.coefLoad
  dsimp only
  rw [State.loadInto_few s g _ hfew, State.incCp_eq, State.inFlight_inFlight, State.inFlight_cpStep]
  rfl

end

/-! ## Pairs -/

section
variable {s : State} (hfew : s.FewFlips) (g g2 : Fin 128) (j k : Fin 16) (cj i1 i2 : Fin 4)

theorem State.dataStore_dataStore : (s.dataStore g.val j.val i1).dataStore g2.val k.val i2 =
    s.inFlight (s.storeD g j i1 ++ s.storeD g2 k i2) := by
  rw [State.dataStore_eq, State.dataStore_eq, State.inFlight_inFlight, State.inFlight_storeD]

include hfew

theorem State.coefLoad_dataLoad : (s.coefLoad g.val cj.val i1).dataLoad g2.val k.val i2 =
    s.inFlight (s.loadC g cj i1 ++ s.loadD g2 k i2) := by
  rw [State.coefLoad_few hfew, State.dataLoad_few (hfew.inFlight _), State.inFlight_inFlight, State.inFlight_loadD]

theorem State.coefLoad_dataStore : (s.coefLoad g.val cj.val i1).dataStore g2.val k.val i2 =
    s.inFlight (s.loadC g cj i1 ++ s.storeD g2 k i2) := by
  rw [State.coefLoad_few hfew, State.dataStore_eq, State.inFlight_inFlight, State.inFlight_storeD]

theorem State.dataLoad_dataLoad : (s.dataLoad g.val j.val i1).dataLoad g2.val k.val i2 =
    s.inFlight (s.loadD g j i1 ++ s.loadD g2 k i2) := by
  rw [State.dataLoad_few hfew, State.dataLoad_few (hfew.inFlight _), State.inFlight_inFlight, State.inFlight_loadD]

theorem State.dataLoad_dataStore : (s.dataLoad g.val j.val i1).dataStore g2.val k.val i2 =
    s.inFlight (s.loadD g j i1 ++ s.storeD g2 k i2) := by
  rw [State.dataLoad_few hfew, State.dataStore_eq, State.inFlight_inFlight, State.inFlight_storeD]

end

/-! ## Pointers -/

theorem incStep_eq (inc : Fin 4) : incStep inc = if inc = 0 then 0 else if inc = 1 then 1 else if inc = 2 then 2 else -1 := by
  fin_cases inc <;> rfl

/-- The offset that follows is the present one moved by the step, modulo the length (R63, R64). -/
theorem State.arNext_spec (s : State) (k : Nat) (inc : Fin 4) :
    s.arNext k inc < s.arLen k ∧ ((s.arNext k inc : Int) - s.arOff k - incStep inc) % (s.arLen k : Nat) = 0 := by
  have hpos : (0 : Int) < (s.arLen k : Nat) := by exact_mod_cast s.arLen_pos k
  have hnn := Int.emod_nonneg ((s.arOff k : Nat) + incStep inc) hpos.ne'
  have hlt := Int.emod_lt_of_pos ((s.arOff k : Nat) + incStep inc) hpos
  have hnext : (s.arNext k inc : Int) = ((s.arOff k : Nat) + incStep inc) % (s.arLen k : Nat) := Int.toNat_of_nonneg hnn
  refine ⟨by omega, ?_⟩
  rw [hnext, sub_sub]
  exact Int.emod_eq_zero_of_dvd (Int.mod_modEq _ _).symm.dvd

/-- Settles O8: one access is its effects in flight, a pair those of the first and then of the second, which sees the same pointers and memories. -/
theorem memoryOperationsComplete : Obligations.MemoryOperationsComplete := by
  unfold Obligations.MemoryOperationsComplete
  refine ⟨fun s gd g h j k cj i1 i2 hi hfew => ?_, fun s gd g k j inc hi => ?_, fun s k inc => ?_⟩
  · exact ⟨issue_inFlight hi (State.dataLoad_few hfew g k i1), issue_inFlight hi (s.dataStore_eq g k i1),
      issue_inFlight hi (State.coefLoad_few hfew g cj i1), issue_inFlight hi rfl, issue_inFlight hi rfl,
      fun _ => issue_inFlight hi (State.coefLoad_dataLoad hfew g h k cj i1 i2),
      issue_inFlight hi (State.coefLoad_dataStore hfew g h k cj i1 i2),
      fun _ _ => issue_inFlight hi (State.dataLoad_dataLoad hfew g h j k i1 i2),
      fun _ => issue_inFlight hi (State.dataStore_dataStore g h j k i1 i2),
      fun _ => issue_inFlight hi (State.dataLoad_dataStore hfew g h j k i1 i2)⟩
  · have hd := fun errs he hfew => exec_ld hi g k inc (errs := errs) he hfew
    have hc := fun errs he hfew => exec_ldc hi g j inc (errs := errs) he hfew
    exact ⟨fun he => hd 0 he (by decide), fun he => hd 1 he (by decide), fun he => hd 2 he (by decide), fun he => hc 0 he (by decide),
      fun he => hc 1 he (by decide), fun he => hc 2 he (by decide)⟩
  · obtain ⟨hlt, hmod⟩ := s.arNext_spec k.val inc
    rw [incStep_eq] at hmod
    exact ⟨rfl, s.arOff_lt k.val, hlt, hmod⟩

/-! ## Hardware loops (R59, R60) -/

/-- A loop in its last iteration leaves for the bundle after the body, where no outer loop ends on the same bundle. -/
theorem nextPc_leaves {pc first : Nat} {outer : List HwLoop} (ho : ∀ l ∈ outer, l.last ≠ pc) :
    nextPc pc ({ first := first, last := pc, left := 1 } :: outer) = (pc + 1, outer) := by
  cases outer with
  | nil => simp [nextPc]
  | cons l t => simp [nextPc, (ho l List.mem_cons_self).symm]

/-- The bundle that issues next, and the loops, once `k` bundles of `n` iterations over the `b` bundles after `pc` have issued. -/
def loopAt (pc b n k : Nat) (outer : List HwLoop) : Nat × List HwLoop :=
  (pc + 1 + k % b, { first := pc + 1, last := pc + b, left := n - k / b } :: outer)

theorem nextPc_loopAt {pc b n k : Nat} (outer : List HwLoop) (hb : 0 < b) (hk : k + 1 < n * b) :
    nextPc (loopAt pc b n k outer).1 (loopAt pc b n k outer).2 = loopAt pc b n (k + 1) outer := by
  have hdiv := Nat.div_add_mod k b
  have hmod := Nat.mod_lt k hb
  by_cases hlast : k % b + 1 = b
  · have hnext : k + 1 = b * (k / b + 1) := by
      rw [Nat.mul_add]
      omega
    have hleft : 1 < n - k / b := by
      have hlt : k / b + 1 < n := Nat.lt_of_mul_lt_mul_left (a := b) (by rwa [← hnext, Nat.mul_comm b n])
      omega
    have hpc : pc + 1 + k % b = pc + b := by omega
    simp only [loopAt, nextPc, if_pos hpc, if_pos hleft]
    rw [hnext, Nat.mul_mod_right, Nat.mul_div_cancel_left _ hb, Nat.sub_sub]
  · have hnext : k + 1 = k % b + 1 + b * (k / b) := by omega
    have hpc : pc + 1 + k % b ≠ pc + b := by omega
    have hlt : k % b + 1 < b := by omega
    have hmod' : (k + 1) % b = k % b + 1 := by rw [hnext, Nat.add_mul_mod_self_left, Nat.mod_eq_of_lt hlt]
    have hdiv' : (k + 1) / b = k / b := by rw [hnext, Nat.add_mul_div_left _ _ hb, Nat.div_eq_of_lt hlt, Nat.zero_add]
    simp only [loopAt, nextPc, if_neg hpc, hmod', hdiv']
    rfl

theorem iterate_loopAt {pc b n : Nat} (outer : List HwLoop) (hb : 0 < b) {k : Nat} (hk : k < n * b) :
    Nat.iterate (fun x : Nat × List HwLoop => nextPc x.1 x.2) k (loopAt pc b n 0 outer) = loopAt pc b n k outer := by
  induction k with
  | zero => rfl
  | succ k ih => rw [Function.iterate_succ_apply', ih (Nat.lt_of_succ_lt hk), nextPc_loopAt outer hb hk]

/-- The last bundle of the last iteration leaves the loop, where no outer loop ends on the same bundle. -/
theorem nextPc_loopAt_last {pc b n : Nat} {outer : List HwLoop} (hb : 0 < b) (hn : 0 < n) (ho : ∀ l ∈ outer, l.last ≠ pc + b) :
    nextPc (loopAt pc b n (n * b - 1) outer).1 (loopAt pc b n (n * b - 1) outer).2 = (pc + b + 1, outer) := by
  obtain ⟨m, rfl⟩ := Nat.exists_eq_add_one_of_ne_zero hn.ne'
  have hk : (m + 1) * b - 1 = b - 1 + b * m := by
    rw [Nat.add_mul, Nat.mul_comm m b]
    omega
  have hmod : ((m + 1) * b - 1) % b = b - 1 := by rw [hk, Nat.add_mul_mod_self_left, Nat.mod_eq_of_lt (by omega)]
  have hdiv : ((m + 1) * b - 1) / b = m := by rw [hk, Nat.add_mul_div_left _ _ hb, Nat.div_eq_of_lt (by omega), Nat.zero_add]
  have hpc : pc + 1 + (b - 1) = pc + b := by omega
  simp only [loopAt, hmod, hdiv, hpc, Nat.add_sub_cancel_left]
  exact nextPc_leaves ho

theorem loopAt_zero (pc b n : Nat) (outer : List HwLoop) :
    loopAt pc b n 0 outer = (pc + 1, { first := pc + 1, last := pc + b, left := n } :: outer) := by
  simp [loopAt]

theorem exec_hloop {s : State} (hturn : s.wheel.turning = true) (inner : Bool) (count : Fin 4096) (len : Fin 512) :
    exec (.hloop inner count len) s = .next (if count.val = 0 then { s with wheel := { s.wheel with jump := some (s.wheel.pc + len.val + 1) } }
      else { s with wheel := { s.wheel with
        loops := { first := s.wheel.pc + 1, last := s.wheel.pc + len.val, left := count.val } :: s.wheel.loops } }) :=
  congrArg Host.Outcome.next (if_neg (by simp [hturn]))

/-- Settles O10: while bundles of the body are left the Wheel is where it stands in the loop, and the last of them leaves it. -/
theorem hardwareLoops : Obligations.HardwareLoops := by
  unfold Obligations.HardwareLoops
  refine ⟨fun s inner count len hturn _ => ⟨fun h0 => ?_, fun h0 => ?_⟩, fun pc b n outer hb hn ho => ?_⟩
  · have hv : count.val = 0 := congrArg Fin.val h0
    rw [exec_hloop hturn, if_pos hv]
  · have hv : ¬count.val = 0 := fun hv => h0 (Fin.ext hv)
    rw [exec_hloop hturn, if_neg hv]
  · rw [← loopAt_zero]
    have hpos := Nat.mul_pos hn hb
    refine ⟨fun k hk => congrArg Prod.fst (iterate_loopAt outer hb hk), ?_⟩
    have hlast := iterate_loopAt (pc := pc) outer hb (Nat.sub_lt hpos Nat.one_pos)
    calc _ = Nat.iterate (fun x : Nat × List HwLoop => nextPc x.1 x.2) (n * b - 1 + 1) (loopAt pc b n 0 outer) := by
          rw [Nat.sub_add_cancel hpos]
      _ = (pc + b + 1, outer) := by rw [Function.iterate_succ_apply', hlast, nextPc_loopAt_last hb hn ho]

end Sys2Proof.Machine
end

section
/-! PROOFS. Debug commands and triggers (R68, R79, R116, R120, R128, R215, R461). -/

namespace Sys2Proof.Machine

open Sys2Proof

/-! ## Debug commands (R79, R215) -/

theorem State.dbgWrite_of_mayWrite {s : State} {req : Requester} (h : s.mayWrite req = true) : s.dbgWrite req = s.debugOpen := by
  simp [State.dbgWrite, h]

section
variable {s : State} {req : Requester} (hw : s.mayWrite req = true) (hopen : s.debugOpen = true)
include hw hopen

theorem exec_debugHalt_open : exec (.debugHalt req) s = .next (s.raise R.WHEEL_DBG_HALT) :=
  congrArg Host.Outcome.next (if_pos ((State.dbgWrite_of_mayWrite hw).trans hopen))

theorem exec_debugStep_open : exec (.debugStep req) s =
    .next (if s.wheel.dbgHalted then (s.raise R.WHEEL_DBG_STEP).pwmDebugResume else s.raise R.WHEEL_DBG_STEP) :=
  congrArg Host.Outcome.next (if_neg (by simp [State.dbgWrite_of_mayWrite hw, hopen]))

theorem exec_debugResume_open : exec (.debugResume req) s =
    .next (if s.wheel.dbgHalted then
      (State.clear { s.clear R.WHEEL_DBG_HALT with wheel := { s.wheel with dbgHalted := false, matchAt := s.cycle } }
        R.WHEEL_DBG_HALTED).pwmDebugResume
      else s.clear R.WHEEL_DBG_HALT) :=
  congrArg Host.Outcome.next (if_neg (by simp [State.dbgWrite_of_mayWrite hw, hopen]))

/-- A resume from a halt clears both bits of the halt (R79, assumption 29). -/
theorem debugResume_halted (hh : s.wheel.dbgHalted = true) :
    ∃ t, exec (.debugResume req) s = .next t ∧ t.wheel.dbgHalted = false ∧ t.on R.WHEEL_DBG_HALTED = false ∧
      t.on R.WHEEL_DBG_HALT = false ∧ t.wheel.g = s.wheel.g ∧ t.mem = s.mem ∧ t.dev = s.dev := by
  refine ⟨_, (exec_debugResume_open hw hopen).trans (congrArg _ (if_pos hh)), rfl, ?_, ?_, rfl, rfl, rfl⟩
  · exact State.on_putB_self _ R.WHEEL_DBG_HALTED false (by decide)
  · exact (State.on_put_ne _ R.WHEEL_DBG_HALTED R.WHEEL_DBG_HALT 0 (by decide)).trans
      (State.on_putB_self s R.WHEEL_DBG_HALT false (by decide))

end

/-- Settles O19: the requester may write, so that what decides is whether debug is open. -/
theorem debugCommandsComplete : Obligations.DebugCommandsComplete := by
  unfold Obligations.DebugCommandsComplete
  intro s req v hw
  have hdbg := State.dbgWrite_of_mayWrite hw
  refine ⟨fun hopen => ⟨exec_debugHalt_open hw hopen, congrArg Host.Outcome.next (if_pos ?_), fun hh => ?_, fun hh => ?_⟩, fun hopen => ?_⟩
  · simp [State.busUp_of_mayWrite hw, hopen]
  · rw [exec_debugStep_open hw hopen, exec_debugResume_open hw hopen, hh]
    exact ⟨rfl, rfl⟩
  · refine ⟨?_, debugResume_halted hw hopen hh⟩
    rw [exec_debugStep_open hw hopen, hh]
    rfl
  · rw [hopen] at hdbg
    exact ⟨congrArg Host.Outcome.next (if_neg (by simp [hdbg])), congrArg Host.Outcome.next (if_pos (by simp [hdbg])),
      congrArg Host.Outcome.next (if_pos (by simp [hdbg])), congrArg Host.Outcome.next (if_neg (by simp [hopen]))⟩

/-! ## Triggers (R68, R116, R120, R128, R461) -/

/-- What a trigger of group g that is open to it leaves: the edge on which the group starts, or the refusal of a running calibration. -/
def State.triggered (s : State) (g t0 : Nat) : State :=
  if s.on R.ADC_CAL_BUSY then s.raise R.ADC_STAT_CALREJ
  else { s with adc := { s.adc with trigs := s.adc.trigs ++ [(t0, g, s.cycle)] } }

theorem State.adcTrigger_open {s : State} {g : Nat} (hopen : s.trigOpen = true) (hm : s.groupMembers g ≠ []) (t0 : Nat) :
    s.adcTrigger g t0 = s.triggered g t0 :=
  if_neg (by simp [hopen, hm])

/-- The event of timebase group g: the zero, the peak of an up-down timebase, or the count GTCMP in one direction (R116). -/
theorem State.groupDue_of_event {s : State} {g : Nat} (hsrc : s.get (R.ADC_GCFG_SRC g) = 2) (hrun : s.tbRuns = true)
    (hp : s.tbP (s.get (R.ADC_GTRIG_TB g)) ≠ 0) (hnone : ∀ e ∈ s.adc.trigs, e.2.1 = g → e.2.2 ≠ s.cycle)
    (hevt : s.get (R.ADC_GTRIG_EVT g) = 0 ∧ s.tbCount (s.get (R.ADC_GTRIG_TB g)) = 0 ∨
      s.get (R.ADC_GTRIG_EVT g) = 1 ∧ s.tbUd (s.get (R.ADC_GTRIG_TB g)) = true ∧
        s.tbCount (s.get (R.ADC_GTRIG_TB g)) = s.tbP (s.get (R.ADC_GTRIG_TB g)) ∨
      s.get (R.ADC_GTRIG_EVT g) = 2 ∧ s.tbCount (s.get (R.ADC_GTRIG_TB g)) = s.get (R.ADC_GTCMP_CMP g) ∧
        s.tbFalling (s.get (R.ADC_GTRIG_TB g)) = false ∨
      s.get (R.ADC_GTRIG_EVT g) = 3 ∧ s.tbCount (s.get (R.ADC_GTRIG_TB g)) = s.get (R.ADC_GTCMP_CMP g) ∧
        s.tbFalling (s.get (R.ADC_GTRIG_TB g)) = true) : s.groupDue g = true := by
  have hfree : (s.adc.trigs.any fun e => decide (e.2.1 = g) && decide (e.2.2 = s.cycle)) = false := by
    simpa using fun a b c hmem hg => hnone (a, b, c) hmem hg
  have hat : s.groupEvent g = true := by
    unfold State.groupEvent
    obtain ⟨he, hc⟩ | ⟨he, hu, hc⟩ | ⟨he, hc, hf⟩ | ⟨he, hc, hf⟩ := hevt
    · simp [hsrc, he, State.tbAt, hrun, hp, hc]
    · simp [hsrc, he, State.tbAt, hrun, hp, hc, hu]
    · simp [hsrc, he, State.tbAt, hrun, hp, hc, hf]
    · simp [hsrc, he, State.tbAt, hrun, hp, hc, hf]
  simp [State.groupDue, hat, hfree]

/-- A timebase that stands, or has none of the counts that can be selected, gives its group no event. -/
theorem State.groupDue_none {s : State} {g : Nat} (h : s.get (R.ADC_GCFG_SRC g) ≠ 2 ∨ s.tbRuns = false ∨ s.tbP (s.get (R.ADC_GTRIG_TB g)) = 0 ∨
      (s.tbCount (s.get (R.ADC_GTRIG_TB g)) ≠ 0 ∧ s.tbCount (s.get (R.ADC_GTRIG_TB g)) ≠ s.tbP (s.get (R.ADC_GTRIG_TB g)) ∧
        s.tbCount (s.get (R.ADC_GTRIG_TB g)) ≠ s.get (R.ADC_GTCMP_CMP g))) : s.groupDue g = false := by
  have hat : s.groupEvent g = false := by
    unfold State.groupEvent
    dsimp only
    obtain h | h | h | ⟨h0, hp, hv⟩ := h
    · simp [h]
    · split <;> simp [State.tbAt, h]
    · split <;> simp [State.tbAt, h]
    · split <;> simp [State.tbAt, h0, hp, hv]
  simp [State.groupDue, hat]

/-! ### Each trigger, where the planes run and the group has members -/

section
variable {s : State} (hopen : s.trigOpen = true) (hb : s.busUp = true) {g : Fin 8} (hm : s.groupMembers g.val ≠ [])
include hopen hm

theorem exec_adcTrig_open {gd : Guard} (hi : s.Issues gd) (hsrc : s.get (R.ADC_GCFG_SRC g.val) = 1) :
    exec (.adcTrig gd g) s = .next (s.triggered g.val (adcEdgeAt (s.cycle + 1))) :=
  congrArg Host.Outcome.next ((State.issue_of_issues _ hi).trans ((if_pos hsrc).trans (State.adcTrigger_open hopen hm _)))

theorem exec_timebaseGroupTrigger_due (hdue : s.groupDue g.val = true) :
    exec (.timebaseGroupTrigger g) s = .next (s.triggered g.val (adcEdgeAt (s.cycle + 1))) :=
  congrArg Host.Outcome.next ((if_pos hdue).trans (State.adcTrigger_open hopen hm _))

theorem exec_adtrigEdge_edge {rising : Bool} {n : Nat} (hedge : s.bit R.ADC_CTL_ADTEDGE (if rising then 0 else 1) = true)
    (hn : n = max 1 (s.get R.ADC_CTL_ADTFILT)) (hl : (below 8 fun g => decide (s.get (R.ADC_GCFG_SRC g) = 3)) = [g.val]) :
    exec (.adtrigEdge rising n) s = .next (s.triggered g.val (adcEdgeAt s.cycle + 9)) := by
  refine congrArg Host.Outcome.next ((if_pos ?_).trans ?_)
  · simp [hedge, State.adtFilter, hn]
  · rw [hl]
    exact State.adcTrigger_open hopen hm _

include hb

theorem exec_swtrig_open (hsrc : s.get (R.ADC_GCFG_SRC g.val) = 4) :
    exec (.swtrig g) s = .next (s.triggered g.val (adcEdgeAt (s.cycle + 2))) :=
  congrArg Host.Outcome.next ((if_pos (by simp [hb, hsrc])).trans (State.adcTrigger_open hopen hm _))

end

theorem exec_adcTrig_other {s : State} {g : Fin 8} (gd : Guard) (hsrc : s.get (R.ADC_GCFG_SRC g.val) ≠ 1) :
    exec (.adcTrig gd g) s = .next s := by
  refine congrArg Host.Outcome.next ?_
  unfold State.issue
  dsimp only
  rw [if_neg hsrc, ite_self]

/-- Settles O21: whatever asks for it, an open trigger of a group leaves its edge or the refusal of a calibration. -/
theorem triggersComplete : Obligations.TriggersComplete := by
  unfold Obligations.TriggersComplete
  intro s gd g rising n hb hopen hm taken tb evt v event
  have hevent (he : event) : s.groupDue g.val = true := by
    obtain ⟨hsrc, hrun, hp, hnone, hevt⟩ := he
    exact State.groupDue_of_event hsrc hrun hp hnone hevt
  have htaken (hc : s.on R.ADC_CAL_BUSY = false) (t0 : Nat) : (.next (s.triggered g.val t0) : Out) = taken t0 :=
    congrArg Host.Outcome.next (if_neg (by simp [hc]))
  have hrefused (hc : s.on R.ADC_CAL_BUSY = true) (t0 : Nat) : (.next (s.triggered g.val t0) : Out) = .next (s.raise R.ADC_STAT_CALREJ) :=
    congrArg Host.Outcome.next (if_pos hc)
  refine ⟨fun c => ?_, fun hc => ⟨?_, ?_, ?_, ?_⟩, fun hc => ⟨?_, ?_, ?_, ?_⟩, fun h => ?_, fun h => ?_, fun h => ?_, fun h => ?_⟩
  · obtain ⟨hle, hlt, hmod⟩ := adcEdgeAt_spec c
    exact ⟨hmod, hle, hlt⟩
  · exact fun hi hsrc => (exec_adcTrig_open hopen hm hi hsrc).trans (htaken hc _)
  · exact fun he => (exec_timebaseGroupTrigger_due hopen hm (hevent he)).trans (htaken hc _)
  · exact fun hsrc => (exec_swtrig_open hopen hb hm hsrc).trans (htaken hc _)
  · exact fun hedge hn hl => (exec_adtrigEdge_edge hopen hm hedge hn hl).trans (htaken hc _)
  · exact fun hi hsrc => (exec_adcTrig_open hopen hm hi hsrc).trans (hrefused hc _)
  · exact fun he => (exec_timebaseGroupTrigger_due hopen hm (hevent he)).trans (hrefused hc _)
  · exact fun hsrc => (exec_swtrig_open hopen hb hm hsrc).trans (hrefused hc _)
  · exact fun hedge hn hl => (exec_adtrigEdge_edge hopen hm hedge hn hl).trans (hrefused hc _)
  · exact congrArg Host.Outcome.next (if_neg (by obtain h | h := h <;> simp [State.adtFilter, h]))
  · exact congrArg Host.Outcome.next (if_neg (by simp [State.groupDue_none h]))
  · exact exec_adcTrig_other gd h
  · exact congrArg Host.Outcome.next (if_neg (by simp [h]))

end Sys2Proof.Machine
end

section
/-! PROOFS. A POS.RD in a cycle whose PERCLK edge has not been taken (R137, R138): what the statement about the X slot takes for the edge before it. -/

namespace Sys2Proof.Machine

open Sys2Proof

/-- A turn in cycle 4, whose own PERCLK edge has not been taken: the block stands as at the edge of cycle 0, the last at or before cycle 2, at which the speed of encoder 0 was 1.0. At the edge before that it was 0. -/
def edgeToCome : State := { State.reset with
  dev := .run, cycle := 4, wheel := { turning := true }
  pos := { held := { at_ := 0, runs := true, regs := [((R.POS_ESPD_VALUE 0).key, 0x3F800000)] } } }

theorem edgeToCome_issues : edgeToCome.Issues ⟨0, false⟩ := ⟨rfl, Bool.noConfusion⟩

/-- The read returns the speed held at the edge of cycle 0. -/
theorem edgeToCome_reads : exec (.posRd ⟨0, false⟩ 0 2 0) edgeToCome = .next (edgeToCome.inFlight [(6, .setG 0 0x3F800000#32 0)]) := rfl

/-- Refutes O9: in `edgeToCome` the read returns what the block held at the last edge at or before the second cycle back; the statement, by the number of the cycle alone, takes the edge before that one. -/
theorem not_xSlotOperationsComplete : ¬ Obligations.XSlotOperationsComplete := by
  unfold Obligations.XSlotOperationsComplete
  rintro ⟨hreads, -, -⟩
  obtain ⟨-, -, hpos, -⟩ := hreads edgeToCome ⟨0, false⟩ 0 0 0 0 2 0 0 0 0 edgeToCome_issues
  have hflight := congrArg (fun t => t.wheel.inflight) (Host.Outcome.next.inj (edgeToCome_reads.symm.trans hpos))
  exact absurd hflight (by decide)

end Sys2Proof.Machine
end

section
/-! PROOFS. Syllables: what an operation is encoded to decodes to it (R47, R48, R508–R511). -/

namespace Sys2Proof.Machine

open Sys2Proof

/-! ## The word of a syllable and its fields -/

/-- The word is one of 32 bits, and it decodes to the operation. -/
def DecodesTo (dec : Nat → Option Instr) (w : Nat) (i : Instr) : Prop := w < 2 ^ 32 ∧ dec w = some i

theorem sylBits_of {w lo k : Nat} {x : Fin (2 ^ k)} (h : w / 2 ^ lo % 2 ^ k = x.val) : sylBits w lo k = x := Fin.ext h

theorem testBit_of {w n : Nat} {b : Bool} (h : w / 2 ^ n % 2 = b.toNat) : w.testBit n = b := by
  rw [Nat.testBit_eq_decide_div_mod_eq, h]
  cases b <;> rfl

theorem sylIf_of {w : Nat} {unused : List (Nat × Nat)} {i j : Instr} (hun : unused.Forall fun r => w / 2 ^ r.1 % 2 ^ r.2 = 0)
    (hi : i = j) : sylIf w unused i = some j :=
  hi ▸ if_pos (List.all_eq_true.mpr fun r hr => decide_eq_true (List.forall_iff_forall_mem.mp hun r hr))

/-- To decode the word of an operation it is enough to know OP, the guard, and the 22 bits below them. -/
theorem decodesTo_sylWord {dec : Nat → Option Instr} {op r : Nat} {gd : Guard} {i : Instr} (hop : op < 64) (hr : r < 2 ^ 22)
    (h : ∀ w, sylOp w = op → sylGuard w = gd → w % 2 ^ 22 = r → dec w = some i) : DecodesTo dec (sylWord op gd r) i := by
  obtain ⟨psel, pinv⟩ := gd
  have hinv : (if pinv then 2 ^ 22 else 0) = (if pinv then 1 else 0) * 2 ^ 22 := by cases pinv <;> rfl
  have hbit : (if pinv then 1 else 0) < 2 := by cases pinv <;> decide
  have hlt : sylWord op ⟨psel, pinv⟩ r < 2 ^ 32 := by
    simp only [sylWord, hinv]
    omega
  refine ⟨hlt, h _ ?_ ?_ ?_⟩
  · simp only [sylOp, slice, sylWord, hinv]
    omega
  · have hpsel : sylBits (sylWord op ⟨psel, pinv⟩ r) 23 3 = psel := sylBits_of (by simp only [sylWord, hinv]; omega)
    have hpinv : (sylWord op ⟨psel, pinv⟩ r).testBit 22 = pinv := by
      have hdiv : sylWord op ⟨psel, pinv⟩ r / 2 ^ 22 % 2 = if pinv then 1 else 0 := by
        simp only [sylWord, hinv]
        omega
      rw [Nat.testBit_eq_decide_div_mod_eq, hdiv]
      cases pinv <;> rfl
    simp only [sylGuard, hpsel, hpinv]
  · simp only [sylWord, hinv]
    omega

/-- The guard bits of an operation that has none are zero (R51). -/
theorem slice_of_plainGuard {w : Nat} (h : sylGuard w = plainGuard) : slice w 22 4 = 0 := by
  have hpsel : w / 2 ^ 23 % 2 ^ 3 = 0 := congrArg (fun gd : Guard => gd.psel.val) h
  have hpinv : w.testBit 22 = false := congrArg Guard.pinv h
  rw [Nat.testBit_eq_decide_div_mod_eq, decide_eq_false_iff_not] at hpinv
  unfold slice
  omega

theorem decodesTo_zero {dec : Nat → Option Instr} (h : dec 0 = some .nop) : DecodesTo dec 0 .nop := ⟨by decide, h⟩

/-! ## Formats: the fields an operation of a slot has, and the bits it leaves zero (R48) -/

section
variable {dec : Nat → Option Instr} {op : Nat} (hop : op < 64) (gd : Guard) (d a b : Fin 128) (pd pa pb : Fin 8) (amt : Fin 32)
include hop

theorem decodesTo_dab {i : Guard → Fin 128 → Fin 128 → Fin 128 → Instr}
    (hdec : ∀ w, sylOp w = op → dec w = sylIf w [(0, 1)] (i (sylGuard w) (sylD w) (sylA w) (sylB w))) :
    DecodesTo dec (sylWord op gd (d.val * 2 ^ 15 + a.val * 2 ^ 8 + b.val * 2)) (i gd d a b) := by
  refine decodesTo_sylWord hop (by omega) fun w ho hg hw => ?_
  have hd : sylD w = d := sylBits_of (by omega)
  have ha : sylA w = a := sylBits_of (by omega)
  have hb : sylB w = b := sylBits_of (by omega)
  rw [hdec w ho, hg, hd, ha, hb]
  exact sylIf_of (by simp only [List.Forall]; omega) rfl

theorem decodesTo_da {i : Guard → Fin 128 → Fin 128 → Instr}
    (hdec : ∀ w, sylOp w = op → dec w = sylIf w [(0, 8)] (i (sylGuard w) (sylD w) (sylA w))) :
    DecodesTo dec (sylWord op gd (d.val * 2 ^ 15 + a.val * 2 ^ 8)) (i gd d a) := by
  refine decodesTo_sylWord hop (by omega) fun w ho hg hw => ?_
  have hd : sylD w = d := sylBits_of (by omega)
  have ha : sylA w = a := sylBits_of (by omega)
  rw [hdec w ho, hg, hd, ha]
  exact sylIf_of (by simp only [List.Forall]; omega) rfl

theorem decodesTo_daAmt {i : Guard → Fin 128 → Fin 128 → Fin 32 → Instr}
    (hdec : ∀ w, sylOp w = op → dec w = sylIf w [(0, 1), (6, 2)] (i (sylGuard w) (sylD w) (sylA w) (sylBits w 1 5))) :
    DecodesTo dec (sylWord op gd (d.val * 2 ^ 15 + a.val * 2 ^ 8 + amt.val * 2)) (i gd d a amt) := by
  refine decodesTo_sylWord hop (by omega) fun w ho hg hw => ?_
  have hd : sylD w = d := sylBits_of (by omega)
  have ha : sylA w = a := sylBits_of (by omega)
  have hamt : sylBits w 1 5 = amt := sylBits_of (by omega)
  rw [hdec w ho, hg, hd, ha, hamt]
  exact sylIf_of (by simp only [List.Forall]; omega) rfl

theorem decodesTo_pab {i : Guard → Fin 8 → Fin 128 → Fin 128 → Instr}
    (hdec : ∀ w, sylOp w = op → dec w = sylIf w [(0, 1), (18, 4)] (i (sylGuard w) (sylBits w 15 3) (sylA w) (sylB w))) :
    DecodesTo dec (sylWord op gd (pd.val * 2 ^ 15 + a.val * 2 ^ 8 + b.val * 2)) (i gd pd a b) := by
  refine decodesTo_sylWord hop (by omega) fun w ho hg hw => ?_
  have hd : sylBits w 15 3 = pd := sylBits_of (by omega)
  have ha : sylA w = a := sylBits_of (by omega)
  have hb : sylB w = b := sylBits_of (by omega)
  rw [hdec w ho, hg, hd, ha, hb]
  exact sylIf_of (by simp only [List.Forall]; omega) rfl

theorem decodesTo_ppp {i : Guard → Fin 8 → Fin 8 → Fin 8 → Instr}
    (hdec : ∀ w, sylOp w = op → dec w = sylIf w [(0, 1), (4, 4), (11, 4), (18, 4)]
      (i (sylGuard w) (sylBits w 15 3) (sylBits w 8 3) (sylBits w 1 3))) :
    DecodesTo dec (sylWord op gd (pd.val * 2 ^ 15 + pa.val * 2 ^ 8 + pb.val * 2)) (i gd pd pa pb) := by
  refine decodesTo_sylWord hop (by omega) fun w ho hg hw => ?_
  have hd : sylBits w 15 3 = pd := sylBits_of (by omega)
  have ha : sylBits w 8 3 = pa := sylBits_of (by omega)
  have hb : sylBits w 1 3 = pb := sylBits_of (by omega)
  rw [hdec w ho, hg, hd, ha, hb]
  exact sylIf_of (by simp only [List.Forall]; omega) rfl

end

/-! ## The four tables -/

/-- F0–F3 (R508). -/
theorem decodesTo_encodeF {i : Instr} {w : Nat} (h : encodeF i = some w) : DecodesTo decodeF w i := by
  unfold encodeF at h
  split at h
  case h_56 => cases h
  all_goals obtain rfl := Option.some.inj h
  case h_1 => exact decodesTo_zero rfl
  case h_10 | h_11 | h_30 | h_31 | h_32 | h_33 | h_54 =>
    exact decodesTo_da (by decide) _ _ _ fun w ho => by unfold decodeF; rw [ho]; rfl
  case h_21 | h_22 | h_23 =>
    exact decodesTo_daAmt (by decide) _ _ _ _ fun w ho => by unfold decodeF; rw [ho]; rfl
  case h_34 | h_35 | h_36 | h_37 | h_38 | h_39 | h_40 | h_41 | h_42 | h_43 | h_44 | h_45 | h_46 | h_47 | h_48 | h_49 =>
    exact decodesTo_pab (by decide) _ _ _ _ fun w ho => by unfold decodeF; rw [ho]; rfl
  case h_50 | h_51 | h_52 =>
    exact decodesTo_ppp (by decide) _ _ _ _ fun w ho => by unfold decodeF; rw [ho]; rfl
  case h_53 gd pd pa =>
    refine decodesTo_sylWord (by decide) (by omega) fun w ho hg hw => ?_
    have hd : sylBits w 15 3 = pd := sylBits_of (by omega)
    have ha : sylBits w 8 3 = pa := sylBits_of (by omega)
    have hdec : decodeF w = sylIf w [(0, 8), (11, 4), (18, 4)] (.pnot (sylGuard w) (sylBits w 15 3) (sylBits w 8 3)) := by
      unfold decodeF
      rw [ho]
      rfl
    rw [hdec, hg, hd, ha]
    exact sylIf_of (by simp only [List.Forall]; omega) rfl
  case h_55 gd d imm =>
    refine decodesTo_sylWord (by decide) (by omega) fun w ho hg hw => ?_
    have hd : sylD w = d := sylBits_of (by omega)
    have himm : BitVec.ofNat 15 (w % 2 ^ 15) = imm := BitVec.eq_of_toNat_eq (by rw [BitVec.toNat_ofNat]; omega)
    unfold decodeF
    rw [ho, hg, hd, himm]
    rfl
  all_goals exact decodesTo_dab (by decide) _ _ _ _ fun w ho => by unfold decodeF; rw [ho]; rfl

/-- T0 and T1 (R509). -/
theorem decodesTo_encodeT {i : Instr} {w : Nat} (hwf : i.wf = true) (h : encodeT i = some w) : DecodesTo decodeT w i := by
  unfold encodeT at h
  split at h
  case h_9 => cases h
  all_goals obtain rfl := Option.some.inj h
  case h_1 => exact decodesTo_zero rfl
  case h_4 gd d a =>
    have heven : d.val % 2 = 0 := of_decide_eq_true hwf
    refine decodesTo_sylWord (by decide) (by omega) fun w ho hg hw => ?_
    have hd : sylD w = d := sylBits_of (by omega)
    have ha : sylA w = a := sylBits_of (by omega)
    have hdec : decodeT w = if (sylD w).val % 2 = 0 then sylIf w [(0, 8)] (.sincos (sylGuard w) (sylD w) (sylA w)) else none := by
      unfold decodeT
      rw [ho]
      rfl
    rw [hdec, hg, hd, ha, if_pos heven]
    exact sylIf_of (by simp only [List.Forall]; omega) rfl
  case h_5 => exact decodesTo_dab (by decide) _ _ _ _ fun w ho => by unfold decodeT; rw [ho]; rfl
  all_goals exact decodesTo_da (by decide) _ _ _ fun w ho => by unfold decodeT; rw [ho]; rfl

/-- M (R510): a pair holds the increment of its data access, or both increments, in OP. -/
theorem decodesTo_encodeM {i : Instr} {w : Nat} (h : encodeM i = some w) : DecodesTo decodeM w i := by
  unfold encodeM at h
  split at h
  case h_12 => cases h
  all_goals obtain rfl := Option.some.inj h
  case h_1 => exact decodesTo_zero rfl
  case h_7 | h_8 | h_9 | h_10 | h_11 =>
    refine decodesTo_sylWord (by omega) (by omega) fun w ho hg hw => ?_
    subst hg
    unfold sylOp slice at ho
    unfold decodeM sylOp slice
    dsimp only
    repeat rw [if_neg (by omega)]
    rw [if_pos (by omega)]
    refine congrArg some ?_
    congr 1 <;> exact sylBits_of (by omega)
  all_goals
    refine decodesTo_sylWord (by decide) (by omega) fun w ho hg hw => ?_
    subst hg
    unfold decodeM
    rw [ho]
    exact sylIf_of (by simp only [List.Forall]; omega) (by congr 1 <;> exact sylBits_of (by omega))

/-- PWM.WR: the value's place is a field between the generator's and OP (R511). -/
theorem decodesTo_pwmWr {n : Nat} (hn : n < 4) (gd : Guard) (gen : Fin 8) (g : Fin 128) {i : Guard → Fin 8 → Fin 128 → Instr}
    (hdec : ∀ w, sylOp w = 0x05 → slice w 15 2 = n →
      decodeX w = sylIf w [(0, 1), (11, 4), (17, 5)] (i (sylGuard w) (sylBits w 8 3) (sylB w))) :
    DecodesTo decodeX (sylWord 0x05 gd (n * 2 ^ 15 + gen.val * 2 ^ 8 + g.val * 2)) (i gd gen g) := by
  refine decodesTo_sylWord (by decide) (by omega) fun w ho hg hw => ?_
  have hplace : slice w 15 2 = n := by unfold slice; omega
  have hgen : sylBits w 8 3 = gen := sylBits_of (by omega)
  have hval : sylB w = g := sylBits_of (by omega)
  rw [hdec w ho hplace, hg, hgen, hval]
  exact sylIf_of (by simp only [List.Forall]; omega) rfl

/-- LOOP.CMD: the command is the field at bit 1 (R511). -/
theorem decodesTo_loopCmd {n : Nat} (hn : n < 4) (gd : Guard) (l : Fin 8) {i : Guard → Fin 8 → Instr}
    (hdec : ∀ w, sylOp w = 0x0B → slice w 1 2 = n →
      decodeX w = sylIf w [(0, 1), (3, 5), (11, 11)] (i (sylGuard w) (sylBits w 8 3))) :
    DecodesTo decodeX (sylWord 0x0B gd (l.val * 2 ^ 8 + n * 2)) (i gd l) := by
  refine decodesTo_sylWord (by decide) (by omega) fun w ho hg hw => ?_
  have hcmd : slice w 1 2 = n := by unfold slice; omega
  have hl : sylBits w 8 3 = l := sylBits_of (by omega)
  rw [hdec w ho hcmd, hg, hl]
  exact sylIf_of (by simp only [List.Forall]; omega) rfl

/-- X (R511). -/
theorem decodesTo_encodeX {i : Instr} {w : Nat} (hwf : i.wf = true) (h : encodeX i = some w) : DecodesTo decodeX w i := by
  cases i
  case adcTrig | adcRd | rampTgt | rampRd | loopMeas | loopRd | rcuRd | rcuLrn | qPush | qPushe | xwRd | xwRdx | xwWr | xwWrx | tcRd =>
    obtain rfl := Option.some.inj h
    refine decodesTo_sylWord (by decide) (by omega) fun w ho hg hw => ?_
    subst hg
    unfold decodeX
    rw [ho]
    exact sylIf_of (by simp only [List.Forall]; omega) (by congr 1 <;> exact sylBits_of (by omega))
  case nop =>
    obtain rfl := Option.some.inj h
    exact decodesTo_zero rfl
  case sdRd gd g ch pv =>
    obtain rfl := Option.some.inj h
    refine decodesTo_sylWord (by decide) (by omega) fun w ho hg hw => ?_
    have hd : sylD w = g := sylBits_of (by omega)
    have hch : slice w 8 3 = ch.val := by unfold slice; omega
    have hpv : sylBits w 1 3 = pv := sylBits_of (by omega)
    have hdec : decodeX w = if hlt : slice w 8 3 < 6 then
        sylIf w [(0, 1), (4, 4), (11, 4)] (.sdRd (sylGuard w) (sylD w) ⟨slice w 8 3, hlt⟩ (sylBits w 1 3)) else none := by
      unfold decodeX
      rw [ho]
      rfl
    rw [hdec, dif_pos (hch ▸ ch.isLt), hg, hd, hpv]
    exact sylIf_of (by simp only [List.Forall]; omega) (congrArg (Instr.sdRd gd g · pv) (Fin.ext hch))
  case posRd gd g src pv =>
    obtain rfl := Option.some.inj h
    refine decodesTo_sylWord (by decide) (by omega) fun w ho hg hw => ?_
    have hd : sylD w = g := sylBits_of (by omega)
    have hsrc : slice w 8 5 = src.val := by unfold slice; omega
    have hpv : sylBits w 1 3 = pv := sylBits_of (by omega)
    have hdec : decodeX w = if hlt : slice w 8 5 < 20 then
        sylIf w [(0, 1), (4, 4), (13, 2)] (.posRd (sylGuard w) (sylD w) ⟨slice w 8 5, hlt⟩ (sylBits w 1 3)) else none := by
      unfold decodeX
      rw [ho]
      rfl
    rw [hdec, dif_pos (hsrc ▸ src.isLt), hg, hd, hpv]
    exact sylIf_of (by simp only [List.Forall]; omega) (congrArg (Instr.posRd gd g · pv) (Fin.ext hsrc))
  case pwmWr gd gen isB g =>
    obtain rfl := Option.some.inj h
    cases isB
    case false =>
      exact decodesTo_pwmWr (n := 0) (i := (.pwmWr · · false ·)) (by decide) gd gen g fun w ho hs => by
        unfold decodeX; rw [ho]; dsimp only; rw [hs]; rfl
    case true =>
      exact decodesTo_pwmWr (n := 1) (i := (.pwmWr · · true ·)) (by decide) gd gen g fun w ho hs => by
        unfold decodeX; rw [ho]; dsimp only; rw [hs]; rfl
  case pwmWrForce gd gen g =>
    obtain rfl := Option.some.inj h
    exact decodesTo_pwmWr (n := 2) (by decide) gd gen g fun w ho hs => by unfold decodeX; rw [ho]; dsimp only; rw [hs]; rfl
  case pwmGrpa | pwmGrpb =>
    obtain rfl := Option.some.inj h
    exact decodesTo_dab (by decide) _ _ _ _ fun w ho => by unfold decodeX; rw [ho]; rfl
  case comm gd mask =>
    obtain rfl := Option.some.inj h
    have hmne : mask ≠ 0 := of_decide_eq_true hwf
    have hne : mask.val ≠ 0 := fun h0 => hmne (Fin.ext h0)
    refine decodesTo_sylWord (by decide) (by omega) fun w ho hg hw => ?_
    have hmask : sylBits w 8 2 = mask := sylBits_of (by omega)
    have hdec : decodeX w = if slice w 8 2 = 0 then none else sylIf w [(0, 8), (10, 12)] (.comm (sylGuard w) (sylBits w 8 2)) := by
      unfold decodeX
      rw [ho]
      rfl
    rw [hdec, if_neg (by unfold slice; omega), hg, hmask]
    exact sylIf_of (by simp only [List.Forall]; omega) rfl
  case loopCmdClose gd l =>
    obtain rfl := Option.some.inj h
    exact decodesTo_loopCmd (n := 1) (by decide) gd l fun w ho hs => by unfold decodeX; rw [ho]; dsimp only; rw [hs]; rfl
  case loopCmdOpen gd l =>
    obtain rfl := Option.some.inj h
    exact decodesTo_loopCmd (n := 2) (by decide) gd l fun w ho hs => by unfold decodeX; rw [ho]; dsimp only; rw [hs]; rfl
  case loopCmdFbloss gd l =>
    obtain rfl := Option.some.inj h
    exact decodesTo_loopCmd (n := 3) (by decide) gd l fun w ho hs => by unfold decodeX; rw [ho]; dsimp only; rw [hs]; rfl
  case tsRd gd g half =>
    obtain rfl := Option.some.inj h
    have hbit : (if half then 2 ^ 8 else 0) = half.toNat * 2 ^ 8 := by cases half <;> rfl
    have hle : half.toNat ≤ 1 := half.toNat_le
    rw [hbit]
    refine decodesTo_sylWord (by decide) (by omega) fun w ho hg hw => ?_
    have hd : sylD w = g := sylBits_of (by omega)
    have hhalf : w.testBit 8 = half := testBit_of (by omega)
    have hdec : decodeX w = sylIf w [(0, 8), (9, 6)] (.tsRd (sylGuard w) (sylD w) (w.testBit 8)) := by
      unfold decodeX
      rw [ho]
      rfl
    rw [hdec, hg, hd, hhalf]
    exact sylIf_of (by simp only [List.Forall]; omega) rfl
  case hb g =>
    obtain rfl := Option.some.inj h
    refine decodesTo_sylWord (by decide) (by omega) fun w ho hg hw => ?_
    have ha : sylA w = g := sylBits_of (by omega)
    have hdec : decodeX w = if slice w 22 4 = 0 then sylIf w [(0, 8), (15, 7)] (.hb (sylA w)) else none := by
      unfold decodeX
      rw [ho]
      simp only [decide_eq_true_eq]
    rw [hdec, if_pos (slice_of_plainGuard hg), ha]
    exact sylIf_of (by simp only [List.Forall]; omega) rfl
  case hloop inner count len =>
    obtain rfl := Option.some.inj h
    have hbit : (if inner then 2 ^ 21 else 0) = inner.toNat * 2 ^ 21 := by cases inner <;> rfl
    have hle : inner.toNat ≤ 1 := inner.toNat_le
    rw [hbit]
    refine decodesTo_sylWord (by decide) (by omega) fun w ho hg hw => ?_
    have hinner : w.testBit 21 = inner := testBit_of (by omega)
    have hcount : sylBits w 9 12 = count := sylBits_of (by omega)
    have hlen : sylBits w 0 9 = len := sylBits_of (by omega)
    have hdec : decodeX w = if slice w 22 4 = 0 then some (.hloop (w.testBit 21) (sylBits w 9 12) (sylBits w 0 9)) else none := by
      unfold decodeX
      rw [ho]
      simp only [decide_eq_true_eq]
    rw [hdec, if_pos (slice_of_plainGuard hg), hinner, hcount, hlen]
  case tend =>
    obtain rfl := Option.some.inj h
    refine decodesTo_sylWord (by decide) (by omega) fun w ho hg hw => ?_
    have hdec : decodeX w = if slice w 22 4 = 0 then sylIf w [(0, 22)] .tend else none := by
      unfold decodeX
      rw [ho]
      simp only [decide_eq_true_eq]
    rw [hdec, if_pos (slice_of_plainGuard hg)]
    exact sylIf_of (by simp only [List.Forall]; omega) rfl
  all_goals cases h

/-- Settles O3: a slot has one table, in which every operation's fields are read where they were put. -/
theorem syllableRoundTrip : Obligations.SyllableRoundTrip := by
  unfold Obligations.SyllableRoundTrip
  intro slot i w _ hwf h
  by_cases hF : slot < 4
  · rw [encodeSyl, if_pos hF] at h
    rw [decodeSyl, if_pos hF]
    exact decodesTo_encodeF h
  by_cases hT : slot < 6
  · rw [encodeSyl, if_neg hF, if_pos hT] at h
    rw [decodeSyl, if_neg hF, if_pos hT]
    exact decodesTo_encodeT hwf h
  by_cases hM : slot = 6
  · rw [encodeSyl, if_neg hF, if_neg hT, if_pos hM] at h
    rw [decodeSyl, if_neg hF, if_neg hT, if_pos hM]
    exact decodesTo_encodeM h
  · rw [encodeSyl, if_neg hF, if_neg hT, if_neg hM] at h
    rw [decodeSyl, if_neg hF, if_neg hT, if_neg hM]
    exact decodesTo_encodeX hwf h

end Sys2Proof.Machine
end

section
/-! PROOFS. What X operations have put in flight takes place at its unit (R71, R73, R75, R76, R159–R165, R176, R195, R211, R212, R352). -/

namespace Sys2Proof.Machine

open Sys2Proof

/-! ## Fields and units read after a write -/

theorem State.on_raise_self (s : State) {f : Fld} (h : 0 < f.width) : (s.raise f).on f = true := State.on_putB_self s f true h

theorem State.word_put_self (s : State) {f : Fld} (h : f.width = 32) (v : Word) : (s.put f v.toNat).word f = v := by
  unfold State.word
  rw [State.get_put_self, h, Nat.mod_eq_of_lt v.isLt, BitVec.ofNat_toNat, BitVec.setWidth_eq]

theorem State.word_put_ne (s : State) (f g : Fld) (v : Nat) (h : f.key ≠ g.key) : (s.put f v).word g = s.word g := by
  unfold State.word
  rw [State.get_put_ne s f g v h]

theorem State.gen_setGen_ne (s : State) {n k : Nat} (x : Gen) (h : k ≠ n) : (s.setGen n x).gen k = s.gen k := by
  unfold State.setGen State.gen
  exact Sparse.get_set_ne _ _ _ h

/-- States whose sides agree agree in what no effect at a PWM, a loop or a ramp may move. -/
theorem kept_of_side {s t : State} (h : t.side = s.side) : t.mem = s.mem ∧ t.wheel = s.wheel ∧ t.dev = s.dev ∧ t.queues = s.queues := by
  obtain ⟨hwheel, hmem, -, hdev⟩ := kept_of_plane (plane_of_side h)
  exact ⟨hmem, hwheel, hdev, congrArg Side.queues h⟩

/-! ## Shadows (R71, R195) -/

theorem State.gen_shadowTake_self (s : State) (n : Nat) (isB : Bool) (v : Nat) :
    (s.shadowTake n isB v).gen n =
      { s.gen n with
        shA := if isB then (s.gen n).shA else v
        shB := if isB then v else (s.gen n).shB
        written := (s.gen n).written || (decide (s.dev = .run) && !s.pwm.dark) } := by
  unfold State.shadowTake
  dsimp only
  rw [State.gen_setGen_self]
  cases isB <;> rfl

theorem State.gen_shadowTake_ne (s : State) {n k : Nat} (isB : Bool) (v : Nat) (h : k ≠ n) : (s.shadowTake n isB v).gen k = s.gen k :=
  s.gen_setGen_ne _ h

/-! ## Three-bit codes in a nine-bit field (R211, R212) -/

/-- A code written at its leg's place leaves the codes of the other legs. -/
theorem code_replace (c : Nat) {k j x : Nat} (hk : k < 3) (hj : j < 3) (hx : x < 8) :
    (c - slice c (3 * k) 3 * 2 ^ (3 * k) + x * 2 ^ (3 * k)) % 2 ^ 9 / 8 ^ j % 8 = if j = k then x else c / 8 ^ j % 8 := by
  unfold slice
  interval_cases k <;> interval_cases j <;> norm_num <;> omega

theorem code_sum {d : Nat → Nat} (hd : ∀ k, d k < 8) {j : Nat} (hj : j < 3) :
    (0 + d 0 * 2 ^ (3 * 0) + d 1 * 2 ^ (3 * 1) + d 2 * 2 ^ (3 * 2)) % 2 ^ 9 / 8 ^ j % 8 = d j := by
  have h0 := hd 0
  have h1 := hd 1
  have h2 := hd 2
  interval_cases j <;> norm_num <;> omega

/-- After an event the masked legs hold their staged codes. -/
theorem code_commute (act stage mask : Nat) {j : Nat} (hj : j < 3) :
    commute act stage mask % 2 ^ 9 / 8 ^ j % 8 = if mask.testBit j then stage / 8 ^ j % 8 else act / 8 ^ j % 8 := by
  have hcode (k : Nat) : (if mask.testBit k then slice stage (3 * k) 3 else slice act (3 * k) 3) < 8 := by
    split <;> exact Nat.mod_lt _ (by decide)
  have hdigit (n : Nat) : slice n (3 * j) 3 = n / 8 ^ j % 8 := by rw [slice, Nat.pow_mul]; rfl
  have hsum := code_sum hcode hj
  rw [hdigit stage, hdigit act] at hsum
  exact hsum

/-! ## FORCE (R211) -/

theorem State.forceTake_refused (s : State) {n v : Nat} (h : s.on (forceSrc (n / 3)) = false ∨ 4 < v % 8) :
    s.forceTake n v = s.raise R.PWM_STAT_CFGREJ := by
  unfold State.forceTake
  dsimp only
  refine if_pos ?_
  rcases h with h | h
  · simp [invOfLeg, h]
  · simp [forceOk, h]

theorem State.forceTake_staged (s : State) {n v : Nat} (hsrc : s.on (forceSrc (n / 3)) = true) (hv : v % 8 ≤ 4) :
    s.forceTake n v =
      ((s.put (R.PWM_FSTAGE_CODE (n / 3)) (s.get (R.PWM_FSTAGE_CODE (n / 3))
          - slice (s.get (R.PWM_FSTAGE_CODE (n / 3))) (3 * (n % 3)) 3 * 2 ^ (3 * (n % 3)) + v % 8 * 2 ^ (3 * (n % 3)))).putBit
        (R.PWM_FSTAGE_MASK (n / 3)) (n % 3) (v.testBit 3)).raise (R.PWM_FSTAGE_PEND (n / 3)) := by
  unfold State.forceTake
  exact if_neg (by simp [invOfLeg, forceOk, hsrc, hv])

/-! ## COMM (R212) -/

/-- Forming a leg's commands writes no register but its own SHOOT_REQ. -/
theorem State.legEval_get (s : State) (f n : Nat) {g : Fld} (h : (R.PWM_GSTAT_SHOOT_REQ n).key ≠ g.key) :
    (s.legEval f n).get g = s.get g := by
  have hpresent (t : State) (x i : Nat) (on : Bool) : (t.present x i on).get g = t.get g := by
    simp only [State.present, get_update, ite_self]
  have hdrive (t : State) (x : Nat) : (t.legDrive x n).get g = t.get g := by
    simp only [State.legDrive, hpresent]
  have hresolve : (s.legResolve n f).2.get g = s.get g := by
    unfold State.legResolve
    dsimp only
    split
    · exact s.get_put_ne _ _ 1 h
    · rfl
  simp only [State.legEval, get_update, hdrive, State.setGen, hresolve, ite_self]

/-- A field below the generators' own. -/
def belowGens (f : Fld) : Prop := f.key < 0x40300100 * 32

theorem State.legEval_get_belowGens (s : State) (f n : Nat) {g : Fld} (h : belowGens g) : (s.legEval f n).get g = s.get g := by
  refine s.legEval_get f n ?_
  simp only [belowGens] at h
  simp only [Fld.key, R.PWM_GSTAT_SHOOT_REQ] at h ⊢
  omega

theorem State.commEvent_frame (s : State) (v : Nat) : (s.commEvent v).side = s.side := by
  simp only [State.commEvent, side_ite, side_each, implies_true, State.legEval_frame, State.commCodes_frame]

/-- The registers below the generators' own after an event are those after its codes. -/
theorem State.commEvent_get (s : State) (v : Nat) {g : Fld} (h : belowGens g) : (s.commEvent v).get g = (s.commCodes v).get g := by
  unfold State.commEvent
  split
  · rw [State.commCodes, if_pos ‹_›]
  · exact State.each_keeps (·.get g) _ (fun t n => t.legEval_get_belowGens 0 n h) _ _

theorem State.commCodes_get_ne (s : State) (v : Nat) {g : Fld} (hcode : (R.PWM_FACT_CODE v).key ≠ g.key)
    (hpend : (R.PWM_FSTAGE_PEND v).key ≠ g.key) : (s.commCodes v).get g = s.get g := by
  unfold State.commCodes
  split
  · rfl
  · rw [State.get_clear_ne _ _ _ hpend, State.get_put_ne _ _ _ _ hcode]

/-- A Wheel COMM with this mask, at inverter v. -/
def State.commStep (s : State) (mask v : Nat) : State :=
  if mask.testBit v && (decide (s.get (commSrc v) = 1) || decide (s.get (commSrc v) = 3)) then s.commEvent v else s

theorem State.commTake_eq (s : State) (mask : Nat) : s.commTake mask = (s.commStep mask 0).commStep mask 1 := rfl

theorem State.commStep_frame (s : State) (mask v : Nat) : (s.commStep mask v).side = s.side := by
  simp only [State.commStep, side_ite, State.commEvent_frame]

theorem State.commStep_frozen {s : State} (h : s.on R.PWM_DBG_FROZEN = true) (mask v : Nat) : s.commStep mask v = s := by
  unfold State.commStep State.commEvent
  rw [if_pos (Or.inl h), ite_self]

theorem State.commStep_get_ne (s : State) (mask v : Nat) {g : Fld} (h : belowGens g) (hcode : (R.PWM_FACT_CODE v).key ≠ g.key)
    (hpend : (R.PWM_FSTAGE_PEND v).key ≠ g.key) : (s.commStep mask v).get g = s.get g := by
  unfold State.commStep
  split
  · rw [State.commEvent_get s v h, State.commCodes_get_ne s v hcode hpend]
  · rfl

/-- A Wheel COMM with this mask acts at inverter v. -/
def State.commHit (s : State) (mask v : Nat) : Bool :=
  decide (v < s.nInv) && mask.testBit v && decide (s.get (commSrc v) = 1 ∨ s.get (commSrc v) = 3)

theorem State.commStep_miss {s : State} {mask v : Nat} (h : s.commHit mask v = false) : s.commStep mask v = s := by
  unfold State.commStep
  split
  next hcond =>
    simp only [Bool.and_eq_true, Bool.or_eq_true, decide_eq_true_eq] at hcond
    have hv : ¬v < s.nInv := fun hv => by simp [State.commHit, hv, hcond] at h
    rw [State.commEvent, if_pos (Or.inr (Nat.le_of_not_lt hv))]
  next => rfl

theorem State.commStep_hit {s : State} {mask v : Nat} (hfr : s.on R.PWM_DBG_FROZEN = false) (h : s.commHit mask v = true) {g : Fld}
    (hg : belowGens g) :
    (s.commStep mask v).get g = ((s.put (R.PWM_FACT_CODE v) (commute (s.get (R.PWM_FACT_CODE v)) (s.get (R.PWM_FSTAGE_CODE v))
      (s.get (R.PWM_FSTAGE_MASK v)))).clear (R.PWM_FSTAGE_PEND v)).get g := by
  simp only [State.commHit, Bool.and_eq_true, decide_eq_true_eq] at h
  obtain ⟨⟨hv, hmask⟩, hsrc⟩ := h
  rw [State.commStep, if_pos (by simpa [hmask] using hsrc), State.commEvent_get s v hg, State.commCodes, if_neg (by simp [hfr, hv])]

section
variable {s : State} (hfr : s.on R.PWM_DBG_FROZEN = false) (mask : Nat) (v : Fin 2)
include hfr

theorem State.commStep_code : (s.commStep mask v.val).get (R.PWM_FACT_CODE v.val) =
    if s.commHit mask v.val then commute (s.get (R.PWM_FACT_CODE v.val)) (s.get (R.PWM_FSTAGE_CODE v.val))
      (s.get (R.PWM_FSTAGE_MASK v.val)) % 2 ^ 9 else s.get (R.PWM_FACT_CODE v.val) := by
  have hbelow : belowGens (R.PWM_FACT_CODE v.val) := by
    simp only [belowGens, Fld.key, R.PWM_FACT_CODE]
    omega
  have hne : (R.PWM_FSTAGE_PEND v.val).key ≠ (R.PWM_FACT_CODE v.val).key := by
    simp only [Fld.key, R.PWM_FSTAGE_PEND, R.PWM_FACT_CODE]
    omega
  by_cases h : s.commHit mask v.val = true
  · rw [State.commStep_hit hfr h hbelow, if_pos h, State.get_clear_ne _ _ _ hne, State.get_put_self]
    rfl
  · rw [State.commStep_miss (Bool.eq_false_iff.mpr h), if_neg h]

theorem State.commStep_pend : (s.commStep mask v.val).get (R.PWM_FSTAGE_PEND v.val) =
    if s.commHit mask v.val then 0 else s.get (R.PWM_FSTAGE_PEND v.val) := by
  have hbelow : belowGens (R.PWM_FSTAGE_PEND v.val) := by
    simp only [belowGens, Fld.key, R.PWM_FSTAGE_PEND]
    omega
  by_cases h : s.commHit mask v.val = true
  · rw [State.commStep_hit hfr h hbelow, if_pos h, State.clear_eq, State.get_put_self]
    rfl
  · rw [State.commStep_miss (Bool.eq_false_iff.mpr h), if_neg h]

end

/-- The fields that say whether and how a COMM acts at inverter w, and those it moves. -/
def commFields (w : Nat) : List Fld :=
  [commSrc w, R.PWM_FSTAGE_CODE w, R.PWM_FSTAGE_MASK w, R.PWM_FSTAGE_PEND w, R.PWM_FACT_CODE w, R.PWM_DBG_FROZEN]

theorem commFields_other : ∀ v w : Fin 2, v ≠ w → ∀ g ∈ commFields w.val,
    g.key < 0x40300100 * 32 ∧ (R.PWM_FACT_CODE v.val).key ≠ g.key ∧ (R.PWM_FSTAGE_PEND v.val).key ≠ g.key := by
  decide

/-- An event of the other inverter leaves them. -/
theorem State.commStep_get_other (s : State) (mask : Nat) {v w : Fin 2} (hvw : v ≠ w) {g : Fld} (hg : g ∈ commFields w.val) :
    (s.commStep mask v.val).get g = s.get g :=
  have ⟨hbelow, hcode, hpend⟩ := commFields_other v w hvw g hg
  s.commStep_get_ne mask v.val hbelow hcode hpend

theorem State.commStep_commHit_other (s : State) (mask : Nat) {v w : Fin 2} (hvw : v ≠ w) :
    (s.commStep mask v.val).commHit mask w.val = s.commHit mask w.val := by
  have hvariant : (s.commStep mask v.val).variant = s.variant := congrArg Plane.variant (plane_of_side (s.commStep_frame mask v.val))
  unfold State.commHit State.nInv
  rw [hvariant, s.commStep_get_other mask hvw (by simp [commFields])]

/-- What a COMM does at one inverter it does from a state that agrees with the present one there. -/
theorem State.commTake_at (s : State) (mask : Nat) (w : Fin 2) : ∃ t : State, (∀ g ∈ commFields w.val, t.get g = s.get g) ∧
    t.commHit mask w.val = s.commHit mask w.val ∧
    ∀ g ∈ commFields w.val, (s.commTake mask).get g = (t.commStep mask w.val).get g := by
  rw [State.commTake_eq]
  match w with
  | 0 => exact ⟨s, fun _ _ => rfl, rfl, fun g hg => State.commStep_get_other _ mask (v := 1) (w := 0) (by decide) hg⟩
  | 1 =>
    have h01 : (0 : Fin 2) ≠ 1 := by decide
    exact ⟨s.commStep mask 0, fun g hg => s.commStep_get_other mask (v := 0) (w := 1) h01 hg,
      s.commStep_commHit_other mask (v := 0) (w := 1) h01, fun _ _ => rfl⟩

section
variable {s : State} (hfr : s.on R.PWM_DBG_FROZEN = false) (mask : Nat) (w : Fin 2)
include hfr

theorem State.commTake_code : (s.commTake mask).get (R.PWM_FACT_CODE w.val) =
    if s.commHit mask w.val then commute (s.get (R.PWM_FACT_CODE w.val)) (s.get (R.PWM_FSTAGE_CODE w.val))
      (s.get (R.PWM_FSTAGE_MASK w.val)) % 2 ^ 9 else s.get (R.PWM_FACT_CODE w.val) := by
  obtain ⟨t, hget, hhit, htake⟩ := s.commTake_at mask w
  have hfr' : t.on R.PWM_DBG_FROZEN = false := by
    rw [State.on, hget _ (by simp [commFields])]
    exact hfr
  rw [htake _ (by simp [commFields]), State.commStep_code hfr', hhit, hget (R.PWM_FACT_CODE _) (by simp [commFields]),
    hget (R.PWM_FSTAGE_CODE _) (by simp [commFields]), hget (R.PWM_FSTAGE_MASK _) (by simp [commFields])]

theorem State.commTake_pend : (s.commTake mask).on (R.PWM_FSTAGE_PEND w.val) =
    (s.on (R.PWM_FSTAGE_PEND w.val) && !s.commHit mask w.val) := by
  obtain ⟨t, hget, hhit, htake⟩ := s.commTake_at mask w
  have hfr' : t.on R.PWM_DBG_FROZEN = false := by
    rw [State.on, hget _ (by simp [commFields])]
    exact hfr
  rw [State.on, htake _ (by simp [commFields]), State.commStep_pend hfr', hhit, hget _ (by simp [commFields])]
  cases s.commHit mask w.val <;> simp [State.on]

theorem State.commTake_digit {j : Nat} (hj : j < 3) : (s.commTake mask).get (R.PWM_FACT_CODE w.val) / 8 ^ j % 8 =
    if s.commHit mask w.val && (s.get (R.PWM_FSTAGE_MASK w.val)).testBit j then s.get (R.PWM_FSTAGE_CODE w.val) / 8 ^ j % 8
    else s.get (R.PWM_FACT_CODE w.val) / 8 ^ j % 8 := by
  rw [State.commTake_code hfr]
  cases s.commHit mask w.val with
  | true => exact code_commute _ _ _ hj
  | false => rfl

end

theorem State.commTake_frame (s : State) (mask : Nat) : (s.commTake mask).side = s.side := by
  rw [State.commTake_eq, State.commStep_frame, State.commStep_frame]

theorem State.commTake_frozen {s : State} (h : s.on R.PWM_DBG_FROZEN = true) (mask : Nat) : s.commTake mask = s := by
  rw [State.commTake_eq, State.commStep_frozen h, State.commStep_frozen h]

/-! ## RAMP.TGT and LOOP.MEAS (R165, R176) -/

theorem State.rampTgtTake_finite (s : State) (u : Nat) {v : Word} (h : Fp32.notFinite v = false) :
    s.rampTgtTake u v =
      if (s.rampClamp u v).2 then (s.put (R.LOOP_RTGT_VALUE u) (s.rampClamp u v).1.toNat).raise (R.LOOP_RSTAT_TCLAMP u)
      else s.put (R.LOOP_RTGT_VALUE u) (s.rampClamp u v).1.toNat := by
  unfold State.rampTgtTake
  rw [h]
  rfl

theorem State.rampClamp_fst (s : State) (u : Nat) (v : Word) :
    (s.rampClamp u v).1 =
      if Fp32.lt v (s.word (R.LOOP_RTMIN_VALUE u)) then s.word (R.LOOP_RTMIN_VALUE u)
      else if Fp32.lt (s.word (R.LOOP_RTMAX_VALUE u)) v then s.word (R.LOOP_RTMAX_VALUE u) else v := by
  unfold State.rampClamp
  dsimp only
  split
  · rfl
  · split <;> rfl

theorem State.rampClamp_snd (s : State) (u : Nat) (v : Word) :
    (s.rampClamp u v).2 = (Fp32.lt v (s.word (R.LOOP_RTMIN_VALUE u)) || Fp32.lt (s.word (R.LOOP_RTMAX_VALUE u)) v) := by
  unfold State.rampClamp
  dsimp only
  split
  next h => rw [h, Bool.true_or]
  next h =>
    rw [Bool.eq_false_iff.mpr h, Bool.false_or]
    split
    next h' => exact h'.symm
    next h' => exact (Bool.eq_false_iff.mpr h').symm

/-- What a RAMP.TGT with a finite operand leaves in the registers of its unit. -/
theorem State.rampTgtTake_stored (s : State) (u : Nat) {v : Word} (h : Fp32.notFinite v = false) :
    (s.rampTgtTake u v).word (R.LOOP_RTGT_VALUE u) = (s.rampClamp u v).1 ∧
    (s.rampTgtTake u v).on (R.LOOP_RSTAT_TCLAMP u) = (s.on (R.LOOP_RSTAT_TCLAMP u) || (s.rampClamp u v).2) ∧
    (s.rampTgtTake u v).get (R.LOOP_ROUT_VALUE u) = s.get (R.LOOP_ROUT_VALUE u) := by
  have hclampTgt : (R.LOOP_RSTAT_TCLAMP u).key ≠ (R.LOOP_RTGT_VALUE u).key := by
    simp only [Fld.key, R.LOOP_RSTAT_TCLAMP, R.LOOP_RTGT_VALUE]
    omega
  have htgtOut : (R.LOOP_RTGT_VALUE u).key ≠ (R.LOOP_ROUT_VALUE u).key := by
    simp only [Fld.key, R.LOOP_ROUT_VALUE, R.LOOP_RTGT_VALUE]
    omega
  have hclampOut : (R.LOOP_RSTAT_TCLAMP u).key ≠ (R.LOOP_ROUT_VALUE u).key := by
    simp only [Fld.key, R.LOOP_ROUT_VALUE, R.LOOP_RSTAT_TCLAMP]
    omega
  rw [State.rampTgtTake_finite s u h]
  cases (s.rampClamp u v).2 with
  | false =>
    exact ⟨State.word_put_self s rfl _, (State.on_put_ne _ _ _ _ hclampTgt.symm).trans (Bool.or_false _).symm,
      State.get_put_ne _ _ _ _ htgtOut⟩
  | true =>
    exact ⟨(State.word_put_ne _ _ _ 1 hclampTgt).trans (State.word_put_self s rfl _),
      (State.on_raise_self _ (f := R.LOOP_RSTAT_TCLAMP u) Nat.one_pos).trans (Bool.or_true _).symm,
      (State.get_put_ne _ _ _ 1 hclampOut).trans (State.get_put_ne _ _ _ _ htgtOut)⟩

/-- It writes registers alone. -/
theorem State.rampTgtTake_rest (s : State) (u : Nat) {v : Word} (h : Fp32.notFinite v = false) :
    ∃ m, s.rampTgtTake u v = { s with regs := m } := by
  rw [State.rampTgtTake_finite s u h]
  split <;> exact ⟨_, rfl⟩

theorem State.loopMeasTake_finite (s : State) (l : Nat) {v : Word} (h : Fp32.notFinite v = false) :
    s.loopMeasTake l v = (s.put (R.LOOP_MEASV_VALUE l) v.toNat).setLoop l { s.loop l with meas := true } := by
  unfold State.loopMeasTake
  rw [h]
  rfl

/-- A code taken into the stage: the codes and the mask bits of the other legs stand. -/
theorem State.forceTake_stage (s : State) {n v : Nat} (hsrc : s.on (forceSrc (n / 3)) = true) (hv : v % 8 ≤ 4) :
    (∀ j < 3,
      (s.forceTake n v).get (R.PWM_FSTAGE_CODE (n / 3)) / 8 ^ j % 8 =
        (if j = n % 3 then v % 8 else s.get (R.PWM_FSTAGE_CODE (n / 3)) / 8 ^ j % 8) ∧
      ((s.forceTake n v).get (R.PWM_FSTAGE_MASK (n / 3))).testBit j =
        if j = n % 3 then v.testBit 3 else (s.get (R.PWM_FSTAGE_MASK (n / 3))).testBit j) ∧
    (s.forceTake n v).on (R.PWM_FSTAGE_PEND (n / 3)) = true ∧
    (s.forceTake n v).get (R.PWM_FACT_CODE (n / 3)) = s.get (R.PWM_FACT_CODE (n / 3)) := by
  rw [s.forceTake_staged hsrc hv]
  generalize n / 3 = inv
  have hk : n % 3 < 3 := Nat.mod_lt _ (by decide)
  have hcodeMask : (R.PWM_FSTAGE_CODE inv).key ≠ (R.PWM_FSTAGE_MASK inv).key := by
    simp only [Fld.key, R.PWM_FSTAGE_CODE, R.PWM_FSTAGE_MASK]
    omega
  have hpendMask : (R.PWM_FSTAGE_PEND inv).key ≠ (R.PWM_FSTAGE_MASK inv).key := by
    simp only [Fld.key, R.PWM_FSTAGE_PEND, R.PWM_FSTAGE_MASK]
    omega
  have hpendCode : (R.PWM_FSTAGE_PEND inv).key ≠ (R.PWM_FSTAGE_CODE inv).key := by
    simp only [Fld.key, R.PWM_FSTAGE_PEND, R.PWM_FSTAGE_CODE]
    omega
  have hcodeAct : (R.PWM_FSTAGE_CODE inv).key ≠ (R.PWM_FACT_CODE inv).key := by
    simp only [Fld.key, R.PWM_FSTAGE_CODE, R.PWM_FACT_CODE]
    omega
  have hmaskAct : (R.PWM_FSTAGE_MASK inv).key ≠ (R.PWM_FACT_CODE inv).key := by
    simp only [Fld.key, R.PWM_FSTAGE_MASK, R.PWM_FACT_CODE]
    omega
  have hpendAct : (R.PWM_FSTAGE_PEND inv).key ≠ (R.PWM_FACT_CODE inv).key := by
    simp only [Fld.key, R.PWM_FSTAGE_PEND, R.PWM_FACT_CODE]
    omega
  have hcodeWidth : (R.PWM_FSTAGE_CODE inv).width = 9 := rfl
  have hmaskWidth : (R.PWM_FSTAGE_MASK inv).width = 3 := rfl
  refine ⟨fun j hj => ⟨?_, ?_⟩, State.on_raise_self _ Nat.one_pos, ?_⟩
  · rw [State.raise_eq, State.get_put_ne _ _ _ _ hpendCode, State.putBit, State.get_put_ne _ _ _ _ hcodeMask.symm, State.get_put_self,
      hcodeWidth]
    exact code_replace _ hk hj (Nat.mod_lt _ (by decide))
  · rw [State.raise_eq, State.get_put_ne _ _ _ _ hpendMask, State.putBit, State.get_put_self, State.get_put_ne _ _ _ _ hcodeMask]
    rw [hmaskWidth, Nat.testBit_mod_two_pow, decide_eq_true hj, Bool.true_and, testBit_setBit]
  · rw [State.raise_eq, State.get_put_ne _ _ _ _ hpendAct, State.putBit, State.get_put_ne _ _ _ _ hmaskAct,
      State.get_put_ne _ _ _ _ hcodeAct]

/-- Taken or refused, it leaves everything but registers. -/
theorem State.forceTake_kept (s : State) (n v : Nat) : (s.forceTake n v).pwm = s.pwm ∧ (s.forceTake n v).mem = s.mem ∧
    (s.forceTake n v).wheel = s.wheel ∧ (s.forceTake n v).dev = s.dev ∧ (s.forceTake n v).queues = s.queues := by
  unfold State.forceTake
  dsimp only
  split <;> simp

/-! ## LOOP.CMD (R159, R160, R163, R164) -/

theorem State.loopState_putOther (s : State) {f : Fld} (v k : Nat) (h : f.key ≠ (R.LOOP_LSTAT_STATE k).key) :
    (s.put f v).loopState k = s.loopState k := s.get_put_ne _ _ _ h

/-- What entering a state leaves, and what it does not touch. -/
theorem State.enterLoop_entered (s : State) (l : Nat) {code : Nat} (hc : code < 4) (forced : Bool) :
    (s.enterLoop l code forced).loopState l = code ∧ (s.enterLoop l code forced).on (R.LOOP_LSTAT_FORCED l) = forced ∧
    ((s.enterLoop l code forced).loop l).cnt = 0 ∧ ((s.enterLoop l code forced).loop l).meas = false ∧
    ∀ k, k ≠ l → (s.enterLoop l code forced).loopState k = s.loopState k := by
  have hforced (k : Nat) : (R.LOOP_LSTAT_FORCED l).key ≠ (R.LOOP_LSTAT_STATE k).key := by
    simp only [Fld.key, R.LOOP_LSTAT_FORCED, R.LOOP_LSTAT_STATE]
    omega
  have hstate (k : Nat) (hk : k ≠ l) : (R.LOOP_LSTAT_STATE l).key ≠ (R.LOOP_LSTAT_STATE k).key := by
    simp only [Fld.key, R.LOOP_LSTAT_STATE]
    omega
  have hloop : (s.enterLoop l code forced).loop l =
      { s.loop l with age := 0, cnt := 0, meas := false, fresh := decide (code = 2) } := s.loop_setLoop_self l _
  refine ⟨?_, State.on_putB_self _ _ _ Nat.one_pos, by rw [hloop], by rw [hloop], fun k hk => ?_⟩
  · rw [State.enterLoop, State.putB_eq, State.loopState_putOther _ _ _ (hforced l), State.loopState, State.get_put_self]
    exact Nat.mod_eq_of_lt hc
  · rw [State.enterLoop, State.putB_eq, State.loopState_putOther _ _ _ (hforced k), State.loopState_putOther _ _ _ (hstate k hk)]
    rfl

/-- The condition of the closing table with this code holds (R163). -/
def State.closeBars (s : State) (l code : Nat) : Prop :=
  (code = 1 ∧ s.on (R.LOOP_CFG_EN l) = false) ∨ (code = 2 ∧ s.loopState l ≠ 0) ∨
  (code = 3 ∧ s.safeApplied (s.loopInv l) = true) ∨ (code = 4 ∧ (s.fbCond l).isSome = true) ∨
  (code = 5 ∧ s.stopping = true) ∨ (code = 7 ∧ s.en (s.loopInv l) = false)

/-- A refusal's code is that of a condition that holds; where none holds there is no refusal. -/
theorem State.closeRefusal_cases (s : State) (l : Nat) :
    (s.closeRefusal l = 0 ∧ ∀ code, ¬s.closeBars l code) ∨
    (s.closeRefusal l ≠ 0 ∧ s.closeRefusal l < 8 ∧ s.closeBars l (s.closeRefusal l)) := by
  unfold State.closeRefusal State.closeBars
  split
  · right; simp_all
  split
  · right; simp_all
  split
  · right; simp_all
  split
  · right; simp_all
  split
  · right; simp_all
  split
  · right; simp_all
  · left; simp_all

/-! ### What bringing the Saggar to its inputs leaves of a loop -/

theorem loops_update :
    (∀ (s : State) (x : Sag), State.loops { s with sag := x } = s.loops) ∧
    (∀ (s : State) (x : Pwm), State.loops { s with pwm := x } = s.loops) ∧
    (∀ (s : State) (x : Cone), State.loops { s with cone := x } = s.loops) ∧
    (∀ (s : State) (x : Pwr), State.loops { s with pwr := x } = s.loops) ∧
    (∀ (c : Prop) [Decidable c] (s t : State), (if c then s else t).loops = if c then s.loops else t.loops) ∧
    (∀ (s : State) (l : List Nat) (f : State → Nat → State), (∀ t i, (f t i).loops = t.loops) → (s.each l f).loops = s.loops) :=
  ⟨fun _ _ => rfl, fun _ _ => rfl, fun _ _ => rfl, fun _ _ => rfl, fun _ _ _ _ => apply_ite ..,
    fun s l f h => State.each_keeps State.loops f h l s⟩

theorem State.judgeAll_loops (s : State) : s.judgeAll.loops = s.loops := by
  simp only [State.judgeAll, State.judge, State.setCond, loops_update, implies_true]

theorem State.pwmTrip_loops (s : State) (v : Nat) : (s.pwmTrip v).loops = s.loops := by
  refine State.each_keeps State.loops _ (fun t n => ?_) _ s
  dsimp only
  split <;> simp only [State.clear_loops, State.put_loops, State.setGen_loops]

theorem State.captureFirst_loops (s : State) (v : Nat) : (s.captureFirst v).loops = s.loops := by
  unfold State.captureFirst
  dsimp only
  (repeat' split) <;> rfl

theorem State.holdClear_loops (s : State) : s.holdClear.loops = s.loops := rfl

theorem State.dischStart_loops (s : State) : s.dischStart.loops = s.loops := by
  unfold State.dischStart
  (repeat' split) <;> rfl

theorem State.sendSymbol_loops (s : State) (i : Nat) : (s.sendSymbol i).loops = s.loops := by
  unfold State.sendSymbol
  dsimp only
  split <;> rfl

/-- A forced cause noted since the last TURN_START stands. -/
def State.forcedOn (s : State) (l : Nat) : Prop := (s.loop l).forced = true

theorem State.forcedOn_of_loops {s t : State} (h : t.loops = s.loops) {l : Nat} (hs : s.forcedOn l) : t.forcedOn l := by
  unfold State.forcedOn State.loop
  rw [h]
  exact hs

theorem State.forceLoops_forcedOn {s : State} {l : Nat} (hs : s.forcedOn l) (v : Nat) : (s.forceLoops v).forcedOn l := by
  refine State.each_stands (P := (·.forcedOn l)) (fun k _ t ht => ?_) hs
  by_cases hk : l = k
  · subst hk
    simp only [State.forcedOn, State.loop_setLoop_self]
  · unfold State.forcedOn State.loop State.setLoop at *
    rw [Sparse.get_set_ne _ _ _ hk]
    exact ht

theorem State.latchBits_forcedOn {s : State} {l : Nat} (hs : s.forcedOn l) (v bits : Nat) : (s.latchBits v bits).forcedOn l := by
  have hite {c : Prop} [Decidable c] {t u : State} (ht : t.forcedOn l) (hu : u.forcedOn l) : (if c then t else u).forcedOn l := by
    split
    · exact ht
    · exact hu
  refine State.forcedOn_of_loops (State.captureFirst_loops _ _) ?_
  refine hite (State.forceLoops_forcedOn (State.forcedOn_of_loops ?_ hs) v) (State.forcedOn_of_loops ?_ hs)
  all_goals simp only [State.fire, loops_update, State.pwmTrip_loops, State.put_loops, ite_self]

theorem State.sync_forcedOn {s : State} {l : Nat} (hs : s.forcedOn l) : s.sync.forcedOn l := by
  refine State.forcedOn_of_loops (State.each_keeps State.loops _ State.sendSymbol_loops _ _) ?_
  have hjudge := State.forcedOn_of_loops s.judgeAll_loops hs
  unfold State.sagSync
  dsimp only
  split
  · refine State.forcedOn_of_loops (State.dischStart_loops _) ?_
    exact State.each_stands (P := (·.forcedOn l)) (fun v _ t ht => State.latchBits_forcedOn ht v _) hjudge
  · exact State.forcedOn_of_loops ((State.dischStart_loops _).trans (State.holdClear_loops _)) hjudge

/-! ### The three commands -/

theorem State.closedSide_iff {s : State} {l : Nat} : s.closedSide l = true ↔ s.loopState l = 1 ∨ s.loopState l = 2 := by
  rw [State.closedSide, Bool.or_eq_true, decide_eq_true_eq, decide_eq_true_eq]

theorem State.loopCmdTake_idle {s : State} (h : s.dev ≠ .run) (l cmd : Nat) : s.loopCmdTake l cmd = s := if_pos h

section
variable {s : State} (hrun : s.dev = .run) (l : Nat)
include hrun

theorem State.loopCmdTake_close : s.loopCmdTake l 1 =
    if s.closeRefusal l = 0 then s.enterLoop l 1 false
    else (s.put (R.LOOP_LSTAT_REJ l) (s.closeRefusal l)).raise R.LOOP_STAT_CMDREJ := if_neg (not_not_intro hrun)

theorem State.loopCmdTake_open : s.loopCmdTake l 2 = if s.closedSide l then s.enterLoop l 3 false else s :=
  if_neg (not_not_intro hrun)

theorem State.loopCmdTake_fbloss : s.loopCmdTake l 3 =
    if s.closedSide l then ((s.setLoop l { s.loop l with declared := true }).fbTake l).sync else s :=
  if_neg (not_not_intro hrun)

end

/-- A CLOSE refused leaves the loop where it is, with its code (R163). -/
theorem State.closeRefused (s : State) (l : Nat) {r : Nat} (hr : r < 8) :
    let t := (s.put (R.LOOP_LSTAT_REJ l) r).raise R.LOOP_STAT_CMDREJ
    t.get (R.LOOP_LSTAT_REJ l) = r ∧ t.on R.LOOP_STAT_CMDREJ = true ∧ ∀ k, t.loopState k = s.loopState k := by
  have hrejState (k : Nat) : (R.LOOP_LSTAT_REJ l).key ≠ (R.LOOP_LSTAT_STATE k).key := by
    simp only [Fld.key, R.LOOP_LSTAT_REJ, R.LOOP_LSTAT_STATE]
    omega
  have hcmdState (k : Nat) : R.LOOP_STAT_CMDREJ.key ≠ (R.LOOP_LSTAT_STATE k).key := by
    simp only [Fld.key, R.LOOP_STAT_CMDREJ, R.LOOP_LSTAT_STATE]
    omega
  have hcmdRej : R.LOOP_STAT_CMDREJ.key ≠ (R.LOOP_LSTAT_REJ l).key := by
    simp only [Fld.key, R.LOOP_STAT_CMDREJ, R.LOOP_LSTAT_REJ]
    omega
  refine ⟨?_, State.on_raise_self _ Nat.one_pos, fun k => ?_⟩
  · rw [State.raise_eq, State.get_put_ne _ _ _ _ hcmdRej, State.get_put_self]
    exact Nat.mod_eq_of_lt (Nat.lt_trans hr (by decide : 8 < 2 ^ 4))
  · rw [State.raise_eq, State.loopState_putOther _ _ _ (hcmdState k), State.loopState_putOther _ _ _ (hrejState k)]

/-- The first event of a condition, captured (R173). -/
def State.fbCaptured (s : State) (l c src : Nat) : State :=
  let t := (((s.raise (R.LOOP_LSTAT_FBL l)).put (R.LOOP_LSTAT_FBCAUSE l) c).put (R.LOOP_LSTAT_FBSRC l) src).put (R.LOOP_FBTS_TSC l) s.tsc
  t.setLoop l { t.loop l with forced := true }

theorem State.fbTake_some {s : State} {l c src : Nat} (hrun : s.dev = .run) (hside : s.closedSide l = true)
    (hfbl : s.on (R.LOOP_LSTAT_FBL l) = false) (hcond : s.fbCond l = some (c, src)) : s.fbTake l = s.fbCaptured l c src := by
  unfold State.fbTake
  rw [if_pos ⟨hrun, hside, by rw [hfbl]; rfl⟩, hcond]
  rfl

theorem State.fbTake_noted {s : State} {l : Nat} (hfbl : s.on (R.LOOP_LSTAT_FBL l) = true) : s.fbTake l = s := by
  unfold State.fbTake
  rw [hfbl]
  exact if_neg fun h => Bool.false_ne_true h.2.2

theorem State.fbCaptured_kept (s : State) (l c src : Nat) :
    (s.fbCaptured l c src).mem = s.mem ∧ (s.fbCaptured l c src).wheel = s.wheel ∧ (s.fbCaptured l c src).dev = s.dev := by
  simp [State.fbCaptured]

theorem State.fbCaptured_registers (s : State) (l c src : Nat) :
    (s.fbCaptured l c src).on (R.LOOP_LSTAT_FBL l) = true ∧ (s.fbCaptured l c src).get (R.LOOP_LSTAT_FBCAUSE l) = c % 2 ^ 4 ∧
    (s.fbCaptured l c src).get (R.LOOP_FBTS_TSC l) = s.tsc % 2 ^ 32 ∧ (s.fbCaptured l c src).forcedOn l ∧
    ∀ k, (s.fbCaptured l c src).loopState k = s.loopState k := by
  obtain ⟨hcauseFbl, hsrcFbl, htsFbl, hsrcCause, htsCause⟩ :
      (R.LOOP_LSTAT_FBCAUSE l).key ≠ (R.LOOP_LSTAT_FBL l).key ∧ (R.LOOP_LSTAT_FBSRC l).key ≠ (R.LOOP_LSTAT_FBL l).key ∧
      (R.LOOP_FBTS_TSC l).key ≠ (R.LOOP_LSTAT_FBL l).key ∧ (R.LOOP_LSTAT_FBSRC l).key ≠ (R.LOOP_LSTAT_FBCAUSE l).key ∧
      (R.LOOP_FBTS_TSC l).key ≠ (R.LOOP_LSTAT_FBCAUSE l).key := by
    simp only [Fld.key, R.LOOP_LSTAT_FBCAUSE, R.LOOP_LSTAT_FBSRC, R.LOOP_LSTAT_FBL, R.LOOP_FBTS_TSC]
    omega
  have hstate (k : Nat) : (R.LOOP_LSTAT_FBL l).key ≠ (R.LOOP_LSTAT_STATE k).key ∧
      (R.LOOP_LSTAT_FBCAUSE l).key ≠ (R.LOOP_LSTAT_STATE k).key ∧ (R.LOOP_LSTAT_FBSRC l).key ≠ (R.LOOP_LSTAT_STATE k).key ∧
      (R.LOOP_FBTS_TSC l).key ≠ (R.LOOP_LSTAT_STATE k).key := by
    simp only [Fld.key, R.LOOP_LSTAT_FBCAUSE, R.LOOP_LSTAT_FBSRC, R.LOOP_LSTAT_FBL, R.LOOP_FBTS_TSC, R.LOOP_LSTAT_STATE]
    omega
  have hget (f : Fld) : (s.fbCaptured l c src).get f = ((((s.raise (R.LOOP_LSTAT_FBL l)).put (R.LOOP_LSTAT_FBCAUSE l) c).put
      (R.LOOP_LSTAT_FBSRC l) src).put (R.LOOP_FBTS_TSC l) s.tsc).get f := rfl
  refine ⟨?_, ?_, ?_, ?_, fun k => ?_⟩
  · rw [State.on, hget, State.get_put_ne _ _ _ _ htsFbl, State.get_put_ne _ _ _ _ hsrcFbl, State.get_put_ne _ _ _ _ hcauseFbl]
    exact State.on_raise_self _ Nat.one_pos
  · rw [hget, State.get_put_ne _ _ _ _ htsCause, State.get_put_ne _ _ _ _ hsrcCause, State.get_put_self]
    rfl
  · rw [hget, State.get_put_self]
    rfl
  · simp only [State.forcedOn, State.fbCaptured, State.loop_setLoop_self]
  · obtain ⟨hfbl, hcause, hsrc, hts⟩ := hstate k
    rw [State.loopState, hget, State.get_put_ne _ _ _ _ hts, State.get_put_ne _ _ _ _ hsrc, State.get_put_ne _ _ _ _ hcause]
    exact State.get_put_ne _ _ _ 1 hfbl

/-- A declaration by the Wheel makes the condition true, with cause 4 where no source does (R172). -/
theorem State.fbCond_declared (s : State) (l : Nat) (x : LoopSt) (hx : x.declared = true) :
    (s.setLoop l x).fbCond l = some ((s.fbSource l).getD (4, 0)) := by
  have hsrc : (s.setLoop l x).fbSource l = s.fbSource l := rfl
  unfold State.fbCond
  rw [hsrc, State.loop_setLoop_self, hx]
  cases s.fbSource l <;> rfl

/-- The registers of the loops are far from what bringing the Saggar to its inputs moves. -/
theorem loopFields_far (l : Nat) : far (R.LOOP_LSTAT_FBL l).key ∧ far (R.LOOP_LSTAT_FBCAUSE l).key ∧ far (R.LOOP_FBTS_TSC l).key ∧
    far (R.LOOP_LSTAT_STATE l).key := by
  simp only [far, Fld.key, R.LOOP_LSTAT_FBL, R.LOOP_LSTAT_FBCAUSE, R.LOOP_FBTS_TSC, R.LOOP_LSTAT_STATE]
  omega

theorem State.loopState_sync (s : State) (k : Nat) : s.sync.loopState k = s.loopState k :=
  have ⟨_, _, _, hstate⟩ := loopFields_far k
  s.sync_get hstate

section
variable {s : State} (hrun : s.dev = .run) {l : Nat} (hside : s.closedSide l = true)
include hrun hside

/-- A declaration on the closed side is one with FBL already set, which nothing notes, or captures its cause. -/
theorem State.fbloss_cases :
    (s.on (R.LOOP_LSTAT_FBL l) = true ∧ s.loopCmdTake l 3 = (s.setLoop l { s.loop l with declared := true }).sync) ∨
    (s.on (R.LOOP_LSTAT_FBL l) = false ∧ s.loopCmdTake l 3 =
      ((s.setLoop l { s.loop l with declared := true }).fbCaptured l ((s.fbSource l).getD (4, 0)).1 ((s.fbSource l).getD (4, 0)).2).sync) := by
  rw [State.loopCmdTake_fbloss hrun, if_pos hside]
  generalize hx : { s.loop l with declared := true } = x
  have hdecl : x.declared = true := hx ▸ rfl
  cases hfbl : s.on (R.LOOP_LSTAT_FBL l) with
  | true => exact Or.inl ⟨rfl, congrArg State.sync (State.fbTake_noted hfbl)⟩
  | false => exact Or.inr ⟨rfl, congrArg State.sync (State.fbTake_some hrun hside hfbl (s.fbCond_declared l x hdecl))⟩

theorem State.fbloss_declared :
    (s.loopCmdTake l 3).on (R.LOOP_LSTAT_FBL l) = true ∧ (∀ k, (s.loopCmdTake l 3).loopState k = s.loopState k) ∧
    (s.loopCmdTake l 3).mem = s.mem ∧ (s.loopCmdTake l 3).wheel = s.wheel ∧ (s.loopCmdTake l 3).dev = s.dev := by
  obtain ⟨hfar, -, -, -⟩ := loopFields_far l
  obtain ⟨hfbl, e⟩ | ⟨-, e⟩ := State.fbloss_cases hrun hside
  · rw [e]
    obtain ⟨hwheel, hmem, -, hdev⟩ := kept_of_plane (plane_of_side (State.sync_frame (s.setLoop l { s.loop l with declared := true })))
    refine ⟨?_, fun k => State.loopState_sync _ k, hmem, hwheel, hdev⟩
    rw [State.on, State.sync_get _ hfar]
    exact hfbl
  · rw [e]
    generalize hx : { s.loop l with declared := true } = x
    obtain ⟨hfbl, -, -, -, hstate⟩ := (s.setLoop l x).fbCaptured_registers l ((s.fbSource l).getD (4, 0)).1 ((s.fbSource l).getD (4, 0)).2
    obtain ⟨hmem, hwheel, hdev⟩ := (s.setLoop l x).fbCaptured_kept l ((s.fbSource l).getD (4, 0)).1 ((s.fbSource l).getD (4, 0)).2
    obtain ⟨hwheel', hmem', -, hdev'⟩ := kept_of_plane (plane_of_side (State.sync_frame
      ((s.setLoop l x).fbCaptured l ((s.fbSource l).getD (4, 0)).1 ((s.fbSource l).getD (4, 0)).2)))
    refine ⟨?_, fun k => (State.loopState_sync _ k).trans (hstate k), hmem'.trans hmem, hwheel'.trans hwheel, hdev'.trans hdev⟩
    rw [State.on, State.sync_get _ hfar]
    exact hfbl

theorem State.fbloss_captured (hfbl : s.on (R.LOOP_LSTAT_FBL l) = false) (hsrc : s.fbSource l = none) :
    (s.loopCmdTake l 3).get (R.LOOP_LSTAT_FBCAUSE l) = 4 ∧ (s.loopCmdTake l 3).get (R.LOOP_FBTS_TSC l) = s.tsc % 2 ^ 32 ∧
    (s.loopCmdTake l 3).forcedOn l := by
  obtain ⟨-, hfarCause, hfarTs, -⟩ := loopFields_far l
  obtain ⟨h, -⟩ | ⟨-, e⟩ := State.fbloss_cases hrun hside
  · rw [hfbl] at h
    cases h
  · rw [e, hsrc]
    obtain ⟨-, hcause, hts, hforced, -⟩ := (s.setLoop l { s.loop l with declared := true }).fbCaptured_registers l 4 0
    exact ⟨(State.sync_get _ hfarCause).trans hcause, (State.sync_get _ hfarTs).trans hts, State.sync_forcedOn hforced⟩

end

/-! ## Windows, heartbeat and queues (R73, R75, R76, R352) -/

theorem State.xwWheelWrite_in {s : State} {w : Nat} (h : s.on (R.XWIN_CFG_DIR w) = false) (off : Nat) (v : Word) :
    s.xwWheelWrite w off v = s := by
  unfold State.xwWheelWrite State.xwOut
  rw [h]
  rfl

theorem Sparse.get_set [DecidableEq α] (d : α) (m : Sparse α) (k j : Nat) (v : α) :
    Sparse.get d (Sparse.set d m k v) j = if j = k then v else Sparse.get d m j := by
  by_cases h : j = k
  · rw [if_pos h, h, Sparse.get_set_self]
  · rw [if_neg h, Sparse.get_set_ne _ _ _ h]

/-- A word stored is read back with good parity, and every other word with what it had. -/
theorem State.xwStore_stored (s : State) (k key : Nat) (v : Word) :
    Sparse.get 0#32 (s.xwStore k v).xwin.buf key = (if key = k then v else Sparse.get 0#32 s.xwin.buf key) ∧
    Sparse.get false (s.xwStore k v).xwin.bad key = (decide (key ≠ k) && Sparse.get false s.xwin.bad key) := by
  refine ⟨Sparse.get_set _ _ _ _ _, (Sparse.get_set false s.xwin.bad k key false).trans ?_⟩
  split
  next h => rw [decide_eq_false (not_not_intro h), Bool.false_and]
  next h => rw [decide_eq_true h, Bool.true_and]

/-- The Wheel writes the buffer it owns (R25, R75). -/
theorem State.xwWheelWrite_out {s : State} {w : Nat} (h : s.on (R.XWIN_CFG_DIR w) = true) (off : Fin 1024) (v : Word) :
    s.xwWheelWrite w off.val v = s.xwStore (2048 * w + 1024 * (if s.xwin.sel.testBit w then 1 else 0) + off.val) v := by
  unfold State.xwWheelWrite State.xwOut
  rw [h, xwKey, Nat.mod_eq_of_lt off.isLt]
  rfl

theorem State.wheelPush_foreign {s : State} {q : Nat} (h : s.get (R.QUE_QCFG_PROD q) ≠ 1) (lo hi : Nat) (last : Bool) :
    s.wheelPush q lo hi last = s := if_neg h

section
variable {s : State} {q : Nat} (hprod : s.get (R.QUE_QCFG_PROD q) = 1) (hdpr : s.dprDue = none) (hword : s.qPacket q = false)
  (lo hi : Nat) (last : Bool)
include hprod hdpr hword

theorem State.wheelPush_word : s.wheelPush q lo hi last =
    if 1 ≤ s.qRoom q then s.modQueue q fun x => { x with ents := x.ents ++ [entry (hi * 2 ^ 32 + lo) markData] }
    else s.qDropped q 1 false := by
  unfold State.wheelPush State.qPush
  rw [if_pos hprod, hdpr, hword]
  rfl

end

theorem State.modQueue_queue (s : State) (q : Nat) (f : Queue → Queue) :
    ((s.modQueue q f).queue q).ents = (f (s.queue q)).ents ∧ ∀ r, r ≠ q → (s.modQueue q f).queue r = s.queue r := by
  unfold State.modQueue
  refine ⟨by rw [State.queue_setQueue_self], fun r hr => State.queue_setQueue_ne _ _ hr⟩

theorem State.qDropped_queue (s : State) (q words : Nat) :
    ((s.qDropped q words false).queue q).ents = (s.queue q).ents ∧
    (s.qDropped q words false).on (R.QUE_QSTAT_DROP q) = true ∧
    ∀ r, r ≠ q → (s.qDropped q words false).queue r = s.queue r := by
  have hdropw : (R.QUE_QDROP_DROPW q).key ≠ (R.QUE_QSTAT_DROP q).key := by
    simp only [Fld.key, R.QUE_QDROP_DROPW, R.QUE_QSTAT_DROP]
    omega
  have hqueue (r : Nat) : (s.qDropped q words false).queue r = (s.setQueue q { s.queue q with dropped := true }).queue r := rfl
  refine ⟨by rw [hqueue, State.queue_setQueue_self], ?_, fun r hr => (hqueue r).trans (State.queue_setQueue_ne _ _ hr)⟩
  have hon : (s.qDropped q words false).on (R.QUE_QSTAT_DROP q) =
      ((s.setQueue q { s.queue q with dropped := true }).raise (R.QUE_QSTAT_DROP q)).on (R.QUE_QSTAT_DROP q) :=
    State.on_put_ne _ _ _ _ hdropw
  rw [hon, State.on_raise_self _ Nat.one_pos]

theorem State.heartbeat_noted (s : State) (v : Word) (turn : Nat) :
    (s.takeEffect (.heartbeat v turn)).word R.SAGGAR_HBSUM_SUM = v ∧
    (s.takeEffect (.heartbeat v turn)).get R.SAGGAR_HBTURN_TURN = turn % 2 ^ 16 ∧
    (s.takeEffect (.heartbeat v turn)).on R.SAGGAR_HBTURN_VALID = true := by
  refine ⟨?_, ?_, State.on_raise_self _ Nat.one_pos⟩
  · exact (State.word_put_ne _ _ _ _ (by decide)).trans ((State.word_put_ne _ _ _ _ (by decide)).trans (State.word_put_self s rfl v))
  · exact (State.get_put_ne _ _ _ _ (by decide)).trans (State.get_put_self _ _ _)

/-! ## The obligation -/

/-- Settles O13: each unit takes its effect by the rule stated for it above, and its frame lemma says what it leaves. -/
theorem effectsTakePlace : Obligations.EffectsTakePlace := by
  unfold Obligations.EffectsTakePlace
  refine ⟨fun s n k u l m leg isB x v => ?_, fun s l cmd => ?_, fun s w off key turn v => ?_, fun s q lo hi last => ?_⟩
  · have hgen : (s.takeEffect (.shadow n.val isB x)).gen n.val = _ := s.gen_shadowTake_self n.val isB x
    refine ⟨⟨?_, ?_, ?_, fun hk => ?_, rfl, rfl, rfl, rfl, rfl⟩, fun hsrc hx => ?_, fun h => ?_, fun hfr w => ?_,
      fun hfr => State.commTake_frozen hfr m.val, fun hv => ?_, fun hv => s.loopMeasTake_finite l.val hv⟩
    · rw [hgen]
      cases isB <;> rfl
    · rw [hgen]
      cases isB <;> rfl
    · rw [hgen]
    · exact s.gen_shadowTake_ne isB x (Fin.val_ne_of_ne hk)
    · have hx8 : x % 16 % 8 = x % 8 := by omega
      have hbit : (x % 16).testBit 3 = decide (8 ≤ x % 16) := by
        rw [Nat.testBit_eq_decide_div_mod_eq]
        exact decide_eq_decide.mpr (by omega)
      obtain ⟨hstage, hpend, hact⟩ := s.forceTake_stage (v := x % 16) hsrc (hx8.symm ▸ hx)
      rw [hx8, hbit] at hstage
      refine ⟨fun j => hstage j.val j.isLt, hpend, hact, s.forceTake_kept leg.val (x % 16)⟩
    · have hx8 : x % 16 % 8 = x % 8 := by omega
      exact s.forceTake_refused (hx8.symm ▸ h)
    · exact ⟨fun j => State.commTake_digit hfr m.val w j.isLt, State.commTake_pend hfr m.val w, kept_of_side (s.commTake_frame m.val)⟩
    · obtain ⟨hval, hclamp, hout⟩ := s.rampTgtTake_stored u.val hv
      obtain ⟨r, hr⟩ := s.rampTgtTake_rest u.val hv
      rw [s.rampClamp_fst] at hval
      rw [s.rampClamp_snd, ← Bool.or_assoc] at hclamp
      refine ⟨hval, hclamp, hout, ?_⟩
      simp only [State.takeEffect, hr, and_self]
  · refine ⟨fun h => State.loopCmdTake_idle h l.val cmd, ?_, ?_, ?_⟩
    · rintro hrun rfl
      obtain ⟨hr, hnone⟩ | ⟨hr, hlt, hbars⟩ := s.closeRefusal_cases l.val
      · have h : s.takeEffect (.loopCmd l.val 1) = s.enterLoop l.val 1 false := (State.loopCmdTake_close hrun l.val).trans (if_pos hr)
        obtain ⟨hstate, -, hcnt, hmeas, hother⟩ := s.enterLoop_entered l.val (code := 1) (by decide) false
        simp only [h]
        exact ⟨fun _ => ⟨hstate, hcnt, hmeas, rfl, rfl, rfl, fun k hk => hother k.val (Fin.val_ne_of_ne hk)⟩,
          fun ⟨code, hcode⟩ => absurd hcode (hnone code.val)⟩
      · have h : s.takeEffect (.loopCmd l.val 1) = _ := (State.loopCmdTake_close hrun l.val).trans (if_neg hr)
        obtain ⟨hrej, hcmd, hstate⟩ := s.closeRefused l.val hlt
        simp only [h]
        exact ⟨fun hnone => absurd hbars (hnone ⟨_, hlt⟩),
          fun _ => ⟨hstate l.val, hrej.symm ▸ hbars, hcmd, rfl, rfl, rfl, rfl, fun k _ => hstate k.val⟩⟩
    · rintro hrun rfl
      have h : s.takeEffect (.loopCmd l.val 2) = _ := State.loopCmdTake_open hrun l.val
      simp only [h]
      refine ⟨fun hst => ?_, fun hst => ?_⟩
      · rw [if_pos (State.closedSide_iff.mpr hst)]
        obtain ⟨hstate, hforced, hcnt, -, hother⟩ := s.enterLoop_entered l.val (code := 3) (by decide) false
        exact ⟨hstate, hforced, hcnt, rfl, rfl, rfl, fun k hk => hother k.val (Fin.val_ne_of_ne hk)⟩
      · exact if_neg fun hside => by have := State.closedSide_iff.mp hside; omega
    · rintro hrun rfl
      refine ⟨fun hst => ?_, fun hst => ?_⟩
      · have hside := State.closedSide_iff.mpr hst
        obtain ⟨hfbl, hstate, hmem, hwheel, hdev⟩ := State.fbloss_declared hrun hside
        exact ⟨hfbl, hstate l.val, ⟨hmem, hwheel, hdev, fun k _ => hstate k.val⟩, State.fbloss_captured hrun hside⟩
      · exact (State.loopCmdTake_fbloss hrun l.val).trans (if_neg fun hside => by have := State.closedSide_iff.mp hside; omega)
  · obtain ⟨hsum, hturn, hvalid⟩ := s.heartbeat_noted v (turn % 0x10000)
    refine ⟨fun h => ?_, fun h => State.xwWheelWrite_in h off.val v, hsum, hturn.trans (Nat.mod_mod _ _), hvalid, rfl, rfl⟩
    simp only [State.takeEffect, State.xwWheelWrite_out h off v]
    obtain ⟨hbuf, hbad⟩ := s.xwStore_stored (2048 * w.val + 1024 * (if s.xwin.sel.testBit w.val then 1 else 0) + off.val) key v
    exact ⟨hbuf, hbad, rfl, rfl⟩
  · refine ⟨fun h => State.wheelPush_foreign h _ _ last, fun hprod hdpr hword => ?_⟩
    simp only [State.takeEffect, State.wheelPush_word hprod hdpr hword]
    refine ⟨fun hroom => ?_, fun hroom => ?_⟩
    · rw [if_pos hroom]
      obtain ⟨hents, hother⟩ := s.modQueue_queue q.val fun x => { x with ents := x.ents ++ [entry (hi.toNat * 2 ^ 32 + lo.toNat) markData] }
      obtain ⟨hwheel, hmem, -, hdev⟩ := kept_of_plane (plane_of_noted (s.modQueue_frame q.val _))
      exact ⟨hents, hwheel, hmem, hdev, hother⟩
    · rw [if_neg (by omega)]
      obtain ⟨hents, hdrop, hother⟩ := s.qDropped_queue q.val 1
      obtain ⟨hwheel, hmem, -, hdev⟩ := kept_of_plane (plane_of_noted (s.qDropped_frame q.val 1 false))
      exact ⟨hents, hdrop, hwheel, hmem, hdev, hother⟩

end Sys2Proof.Machine
end

section
/-! PROOFS. The turn match and the commands of the exchange windows (R25, R26, R81, R100–R106, R109, R148, R273, R512). -/

namespace Sys2Proof.Machine

open Sys2Proof

/-! ## The swap decisions (R101) -/

/-- Each window's decision goes by its direction: COMMIT for an IN window, HOLD for an OUT window. -/
theorem State.xwDecide_swapMask (s : State) (w : Fin 8) : s.xwDecide.wheel.swapMask.testBit w.val =
    (if s.on (R.XWIN_CFG_DIR w.val) then !s.on (R.XWIN_CTL_HOLD w.val) else s.on (R.XWIN_CTL_COMMIT w.val)) := by
  refine (testBit_bitsOf 8 _ w.val).trans ?_
  rw [decide_eq_true w.isLt, Bool.true_and]
  rfl

/-! ## The turn match (R81, R101, R109, R148) -/

section
variable {s : State}

/-- A turn match reaches the exciters in the position block alone. -/
theorem State.excMatch_eq (s : State) (x : Nat) : ∃ pos, s.excMatch x = { s with pos := pos } := by
  unfold State.excMatch
  dsimp only
  (repeat' split) <;> exact ⟨_, rfl⟩

theorem State.each_excMatch_eq (s : State) : ∃ pos, s.each [0, 1] State.excMatch = { s with pos := pos } := by
  obtain ⟨p, hp⟩ := s.excMatch_eq 0
  obtain ⟨q, hq⟩ := (s.excMatch 0).excMatch_eq 1
  exact ⟨q, hq.trans (by rw [hp])⟩

/-- A match that is a turn match is counted, and the encoders capture their speeds. -/
def State.matchCounted (s : State) : State :=
  { s with
    wheel := { s.wheel with divCnt := 1 % max 1 s.contract.div, compared := s.cycle + 1 }
    pos := { s.pos with capture := true } }

/-- A turn match that is taken: the exciters follow it, the swaps are decided, and the coming turn is armed. -/
def State.turnArmed (s : State) : State :=
  let t := (s.each [0, 1] State.excMatch).xwDecide
  { t with wheel := { t.wheel with matched := true, matchAt := t.cycle } }

theorem State.turnMatch_hit (h : s.wheel.divCnt = 0) : s.turnMatch =
    if s.wheel.turning then { s.matchCounted with wheel := { s.matchCounted.wheel with overrun := true } }
    else if s.wheel.dbgHalted && !s.on R.WHEEL_DBG_STEP then s.matchCounted
    else s.matchCounted.turnArmed := by
  unfold State.turnMatch
  rw [h]
  rfl

theorem State.turnMatch_passedOver (h : s.wheel.divCnt ≠ 0) : s.turnMatch = { s with wheel := { s.wheel with
    divCnt := (s.wheel.divCnt + 1) % max 1 s.contract.div, compared := s.cycle + 1 } } := by
  unfold State.turnMatch
  rw [decide_eq_false h]
  rfl

theorem exec_turnMatch_due (h : s.matchDue = true) : exec .turnMatch s = .next s.turnMatch :=
  congrArg Host.Outcome.next (if_pos h)

theorem exec_turnMatch_none (h : s.matchDue = false) : exec .turnMatch s = .next s :=
  congrArg Host.Outcome.next (if_neg (Bool.eq_false_iff.mp h))

/-- A match that has been taken is not due again in its cycle. -/
theorem State.matchDue_compared (h : s.wheel.compared = s.cycle + 1) : s.matchDue = false := by
  unfold State.matchDue
  rw [decide_eq_false (not_not_intro h), Bool.and_false]

end

/-- An armed turn's swaps are those the windows' registers call for; of the rest, the Wheel's other parts stand. -/
theorem State.turnArmed_decides (s : State) : ∃ pos sw held, s.turnArmed = { s with
      wheel := { s.wheel with matched := true, matchAt := s.cycle, swapMask := sw, heldMask := held }, pos := pos } ∧
    ∀ w : Fin 8, sw.testBit w.val =
      (if s.on (R.XWIN_CFG_DIR w.val) then !s.on (R.XWIN_CTL_HOLD w.val) else s.on (R.XWIN_CTL_COMMIT w.val)) := by
  obtain ⟨pos, hpos⟩ := s.each_excMatch_eq
  unfold State.turnArmed
  rw [hpos]
  exact ⟨pos, _, _, rfl, State.xwDecide_swapMask { s with pos := pos }⟩

/-- Settles O15: what a match does goes by the count to DIV and by whether the Wheel turns. -/
theorem turnMatchDecidesSwaps : Obligations.TurnMatchDecidesSwaps := by
  unfold Obligations.TurnMatchDecidesSwaps
  refine ⟨fun s hdue hdiv hidle hopen => ?_, fun s hdue hdiv hturns => ?_, fun s hdue hdiv => ?_, fun s => exec_turnMatch_none⟩
  · have harms : s.turnMatch = s.matchCounted.turnArmed := by
      rw [State.turnMatch_hit hdiv, if_neg (by rw [hidle]; decide), if_neg]
      rcases hopen with h | h <;> rw [h] <;> simp
    obtain ⟨pos, sw, held, heq, hsw⟩ := s.matchCounted.turnArmed_decides
    refine ⟨_, (exec_turnMatch_due hdue).trans (congrArg Host.Outcome.next (harms.trans heq)), rfl, rfl, rfl, hsw, rfl, rfl, rfl, rfl,
      rfl, rfl, rfl, State.matchDue_compared rfl⟩
  · exact (exec_turnMatch_due hdue).trans (congrArg Host.Outcome.next ((State.turnMatch_hit hdiv).trans (if_pos hturns)))
  · exact (exec_turnMatch_due hdue).trans (congrArg Host.Outcome.next (State.turnMatch_passedOver hdiv))

/-! ## The interconnect side of the windows (R100–R105, R273, R512) -/

section
variable {s : State} {req : Requester} {w : Nat}

theorem State.mayWindow_of_mayWrite (hmay : s.mayWrite req = true) (h : req = .cone ∨ s.cone.chal = [] ∨ s.cone.chalWin ≠ w) :
    s.mayWindow req w = true := by
  simpa [State.mayWindow, hmay, or_assoc] using h

/-- The challenge window has the Cone as its only writer. -/
theorem State.mayWindow_challenge (hreq : req ≠ .cone) (hchal : s.cone.chal ≠ []) (hwin : s.cone.chalWin = w) :
    s.mayWindow req w = false := by
  simp [State.mayWindow, hreq, hchal, hwin]

/-- Past the FABCLK edge of the match a COMMIT or HOLD leaves the decisions made. -/
theorem State.xwRedecide_late (h : s.wheel.matched = false ∨ s.wheel.matchAt / 2 ≠ s.cycle / 2) : s.xwRedecide = s := by
  refine if_neg fun hnow => ?_
  rw [Bool.and_eq_true, decide_eq_true_eq] at hnow
  rcases h with h | h
  · exact Bool.false_ne_true (h.symm.trans hnow.1)
  · exact h hnow.2

theorem State.xwRedecide_now (hmatched : s.wheel.matched = true) (h : s.wheel.matchAt / 2 = s.cycle / 2) : s.xwRedecide = s.xwDecide :=
  if_pos (by rw [hmatched, Bool.true_and]; exact decide_eq_true h)

/-- From `s` to `t` fields of the windows have been written; their directions, their buffers and the Wheel are as they were. -/
def WindowNoted (s t : State) : Prop :=
  t.wheel = s.wheel ∧ t.cycle = s.cycle ∧ t.xwin = s.xwin ∧ t.mem = s.mem ∧
  ∀ k : Fin 8, t.on (R.XWIN_CFG_DIR k.val) = s.on (R.XWIN_CFG_DIR k.val)

theorem windowNoted_refl (s : State) : WindowNoted s s := ⟨rfl, rfl, rfl, rfl, fun _ => rfl⟩

theorem windowNoted_put {f : Fld} (s : State) (v : Nat) (h : ∀ k : Fin 8, f.key ≠ (R.XWIN_CFG_DIR k.val).key) : WindowNoted s (s.put f v) :=
  ⟨rfl, rfl, rfl, rfl, fun k => State.on_put_ne s f _ v (h k)⟩

theorem windowNoted_xwCommit (s : State) (w : Nat) : WindowNoted s (s.xwCommit w) := by
  unfold State.xwCommit
  split
  · exact windowNoted_refl s
  · refine windowNoted_put s 1 fun k => ?_
    simp only [Fld.key, R.XWIN_CTL_COMMIT, R.XWIN_CFG_DIR]
    omega

theorem windowNoted_xwHold (s : State) (w : Nat) (v : Bool) : WindowNoted s (s.xwHold w v) := by
  unfold State.xwHold
  split
  · refine windowNoted_put s _ fun k => ?_
    simp only [Fld.key, R.XWIN_CTL_HOLD, R.XWIN_CFG_DIR]
    omega
  · exact windowNoted_refl s

/-- What a COMMIT or a HOLD has written counts for the turn whose match fell on its FABCLK edge, and else for a later one (R101, R105). -/
theorem WindowNoted.redecided {t : State} (hnoted : WindowNoted s t) :
    (s.wheel.matched = false ∨ s.wheel.matchAt / 2 ≠ s.cycle / 2 → t.xwRedecide = t) ∧
    (s.wheel.matched = true → s.wheel.matchAt / 2 = s.cycle / 2 → t.xwRedecide.regs = t.regs ∧ t.xwRedecide.xwin = s.xwin ∧
      t.xwRedecide.mem = s.mem ∧ t.xwRedecide.wheel.inflight = s.wheel.inflight ∧ t.xwRedecide.wheel.g = s.wheel.g ∧
      ∀ k : Fin 8, t.xwRedecide.wheel.swapMask.testBit k.val =
        (if s.on (R.XWIN_CFG_DIR k.val) then !t.on (R.XWIN_CTL_HOLD k.val) else t.on (R.XWIN_CTL_COMMIT k.val))) := by
  obtain ⟨hwheel, hcycle, hxwin, hmem, hdir⟩ := hnoted
  rw [← hwheel, ← hcycle]
  refine ⟨State.xwRedecide_late, fun hmatched hnow => ?_⟩
  rw [State.xwRedecide_now hmatched hnow]
  refine ⟨rfl, hxwin, hmem, rfl, rfl, fun k => ?_⟩
  rw [State.xwDecide_swapMask, hdir]

end

section
variable {s : State} {req : Requester} {w : Fin 8}

/-- A requester that may not write the window changes nothing by its commands. -/
theorem exec_window_barred (h : s.mayWindow req w.val = false) (off : Fin 1024) (v : Word) (b : Bool) :
    ∀ c ∈ [Instr.xwCommit req w, .xwHold req w b, .xwinBufferWrite req w off v], exec c s = .next s := by
  have hbar : ¬s.mayWindow req w.val = true := Bool.eq_false_iff.mp h
  simp only [List.forall_mem_cons, List.not_mem_nil, false_implies, implies_true, and_true]
  exact ⟨congrArg Host.Outcome.next (if_neg hbar), congrArg Host.Outcome.next (if_neg hbar), congrArg Host.Outcome.next (if_neg hbar)⟩

/-- The word an interconnect access reaches lies in the buffer that the Wheel does not own (R25). -/
theorem State.xwKey_xwBusBuf (s : State) (w : Nat) (off : Fin 1024) :
    xwKey w (s.xwBusBuf w) off.val = 2048 * w + 1024 * (if s.xwin.sel.testBit w then 0 else 1) + off.val := by
  unfold xwKey State.xwBusBuf State.xwWheelBuf
  rw [Nat.mod_eq_of_lt off.isLt]
  split <;> rfl

theorem State.xwBusWrite_stored {w : Nat} (hdir : s.on (R.XWIN_CFG_DIR w) = false) (hcommit : s.on (R.XWIN_CTL_COMMIT w) = false)
    (off : Fin 1024) (v : Word) :
    s.xwBusWrite w off.val v = s.xwStore (2048 * w + 1024 * (if s.xwin.sel.testBit w then 0 else 1) + off.val) v := by
  unfold State.xwBusWrite State.xwOut
  rw [hdir, hcommit, ← s.xwKey_xwBusBuf w off]
  rfl

theorem State.xwBusWrite_dropped {w : Nat} (h : s.on (R.XWIN_CFG_DIR w) = true ∨ s.on (R.XWIN_CTL_COMMIT w) = true)
    (off : Nat) (v : Word) :
    s.xwBusWrite w off v = s.raise (R.XWIN_STAT_WDROP w) :=
  if_pos (Bool.or_eq_true_iff.mpr h)

theorem exec_xwinBufferRead (hbus : s.busUp = true) (off : Fin 1024) : exec (.xwinBufferRead w off) s =
    .next { (s.xwBusRead w.val off.val).2 with rdata := (s.xwBusRead w.val off.val).1.toNat } :=
  congrArg Host.Outcome.next (if_pos hbus)

end

/-- Settles O20: COMMIT and HOLD write one field and then decide again where the match fell on their edge; the buffer's accesses are those of the word that the interconnect owns. -/
theorem windowCommandsComplete : Obligations.WindowCommandsComplete := by
  unfold Obligations.WindowCommandsComplete
  intro s req w off v h hbus k out
  have hkey : xwKey w.val (s.xwBusBuf w.val) off.val = k := s.xwKey_xwBusBuf w.val off
  refine ⟨fun hmay hreq => ?_, fun hreq hchal hwin => exec_window_barred (State.mayWindow_challenge hreq hchal hwin) off v h,
    fun hgood => ?_, fun hbad => ?_⟩
  · have hwindow := State.mayWindow_of_mayWrite hmay hreq
    have hcommit : exec (.xwCommit req w) s = .next (s.xwCommit w.val).xwRedecide := congrArg Host.Outcome.next (if_pos hwindow)
    have hhold : exec (.xwHold req w h) s = .next (s.xwHold w.val h).xwRedecide := congrArg Host.Outcome.next (if_pos hwindow)
    have hwrite : exec (.xwinBufferWrite req w off v) s = .next (s.xwBusWrite w.val off.val v) :=
      congrArg Host.Outcome.next (if_pos hwindow)
    obtain ⟨hclate, hcnow⟩ := (windowNoted_xwCommit s w.val).redecided
    obtain ⟨hhlate, hhnow⟩ := (windowNoted_xwHold s w.val h).redecided
    simp only [List.forall_mem_cons, List.not_mem_nil, false_implies, implies_true, and_true]
    refine ⟨⟨⟨fun hlate => hcommit.trans (congrArg _ (hclate hlate)), fun hmatched hnow => ⟨_, hcommit, hcnow hmatched hnow⟩⟩,
      fun hlate => hhold.trans (congrArg _ (hhlate hlate)), fun hmatched hnow => ⟨_, hhold, hhnow hmatched hnow⟩⟩,
      fun hin hopen => ?_, fun hdrop => ?_⟩
    · rw [hwrite, State.xwBusWrite_stored hin hopen]
      rfl
    · rw [hwrite, State.xwBusWrite_dropped hdrop]
  · rw [exec_xwinBufferRead hbus, State.xwBusRead, hkey, if_neg (by rw [hgood]; decide)]
  · rw [exec_xwinBufferRead hbus, State.xwBusRead, hkey, if_pos hbad]
    rfl

end Sys2Proof.Machine
end

section
/-! PROOFS. A slot refused while a discharge is requested (R275, R276, R305): what the statement about start-up leaves open. -/

namespace Sys2Proof.Machine

open Sys2Proof

/-- Phase 3 of pass 2 at slot A, the last left to attempt, with no NOR that answers. A discharge is requested and has not begun: nothing ties the request a state holds to a Cone that runs, which alone makes it. -/
def dischargeAsked : State := { (State.reset.put R.WEDGE_STAT_PHASE 3).raise R.SAGGAR_REQ_DISCH with
  dev := .wedging, pll := true, wedge := { todo := [(0, 1)] }, nor := { info := { present := false } } }

/-- The slot is refused as unreadable. -/
theorem dischargeAsked_unreadable : dischargeAsked.get R.WEDGE_STAT_PHASE = 3 ∧ dischargeAsked.slotReadable 0 0 256 = false := by
  decide +kernel

/-- NOIMAGE takes the request in as it is entered, and the Cone notes the start of the discharge (R276). -/
theorem phaseEnd_dischargeAsked : dischargeAsked.cone.disAt = none ∧ dischargeAsked.phaseEnd.dev = .noimage ∧
    dischargeAsked.phaseEnd.cone.disAt = some 0 := by
  decide +kernel

/-- Refutes O43: the refusal of `dischargeAsked` leaves the Cone with a discharge begun, where the statement has the Cone as it was. -/
theorem not_imagesAreCheckedAndTaken : ¬ Obligations.ImagesAreCheckedAndTaken := by
  unfold Obligations.ImagesAreCheckedAndTaken
  intro h
  obtain ⟨hphase, hread⟩ := dischargeAsked_unreadable
  obtain ⟨hbefore, -, hafter⟩ := phaseEnd_dischargeAsked
  obtain ⟨hthree, -⟩ := h dischargeAsked 0 1 [] rfl rfl
  obtain ⟨-, -, hjudged⟩ := hthree hphase rfl rfl
  obtain ⟨hrefused, -⟩ := hjudged (.inl rfl)
  obtain ⟨-, -, -, -, -, -, hcone, -⟩ := hrefused hread
  rw [hcone, hbefore] at hafter
  cases hafter

end Sys2Proof.Machine
end

section
/-! PROOFS. Commands of converters and ΣΔ channels (R112, R117, R121, R124–R127, R130–R136, R513). -/

namespace Sys2Proof.Machine

open Sys2Proof

/-! ## Calibration, VREFSEL and STUCK (R112, R125–R127, R130) -/

theorem State.bit_put_self (s : State) {f : Fld} (v : Nat) {k : Nat} (hk : k < f.width) : (s.put f v).bit f k = v.testBit k := by
  rw [State.bit, State.get_put_self, Nat.testBit_mod_two_pow, decide_eq_true hk, Bool.true_and]

section
variable {s : State}

theorem exec_calStart_taken (hbus : s.busUp = true) (hdev : s.dev = .ready) (hopen : s.stopped 11 = false)
    (hidle : s.on R.ADC_CAL_BUSY = false) (hconv : s.adcConverting = false) :
    exec .calStart s = .next ((s.raise R.ADC_CAL_BUSY).clear R.ADC_CAL_DONE) := by
  show execCalStart s = _
  rw [execCalStart, hbus, hdev, hopen, hidle, hconv]
  rfl

theorem exec_calStart_refused (hbus : s.busUp = true)
    (h : s.dev ≠ .ready ∨ s.stopped 11 = true ∨ s.on R.ADC_CAL_BUSY = true ∨ s.adcConverting = true) :
    exec .calStart s = .next (s.raise R.ADC_STAT_CFGREJ) := by
  show execCalStart s = _
  rw [execCalStart, hbus, if_pos h]
  rfl

theorem exec_vrefselWrite_changed (hbus : s.busUp = true) (hdev : s.dev = .ready) {v : Bool} (hv : s.on R.ADC_CTL_VREFSEL ≠ v) :
    exec (.vrefselWrite v) s = .next ((s.putB R.ADC_CTL_VREFSEL v).clear R.ADC_CAL_DONE).sync := by
  show execVrefselWrite v s = _
  rw [execVrefselWrite, hbus, hdev, if_neg hv]
  rfl

/-- A write of 1 to STUCK clears the flags of the mask and forgets the runs of their converters (R130). -/
theorem exec_adcStuckClear_spec (hbus : s.busUp = true) (mask : BitVec 16) : ∃ t, exec (.adcStuckClear mask) s = .next t ∧
    (∀ k : Fin 16, t.bit R.ADC_FLAG_STUCK k.val = (s.bit R.ADC_FLAG_STUCK k.val && !mask.toNat.testBit k.val)) ∧
    (∀ k : Fin 16, mask.toNat.testBit k.val = true → Sparse.get 0 t.adc.same k.val = 0) ∧
    t.wheel = s.wheel ∧ t.mem = s.mem := by
  refine ⟨_, congrArg Host.Outcome.next (if_neg (by rw [hbus]; decide)), fun k => ?_, fun k hk => ?_, rfl, rfl⟩
  · refine (s.bit_put_self (f := R.ADC_FLAG_STUCK) _ k.isLt).trans ?_
    rw [testBit_bitsOf, decide_eq_true k.isLt, Bool.true_and]
  · rw [Sparse.get_keep, hk]
    rfl

end

/-! ## Lists of acquisitions: the code given, the result taken, the codes left (R117, R121) -/

section
variable {pre post : List AdcRun} {r : AdcRun}

/-- The code goes to the first run of its converter with a slot that waits. -/
theorem giveCode_append {k : Nat} (code : Nat) (hpre : ∀ x ∈ pre, x.conv ≠ k) (hconv : r.conv = k)
    (hwait : r.codes.length < r.snaps.length) :
    giveCode k code (pre ++ r :: post) = pre ++ { r with codes := r.codes ++ [code] } :: post := by
  induction pre with
  | nil => exact if_pos ⟨hconv, hwait⟩
  | cons x l ih =>
    obtain ⟨hx, hl⟩ := List.forall_mem_cons.mp hpre
    exact (if_neg fun h => hx h.1).trans (congrArg (x :: ·) (ih hl))

/-- Without a code that waits for its cycle a run is not ready. -/
theorem AdcRun.ready_false (h : r.codes.length ≤ r.done) (t : Nat) : r.ready t = false := by
  rw [AdcRun.ready, decide_eq_false (Nat.not_lt.mpr h), Bool.false_and]

theorem takeReady_none {t : Nat} (h : ∀ x ∈ pre, x.ready t = false) : takeReady t pre = none := by
  induction pre with
  | nil => rfl
  | cons x l ih =>
    obtain ⟨hx, hl⟩ := List.forall_mem_cons.mp h
    rw [takeReady, if_neg (Bool.eq_false_iff.mp hx), ih hl]

/-- What a run leaves in the list once its slot is counted as delivered: itself, or nothing after its last slot. -/
def AdcRun.delivered (r : AdcRun) : List AdcRun := if r.done + 1 < r.slots then [{ r with done := r.done + 1 }] else []

/-- The first run that is ready is taken. -/
theorem takeReady_append {t : Nat} (hpre : ∀ x ∈ pre, x.ready t = false) (hr : r.ready t = true) :
    takeReady t (pre ++ r :: post) = some (r, pre ++ r.delivered ++ post) := by
  induction pre with
  | nil =>
    rw [List.nil_append, takeReady, if_pos hr, AdcRun.delivered]
    split <;> rfl
  | cons x l ih =>
    obtain ⟨hx, hl⟩ := List.forall_mem_cons.mp hpre
    rw [List.cons_append, takeReady, if_neg (Bool.eq_false_iff.mp hx), ih hl]
    rfl

/-- Where no other acquisition is of its group, one of the group is left after a delivery exactly where it was not its last slot. -/
theorem any_group_delivered (hother : ∀ x ∈ pre ++ post, x.group ≠ r.group) :
    ((pre ++ r.delivered ++ post).any fun x => decide (x.group = r.group)) = decide (r.done + 1 < r.slots) := by
  obtain ⟨hpre, hpost⟩ := List.forall_mem_append.mp hother
  have hnone {l : List AdcRun} (h : ∀ x ∈ l, x.group ≠ r.group) : (l.any fun x => decide (x.group = r.group)) = false :=
    List.any_eq_false.mpr fun x hx => by simpa using h x hx
  rw [List.any_append, List.any_append, hnone hpre, hnone hpost, Bool.false_or, Bool.or_false, AdcRun.delivered]
  split
  · next h => simp [h]
  · next h => simp [h]

/-- Runs without a code that waits count none. -/
theorem codesLeft_quiet (h : ∀ x ∈ pre, x.codes.length ≤ x.done) (n : Nat) :
    pre.foldl (fun n r => n + (r.codes.length - r.done)) n = n := by
  induction pre with
  | nil => rfl
  | cons x l ih =>
    obtain ⟨hx, hl⟩ := List.forall_mem_cons.mp h
    rw [List.foldl_cons, Nat.sub_eq_zero_of_le hx]
    exact ih hl

theorem State.codesLeft_one {s : State} (hruns : s.adc.runs = pre ++ r :: post)
    (hquiet : ∀ x ∈ pre ++ post, x.codes.length ≤ x.done) (hr : r.codes.length = r.done + 1) : s.codesLeft = 1 := by
  obtain ⟨hpre, hpost⟩ := List.forall_mem_append.mp hquiet
  rw [State.codesLeft, hruns, List.foldl_append, codesLeft_quiet hpre, List.foldl_cons, codesLeft_quiet hpost, hr]
  omega

end

/-! ## What a delivered result moves outside its block -/

/-- The state without what the protection and the resolver monitors move, and the DONE flags of the groups. -/
def State.apart (s : State) : State × (Nat → Nat) := ({ s.rest with pos := {} }, fun g => s.get (R.ADC_GSW_DONE g))

/-- The field does not begin at bit 2 of its word, where GSW.DONE lies. -/
def Fld.besideDone (f : Fld) : Bool := decide (f.lo < 32) && decide (f.lo ≠ 2)

theorem gswDone_ne {f : Fld} (h : f.besideDone = true) (g : Nat) : f.key ≠ (R.ADC_GSW_DONE g).key := by
  simp only [Fld.besideDone, Bool.and_eq_true, decide_eq_true_eq] at h
  simp only [Fld.key, R.ADC_GSW_DONE]
  omega

/-- The fields that a result, the resolver monitors and the feedback-loss scan write. -/
theorem resultFields_besideDone :
    (∀ i, (R.ADC_RES_VALUE i).besideDone = true) ∧ (∀ i, (R.ADC_RES_SAT i).besideDone = true) ∧
    (∀ i, (R.ADC_RES_CLIP i).besideDone = true) ∧ (∀ i, (R.ADC_RES_VALID i).besideDone = true) ∧
    (∀ i, (R.ADC_RES_SEQ i).besideDone = true) ∧ R.ADC_FLAG_CLIP.besideDone = true ∧ R.ADC_FLAG_STUCK.besideDone = true ∧
    (∀ i, (R.POS_RXAMP_VALUE i).besideDone = true) ∧ (∀ i, (R.POS_RXSTAT_AMPF i).besideDone = true) ∧
    (∀ i, (R.POS_RXSTAT_LOS i).besideDone = true) ∧ (∀ i, (R.LOOP_LSTAT_FBL i).besideDone = true) ∧
    (∀ i, (R.LOOP_LSTAT_FBCAUSE i).besideDone = true) ∧ (∀ i, (R.LOOP_LSTAT_FBSRC i).besideDone = true) ∧
    (∀ i, (R.LOOP_FBTS_TSC i).besideDone = true) :=
  ⟨fun _ => rfl, fun _ => rfl, fun _ => rfl, fun _ => rfl, fun _ => rfl, rfl, rfl, fun _ => rfl, fun _ => rfl, fun _ => rfl,
    fun _ => rfl, fun _ => rfl, fun _ => rfl, fun _ => rfl⟩

theorem State.put_apart {f : Fld} (h : f.besideDone = true) (s : State) (v : Nat) : (s.put f v).apart = s.apart :=
  Prod.ext rfl (funext fun g => s.get_put_ne f _ v (gswDone_ne h g))

/-- A written field, a replaced block, a branch and an index-wise operation leave what stands apart from them. -/
theorem apart_update :
    (∀ (s : State) (f : Fld) (v : Nat), f.besideDone = true → (s.put f v).apart = s.apart) ∧
    (∀ (s : State) (f : Fld), f.besideDone = true → (s.raise f).apart = s.apart) ∧
    (∀ (s : State) (f : Fld), f.besideDone = true → (s.clear f).apart = s.apart) ∧
    (∀ (s : State) (f : Fld) (b : Bool), f.besideDone = true → (s.putB f b).apart = s.apart) ∧
    (∀ (s : State) (f : Fld) (i : Nat) (b : Bool), f.besideDone = true → (s.putBit f i b).apart = s.apart) ∧
    (∀ (s : State) (f : Fld), f.besideDone = true → (s.bumpWrap f).apart = s.apart) ∧
    (∀ (s : State) (x : Nat) (v : Exciter), (s.setExc x v).apart = s.apart) ∧
    (∀ (s : State) (l : Nat) (x : LoopSt), (s.setLoop l x).apart = s.apart) ∧
    (∀ (c : Prop) [Decidable c] (s t : State), (if c then s else t).apart = if c then s.apart else t.apart) ∧
    (∀ (s : State) (l : List Nat) (f : State → Nat → State), (∀ t i, (f t i).apart = t.apart) → (s.each l f).apart = s.apart) :=
  ⟨fun s _ _ h => s.put_apart h _, fun s _ h => s.put_apart h _, fun s _ h => s.put_apart h _, fun s _ _ h => s.put_apart h _,
    fun s _ _ _ h => s.put_apart h _, fun s _ h => s.put_apart h _, fun _ _ _ => rfl, fun _ _ _ => rfl, fun _ _ _ _ => apply_ite ..,
    fun s l f h => State.each_keeps State.apart f h l s⟩

/-! ### Bringing the Saggar to its inputs -/

theorem State.pwmTrip_done (s : State) (v g : Nat) : (s.pwmTrip v).get (R.ADC_GSW_DONE g) = s.get (R.ADC_GSW_DONE g) := by
  have hput {f : Fld} (h : f.besideDone = true) (t : State) (x : Nat) : (t.put f x).get (R.ADC_GSW_DONE g) = t.get (R.ADC_GSW_DONE g) :=
    t.get_put_ne f _ x (gswDone_ne h g)
  refine State.each_keeps (·.get (R.ADC_GSW_DONE g)) _ (fun t n => ?_) _ s
  dsimp only
  split
  · rw [State.clear_eq, State.clear_eq, hput rfl, hput rfl, hput rfl, hput rfl]
    rfl
  · rfl

theorem State.latchBits_done (s : State) (v bits g : Nat) : (s.latchBits v bits).get (R.ADC_GSW_DONE g) = s.get (R.ADC_GSW_DONE g) := by
  have hlatch := gswDone_ne (f := R.SAGGAR_LATCH_INPUTS v) rfl g
  have hfirst := gswDone_ne (f := R.SAGGAR_FIRST_INPUTS v) rfl g
  have htrip := gswDone_ne (f := R.SAGGAR_TRIPTS_TSC v) rfl g
  simp only [State.latchBits, State.captureFirst_get _ hfirst htrip, State.forceLoops_get, State.fire_get, State.pwmTrip_done,
    State.get_put_ne _ _ _ _ hlatch, get_update, ite_self]

theorem State.sync_done (s : State) (g : Nat) : s.sync.get (R.ADC_GSW_DONE g) = s.get (R.ADC_GSW_DONE g) := by
  have hlatch (v : Nat) := gswDone_ne (f := R.SAGGAR_LATCH_INPUTS v) rfl g
  have hdone := gswDone_ne (f := R.CONE_DISCH_DONE) rfl g
  simp only [State.sync, State.sagSync, State.latchInputs, State.holdClear, get_update, State.sendSymbol_get, State.dischStart_get _ hdone,
    State.latchBits_done, State.get_clear_ne _ _ _ (hlatch _), State.judgeAll_get, implies_true, ite_self]

theorem State.sync_apart (s : State) : s.sync.apart = s.apart :=
  Prod.ext (congrArg (fun t : State => { t with pos := {} }) s.sync_rest) (funext s.sync_done)

/-! ### The feedback-loss scan and the resolver monitors -/

theorem State.fbTake_apart (s : State) (l : Nat) : (s.fbTake l).apart = s.apart := by
  unfold State.fbTake
  split
  · split
    · rfl
    · simp only [apart_update, resultFields_besideDone]
  · rfl

theorem State.fbScan_apart (s : State) : s.fbScan.apart = s.apart := by
  simp only [State.fbScan, State.sync_apart, apart_update, State.fbTake_apart, implies_true]

theorem State.resFlags_apart (s : State) (x : Nat) (a : Word) : (s.resFlags x a).apart = s.apart := by
  simp only [State.resFlags, apart_update, resultFields_besideDone, ite_self]

theorem State.resEstimate_apart (s : State) (x ph : Nat) (a b : Word × Bool) : (s.resEstimate x ph a b).apart = s.apart := by
  simp only [State.resEstimate, apart_update, resultFields_besideDone, State.resFlags_apart, ite_self]

theorem State.resPair_apart (s : State) (x : Nat) : (s.resPair x).apart = s.apart := by
  unfold State.resPair
  dsimp only
  split
  · rw [State.resEstimate_apart]
    rfl
  · rfl

theorem State.resTake_apart (s : State) (conv : Nat) (sn : Snap) (v : Word) (ok : Bool) : (s.resTake conv sn v ok).apart = s.apart := by
  refine State.each_keeps State.apart _ (fun t x => ?_) _ s
  split
  · exact State.resPair_apart _ x
  · rfl

/-! ### The result itself -/

theorem State.adc_of_apart {s t : State} (h : t.apart.1 = s.apart.1) : t.adc = s.adc := (congrArg State.adc h :)

/-- States that agree apart agree in the rest of the device. -/
theorem State.kept_of_apart {s t : State} (h : t.apart.1 = s.apart.1) :
    t.wheel = s.wheel ∧ t.mem = s.mem ∧ t.queues = s.queues ∧ t.xwin = s.xwin ∧ t.dev = s.dev :=
  ⟨(congrArg State.wheel h :), (congrArg State.mem h :), (congrArg State.queues h :), (congrArg State.xwin h :),
    (congrArg State.dev h :)⟩

theorem State.done_of_apart {s t : State} (h : t.apart = s.apart) (g : Nat) : t.on (R.ADC_GSW_DONE g) = s.on (R.ADC_GSW_DONE g) :=
  congrArg (fun n : Nat => decide (n = 1)) (congrFun (congrArg Prod.snd h) g)

/-- The state with another sampling block. -/
def State.withAdc (s : State) (a : Adc) : State := { s with adc := a }

@[simp] theorem State.withAdc_adc (s : State) (a : Adc) : (s.withAdc a).adc = a := rfl

/-- The sampling block replaced by the same one in states that agree apart. -/
theorem State.withAdc_apart {s t : State} (h : t.apart = s.apart) (a : Adc) : (t.withAdc a).apart = (s.withAdc a).apart := by
  have hblock := congrArg (fun p : State × (Nat → Nat) => (p.1.withAdc a, p.2)) h
  exact hblock

/-- DONE set in states that agree apart. -/
theorem State.raiseDone_apart {s t : State} (h : t.apart = s.apart) (g : Nat) :
    (t.raise (R.ADC_GSW_DONE g)).apart = (s.raise (R.ADC_GSW_DONE g)).apart := by
  have hrest := congrArg Prod.fst h
  refine Prod.ext hrest (funext fun k => ?_)
  show (t.put (R.ADC_GSW_DONE g) 1).get (R.ADC_GSW_DONE k) = (s.put (R.ADC_GSW_DONE g) 1).get (R.ADC_GSW_DONE k)
  by_cases hk : g = k
  · rw [hk, State.get_put_self, State.get_put_self]
  · have hkey : (R.ADC_GSW_DONE g).key ≠ (R.ADC_GSW_DONE k).key := by
      simp only [Fld.key, R.ADC_GSW_DONE]
      omega
    rw [State.get_put_ne _ _ _ _ hkey, State.get_put_ne _ _ _ _ hkey]
    exact congrFun (congrArg Prod.snd h) k

/-- The block with a result of converter `k` stored: its value, its clip state and that it has one (R121, R124). -/
def Adc.withResult (a : Adc) (k : Nat) (sn : Snap) (code : Nat) : Adc :=
  { a with
    val := Sparse.set 0#32 a.val k (corrected sn (rawValue sn.pdiff code))
    clip := Sparse.set false a.clip k (clipped sn.pdiff sn.clipmode (rawValue sn.pdiff code))
    seen := Sparse.set false a.seen k true }

theorem Adc.withResult_self (a : Adc) (k : Nat) (sn : Snap) (code : Nat) :
    Sparse.get 0#32 (a.withResult k sn code).val k = corrected sn (rawValue sn.pdiff code) ∧
    Sparse.get false (a.withResult k sn code).clip k = clipped sn.pdiff sn.clipmode (rawValue sn.pdiff code) ∧
    Sparse.get false (a.withResult k sn code).seen k = true :=
  ⟨Sparse.get_set_self _ _ _ _, Sparse.get_set_self _ _ _ _, Sparse.get_set_self false a.seen k true⟩

theorem Adc.withResult_ne (a : Adc) {j k : Nat} (h : j ≠ k) (sn : Snap) (code : Nat) :
    Sparse.get 0#32 (a.withResult k sn code).val j = Sparse.get 0#32 a.val j := Sparse.get_set_ne _ _ _ h

/-- The block with other acquisitions. -/
def Adc.withRuns (a : Adc) (l : List AdcRun) : Adc := { a with runs := l }

/-- The block with the run of identical codes noted (R129). -/
def Adc.withCodes (a : Adc) (same lastRaw : Sparse Nat) : Adc := { a with same := same, lastRaw := lastRaw }

theorem State.stuckCount_apart (s : State) (k code : Nat) (sw : Bool) : ∃ same last,
    (s.stuckCount k code sw).apart = (s.withAdc (s.adc.withCodes same last)).apart := by
  simp only [State.stuckCount, apart_update, resultFields_besideDone, ite_self]
  exact ⟨_, _, rfl⟩

/-- A result reaches its block; of the rest, registers other than DONE, the protection and the resolver monitors. -/
theorem State.adcStore_apart (s : State) (k code : Nat) (sn : Snap) : ∃ same last,
    (s.adcStore k code sn).apart = (s.withAdc ((s.adc.withCodes same last).withResult k sn code)).apart := by
  obtain ⟨same, last, hstuck⟩ := s.stuckCount_apart k code sn.switching
  have hblock {t : State} (h : t.apart = (s.withAdc (s.adc.withCodes same last)).apart) :
      (t.withAdc (t.adc.withResult k sn code)).apart = (s.withAdc ((s.adc.withCodes same last).withResult k sn code)).apart := by
    rw [State.adc_of_apart (congrArg Prod.fst h)]
    exact State.withAdc_apart h _
  refine ⟨same, last, (State.resTake_apart _ _ _ _ _).trans (hblock ?_)⟩
  simp only [apart_update, resultFields_besideDone, ite_self]
  exact hstuck

/-! ## One result delivered (R117, R136, R513) -/

section
variable {s : State} {pre post : List AdcRun} {r : AdcRun}

/-- With a result that is not due yet nothing is delivered. -/
theorem State.deliverOne_early (hruns : ∀ x ∈ s.adc.runs, x.ready s.cycle = false) : s.deliverOne = s := by
  unfold State.deliverOne
  rw [takeReady_none hruns]

/-- DONE set where no acquisition of the group is left (R136). -/
def State.noteDone (s : State) (g : Nat) : State :=
  if s.adc.runs.any fun x => decide (x.group = g) then s else s.raise (R.ADC_GSW_DONE g)

/-- DONE noted in states that agree apart. -/
theorem State.noteDone_apart {t : State} (h : t.apart = s.apart) (g : Nat) : (t.noteDone g).apart = (s.noteDone g).apart := by
  unfold State.noteDone
  rw [State.adc_of_apart (congrArg Prod.fst h)]
  split
  · exact h
  · exact State.raiseDone_apart h g

theorem State.noteDone_apart_fst (s : State) (g : Nat) : (s.noteDone g).apart.1 = s.apart.1 := by
  unfold State.noteDone
  split <;> rfl

theorem State.noteDone_on {g : Nat} (h : s.on (R.ADC_GSW_DONE g) = false) :
    (s.noteDone g).on (R.ADC_GSW_DONE g) = !s.adc.runs.any fun x => decide (x.group = g) := by
  unfold State.noteDone
  split
  · next hleft => rw [h, hleft, Bool.not_true]
  · next hleft => rw [State.on_raise_self _ Nat.one_pos, Bool.eq_false_iff.mpr hleft, Bool.not_false]

/-- The only result that is due is stored, and sets DONE with the last slot of its group. -/
theorem State.deliverOne_due (hruns : s.adc.runs = pre ++ r :: post) (hpre : ∀ x ∈ pre, x.ready s.cycle = false)
    (hr : r.ready s.cycle = true) : ∃ same last, s.deliverOne.apart =
      ((s.withAdc (((s.adc.withRuns (pre ++ r.delivered ++ post)).withCodes same last).withResult r.conv (r.snaps.getD r.done {})
        (r.codes.getD r.done 0))).noteDone r.group).apart := by
  obtain ⟨same, last, hstored⟩ := State.adcStore_apart (s.withAdc (s.adc.withRuns (pre ++ r.delivered ++ post))) r.conv
    (r.codes.getD r.done 0) (r.snaps.getD r.done {})
  refine ⟨same, last, Eq.trans (congrArg State.apart ?_) (State.noteDone_apart hstored r.group)⟩
  unfold State.deliverOne
  rw [hruns, takeReady_append hpre hr]
  rfl

theorem State.adcDeliver_one (h : s.codesLeft = 1) : s.adcDeliver = s.deliverOne := by
  unfold State.adcDeliver
  rw [h]
  rfl

end

/-! ## A code that arrives for a slot (R117, R121, R124, R136, R513) -/

section
variable {s : State} {conv : Fin 16} (code : BitVec 14) {pre post : List AdcRun} {r : AdcRun}

/-- The acquisition with the code given to its slot. -/
def AdcRun.withCode (r : AdcRun) (code : Nat) : AdcRun := { r with codes := r.codes ++ [code] }

/-- The state with the code given, and nothing delivered yet. -/
def State.given (s : State) (pre : List AdcRun) (r : AdcRun) (code : Nat) (post : List AdcRun) : State :=
  s.withAdc (s.adc.withRuns (pre ++ r.withCode code :: post))

variable (hruns : s.adc.runs = pre ++ r :: post) (hquiet : ∀ x ∈ pre ++ post, x.codes.length ≤ x.done)
  (hpre : ∀ x ∈ pre, x.conv ≠ conv.val) (hconv : r.conv = conv.val) (hcodes : r.codes.length = r.done)
  (hwait : r.done < r.snaps.length)
include hruns hquiet hpre hconv hcodes hwait

/-- The code is the one that waits: the command delivers it where it is due. -/
theorem exec_conversionResult_given :
    exec (.conversionResult conv code) s = .next (s.given pre r code.toNat post).deliverOne.fbScan := by
  have hgiven : giveCode conv.val code.toNat s.adc.runs = pre ++ r.withCode code.toNat :: post :=
    hruns ▸ giveCode_append code.toNat hpre hconv (hcodes ▸ hwait)
  have hleft : (s.given pre r code.toNat post).codesLeft = 1 :=
    State.codesLeft_one rfl hquiet (by rw [AdcRun.withCode, List.length_append, hcodes]; rfl)
  rw [← State.adcDeliver_one hleft]
  exact congrArg (fun l => Host.Outcome.next (s.withAdc (s.adc.withRuns l)).adcDeliver.fbScan) hgiven

/-- Before its readable cycle the code is held (R117, R513). -/
theorem exec_conversionResult_early (hearly : s.cycle < r.due + r.done * slotCycles r.nacq) :
    exec (.conversionResult conv code) s = .next (s.given pre r code.toNat post).fbScan := by
  rw [exec_conversionResult_given code hruns hquiet hpre hconv hcodes hwait, State.deliverOne_early]
  intro x hx
  obtain ⟨hqpre, hqpost⟩ := List.forall_mem_append.mp hquiet
  rcases List.mem_append.mp hx with hx | hx
  · exact AdcRun.ready_false (hqpre x hx) _
  rcases List.mem_cons.mp hx with rfl | hx
  · exact (congrArg _ (decide_eq_false (Nat.not_le.mpr hearly))).trans (Bool.and_false _)
  · exact AdcRun.ready_false (hqpost x hx) _

/-- From that cycle on it is corrected with the settings of its slot and stored, and the last of its trigger sets DONE. -/
theorem exec_conversionResult_due (hdue : r.due + r.done * slotCycles r.nacq ≤ s.cycle) : ∃ t same last,
    exec (.conversionResult conv code) s = .next t ∧ t.apart =
      ((s.withAdc (((s.adc.withRuns (pre ++ (r.withCode code.toNat).delivered ++ post)).withCodes same last).withResult conv.val
        (r.snaps.getD r.done {}) code.toNat)).noteDone r.group).apart := by
  have hready : (r.withCode code.toNat).ready s.cycle = true := by
    rw [AdcRun.ready, Bool.and_eq_true, decide_eq_true_eq, decide_eq_true_eq, AdcRun.withCode, List.length_append, hcodes]
    exact ⟨Nat.lt_succ_self _, hdue⟩
  have hcode : (r.withCode code.toNat).codes.getD (r.withCode code.toNat).done 0 = code.toNat := by
    dsimp only [AdcRun.withCode]
    rw [List.getD_append_right _ _ _ _ (le_of_eq hcodes), hcodes, Nat.sub_self]
    rfl
  obtain ⟨same, last, hone⟩ := State.deliverOne_due (s := s.given pre r code.toNat post) rfl
    (fun x hx => AdcRun.ready_false ((List.forall_mem_append.mp hquiet).1 x hx) _) hready
  refine ⟨_, same, last, exec_conversionResult_given code hruns hquiet hpre hconv hcodes hwait, (State.fbScan_apart _).trans ?_⟩
  rw [hcode] at hone
  rw [← hconv]
  exact hone

end

/-- Settles O22: a code given for a slot is held, or corrected and stored, and what follows a result leaves the rest as it is. -/
theorem converterCommandsComplete : Obligations.ConverterCommandsComplete := by
  unfold Obligations.ConverterCommandsComplete
  refine ⟨fun s m10 m90 v mask hbus => ⟨exec_calStart_taken hbus, exec_calStart_refused hbus,
    fun hbusy => congrArg Host.Outcome.next (if_pos hbusy), fun hdev hv => exec_vrefselWrite_changed hbus hdev hv,
    exec_adcStuckClear_spec hbus mask⟩, ?_⟩
  intro s conv code pre r post hruns hquiet hpre hconv hcodes hwait hslot sn raw d m at_ same
  refine ⟨fun hdue => ?_, fun hearly => ?_⟩
  · obtain ⟨t, run, last, hexec, hap⟩ := exec_conversionResult_due code hruns hquiet hpre hconv hcodes hwait hdue
    have hfst := (congrArg Prod.fst hap).trans (State.noteDone_apart_fst _ _)
    have hadc := (State.adc_of_apart hfst).trans (State.withAdc_adc _ _)
    have ⟨hval, hclip, hseen⟩ := hadc ▸ Adc.withResult_self _ conv.val (r.snaps.getD r.done {}) code.toNat
    have hkept := State.kept_of_apart hfst
    refine ⟨t, hexec, hval, hclip, hseen, fun hoff hgroup => ?_, fun k hk => ?_, hkept⟩
    · rw [State.done_of_apart hap]
      have hany := any_group_delivered (r := r.withCode code.toNat) hgroup
      refine (State.noteDone_on ?_).trans ((congrArg (!·) hany).trans ?_)
      · exact hoff
      · rw [← decide_not]
        exact decide_eq_decide.mpr (by simp only [AdcRun.withCode]; omega)
    · rw [hadc]
      exact Adc.withResult_ne _ hk _ _
  · have hap := State.fbScan_apart (s.given pre r code.toNat post)
    have hfst := congrArg Prod.fst hap
    have hadc := State.adc_of_apart hfst
    have hkept := State.kept_of_apart hfst
    refine ⟨_, exec_conversionResult_early code hruns hquiet hpre hconv hcodes hwait hearly, ?_, ?_, fun k hk => ?_, hkept⟩
    all_goals
      rw [hadc]
      rfl

end Sys2Proof.Machine
end

section
/-! PROOFS. Commands of the ΣΔ channels (R132–R135). -/

namespace Sys2Proof.Machine

open Sys2Proof

/-! ## Outputs (R132, R133, R135) -/

/-- The levels of the land are noted before an output that is due is delivered. -/
theorem exec_sdOutput_running {s : State} {ch : Fin 6} (hruns : s.sdRuns ch.val = true) (bits : List Bool) :
    exec (.sdOutput ch bits) s = .next ((s.setSd ch.val { s.sdCh ch.val with land := (s.sdCh ch.val).land ++ bits }).sdDeliver ch.val) :=
  congrArg Host.Outcome.next (if_neg (by rw [hruns]; decide))

theorem State.sdDeliver_none {s : State} {j : Nat} (h : (s.sdCh j).out = none) : s.sdDeliver j = s := by
  unfold State.sdDeliver
  dsimp only
  rw [h]

/-- The output register, its validity and its count are three fields (R133, R135). -/
theorem sdOutput_fields (j : Nat) : (R.ADC_SDSTAT_VALID j).key ≠ (R.ADC_SDRES_VALUE j).key ∧
    (R.ADC_SDSTAT_OUTCNT j).key ≠ (R.ADC_SDRES_VALUE j).key ∧ (R.ADC_SDSTAT_OUTCNT j).key ≠ (R.ADC_SDSTAT_VALID j).key ∧
    (R.ADC_SDRES_VALUE j).key ≠ (R.ADC_SDSTAT_OUTCNT j).key ∧ (R.ADC_SDSTAT_VALID j).key ≠ (R.ADC_SDSTAT_OUTCNT j).key := by
  simp only [Fld.key, R.ADC_SDSTAT_VALID, R.ADC_SDRES_VALUE, R.ADC_SDSTAT_OUTCNT]
  omega

/-- An output put into its registers, and counted (R133). -/
def State.sdPut (s : State) (j : Nat) (y : Word) (ok : Bool) : State :=
  ((s.put (R.ADC_SDRES_VALUE j) y.toNat).putB (R.ADC_SDSTAT_VALID j) ok).bumpWrap (R.ADC_SDSTAT_OUTCNT j)

theorem State.sdPut_registers (s : State) (j : Nat) (y : Word) (ok : Bool) :
    (s.sdPut j y ok).get (R.ADC_SDRES_VALUE j) = y.toNat ∧ (s.sdPut j y ok).on (R.ADC_SDSTAT_VALID j) = ok ∧
    (s.sdPut j y ok).get (R.ADC_SDSTAT_OUTCNT j) =
      (s.get (R.ADC_SDSTAT_OUTCNT j) + 1) % 2 ^ (R.ADC_SDSTAT_OUTCNT j).width := by
  obtain ⟨hvr, hcr, hcv, hrc, hvc⟩ := sdOutput_fields j
  refine ⟨?_, ?_, ?_⟩
  · rw [State.sdPut, State.bumpWrap, State.get_put_ne _ _ _ _ hcr, State.putB_eq, State.get_put_ne _ _ _ _ hvr, State.get_put_self]
    exact Nat.mod_eq_of_lt y.isLt
  · rw [State.sdPut, State.bumpWrap, State.on_put_ne _ _ _ _ hcv]
    exact State.on_putB_self _ _ ok Nat.one_pos
  · rw [State.sdPut, State.bumpWrap, State.get_put_self, State.putB_eq, State.get_put_ne _ _ _ _ hvc, State.get_put_ne _ _ _ _ hrc]

theorem State.sdPut_kept (s : State) (j : Nat) (y : Word) (ok : Bool) :
    (s.sdPut j y ok).adc = s.adc ∧ (s.sdPut j y ok).wheel = s.wheel ∧ (s.sdPut j y ok).mem = s.mem := ⟨rfl, rfl, rfl⟩

/-- An output that is due is corrected; it is valid from the third since the restart, once no resync output is left and while STUCK is 0. -/
theorem State.sdDeliver_due {s : State} {j tm osr : Nat} {sum : Int} {c : SdCh} (hc : s.sdCh j = c) (hout : c.out = some (tm, sum, osr))
    (hdue : tm ≤ s.cycle) : s.sdDeliver j =
      (s.setSd j { c with outs := min (c.outs + 1) 3, inval := c.inval - 1, out := none }).sdPut j
        (sdCorrect sum osr (s.word (R.ADC_SDOFS_VALUE j)) (s.word (R.ADC_SDGAIN_VALUE j)))
        (decide (2 ≤ c.outs) && decide (c.inval = 0) && !s.on (R.ADC_SDSTAT_STUCK j)) := by
  have hthird : decide (2 ≤ c.outs) = decide (3 ≤ min (c.outs + 1) 3) := decide_eq_decide.mpr (by omega)
  unfold State.sdDeliver
  dsimp only
  rw [hc, hout, hthird]
  exact if_neg (Nat.not_lt.mpr hdue)

/-! ## Alignment events and stuck bitstreams (R134, R135) -/

section
variable {s : State} {ch : Fin 6}

theorem exec_sdSyncEvent_due (hruns : s.sdRuns ch.val = true) {tm : Nat} (hsync : (s.sdCh ch.val).syncAt = some tm)
    (hdue : tm ≤ s.cycle) (hedge : s.adc.sdclk = if s.on (R.ADC_SDCFG_EDGE ch.val) then 16 else 0) :
    exec (.sdSyncEvent ch) s = .next (s.sdSync ch.val) := by
  refine congrArg Host.Outcome.next (if_pos ?_)
  rw [State.sdSyncDue, hruns, hsync, State.sdEdge, decide_eq_true hedge, Bool.and_true, Bool.true_and]
  exact decide_eq_true hdue

theorem exec_sdSyncEvent_none (hsync : (s.sdCh ch.val).syncAt = none) : exec (.sdSyncEvent ch) s = .next s := by
  refine congrArg Host.Outcome.next (if_neg ?_)
  rw [State.sdSyncDue, hsync, Bool.and_false, Bool.false_and]
  decide

theorem exec_sdStuck_counted (hruns : s.sdRuns ch.val = true) (h : (s.sdCh ch.val).same = 128) :
    exec (.sdStuck ch) s = .next (s.raise (R.ADC_SDSTAT_STUCK ch.val)).fbScan :=
  congrArg Host.Outcome.next (if_pos (by rw [State.sdSame, hruns, h]; rfl))

theorem exec_sdStuck_short (h : (s.sdCh ch.val).same ≠ 128) : exec (.sdStuck ch) s = .next s :=
  congrArg Host.Outcome.next (if_neg (by rw [State.sdSame, decide_eq_false h, Bool.and_false]; decide))

end

/-- Settles O23: what each command does to its channel goes by the output that is due, the event that waits and the run of bits. -/
theorem sigmaDeltaCommandsComplete : Obligations.SigmaDeltaCommandsComplete := by
  unfold Obligations.SigmaDeltaCommandsComplete
  intro s ch bits b hruns c
  refine ⟨fun tm sum osr hout hdue => ?_, fun hout => ?_, fun tm hsync hdue hedge => ⟨fun hoff => ?_, fun hon => ?_⟩,
    exec_sdSyncEvent_none, exec_sdStuck_counted hruns, exec_sdStuck_short, fun hbus => congrArg Host.Outcome.next (if_pos hbus),
    rfl, rfl, rfl⟩
  · have hdeliver := State.sdDeliver_due (s.sdCh_setSd_self ch.val { c with land := c.land ++ bits }) hout hdue
    obtain ⟨hres, hvalid, hcount⟩ := State.sdPut_registers _ ch.val _ _
    obtain ⟨hadc, hwheel, hmem⟩ := State.sdPut_kept _ ch.val _ _
    refine ⟨_, (exec_sdOutput_running hruns bits).trans (congrArg _ hdeliver), hres, hvalid, hcount, ?_, hwheel, hmem⟩
    rw [State.sdCh, hadc]
    exact State.sdCh_setSd_self _ _ _
  · rw [exec_sdOutput_running hruns, State.sdDeliver_none]
    exact (congrArg SdCh.out (State.sdCh_setSd_self _ _ _)).trans hout
  · rw [exec_sdSyncEvent_due hruns hsync hdue hedge, State.sdSync, if_neg hoff]
  · rw [exec_sdSyncEvent_due hruns hsync hdue hedge, State.sdSync, if_pos hon]

end Sys2Proof.Machine
end

section
/-! PROOFS. Encoder and Hall commands (R145–R152). -/

namespace Sys2Proof.Machine

open Sys2Proof

/-! ## Counts of an encoder (R145, R147) -/

/-- The two levels of a filtered sample as the pair the quadrature step goes by. -/
def quadLevels (a b : Bool) : Nat := (if a then 2 else 0) + (if b then 1 else 0)

section
variable {s : State} {e : Fin 2} {a b : Bool} (hruns : s.posRuns = true) (hen : s.on (R.POS_ECFG_EN e.val) = true)
include hruns hen

theorem exec_encoderCount_illegal (hq : quadStep (s.enc e.val).ab (quadLevels a b) = none) : exec (.encoderCount e a b) s =
    .next ((s.setEnc e.val { s.enc e.val with ab := quadLevels a b }).raise (R.POS_ESTAT_ILL e.val)) := by
  show execEncoderCount e a b s = _
  unfold execEncoderCount
  dsimp only
  rw [hruns, hen, ← quadLevels, hq]
  rfl

theorem exec_encoderCount_still (hq : quadStep (s.enc e.val).ab (quadLevels a b) = some 0) :
    exec (.encoderCount e a b) s = .next s := by
  show execEncoderCount e a b s = _
  unfold execEncoderCount
  dsimp only
  rw [hruns, hen, ← quadLevels, hq]
  rfl

/-- A legal step counts by one, with the sign DIR gives it, modulo CPR; without CPR, modulo 2^24 (log 12). -/
theorem exec_encoderCount_step {d n : Int} {m : Nat} (hd : d = 1 ∨ d = -1)
    (hq : quadStep (s.enc e.val).ab (quadLevels a b) = some d) (hn : n = if s.on (R.POS_ECFG_DIR e.val) then -d else d)
    (hm : m = if s.get (R.POS_ECPR_CPR e.val) = 0 then 2 ^ 24 else s.get (R.POS_ECPR_CPR e.val)) :
    exec (.encoderCount e a b) s = .next ((s.setEnc e.val { s.enc e.val with
        ab := quadLevels a b, dcount := (s.enc e.val).dcount + n, te := s.per }).put (R.POS_ECNT_POSCNT e.val)
      (((s.get (R.POS_ECNT_POSCNT e.val) : Int) + n) % (m : Int)).toNat) := by
  show execEncoderCount e a b s = _
  unfold execEncoderCount
  dsimp only
  rw [hruns, hen, ← quadLevels, hq, hn, hm]
  obtain rfl | rfl := hd <;> rfl

end

/-! ## Z edges (R146) -/

/-- The two ways around the circle between two counts: both nothing, or together the whole circle. -/
theorem mod_diff_opposite (z p : Nat) {m : Nat} (hm : 0 < m) :
    ((z + m - p % m) % m = 0 ∧ (p + m - z % m) % m = 0) ∨ (z + m - p % m) % m + (p + m - z % m) % m = m := by
  have hz := Nat.mod_lt z hm
  have hp := Nat.mod_lt p hm
  have hd := Nat.mod_lt (z + m - p % m) hm
  have he := Nat.mod_lt (p + m - z % m) hm
  have hsum : (z + m - p % m) + (p + m - z % m) = m * (z / m + p / m + 2) := by
    have hz' := Nat.div_add_mod z m
    have hp' := Nat.div_add_mod p m
    rw [Nat.mul_add, Nat.mul_add]
    omega
  have hdvd : m ∣ (z + m - p % m) % m + (p + m - z % m) % m := by
    rw [Nat.dvd_iff_mod_eq_zero, ← Nat.add_mod, hsum, Nat.mul_mod_right]
  obtain ⟨k, hk⟩ := hdvd
  have hk2 : k < 2 := Nat.lt_of_mul_lt_mul_left (a := m) (by omega)
  interval_cases k <;> omega

theorem circDiff_eq_min (z p : Nat) {m : Nat} (hm : 0 < m) : circDiff z p m = min ((z + m - p % m) % m) ((p + m - z % m) % m) := by
  have hopp := mod_diff_opposite z p hm
  rw [circDiff, if_neg (by omega)]
  dsimp only
  omega

section
variable {s : State} {e : Fin 2} (hruns : s.posRuns = true) (hen : s.on (R.POS_ECFG_EN e.val) = true)
include hruns hen

theorem exec_encoderZ_first (hz : s.on (R.POS_ESTAT_ZSEEN e.val) = false) : exec (.encoderZ e) s =
    .next (((s.setEnc e.val { s.enc e.val with loaded := true }).put (R.POS_ECNT_POSCNT e.val) (s.get (R.POS_EZPOS_ZPOS e.val))).raise
      (R.POS_ESTAT_ZSEEN e.val)) := by
  show execEncoderZ e s = _
  unfold execEncoderZ
  rw [hruns, hen, hz]
  rfl

/-- A later Z is judged by the circular difference; ZRST is read as it was before the judgement. -/
theorem exec_encoderZ_later (hz : s.on (R.POS_ESTAT_ZSEEN e.val) = true) {m : Nat}
    (hm : m = if s.get (R.POS_ECPR_CPR e.val) = 0 then 2 ^ 24 else s.get (R.POS_ECPR_CPR e.val)) {u : State}
    (hu : u = if s.get (R.POS_ECFG_ZTOL e.val) < circDiff (s.get (R.POS_EZPOS_ZPOS e.val)) (s.get (R.POS_ECNT_POSCNT e.val)) m
      then s.raise (R.POS_ESTAT_ZERR e.val) else s) :
    exec (.encoderZ e) s = .next (if s.on (R.POS_ECFG_ZRST e.val) = true then
      u.put (R.POS_ECNT_POSCNT e.val) (s.get (R.POS_EZPOS_ZPOS e.val)) else u) := by
  have hne : (R.POS_ESTAT_ZERR e.val).key ≠ (R.POS_ECFG_ZRST e.val).key := by
    simp only [Fld.key, R.POS_ESTAT_ZERR, R.POS_ECFG_ZRST]
    omega
  have hzrst : u.on (R.POS_ECFG_ZRST e.val) = s.on (R.POS_ECFG_ZRST e.val) := by
    rw [hu]
    split
    · exact State.on_put_ne _ _ _ _ hne
    · rfl
  show execEncoderZ e s = _
  unfold execEncoderZ
  dsimp only
  rw [hruns, hen, hz, ← hm, ← hu, hzrst]
  rfl

end

/-! ## Captured speeds (R148) -/

theorem State.capturedSpeed_counted {s : State} {e : Nat} (hcount : (s.enc e).dcount ≠ 0) (htime : (s.enc e).tePrev < (s.enc e).te) :
    s.capturedSpeed e = ((Fp32.ofIntRat ((s.get (R.POS_ECFG_PP e) : Int) * (s.enc e).dcount * 150000000)
      (max 1 (s.get (R.POS_ECPR_CPR e)) * ((s.enc e).te - (s.enc e).tePrev))).v, s) := by
  unfold State.capturedSpeed
  exact (if_pos hcount).trans (if_neg (Nat.not_le.mpr htime))

theorem exec_speedCapture_counted {s : State} {e : Fin 2} (hdue : s.captureDue e.val = true) (hcount : (s.enc e.val).dcount ≠ 0)
    (htime : (s.enc e.val).tePrev < (s.enc e.val).te) : exec (.speedCapture e) s = .next (s.setEnc e.val { s.enc e.val with
      dcount := 0, tePrev := (s.enc e.val).te, captured := s.cycle + 1
      spd := some (s.per + 8, (Fp32.ofIntRat ((s.get (R.POS_ECFG_PP e.val) : Int) * (s.enc e.val).dcount * 150000000)
        (max 1 (s.get (R.POS_ECPR_CPR e.val)) * ((s.enc e.val).te - (s.enc e.val).tePrev))).v) }) := by
  refine congrArg Host.Outcome.next ((if_pos hdue).trans ?_)
  rw [State.speedCapture, State.capturedSpeed_counted hcount htime]

theorem exec_speedCapture_none {s : State} {e : Fin 2} (h : s.captureDue e.val = false) : exec (.speedCapture e) s = .next s :=
  congrArg Host.Outcome.next (if_neg (by rw [h]; decide))

theorem State.speedRegister_waiting {s : State} {e d : Nat} {v : Word} (hruns : s.posRuns = true) (h : (s.enc e).spd = some (d, v)) :
    s.speedRegister e = if d ≤ s.per then (s.setEnc e { s.enc e with spd := none }).put (R.POS_ESPD_VALUE e) v.toNat else s := by
  unfold State.speedRegister
  rw [h]
  simp only [hruns, and_true]

/-! ## What a Hall set reads, and what it writes (R150–R152) -/

/-- The fields the order of the sectors and the cross-check go by. -/
def hallReads (h : Nat) : List Fld :=
  [R.POS_HANG0_ANG1 h, R.POS_HANG0_ANG2 h, R.POS_HANG0_ANG3 h, R.POS_HANG0_ANG4 h, R.POS_HANG1_ANG5 h, R.POS_HANG1_ANG6 h,
    R.POS_HCFG_HTOL h, R.POS_HCFG_PAIR h, R.POS_ECPR_CPR h, R.POS_ECFG_PP h, R.POS_ECNT_POSCNT h, R.POS_EOFS_EOFS h]

/-- The code and the speed stand at places of their own, beside what the set reads. -/
theorem hallReads_apart (h : Nat) : ∀ f ∈ [R.POS_HSTAT_CODE h, R.POS_HSPD_VALUE h], ∀ g ∈ hallReads h, f.key ≠ g.key := by
  simp only [hallReads, List.forall_mem_cons, List.not_mem_nil, false_implies, implies_true, and_true, Fld.key,
    R.POS_HSTAT_CODE, R.POS_HSPD_VALUE, R.POS_HANG0_ANG1, R.POS_HANG0_ANG2, R.POS_HANG0_ANG3, R.POS_HANG0_ANG4,
    R.POS_HANG1_ANG5, R.POS_HANG1_ANG6, R.POS_HCFG_HTOL, R.POS_HCFG_PAIR, R.POS_ECPR_CPR, R.POS_ECFG_PP, R.POS_ECNT_POSCNT,
    R.POS_EOFS_EOFS]
  omega

/-- The fields that change between adjacent sectors. -/
def hallStepWrites (h : Nat) : List Fld := [R.POS_HSPD_VALUE h, R.POS_ESTAT_PLAUS h, R.POS_HSTAT_PLAUS h]

/-- The fields a sampled code may write are at different places. -/
theorem hallWrites_apart (h : Nat) :
    (∀ f ∈ [R.POS_HSTAT_ILL h, R.POS_HSTAT_SKIP h, R.POS_HSTAT_PLAUS h, R.POS_HSPD_VALUE h], (R.POS_HSTAT_CODE h).key ≠ f.key) ∧
    (∀ f ∈ [R.POS_HSTAT_ILL h, R.POS_HSTAT_SKIP h], f.key ≠ (R.POS_HSTAT_CODE h).key ∧ f.key ≠ (R.POS_HSPD_VALUE h).key) ∧
    (∀ f ∈ hallStepWrites h, f.key ≠ (R.POS_HSTAT_CODE h).key ∧ f.key ≠ (R.POS_HSTAT_SKIP h).key) ∧
    (∀ f ∈ [R.POS_ESTAT_PLAUS h, R.POS_HSTAT_PLAUS h], f.key ≠ (R.POS_HSPD_VALUE h).key) ∧
    (R.POS_HSPD_VALUE h).key ≠ (R.POS_HSTAT_PLAUS h).key := by
  simp only [hallStepWrites, List.forall_mem_cons, List.not_mem_nil, false_implies, implies_true, and_true, Fld.key,
    R.POS_HSTAT_CODE, R.POS_HSTAT_ILL, R.POS_HSTAT_SKIP, R.POS_HSTAT_PLAUS, R.POS_HSPD_VALUE, R.POS_ESTAT_PLAUS]
  omega

/-- Two states agree in what set h reads. -/
def HallAlike (h : Nat) (s t : State) : Prop := ∀ f ∈ hallReads h, t.get f = s.get f

theorem hallAlike_put {h : Nat} (s : State) {f : Fld} (hf : f ∈ [R.POS_HSTAT_CODE h, R.POS_HSPD_VALUE h]) (v : Nat) :
    HallAlike h s (s.put f v) :=
  fun g hg => State.get_put_ne s f g v (hallReads_apart h f hf g hg)

/-- The order of the sectors, the cross-check and its enable are read from these fields alone. -/
theorem HallAlike.reads {h : Nat} {s t : State} (hst : HallAlike h s t) :
    t.hallNext h = s.hallNext h ∧ t.hallAgrees h = s.hallAgrees h ∧ t.on (R.POS_HCFG_PAIR h) = s.on (R.POS_HCFG_PAIR h) := by
  simp only [HallAlike, hallReads, List.forall_mem_cons] at hst
  obtain ⟨hang1, hang2, hang3, hang4, hang5, hang6, htol, hpair, hcpr, hpp, hcnt, hofs, -⟩ := hst
  have hhang : t.hang h = s.hang h := by
    funext c
    simp only [State.hang, hang1, hang2, hang3, hang4, hang5, hang6]
  have hangle : t.encAngle h = s.encAngle h := by simp only [State.encAngle, hcpr, hpp, hcnt, hofs]
  refine ⟨?_, ?_, ?_⟩
  · funext c
    simp only [State.hallNext, hhang]
  · funext a b
    simp only [State.hallAgrees, hangle, hhang, htol]
  · rw [State.on, hpair, State.on]

/-! ## Speed and cross-check between adjacent sectors (R151, R152) -/

/-- A cross-check that fails is noted at both sensors (R152). -/
def State.hallFlag (s : State) (h : Nat) (bad : Bool) : State :=
  if bad then (s.raise (R.POS_ESTAT_PLAUS h)).raise (R.POS_HSTAT_PLAUS h) else s

theorem State.hallFlag_kept (s : State) (h : Nat) (bad : Bool) :
    (s.hallFlag h bad).pos = s.pos ∧ (s.hallFlag h bad).wheel = s.wheel ∧ (s.hallFlag h bad).mem = s.mem := by
  cases bad <;> exact ⟨rfl, rfl, rfl⟩

theorem State.hallFlag_get_ne (s : State) {h : Nat} (bad : Bool) {f : Fld}
    (hf : ∀ g ∈ [R.POS_ESTAT_PLAUS h, R.POS_HSTAT_PLAUS h], g.key ≠ f.key) : (s.hallFlag h bad).get f = s.get f := by
  cases bad with
  | false => rfl
  | true => exact (State.get_put_ne _ _ _ _ (hf _ (by simp))).trans (State.get_put_ne _ _ _ _ (hf _ (by simp)))

theorem State.hallFlag_plaus (s : State) (h : Nat) (bad : Bool) :
    (s.hallFlag h bad).on (R.POS_HSTAT_PLAUS h) = (s.on (R.POS_HSTAT_PLAUS h) || bad) := by
  cases bad with
  | false => exact (Bool.or_false _).symm
  | true => exact (State.on_raise_self _ Nat.one_pos).trans (Bool.or_true _).symm

/-- Without an edge before, nothing is timed; otherwise the speed is written, and a time that has passed gives 1 / (6 × Δt). -/
theorem State.hallStep_cases (s : State) (h c : Nat) : ∃ t : State,
    s.hallStep h c = t.hallFlag h (s.on (R.POS_HCFG_PAIR h) && !s.hallAgrees h (s.hallSet h).last c) ∧
    (((s.hallSet h).tLast = none ∧ t = s) ∨ ∃ u n v, (s.hallSet h).tLast = some u ∧
      t = State.put { s with free := n } (R.POS_HSPD_VALUE h) v ∧
      (u < s.per → v = (Fp32.ofRat (decide (s.hallNext h (s.hallSet h).last ≠ c)) perHz (6 * (s.per - u))).v.toNat)) := by
  unfold State.hallStep
  extract_lets x up drawn t
  have ht : (x.tLast = none ∧ t = s) ∨ ∃ u n v, x.tLast = some u ∧ t = State.put { s with free := n } (R.POS_HSPD_VALUE h) v ∧
      (u < s.per → v = (Fp32.ofRat (decide (s.hallNext h x.last ≠ c)) perHz (6 * (s.per - u))).v.toNat) := by
    unfold t
    split
    next hnone => exact .inl ⟨hnone, rfl⟩
    next u hsome =>
      refine .inr ⟨u, ?_⟩
      split
      · exact ⟨_, _, hsome, rfl, fun hlt => by omega⟩
      · exact ⟨s.free, _, hsome, rfl, fun _ => by rw [decide_not]⟩
  clear_value t
  have halike : HallAlike h s t := by
    obtain ⟨-, rfl⟩ | ⟨u, n, v, -, rfl, -⟩ := ht
    · exact fun _ _ => rfl
    · exact hallAlike_put { s with free := n } (by simp) v
  obtain ⟨-, hagrees, hpair⟩ := halike.reads
  refine ⟨t, ?_, ht⟩
  rw [hpair, hagrees, State.hallFlag]

theorem State.hallStep_kept (s : State) (h c : Nat) :
    (s.hallStep h c).pos = s.pos ∧ (s.hallStep h c).wheel = s.wheel ∧ (s.hallStep h c).mem = s.mem := by
  obtain ⟨t, heq, ⟨-, rfl⟩ | ⟨u, n, v, -, rfl, -⟩⟩ := s.hallStep_cases h c
  all_goals
    rw [heq]
    exact State.hallFlag_kept _ _ _

theorem State.hallStep_get_ne (s : State) {h : Nat} (c : Nat) {f : Fld} (hf : ∀ g ∈ hallStepWrites h, g.key ≠ f.key) :
    (s.hallStep h c).get f = s.get f := by
  obtain ⟨hspeed, hplaus⟩ := List.forall_mem_cons.mp hf
  obtain ⟨t, heq, ⟨-, rfl⟩ | ⟨u, n, v, -, rfl, -⟩⟩ := s.hallStep_cases h c
  · rw [heq, State.hallFlag_get_ne _ _ hplaus]
  · rw [heq, State.hallFlag_get_ne _ _ hplaus]
    exact State.get_put_ne _ _ _ _ hspeed

theorem State.hallStep_speed_untimed {s : State} {h : Nat} (c : Nat) (htime : (s.hallSet h).tLast = none) :
    (s.hallStep h c).get (R.POS_HSPD_VALUE h) = s.get (R.POS_HSPD_VALUE h) := by
  obtain ⟨-, -, -, hplaus, -⟩ := hallWrites_apart h
  obtain ⟨t, heq, ⟨-, rfl⟩ | ⟨u, n, v, hsome, -, -⟩⟩ := s.hallStep_cases h c
  · rw [heq, State.hallFlag_get_ne _ _ hplaus]
  · rw [htime] at hsome
    contradiction

theorem State.hallStep_speed_timed {s : State} {h u : Nat} (c : Nat) (htime : (s.hallSet h).tLast = some u) (hlt : u < s.per) :
    (s.hallStep h c).get (R.POS_HSPD_VALUE h) =
      (Fp32.ofRat (decide (s.hallNext h (s.hallSet h).last ≠ c)) perHz (6 * (s.per - u))).v.toNat := by
  obtain ⟨-, -, -, hplaus, -⟩ := hallWrites_apart h
  obtain ⟨t, heq, ⟨hnone, -⟩ | ⟨w, n, v, hsome, rfl, hv⟩⟩ := s.hallStep_cases h c
  · rw [htime] at hnone
    contradiction
  · obtain rfl : w = u := Option.some.inj (hsome.symm.trans htime)
    rw [heq, State.hallFlag_get_ne _ _ hplaus, State.get_put_self, hv hlt]
    exact Nat.mod_eq_of_lt (BitVec.isLt _)

theorem State.hallStep_plaus (s : State) (h c : Nat) : (s.hallStep h c).on (R.POS_HSTAT_PLAUS h) =
    (s.on (R.POS_HSTAT_PLAUS h) || (s.on (R.POS_HCFG_PAIR h) && !s.hallAgrees h (s.hallSet h).last c)) := by
  obtain ⟨-, -, -, -, hne⟩ := hallWrites_apart h
  obtain ⟨t, heq, ⟨-, rfl⟩ | ⟨u, n, v, -, rfl, -⟩⟩ := s.hallStep_cases h c
  · rw [heq, State.hallFlag_plaus]
  · rw [heq, State.hallFlag_plaus, State.on_put_ne _ _ _ _ hne]
    rfl

/-! ## A code as it is sampled (R150) -/

/-- The code is at the lands of the set. -/
def State.hallLand (s : State) (h c : Nat) : State :=
  { s with pins := { s.pins with hall := Sparse.set none s.pins.hall h (some c) } }

/-- The code is at the lands and in HSTAT, and has been seen. -/
def State.hallSampled (s : State) (h c : Nat) : State :=
  ((s.hallLand h c).put (R.POS_HSTAT_CODE h) c).setHall h { s.hallSet h with seen := some c }

theorem State.hallSampled_alike (s : State) (h c : Nat) : HallAlike h s (s.hallSampled h c) :=
  hallAlike_put (s.hallLand h c) (by simp) c

theorem State.hallSampled_get_ne (s : State) {h : Nat} (c : Nat) {f : Fld} (hf : (R.POS_HSTAT_CODE h).key ≠ f.key) :
    (s.hallSampled h c).get f = s.get f :=
  State.get_put_ne (s.hallLand h c) _ _ _ hf

theorem State.hallSampled_code (s : State) (h : Nat) {c : Nat} (hc : c < 8) :
    (s.hallSampled h c).get (R.POS_HSTAT_CODE h) = c :=
  (State.get_put_self (s.hallLand h c) _ _).trans (Nat.mod_eq_of_lt hc)

theorem State.hallSampled_hallSet (s : State) (h c : Nat) :
    (s.hallSampled h c).hallSet h = { s.hallSet h with seen := some c } := State.hallSet_setHall_self _ _ _

/-- Sampling leaves the last valid code and its time. -/
theorem State.hallSampled_edge (s : State) (h c : Nat) :
    ((s.hallSampled h c).hallSet h).last = (s.hallSet h).last ∧ ((s.hallSampled h c).hallSet h).tLast = (s.hallSet h).tLast := by
  rw [s.hallSampled_hallSet]
  exact ⟨rfl, rfl⟩

/-- A sampled code is invalid, the first, the same again, of an adjacent sector, or of another one. -/
theorem State.hallTake_eq (s : State) (h c : Nat) : (s.hallLand h c).hallTake h c =
    if c = 0 ∨ c = 7 then (s.hallSampled h c).raise (R.POS_HSTAT_ILL h)
    else if (s.hallSet h).last = 0 then (s.hallSampled h c).setHall h { s.hallSet h with last := c, seen := some c }
    else if c = (s.hallSet h).last then s.hallSampled h c
    else if s.hallNext h (s.hallSet h).last = c ∨ s.hallNext h c = (s.hallSet h).last then
      ((s.hallSampled h c).hallStep h c).setHall h { last := c, tLast := some s.per, seen := some c }
    else ((s.hallSampled h c).raise (R.POS_HSTAT_SKIP h)).setHall h { last := c, tLast := some s.per, seen := some c } := by
  obtain ⟨horder, -, -⟩ := (s.hallSampled_alike h c).reads
  rw [← horder]
  rfl

section
variable {s : State} {h : Fin 2} {code : Fin 8} (hruns : s.hallRuns h.val = true)
include hruns

theorem exec_hallEdge_running : exec (.hallEdge h code) s = .next ((s.hallLand h.val code.val).hallTake h.val code.val) :=
  congrArg Host.Outcome.next (if_pos hruns)

theorem exec_hallEdge_invalid (hcode : code.val = 0 ∨ code.val = 7) : exec (.hallEdge h code) s =
    .next ((s.hallSampled h.val code.val).raise (R.POS_HSTAT_ILL h.val)) := by
  rw [exec_hallEdge_running hruns, s.hallTake_eq, if_pos hcode]

variable (hcode : ¬(code.val = 0 ∨ code.val = 7))
include hcode

theorem exec_hallEdge_first (hlast : (s.hallSet h.val).last = 0) : exec (.hallEdge h code) s =
    .next ((s.hallSampled h.val code.val).setHall h.val { s.hallSet h.val with last := code.val, seen := some code.val }) := by
  rw [exec_hallEdge_running hruns, s.hallTake_eq, if_neg hcode, if_pos hlast]

variable (hlast : (s.hallSet h.val).last ≠ 0) (hne : code.val ≠ (s.hallSet h.val).last)
include hlast hne

/-- A transition to a sector that is not adjacent forms no speed and begins the next interval (log 12). -/
theorem exec_hallEdge_skip (hnext : s.hallNext h.val (s.hallSet h.val).last ≠ code.val)
    (hprev : s.hallNext h.val code.val ≠ (s.hallSet h.val).last) : exec (.hallEdge h code) s =
    .next (((s.hallSampled h.val code.val).raise (R.POS_HSTAT_SKIP h.val)).setHall h.val
      { last := code.val, tLast := some s.per, seen := some code.val }) := by
  rw [exec_hallEdge_running hruns, s.hallTake_eq, if_neg hcode, if_neg hlast, if_neg hne, if_neg (not_or.mpr ⟨hnext, hprev⟩)]

theorem exec_hallEdge_adjacent
    (hadj : s.hallNext h.val (s.hallSet h.val).last = code.val ∨ s.hallNext h.val code.val = (s.hallSet h.val).last) :
    exec (.hallEdge h code) s = .next (((s.hallSampled h.val code.val).hallStep h.val code.val).setHall h.val
      { last := code.val, tLast := some s.per, seen := some code.val }) := by
  rw [exec_hallEdge_running hruns, s.hallTake_eq, if_neg hcode, if_neg hlast, if_neg hne, if_pos hadj]

end

/-- What a sampled code leaves. -/
theorem State.hallSampled_spec (s : State) (h : Nat) {c : Nat} (hc : c < 8) : ∃ t : State, s.hallSampled h c = t ∧
    t.get (R.POS_HSTAT_CODE h) = c ∧ t.wheel = s.wheel ∧ t.mem = s.mem ∧ t.pos.enc = s.pos.enc ∧
    t.hallSet h = { s.hallSet h with seen := some c } ∧ t.get (R.POS_HSPD_VALUE h) = s.get (R.POS_HSPD_VALUE h) ∧
    t.on (R.POS_HSTAT_ILL h) = s.on (R.POS_HSTAT_ILL h) := by
  obtain ⟨hcode, -⟩ := hallWrites_apart h
  exact ⟨_, rfl, s.hallSampled_code h hc, rfl, rfl, rfl, s.hallSampled_hallSet h c, s.hallSampled_get_ne c (hcode _ (by simp)),
    State.on_put_ne (s.hallLand h c) _ _ c (hcode _ (by simp))⟩

/-- What a flag raised on a sampled code gives, against the state before. -/
theorem State.hallSampled_raise (s : State) (h : Nat) {c : Nat} (hc : c < 8) {f : Fld}
    (hf : f ∈ [R.POS_HSTAT_ILL h, R.POS_HSTAT_SKIP h]) (hwidth : 0 < f.width) : ∃ t : State, (s.hallSampled h c).raise f = t ∧
    t.get (R.POS_HSTAT_CODE h) = c ∧ t.wheel = s.wheel ∧ t.mem = s.mem ∧ t.pos.enc = s.pos.enc ∧ t.on f = true ∧
    t.hallSet h = { s.hallSet h with seen := some c } ∧ t.get (R.POS_HSPD_VALUE h) = s.get (R.POS_HSPD_VALUE h) := by
  obtain ⟨-, hflag, -⟩ := hallWrites_apart h
  obtain ⟨hfcode, hfspeed⟩ := hflag f hf
  obtain ⟨u, hu, hread, hwheel, hmem, henc, hset, hspeed, -⟩ := s.hallSampled_spec h hc
  rw [hu]
  exact ⟨_, rfl, (State.get_put_ne _ _ _ _ hfcode).trans hread, hwheel, hmem, henc, State.on_raise_self _ hwidth, hset,
    (State.get_put_ne _ _ _ _ hfspeed).trans hspeed⟩

/-- What a step between adjacent sectors gives, against the state before the code was sampled. -/
theorem State.hallSampled_hallStep (s : State) (h : Nat) {c : Nat} (hc : c < 8) : ∃ t : State, (s.hallSampled h c).hallStep h c = t ∧
    t.get (R.POS_HSTAT_CODE h) = c ∧ t.wheel = s.wheel ∧ t.mem = s.mem ∧ t.pos.enc = s.pos.enc ∧
    t.on (R.POS_HSTAT_SKIP h) = s.on (R.POS_HSTAT_SKIP h) ∧
    ((s.hallSet h).tLast = none → t.get (R.POS_HSPD_VALUE h) = s.get (R.POS_HSPD_VALUE h)) ∧
    (∀ u, (s.hallSet h).tLast = some u → u < s.per → t.get (R.POS_HSPD_VALUE h) =
      (Fp32.ofRat (decide (s.hallNext h (s.hallSet h).last ≠ c)) perHz (6 * (s.per - u))).v.toNat) ∧
    t.on (R.POS_HSTAT_PLAUS h) = (s.on (R.POS_HSTAT_PLAUS h) ||
      (s.on (R.POS_HCFG_PAIR h) && !s.hallAgrees h (s.hallSet h).last c)) := by
  obtain ⟨hcode, -, hstep, -, -⟩ := hallWrites_apart h
  obtain ⟨hpos, hwheel, hmem⟩ := (s.hallSampled h c).hallStep_kept h c
  obtain ⟨horder, hagrees, hpair⟩ := (s.hallSampled_alike h c).reads
  obtain ⟨hlast, htime⟩ := s.hallSampled_edge h c
  refine ⟨_, rfl, ?_, hwheel, hmem, (congrArg Pos.enc hpos).trans rfl, ?_, fun hnone => ?_, fun u hsome hlt => ?_, ?_⟩
  · rw [State.hallStep_get_ne _ _ fun g hg => (hstep g hg).1, s.hallSampled_code h hc]
  · rw [State.on, State.hallStep_get_ne _ _ fun g hg => (hstep g hg).2, s.hallSampled_get_ne c (hcode _ (by simp)), State.on]
  · rw [State.hallStep_speed_untimed c (htime.trans hnone), s.hallSampled_get_ne c (hcode _ (by simp))]
  · rw [State.hallStep_speed_timed c (htime.trans hsome) hlt, horder, hlast]
    rfl
  · rw [State.hallStep_plaus, hpair, hagrees, hlast, State.on, s.hallSampled_get_ne c (hcode _ (by simp)), ← State.on]

/-! ## Sets without an edge (R151) -/

section
variable {s : State} {h : Fin 2}

theorem exec_hallTimeout_quiet (hruns : s.hallRuns h.val = true) (hzto : s.get (R.POS_HZTO_HZTO h.val) ≠ 0)
    (hquiet : ∀ t, (s.hallSet h.val).tLast = some t → t + 150 * s.get (R.POS_HZTO_HZTO h.val) ≤ s.per) :
    exec (.hallTimeout h) s = .next (s.clear (R.POS_HSPD_VALUE h.val)) := by
  refine congrArg Host.Outcome.next (if_pos ?_)
  rw [State.hallQuiet, ← State.hallRuns, hruns, decide_eq_true hzto]
  split
  next t ht => exact decide_eq_true (hquiet t ht)
  next => rfl

theorem exec_hallTimeout_early {t : Nat} (htime : (s.hallSet h.val).tLast = some t)
    (hearly : s.per < t + 150 * s.get (R.POS_HZTO_HZTO h.val)) : exec (.hallTimeout h) s = .next s := by
  refine congrArg Host.Outcome.next (if_neg ?_)
  rw [State.hallQuiet, htime]
  simp only [Nat.not_le.mpr hearly, decide_false, Bool.and_false]
  decide

end

/-- Settles O24: counts, Z edges and captures by the encoder's state, Hall edges by the code, the last code and the order of the sectors. -/
theorem rotarySensorsComplete : Obligations.RotarySensorsComplete := by
  unfold Obligations.RotarySensorsComplete
  intro s e a b code hruns x ab m
  have hm : 0 < m := by
    unfold m
    split <;> omega
  refine ⟨fun hen => ⟨fun d hd hq => exec_encoderCount_step hruns hen hd hq rfl rfl, exec_encoderCount_illegal hruns hen,
    exec_encoderCount_still hruns hen, exec_encoderZ_first hruns hen, fun hz => ?later, exec_speedCapture_counted,
    exec_speedCapture_none, fun d v hspd => State.speedRegister_waiting hruns hspd⟩, fun hen => ?hall⟩
  case later =>
    refine exec_encoderZ_later hruns hen hz rfl ?_
    rw [circDiff_eq_min _ _ hm]
  case hall =>
    have hrunning : s.hallRuns e.val = true := by rw [State.hallRuns, hruns, hen]; rfl
    have hvalid : code ≠ 0 ∧ code ≠ 7 ↔ ¬(code.val = 0 ∨ code.val = 7) := by
      rw [not_or, Fin.ne_iff_vne, Fin.ne_iff_vne]
      rfl
    refine ⟨fun hv => ?invalid, fun hv hlast => ?first, fun hv hlast hne hnext hprev => ?skip, fun hv hlast hne hadj => ?adjacent,
      exec_hallTimeout_quiet hrunning, fun t => exec_hallTimeout_early⟩
    case invalid =>
      have hinv : code.val = 0 ∨ code.val = 7 := not_not.mp (mt hvalid.mpr hv)
      obtain ⟨t, ht, hread, hwheel, hmem, henc, hill, hset, hspeed⟩ :=
        s.hallSampled_raise e.val code.isLt (f := R.POS_HSTAT_ILL e.val) (by simp) Nat.one_pos
      exact ⟨t, ⟨(exec_hallEdge_invalid hrunning hinv).trans (congrArg _ ht), hread, hwheel, hmem, henc⟩, hill, hset, hspeed⟩
    case first =>
      obtain ⟨t, ht, hread, hwheel, hmem, henc, -, hspeed, hill⟩ := s.hallSampled_spec e.val code.isLt
      have hexec := exec_hallEdge_first hrunning (hvalid.mp hv) hlast
      rw [ht] at hexec
      exact ⟨_, ⟨hexec, hread, hwheel, hmem, henc⟩, State.hallSet_setHall_self _ _ _, hspeed, hill⟩
    case skip =>
      obtain ⟨t, ht, hread, hwheel, hmem, henc, hskip, -, hspeed⟩ :=
        s.hallSampled_raise e.val code.isLt (f := R.POS_HSTAT_SKIP e.val) (by simp) Nat.one_pos
      have hexec := exec_hallEdge_skip hrunning (hvalid.mp hv) hlast hne hnext hprev
      rw [ht] at hexec
      exact ⟨_, ⟨hexec, hread, hwheel, hmem, henc⟩, hskip, State.hallSet_setHall_self _ _ _, hspeed⟩
    case adjacent =>
      obtain ⟨t, ht, hread, hwheel, hmem, henc, hskip, huntimed, htimed, hplaus⟩ := s.hallSampled_hallStep e.val code.isLt
      have hexec := exec_hallEdge_adjacent hrunning (hvalid.mp hv) hlast hne hadj
      rw [ht] at hexec
      exact ⟨_, ⟨hexec, hread, hwheel, hmem, henc⟩, State.hallSet_setHall_self _ _ _, hskip, huntimed, htimed, hplaus⟩

end Sys2Proof.Machine
end
